-- ==== Sys2Proof/Word.lean ====
section
/-! DEFINITION. The words of the machine and the index types that name its units. -/

namespace Sys2Proof

/-- A byte. -/
abbrev Byte := BitVec 8
/-- A word: 32 bits, the width of an instruction (00_scope.md, "Numbers, sizes and time"). -/
abbrev Word := BitVec 32
/-- A double: 64 bits, the width of a general register. -/
abbrev Dword := BitVec 64
/-- A line of data: 64 bytes, byte 0 in bits [7:0] (little-endian, 00_scope.md). -/
abbrev LineData := BitVec 512
/-- A line address, PA[45:6]. -/
abbrev LineAddr := BitVec 40

/-- A core, numbered as R373 numbers the core trace units: 3 × (7d + t) + c for core c of physical
trio t of compute die d; 252 to 254 are the cores of the service trio. -/
abbrev CoreId := Fin 255
/-- A physical trio, numbered as its L2's agent ID (R169): 7d + t; 84 is the service trio. -/
abbrev TrioId := Fin 85
/-- A compute die, CD0 to CD11. -/
abbrev DieId := Fin 12
/-- A tenant, TID 0 to 31 (R291). -/
abbrev Tid := Fin 32
/-- A memory channel and its home agent (R166). -/
abbrev Chan := Fin 12
/-- A coherence agent's identifier (R169). -/
abbrev AgentId := Fin 128
/-- A SerDes quad, Q0 to Q7. -/
abbrev QuadId := Fin 8
/-- A Xamo external link, 0 to 2 (R361). -/
abbrev XLink := Fin 3

/-- A sparse table: the listed keys and their values; an unlisted key holds the table's default. -/
abbrev SMap (α : Type) := List (Nat × α)

end Sys2Proof
end

