-- ==== Sys2Proof/Syntax.lean ====
section
/-! DEFINITION. The commands of the block: one constructor per row of spec/opcode_table.json, and the operand
records they carry. An instruction's command names the core that executes it as its next position and carries
every field of its word that the mnemonic does not fix (R38), so that the word can be rebuilt for `EWORD`. -/

namespace Sys2Proof

/-- Format A: rd, rs1, rs2 and ext (R38). -/
structure OpsA where
  rd : BitVec 5
  rs1 : BitVec 5
  rs2 : BitVec 5
  ext : BitVec 5
  deriving DecidableEq, Repr

/-- The fused multiply-add: ext carries rs3, fn[5:3] the rounding mode (R39). -/
structure OpsFma where
  rd : BitVec 5
  rs1 : BitVec 5
  rs2 : BitVec 5
  rs3 : BitVec 5
  rm : BitVec 3
  deriving DecidableEq, Repr

/-- Format B: rd, rs1, imm14; m2 is the mnemonic's, or an operand beside this record. -/
structure OpsB where
  rd : BitVec 5
  rs1 : BitVec 5
  imm : BitVec 14
  deriving DecidableEq, Repr

/-- Format C: rt, rb, the hint H, the reserved bit [14], disp14. -/
structure OpsC where
  rt : BitVec 5
  rb : BitVec 5
  h : Bool
  b14 : Bool
  disp : BitVec 14
  deriving DecidableEq, Repr

/-- Format D: rs, the annul bit A, the reserved bit [19], disp19. -/
structure OpsD where
  rs : BitVec 5
  a : Bool
  b19 : Bool
  disp : BitVec 19
  deriving DecidableEq, Repr

/-- Format E: the annul bit A, the reserved bit [24], disp24. -/
structure OpsE where
  a : Bool
  b24 : Bool
  disp : BitVec 24
  deriving DecidableEq, Repr

/-- Format F: rd, rs1, sys12. -/
structure OpsF where
  rd : BitVec 5
  rs1 : BitVec 5
  sys : BitVec 12
  deriving DecidableEq, Repr

/-- Who makes an access (R5, R31). The debug access port asks for its world (R463). -/
inductive Requester where
  | core (c : CoreId)
  | qdma (t : Tid)
  | pf0
  | vf (t : Tid)
  | awl
  | dap (w : Bool)
  deriving DecidableEq, Repr

/-- The interrupt classes of R105: fast, routed to PL2, PL1 normal. -/
inductive IntClass where
  | fast | pl2 | normal
  deriving DecidableEq, Repr

/-- A cache error that a load meets (R134): the line's contents at the level named decide between clean and dirty. -/
inductive CacheFault where
  | l2Single | l2Data | l2Tag | mscSingle | mscData | mscTag
  deriving DecidableEq, Repr

/-- The errors of a core's arrays (R108): a double-bit error of the register files or of the control state, a single-bit one of
either, and a parity error of a direction counter, an entry of the target buffer or of the return stack (from the top), a line of
the L1I or the L1D, or an entry of the second-level TLB (R203). -/
inductive CoreErr where
  | regFile | control
  | regFileSingle | controlSingle
  | direction (i : BitVec 12)
  | target (i : BitVec 9)
  | ret (i : Fin 8)
  | l1i (line : LineAddr)
  | l1d (line : LineAddr)
  | tlb2 (set : BitVec 9) (way : Fin 4)
  deriving DecidableEq, Repr

/-- The uncorrectable errors of a context store (R289): in the images of a slot, or in the Trio Dispatcher's control state. -/
inductive StoreErr where
  | image (slot : Fin 64)
  | control
  deriving DecidableEq, Repr

/-- The trio at whose window boundary a Trio Dispatcher stands, and the error that it finds in its context store (R289). -/
structure BoundaryAt where
  trio : TrioId
  err : Option StoreErr
  deriving DecidableEq, Repr

/-- A cache to which the way masks travel (R122). -/
inductive CacheUnit where
  | l2 (t : TrioId)
  | msc
  deriving DecidableEq, Repr

/-- What a TLBINV selects (R153). -/
inductive InvSel where
  | va (va : Dword) (asid : BitVec 12) (tid : BitVec 5)
  | asid (asid : BitVec 12) (tid : BitVec 5)
  | tid (tid : BitVec 5)
  | all
  deriving DecidableEq, Repr

/-- A link that carries flits: a package link, seen at the I/O die or at the compute die, or an external link. -/
inductive LinkEnd where
  | pkgIo (d : DieId)
  | pkgDie (d : DieId)
  | ext (k : XLink)
  deriving DecidableEq, Repr

/-- A flit: its control word and its 56 bytes of payload (R161). -/
structure Flit where
  ctl : Dword
  payload : BitVec 448
  deriving DecidableEq, Repr

/-- A coherence message: the header of R161 and, where it carries one, a line of data and a byte mask. -/
structure Msg where
  line : LineAddr
  agent : AgentId
  tid : Tid
  w : Bool
  res : Bool
  nc : Bool
  h : Bool
  w1 : Bool
  psn : Bool
  tag : BitVec 6
  data : LineData
  mask : BitVec 64
  deriving DecidableEq, Repr

/-- The directory errors of R180. -/
inductive DirErr where
  | single | double | copies
  deriving DecidableEq, Repr

/-- The sources of a Checker fault (R214), coded in `TRIO_RSTAT.CFSRC`; `selfTest` is the self-test within a
resynchronisation (R207). -/
inductive CfSrc where
  | dualRail | delayReg | laneIncons | weltLanes | selfTest
  deriving DecidableEq, Repr

/-- An event of the comparison flagged in the same cycle as a Checker fault (R216): a dissent, or a Divergence or no majority. -/
inductive Flagged where
  | dissent | stop
  deriving DecidableEq, Repr

/-- A Checker fault (R214): its source, and the event of the comparison flagged in the same cycle (R216). -/
structure CheckerEvent where
  src : CfSrc
  other : Option Flagged
  deriving DecidableEq, Repr

/-- The asynchronous inputs of the Welt (R208). -/
inductive WeltIn where
  | interrupt (k : IntClass)
  | event (bits : BitVec 32)
  | time (v : Dword)
  | response (v : Dword) (ok : Bool)
  | halt
  deriving DecidableEq, Repr

/-- How the three Welt lanes agree (R210). -/
inductive WeltLanes where
  | agree | oneOut | none
  deriving DecidableEq, Repr

/-- The units at which a tick arrives (R229). -/
inductive TickUnit where
  | trio (t : TrioId)
  | mc (m : Chan)
  | pcr
  | gce
  | svc
  deriving DecidableEq, Repr

/-- The causes of a spare substitution (R287). -/
inductive SubstCause where
  | checker | block | retire
  deriving DecidableEq, Repr

/-- The result of an ECC check of a DRAM burst (R331), with what the log records. -/
inductive Ecc where
  | ok
  | corrected (dev : BitVec 4) (syn : BitVec 16)
  | uncorrectable (dev : BitVec 4) (syn : BitVec 16)
  deriving DecidableEq, Repr

/-- A physical upset that a step meets: a cache error (R134), an error of the DRAM burst that serves it (R331), a wrong item of
one copy in a comparison group (R198, R199), three items none of which agree (R202), or a wrong value that one copy writes to a
register and no later output depends on, by what it changes in the copy's state digest (R198, R204). -/
inductive Upset where
  | cache (e : CacheFault)
  | dram (e : Ecc)
  | copy (k : Fin 3) (group : Fin 32)
  | allDiffer (group : Fin 32)
  | latent (k : Fin 3) (crc : Word)
  deriving DecidableEq, Repr

/-- Why a channel becomes Lost in service, coded in `MC_STATUS.CAUSE` (R336). -/
inductive LostCause where
  | parity | crc | uelim | command | training
  deriving DecidableEq, Repr

/-- A DRAM alert (R331). -/
inductive DramAlert where
  | parity | crc
  deriving DecidableEq, Repr

/-- A host access's target: a function and its BAR (R352). -/
inductive HostBar where
  | pf0Bar0 | pf0Bar2
  | vfBar0 (t : Tid)
  | vfBar2 (t : Tid)
  deriving DecidableEq, Repr

/-- A change at a root port (R359, R371). -/
inductive RpChange where
  | link (up : Bool)
  | presence (there : Bool)
  | aer
  deriving DecidableEq, Repr

/-- A change at the command port (R371). -/
inductive CpChange where
  | link (up : Bool)
  | perst (asserted : Bool)
  | hotReset
  deriving DecidableEq, Repr

/-- A node of the funnel: a die funnel or the root (R380). -/
inductive FunnelNode where
  | die (d : DieId)
  | root
  deriving DecidableEq, Repr

/-- A trace packet: header and up to three further doublewords (R374). -/
structure Packet where
  hdr : Dword
  dws : List Dword
  deriving DecidableEq, Repr

/-- The units whose containment can miss its limit (R21). -/
inductive Contained where
  | core (c : CoreId)
  | trio (t : TrioId)
  | die (d : DieId)
  | chip
  deriving DecidableEq, Repr

/-- The two reference clocks (R27). -/
inductive RefClk where
  | clk100 | clk156
  deriving DecidableEq, Repr

/-- The straps sampled at a release (R32, R429), with the level that the TEST_EN land has from then on (R370). -/
structure Straps where
  modId : BitVec 2
  bootSrc : BitVec 2
  testEn : Bool
  deriving DecidableEq, Repr

/-- A Policy Mailbox entry: its TAG and its arguments dw1 to dw7 (R437). -/
structure PmbEntry where
  ring : Fin 2
  tag : Word
  args : List Dword
  deriving DecidableEq, Repr

/-- An Awl request: its SEQ and its payload bytes (R444). -/
structure AwlReq where
  seq : Byte
  payload : List Byte
  deriving DecidableEq, Repr

/-- The TAP instructions (R446). -/
inductive JtagIr where
  | bypass | sample | extest | clamp | highz | debugPort
  deriving DecidableEq, Repr

/-- A register the debugger names (R220): g, f or a CSR, or the PC. -/
inductive DebugReg where
  | g (n : BitVec 5)
  | f (n : BitVec 5)
  | csr (n : BitVec 12)
  | pc
  deriving DecidableEq, Repr

/-- A memory request at a channel controller (R340). -/
structure MemReq where
  line : LineAddr
  tid : Tid
  port : Fin 13
  res : Bool
  write : Bool
  deriving DecidableEq, Repr

/-- The commands. Each constructor's comment quotes its row of the table and the rule it names. -/
inductive Instr where
  /-- ADD (R39): INT fn 0x00: rd := rs1 + rs2, visible at distance 1. -/
  | add (c : CoreId) (o : OpsA)
  /-- SUB (R39): INT fn 0x01: rd := rs1 - rs2. -/
  | sub (c : CoreId) (o : OpsA)
  /-- AND (R39): INT fn 0x02: bitwise AND of rs1 and rs2. -/
  | and (c : CoreId) (o : OpsA)
  /-- OR (R39): INT fn 0x03: bitwise OR of rs1 and rs2. -/
  | or (c : CoreId) (o : OpsA)
  /-- XOR (R39): INT fn 0x04: bitwise XOR of rs1 and rs2. -/
  | xor (c : CoreId) (o : OpsA)
  /-- ANDN (R39): INT fn 0x05: rs1 AND NOT rs2. -/
  | andn (c : CoreId) (o : OpsA)
  /-- ORN (R39): INT fn 0x06: rs1 OR NOT rs2. -/
  | orn (c : CoreId) (o : OpsA)
  /-- XNOR (R39): INT fn 0x07: NOT (rs1 XOR rs2). -/
  | xnor (c : CoreId) (o : OpsA)
  /-- SLL (R39): INT fn 0x08: logical left shift by rs2[5:0]. -/
  | sll (c : CoreId) (o : OpsA)
  /-- SRL (R39): INT fn 0x09: logical right shift by rs2[5:0]. -/
  | srl (c : CoreId) (o : OpsA)
  /-- SRA (R39): INT fn 0x0A: arithmetic right shift by rs2[5:0]. -/
  | sra (c : CoreId) (o : OpsA)
  /-- ROR (R39): INT fn 0x0B: rotate right by rs2[5:0]. -/
  | ror (c : CoreId) (o : OpsA)
  /-- SLT (R39): INT fn 0x0C: signed set-less-than. -/
  | slt (c : CoreId) (o : OpsA)
  /-- SLTU (R39): INT fn 0x0D: unsigned set-less-than. -/
  | sltu (c : CoreId) (o : OpsA)
  /-- MIN (R39): INT fn 0x0E: signed minimum. -/
  | min (c : CoreId) (o : OpsA)
  /-- MAX (R39): INT fn 0x0F: signed maximum. -/
  | max (c : CoreId) (o : OpsA)
  /-- MINU (R39): INT fn 0x10: unsigned minimum. -/
  | minu (c : CoreId) (o : OpsA)
  /-- MAXU (R39): INT fn 0x11: unsigned maximum. -/
  | maxu (c : CoreId) (o : OpsA)
  /-- ADDW (R39): INT fn 0x12: 32-bit add, sign-extended. -/
  | addw (c : CoreId) (o : OpsA)
  /-- SUBW (R39): INT fn 0x13: 32-bit subtract, sign-extended. -/
  | subw (c : CoreId) (o : OpsA)
  /-- SLLW (R39): INT fn 0x14: 32-bit left shift by rs2[4:0]. -/
  | sllw (c : CoreId) (o : OpsA)
  /-- SRLW (R39): INT fn 0x15: 32-bit logical right shift. -/
  | srlw (c : CoreId) (o : OpsA)
  /-- SRAW (R39): INT fn 0x16: 32-bit arithmetic right shift shifting in bit 31. -/
  | sraw (c : CoreId) (o : OpsA)
  /-- CLZ (R39): INT fn 0x17: count leading zeros of rs1. -/
  | clz (c : CoreId) (o : OpsA)
  /-- CTZ (R39): INT fn 0x18: count trailing zeros of rs1. -/
  | ctz (c : CoreId) (o : OpsA)
  /-- POPC (R39): INT fn 0x19: population count of rs1. -/
  | popc (c : CoreId) (o : OpsA)
  /-- SEXB (R39): INT fn 0x1A: sign-extend byte. -/
  | sexb (c : CoreId) (o : OpsA)
  /-- SEXH (R39): INT fn 0x1B: sign-extend half. -/
  | sexh (c : CoreId) (o : OpsA)
  /-- SEXW (R39): INT fn 0x1C: sign-extend word. -/
  | sexw (c : CoreId) (o : OpsA)
  /-- ZEXW (R39): INT fn 0x1D: zero-extend word. -/
  | zexw (c : CoreId) (o : OpsA)
  /-- SELNZ (R46): INT fn 0x1E: rd := rs1 if rs2 is non-zero, else rd keeps its value. -/
  | selnz (c : CoreId) (o : OpsA)
  /-- SELZ (R46): INT fn 0x1F: rd := rs1 if rs2 is zero, else rd keeps its value. -/
  | selz (c : CoreId) (o : OpsA)
  /-- MUL (R66): Low 64 bits of the product, distance 2, no flags. -/
  | mul (c : CoreId) (o : OpsA)
  /-- MULH (R66): High 64 bits of the signed product. -/
  | mulh (c : CoreId) (o : OpsA)
  /-- MULHU (R66): High 64 bits of the unsigned product. -/
  | mulhu (c : CoreId) (o : OpsA)
  /-- MULHSU (R66): High 64 bits of signed rs1 times unsigned rs2. -/
  | mulhsu (c : CoreId) (o : OpsA)
  /-- MULW (R66): 32-bit product sign-extended. -/
  | mulw (c : CoreId) (o : OpsA)
  /-- DIV (R68): Starts a signed 64-cycle division in the integer iterative unit. -/
  | div (c : CoreId) (o : OpsA)
  /-- DIVU (R68): Starts an unsigned division. -/
  | divu (c : CoreId) (o : OpsA)
  /-- REM (R68): Starts a signed remainder operation. -/
  | rem (c : CoreId) (o : OpsA)
  /-- REMU (R68): Starts an unsigned remainder operation. -/
  | remu (c : CoreId) (o : OpsA)
  /-- GETQ (R57): Waits for the integer unit and collects its result, setting DZI on division by zero. -/
  | getq (c : CoreId) (o : OpsA)
  /-- DADD (R71): Packed-decimal add with DC and DV flags. -/
  | dadd (c : CoreId) (o : OpsA)
  /-- DSUB (R71): Packed-decimal subtract with DC and DV flags. -/
  | dsub (c : CoreId) (o : OpsA)
  /-- LR_W (R59): Load-reserved word, sign-extended, setting a granule reservation. -/
  | lrW (c : CoreId) (o : OpsA)
  /-- SC_W (R59): Store-conditional word; writes 0 on success, 1 on failure, clears the reservation. -/
  | scW (c : CoreId) (o : OpsA)
  /-- LR_D (R59): Load-reserved doubleword. -/
  | lrD (c : CoreId) (o : OpsA)
  /-- SC_D (R59): Store-conditional doubleword. -/
  | scD (c : CoreId) (o : OpsA)
  /-- TAS_B (R59): Indivisibly reads a byte and writes 0xFF, returning the old byte. -/
  | tasB (c : CoreId) (o : OpsA)
  /-- FADD (R80): Floating add in binary64 or binary32 with IEEE flags. -/
  | fadd (c : CoreId) (dbl : Bool) (o : OpsA)
  /-- FSUB (R80): Floating subtract, equal to FADD of the negated operand. -/
  | fsub (c : CoreId) (dbl : Bool) (o : OpsA)
  /-- FMUL (R81): Floating multiply. -/
  | fmul (c : CoreId) (dbl : Bool) (o : OpsA)
  /-- FDIV (R82): Starts a floating division in the iterative unit, mode fixed at start. -/
  | fdiv (c : CoreId) (dbl : Bool) (o : OpsA)
  /-- FSQRT (R82): Starts a floating square root in the iterative unit. -/
  | fsqrt (c : CoreId) (dbl : Bool) (o : OpsA)
  /-- FMIN (R83): minimumNumber of two operands. -/
  | fmin (c : CoreId) (dbl : Bool) (o : OpsA)
  /-- FMAX (R83): maximumNumber of two operands. -/
  | fmax (c : CoreId) (dbl : Bool) (o : OpsA)
  /-- FSGNJ (R78): Copy sign, bits copied unchanged, no flags. -/
  | fsgnj (c : CoreId) (dbl : Bool) (o : OpsA)
  /-- FSGNJN (R78): Copy negated sign. -/
  | fsgnjn (c : CoreId) (dbl : Bool) (o : OpsA)
  /-- FSGNJX (R78): XOR sign. -/
  | fsgnjx (c : CoreId) (dbl : Bool) (o : OpsA)
  /-- FMADD (R81): Fused a*b+c rounded once. -/
  | fmadd (c : CoreId) (dbl : Bool) (o : OpsFma)
  /-- FMSUB (R81): Fused a*b-c rounded once. -/
  | fmsub (c : CoreId) (dbl : Bool) (o : OpsFma)
  /-- FNMADD (R81): Fused -(a*b)-c rounded once. -/
  | fnmadd (c : CoreId) (dbl : Bool) (o : OpsFma)
  /-- FNMSUB (R81): Fused -(a*b)+c rounded once. -/
  | fnmsub (c : CoreId) (dbl : Bool) (o : OpsFma)
  /-- FEQ (R83): Quiet equality compare writing an integer rd. -/
  | feq (c : CoreId) (dbl : Bool) (o : OpsA)
  /-- FLT (R83): Signalling less-than compare. -/
  | flt (c : CoreId) (dbl : Bool) (o : OpsA)
  /-- FLE (R83): Signalling less-or-equal compare. -/
  | fle (c : CoreId) (dbl : Bool) (o : OpsA)
  /-- FCVT_S_D (R85): Converts binary64 to binary32. -/
  | fcvtSD (c : CoreId) (o : OpsA)
  /-- FCVT_D_S (R85): Converts binary32 to binary64 exactly. -/
  | fcvtDS (c : CoreId) (o : OpsA)
  /-- FCVT_L_D (R86): Converts binary64 to signed 64-bit integer. -/
  | fcvtLD (c : CoreId) (o : OpsA)
  /-- FCVT_LU_D (R86): Converts binary64 to unsigned 64-bit integer. -/
  | fcvtLuD (c : CoreId) (o : OpsA)
  /-- FCVT_L_S (R86): Converts binary32 to signed 64-bit integer. -/
  | fcvtLS (c : CoreId) (o : OpsA)
  /-- FCVT_D_L (R87): Converts signed integer to binary64. -/
  | fcvtDL (c : CoreId) (o : OpsA)
  /-- FCVT_D_LU (R87): Converts unsigned integer to binary64. -/
  | fcvtDLu (c : CoreId) (o : OpsA)
  /-- FCVT_S_L (R87): Converts signed integer to binary32. -/
  | fcvtSL (c : CoreId) (o : OpsA)
  /-- FMV_X_D (R78): Moves f register bits to an integer register. -/
  | fmvXD (c : CoreId) (o : OpsA)
  /-- FMV_D_X (R78): Moves integer register bits to an f register. -/
  | fmvDX (c : CoreId) (o : OpsA)
  /-- FCLASS (R84): Writes a one-hot class mask of the operand. -/
  | fclass (c : CoreId) (dbl : Bool) (o : OpsA)
  /-- GETF (R57): Waits for the floating iterative unit and collects its result and flags. -/
  | getf (c : CoreId) (o : OpsA)
  /-- ADDI (R38): Adds the sign-extended imm14 to rs1. -/
  | addi (c : CoreId) (m2 : BitVec 2) (o : OpsB)
  /-- ANDI (R38): AND with immediate. -/
  | andi (c : CoreId) (o : OpsB)
  /-- ORI (R38): OR with immediate. -/
  | ori (c : CoreId) (o : OpsB)
  /-- XORI (R38): XOR with immediate. -/
  | xori (c : CoreId) (o : OpsB)
  /-- SLLI (R38): Left shift by imm14[5:0]. -/
  | slli (c : CoreId) (o : OpsB)
  /-- SRLI (R38): Logical right shift by immediate. -/
  | srli (c : CoreId) (o : OpsB)
  /-- SRAI (R38): Arithmetic right shift by immediate. -/
  | srai (c : CoreId) (o : OpsB)
  /-- RORI (R38): Rotate right by immediate. -/
  | rori (c : CoreId) (o : OpsB)
  /-- SLTI (R38): Signed compare with immediate. -/
  | slti (c : CoreId) (o : OpsB)
  /-- SLTIU (R38): Unsigned compare with sign-extended immediate. -/
  | sltiu (c : CoreId) (o : OpsB)
  /-- SHORI (R38): rd := (rs1 << 14) OR zero-extended imm14. -/
  | shori (c : CoreId) (o : OpsB)
  /-- ADDPC (R38): rd := instruction address + imm14 * 4. -/
  | addpc (c : CoreId) (o : OpsB)
  /-- ADDPCH (R38): rd := instruction address + (imm14 << 16). -/
  | addpch (c : CoreId) (o : OpsB)
  /-- JALR (R54): Links address + 8 and jumps to rs1 + imm14 after the delay slot. -/
  | jalr (c : CoreId) (m2 : BitVec 2) (o : OpsB)
  /-- LB (R60): Loads a signed byte, distance 3. -/
  | lb (c : CoreId) (o : OpsC)
  /-- LBU (R60): Loads an unsigned byte. -/
  | lbu (c : CoreId) (o : OpsC)
  /-- LH (R60): Loads a signed half, with alignment rules. -/
  | lh (c : CoreId) (o : OpsC)
  /-- LHU (R60): Loads an unsigned half. -/
  | lhu (c : CoreId) (o : OpsC)
  /-- LW (R60): Loads a signed word. -/
  | lw (c : CoreId) (o : OpsC)
  /-- LWU (R60): Loads an unsigned word. -/
  | lwu (c : CoreId) (o : OpsC)
  /-- LD (R60): Loads a doubleword; `u` is an upset that the step meets (95_what_each_step_holds.md). -/
  | ld (c : CoreId) (o : OpsC) (u : Option Upset)
  /-- FLW (R60): Loads a binary32 into an f register. -/
  | flw (c : CoreId) (o : OpsC)
  /-- FLD (R60): Loads a binary64 into an f register. -/
  | fld (c : CoreId) (o : OpsC)
  /-- SB (R114): Stores a byte through the merging buffer. -/
  | sb (c : CoreId) (o : OpsC)
  /-- SH (R114): Stores a half through the merging buffer. -/
  | sh (c : CoreId) (o : OpsC)
  /-- SW (R114): Stores a word through the merging buffer. -/
  | sw (c : CoreId) (o : OpsC)
  /-- SD (R114): Stores a doubleword through the merging buffer. -/
  | sd (c : CoreId) (o : OpsC)
  /-- FSW (R114): Stores a binary32 from an f register. -/
  | fsw (c : CoreId) (o : OpsC)
  /-- FSD (R114): Stores a binary64 from an f register. -/
  | fsd (c : CoreId) (o : OpsC)
  /-- BEQZ (R54): Branch if rs = 0, with delay slot and annul bit. -/
  | beqz (c : CoreId) (o : OpsD)
  /-- BNEZ (R54): Branch if rs is non-zero. -/
  | bnez (c : CoreId) (o : OpsD)
  /-- BLTZ (R54): Branch if rs < 0. -/
  | bltz (c : CoreId) (o : OpsD)
  /-- BGEZ (R54): Branch if rs >= 0. -/
  | bgez (c : CoreId) (o : OpsD)
  /-- BLEZ (R54): Branch if rs <= 0. -/
  | blez (c : CoreId) (o : OpsD)
  /-- BGTZ (R54): Branch if rs > 0. -/
  | bgtz (c : CoreId) (o : OpsD)
  /-- J (R54): Jump by disp24 words after the delay slot. -/
  | j (c : CoreId) (o : OpsE)
  /-- JAL (R54): Jump and link address + 8 into g31. -/
  | jal (c : CoreId) (o : OpsE)
  /-- CSRRD (R61): Reads a CSR at distance 3 subject to level. -/
  | csrrd (c : CoreId) (o : OpsF)
  /-- CSRWR (R61): Writes a CSR, effective at the next position. -/
  | csrwr (c : CoreId) (o : OpsF)
  /-- DIVSAVE (R58): CSRWR to DIVSAVE holds both iterative units. -/
  | divsave (c : CoreId) (o : OpsF)
  /-- DIVRESTORE (R58): CSRWR to DIVRESTORE releases both iterative units. -/
  | divrestore (c : CoreId) (o : OpsF)
  /-- ECLAIM (R318): Claim-register read picks the next eligible source, sets A and clears P. -/
  | eclaim (c : CoreId) (k : IntClass) (o : OpsF)
  /-- ECOMP (R319): Complete-register write clears A of a matching active source. -/
  | ecomp (c : CoreId) (k : IntClass) (o : OpsF)
  /-- SCALL (R100): System call trap taken at PL1 or the current level. -/
  | scall (c : CoreId) (o : OpsF)
  /-- PCALL (R100): Partition call trap taken at PL2. -/
  | pcall (c : CoreId) (o : OpsF)
  /-- MCALL (R304): Monitor call enters PL3 at W = 1, writing the call frame and starting the watchdog. -/
  | mcall (c : CoreId) (o : OpsF)
  /-- RFE (R106): Returns from a trap set, restoring level, world and enables and arming records. -/
  | rfe (c : CoreId) (o : OpsF)
  /-- BRK (R101): Breakpoint trap. -/
  | brk (c : CoreId) (o : OpsF)
  /-- WAIT (R270): Stops issue until an interrupt for the core is pending. -/
  | wait (c : CoreId) (o : OpsF)
  /-- WAITE (R271): Returns matched events or makes the context Waiting on a mask. -/
  | waite (c : CoreId) (o : OpsF)
  /-- YIELD (R273): Makes the context Ready and triggers a dispatch decision. -/
  | yield (c : CoreId) (o : OpsF)
  /-- FDONE (R274): Ends the context's work for the period; Dormant. -/
  | fdone (c : CoreId) (o : OpsF)
  /-- SIGNAL (R272): Posts an event to a context ID, discarded under the listed conditions. -/
  | signal (c : CoreId) (o : OpsF)
  /-- FENCE (R191): Orders earlier loads and/or stores before later accesses. -/
  | fence (c : CoreId) (o : OpsF)
  /-- TLBINV (R153): Invalidates selected TLB entries locally and broadcasts the selection. -/
  | tlbinv (c : CoreId) (o : OpsF)
  /-- TLBSYNC (R154): Waits until every core has acknowledged earlier TLBINVs. -/
  | tlbsync (c : CoreId) (o : OpsF)
  /-- CINV (R125): Cache invalidate at a level and scope, writing back dirty lines. -/
  | cinv (c : CoreId) (o : OpsF)
  /-- CCLN (R125): Cache clean at a level and scope. -/
  | ccln (c : CoreId) (o : OpsF)
  /-- CFLSH (R125): Cache clean and invalidate at a level and scope. -/
  | cflsh (c : CoreId) (o : OpsF)
  /-- CUSTOM_INSTRUCTION (R63): Runs a bound Custom Decode Table sequence as one position. -/
  | customInstruction (c : CoreId) (slot : BitVec 5) (o : OpsB)
  /-- RESERVED_INSTRUCTION (R40): A reserved major or minor raises Reserved instruction with no effect. -/
  | reservedInstruction (c : CoreId) (w : Word)
  /-- RESULT_BECOMES_VISIBLE (R43): A producer's result reaches its register at its distance. -/
  | resultBecomesVisible (c : CoreId)
  /-- PENDING_RESULT_APPLY (R49): An armed record writes its value when the resumed code reaches position REM. -/
  | pendingResultApply (c : CoreId)
  /-- ITERATIVE_UNIT_READY (R67): An iterative operation finishes after its fixed cycle count. -/
  | iterativeUnitReady (c : CoreId) (fp : Bool)
  /-- MERGE_ENTRY_TIMEOUT (R114): A merging-buffer entry closes after 16 cycles without a merge. -/
  | mergeEntryTimeout (c : CoreId) (line : LineAddr)
  /-- MERGE_ENTRY_DRAIN (R114): A closed merging-buffer entry drains to the L2, oldest first. -/
  | mergeEntryDrain (c : CoreId)
  /-- INTERRUPT_ACCEPT (R105): A raised interrupt request is accepted at an instruction boundary. -/
  | interruptAccept (c : CoreId) (k : IntClass)
  /-- CORE_ERROR (R108): A double-bit register or control-state error faults the context and resets the core. -/
  | coreError (c : CoreId) (e : CoreErr)
  /-- MCALL_WATCHDOG_EXPIRY (R306): A Sealed call runs WDLIM units and is forced back to the caller. -/
  | mcallWatchdogExpiry (c : CoreId)
  /-- SEALED_FORCED_RETURN (R307): Another core at W = 1 is forced out with sub-cause 0x01 after services are lost. -/
  | sealedForcedReturn (c : CoreId)
  /-- L2_CLEAN_START (R130): Writing L2_CTL.EN := 0 starts a clean of every L2 line. -/
  | l2CleanStart (who : Requester) (t : TrioId) (v : Dword)
  /-- L2_ENABLE (R131): Writing L2_CTL.EN := 1 enables the L2, completing after INIT. -/
  | l2Enable (who : Requester) (t : TrioId) (v : Dword)
  /-- L2_CLEAN_COMPLETE (R130): The last WbAck ends the clean; lines and reservations are cleared. -/
  | l2CleanComplete (t : TrioId)
  /-- L2_INIT_COMPLETE (R131): The array clear after a reset ends after 1,024 trio cycles. -/
  | l2InitComplete (t : TrioId)
  /-- L1D_DISABLE (R132): Writing CORE_CACHE.L1D_EN := 0 drains the merging buffer and stops L1D use. -/
  | l1dDisable (who : Requester) (c : CoreId) (v : Dword)
  /-- MSC_CLEAN_START (R133): Writing MSC_CTL.EN := 0 starts a clean of every slice. -/
  | mscCleanStart (who : Requester) (v : Dword)
  /-- MSC_CLEAN_COMPLETE (R133): Every slice is clean and invalid and the write completes. -/
  | mscCleanComplete
  /-- MASK_CHANGE_ARRIVES (R122): A WAYS, WAYS_WORLD or L2_LOCK change reaches a cache and applies to later allocations. -/
  | maskChangeArrives (u : CacheUnit)
  /-- HIT_CFG_WRITE (R138): A write to HIT_CFG is checked and applied to later walks. -/
  | hitCfgWrite (who : Requester) (v : Dword)
  /-- AD_UPDATE (R149): Home-agent update of A or D, applied only if doubleword 0 is unchanged. -/
  | adUpdate (entry : BitVec 46) (dw0 : Dword) (setD : Bool)
  /-- DEMAND_ALLOCATION (R156): Home performs a quota check, frame pop, zero-fill and install for a DA entry. -/
  | demandAllocation (entry : BitVec 46) (dw0 : Dword) (store : Bool)
  /-- ZERO_FILL_COMPLETE (R157): The 64 write-pattern commands of a frame's zero-fill complete. -/
  | zeroFillComplete (frame : BitVec 34)
  /-- TQ_QUOTA_WRITE (R159): A write of QUOTA below USED sets OVER and writes a Quota fault record. -/
  | tqQuotaWrite (who : Requester) (t : Tid) (v : Dword)
  /-- TQ_RELEASE (R159): Writing n reduces USED and may clear OVER. -/
  | tqRelease (who : Requester) (t : Tid) (v : Dword)
  /-- TLBINV_BROADCAST (R154): An invalidation reaches a core, which applies and acknowledges it. -/
  | tlbinvBroadcast (c : CoreId) (issuer : CoreId) (seq : Nat)
  /-- TLBINV_ACK (R154): An acknowledgement of an invalidation reaches the issuing core. -/
  | tlbinvAck (issuer : CoreId) (seq : Nat) (c : CoreId)
  /-- FLIT_RECEIVE (R163): A package-link flit is CRC-checked, accepted or NAKed for replay. -/
  | flitReceive (l : LinkEnd) (f : Flit)
  /-- PLINK_TRAIN_COMPLETE (R164): Lanes locked and 1,024 good flits move the package link to Active. -/
  | plinkTrainComplete (d : DieId) (spareTx : BitVec 5) (spareRx : BitVec 5)
  /-- PLINK_TRAIN_TIMEOUT (R164): Train or retrain not achieved in time; the link fails and the die goes offline. -/
  | plinkTrainTimeout (d : DieId)
  /-- LANE_LOCK_LOST (R164): Loss of lane lock starts a retrain. -/
  | laneLockLost (l : LinkEnd)
  /-- PLINK_RETRAIN (R164): Writing PLINK_CTL.RETRAIN forces Retrain from Active. -/
  | plinkRetrain (who : Requester) (d : DieId) (v : Dword)
  /-- PLINK_CLRCNT (R164): Writing PLINK_CTL.CLRCNT clears the link counters. -/
  | plinkClrcnt (who : Requester) (d : DieId) (v : Dword)
  /-- RDSHARED (R171): A read-shared request arrives at its home. -/
  | rdshared (m : Msg)
  /-- RDOWN (R171): A read-for-ownership request, or NC write with data, arrives at its home. -/
  | rdown (m : Msg)
  /-- UPGRADE (R171): An upgrade from S or O arrives at its home. -/
  | upgrade (m : Msg)
  /-- WBDIRTY (R174): A dirty writeback reaches the home and is written, held or acknowledged. -/
  | wbdirty (m : Msg)
  /-- HOME_ACCEPT (R167): The home arbiter accepts one request per cycle by rotating pointer. -/
  | homeAccept (h : Chan)
  /-- CHAIN_BEGIN (R168): A chained request begins after the earlier transaction's final response. -/
  | chainBegin (line : LineAddr)
  /-- SNPSHARE (R173): A SnpShare reaches an agent. -/
  | snpshare (a : AgentId) (line : LineAddr)
  /-- SNPOWN (R173): A SnpOwn reaches an agent. -/
  | snpown (a : AgentId) (line : LineAddr)
  /-- SNPINV (R173): A SnpInv reaches an agent. -/
  | snpinv (a : AgentId) (line : LineAddr)
  /-- SNOOP_ANSWER (R173): An agent sends its snoop answer 16 trio cycles after the snoop, or after its fill. -/
  | snoopAnswer (a : AgentId) (line : LineAddr)
  /-- RSPI (R178): An RspI reaches the home, removing the agent from the entry. -/
  | rspi (m : Msg)
  /-- RSPS (R173): An RspS reaches the home. -/
  | rsps (m : Msg)
  /-- RSPFWD (R173): Forwarded data reaches the home. -/
  | rspfwd (m : Msg)
  /-- RSPDIRTY (R173): Dirty data from a snooped holder reaches the home. -/
  | rspdirty (m : Msg)
  /-- MEMORY_READ_DATA (R172): Data from the Memory-Side Cache or DRAM returns to the home. -/
  | memoryReadData (line : LineAddr)
  /-- DATAS (R171): DataS reaches the requester, which enters S. -/
  | datas (m : Msg)
  /-- DATAE (R171): DataE reaches the requester, which enters E. -/
  | datae (m : Msg)
  /-- DATAM (R171): DataM reaches the requester, which enters M. -/
  | datam (m : Msg)
  /-- CMP (R171): Cmp completes an Upgrade, NC write or level-2 maintenance. -/
  | cmp (m : Msg)
  /-- WBACK (R174): WbAck frees the writeback buffer entry. -/
  | wback (a : AgentId) (line : LineAddr)
  /-- AGENTDEAD (R182): An AgentDead notice reaches the home; the fourth starts the reclaim. -/
  | agentdead (h : Chan) (a : AgentId) (cls : Fin 4)
  /-- RECLAIM_SCAN_COMPLETE (R183): The dead-agent directory scan ends and poison records are written. -/
  | reclaimScanComplete (h : Chan)
  /-- DIRECTORY_ERROR (R180): A directory ECC or copy error is corrected, flushed or escalated to chip. -/
  | directoryError (line : LineAddr) (e : DirErr)
  /-- CHECKER_FAULT (R215): A fault in the checking hardware stops release and forces Independent. -/
  | checkerFault (t : TrioId) (e : CheckerEvent)
  /-- STGO (R212): Writing TRIO_RCTL.STGO starts the comparison self-test. -/
  | stgo (who : Requester) (t : TrioId) (v : Dword)
  /-- SELF_TEST_COMPLETE (R213): The self-test ends after 1,920 trio cycles, passed or failed. -/
  | selfTestComplete (t : TrioId) (fail : Option (Fin 32 × Fin 3))
  /-- TRIO_INJ_GO (R214): Writing TRIO_INJ.GO flips a bit of one copy's next compared item. -/
  | trioInjGo (who : Requester) (t : TrioId) (v : Dword)
  /-- WELT_INPUT (R209): An asynchronous input reaches the Welt. -/
  | weltInput (t : TrioId) (stream : Fin 3) (inp : WeltIn) (lanes : WeltLanes)
  /-- WELT_DELIVERY (R209): The agreed input is delivered to each copy at its position. -/
  | weltDelivery (t : TrioId)
  /-- DEBUG_HALT (R220): Halts core 0 and every copy of its stream. -/
  | debugHalt (c : CoreId)
  /-- DEBUG_REGISTER_WRITE (R220): A register write while halted, replayed into later copies. -/
  | debugRegisterWrite (c : CoreId) (r : DebugReg) (v : Dword)
  /-- DEBUG_MEMORY_WRITE (R220): A memory write through core 0, replayed and compared. -/
  | debugMemoryWrite (c : CoreId) (va : Dword) (size : Fin 4) (v : Dword)
  /-- DEBUG_SINGLE_STEP (R220): Executes one position and halts every copy. -/
  | debugSingleStep (c : CoreId)
  /-- DEBUG_RESUME (R220): Resumes the halted copies at their offsets. -/
  | debugResume (c : CoreId)
  /-- FRAME_TICK (R222): The Frame Tick Unit raises a tick when the timebase meets the period and offset. -/
  | frameTick
  /-- TICK_ARRIVAL (R229): A tick reaches a unit, which performs its ordered tick actions. -/
  | tickArrival (u : TickUnit)
  /-- FRAME_DEADLINE (R241): At a context's deadline a missing FDONE writes a Frame overrun record. -/
  | frameDeadline (t : TrioId) (slot : Fin 64)
  /-- PHASE_MEASUREMENT (R226): A measurement against the tick source trims frequency and steps or slews phase. -/
  | phaseMeasurement (err : Int)
  /-- TICK_SOURCE_LOST (R224): The selected source is lost after its timeout. -/
  | tickSourceLost
  /-- HOLDOVER_EXPIRY (R225): HOLDMAX elapses in Holdover and the unit goes Free. -/
  | holdoverExpiry
  /-- FTU_CFG_WRITE (R223): A write to FTU_CFG is checked and may start, stop or reselect the source. -/
  | ftuCfgWrite (who : Requester) (v : Dword)
  /-- FTU_ALIGN_WRITE (R226): A write of OFFSET moves the tick phase at once or by slewing. -/
  | ftuAlignWrite (who : Requester) (v : Dword)
  /-- FTICK_IN_EDGE (R224): A rising edge on FTICK_IN is measured against the nearest tick. -/
  | ftickInEdge (err : Int)
  /-- PPS_IN_EDGE (R457): A rising edge on PPS_IN is captured in PPS_CAP. -/
  | ppsInEdge (ns : BitVec 63)
  /-- PPS_OUT_PULSE (R457): The timebase reaches a multiple of 100,000,000 and PPS_OUT rises. -/
  | ppsOutPulse
  /-- SEASON_LOAD_GO (R238): Writing SEASON_LOAD.GO starts reading and validating a season table. -/
  | seasonLoadGo (who : Requester) (v : Dword)
  /-- SEASON_LOAD_COMPLETE (R469): Validation ends and SEASON_STAT reports acceptance or the first failure. -/
  | seasonLoadComplete
  /-- SEASON_REQUEST (R240): Writing SEASON_CTL.REQ requests activation of NEXT. -/
  | seasonRequest (who : Requester) (v : Dword)
  /-- SEASON_ENABLE (R240): Writing SEASON_CTL.EN := 1 starts seasons and requests the first activation. -/
  | seasonEnable (who : Requester) (v : Dword)
  /-- TRIO_LOST (R243): A logical trio loses its physical trio with no spare; a host adopts its record. -/
  | trioLost (d : DieId) (k : Fin 6)
  /-- CXQ_DOORBELL (R277): Writing a command queue TAIL hands entries to the Global Context Engine. -/
  | cxqDoorbell (who : Requester) (q : Fin 33) (v : Dword)
  /-- CREATE (R255): Reads a descriptor and initialises a slot; Suspended. -/
  | create (q : Fin 33) (e : Dword)
  /-- START (R279): Moves a Suspended context to Dormant. -/
  | start (q : Fin 33) (e : Dword)
  /-- STOP (R279): Makes a context Suspended. -/
  | stop (q : Fin 33) (e : Dword)
  /-- KILL (R276): Frees a context's slot and handle. -/
  | kill (q : Fin 33) (e : Dword)
  /-- MODIFY (R290): Re-reads a descriptor; each field applies at its stated boundary. -/
  | modify (q : Fin 33) (e : Dword)
  /-- MIGRATE (R286): Marks a context for migration to a target logical trio. -/
  | migrate (q : Fin 33) (e : Dword)
  /-- WINDOW_BOUNDARY (R263): A window start or end triggers a dispatch decision. -/
  | windowBoundary (b : BoundaryAt)
  /-- BUDGET_EXHAUSTED (R269): REMAIN reaches 0; the context leaves as Dormant with a Budget overrun record. -/
  | budgetExhausted (t : TrioId) (slot : Fin 64)
  /-- EVENT_SET (R275): An event reaches its target slot and may ready a Waiting context. -/
  | eventSet (cid : BitVec 13) (ev : BitVec 5)
  /-- DETACHED_RESPONSE (R260): The response of a detached access completes it in the slot. -/
  | detachedResponse (t : TrioId) (slot : Fin 64) (ok : Bool) (v : Dword)
  /-- SLOT_IMAGE_WRITE (R259): A write to a slot image, accepted only while Suspended or Faulted. -/
  | slotImageWrite (who : Requester) (t : TrioId) (slot : Fin 64) (off : BitVec 12) (v : Dword)
  /-- SPARE_SUBSTITUTION (R287): The Global Context Engine begins powering and testing T6 for a failed trio. -/
  | spareSubstitution (d : DieId) (k : Fin 6) (cause : SubstCause)
  /-- SPARE_COPY_COMPLETE (R287): The background copy to the spare ends; the final step waits for the tick. -/
  | spareCopyComplete (d : DieId)
  /-- TRIO_POWER_OFF_RETIRED (R468): A retired trio with an empty context store is powered off. -/
  | trioPowerOffRetired (t : TrioId)
  /-- TNT_RST_GO (R293): Writing TNT_RST.GO resets one tenant. -/
  | tntRstGo (who : Requester) (v : Dword)
  /-- TNT_CFG_WRITE (R292): A class write is refused while a valid season holds the tenant. -/
  | tntCfgWrite (who : Requester) (t : Tid) (v : Dword)
  /-- QDMA_DOORBELL (R299): Writing QDMA_IDX.TAIL hands descriptors to Queue DMA. -/
  | qdmaDoorbell (who : Requester) (t : Tid) (v : Dword)
  /-- COPY (R298): Queue DMA copies LEN bytes between translated addresses. -/
  | copy (t : Tid) (dw0 : Dword) (len : BitVec 24) (src : Dword) (dst : Dword)
  /-- FILL (R298): Queue DMA fills LEN bytes with a doubleword pattern. -/
  | fill (t : Tid) (dw0 : Dword) (len : BitVec 24) (src : Dword) (dst : Dword)
  /-- ZERO (R298): Queue DMA writes LEN zero bytes. -/
  | zero (t : Tid) (dw0 : Dword) (len : BitVec 24) (src : Dword) (dst : Dword)
  /-- SEC_STAT_RESTART (R307): Writing RESTART from the service trio starts a Sealed restart. -/
  | secStatRestart (who : Requester) (v : Dword)
  /-- SEALED_RESTART_COMPLETE (R307): The Sealed monitor completes its start and SVC returns to 1. -/
  | sealedRestartComplete
  /-- SEAL_HOLD_WRITE (R309): A W = 1 write changes holds; a cleared hold releases deferred requests. -/
  | sealHoldWrite (who : Requester) (hi : Bool) (v : Dword)
  /-- DEBUG_CHALLENGE (R311): Writing DBG_AUTH.CHAL issues a fresh challenge. -/
  | debugChallenge (who : Requester) (v : Dword)
  /-- DEBUG_VERIFY (R311): Writing DBG_AUTH.GO starts verification of DBG_RESP. -/
  | debugVerify (who : Requester) (v : Dword)
  /-- DEBUG_VERIFY_COMPLETE (R311): Verification ends, granting bits or recording a refusal. -/
  | debugVerifyComplete
  /-- SOURCE_INPUT (R314): An edge or level sample of an event source sets P, C or posts a context event. -/
  | sourceInput (n : BitVec 11) (level : Bool)
  /-- EVG_TRIG (R314): Writing EVG_TRIG sets P as a hardware edge would. -/
  | evgTrig (who : Requester) (g : Fin 64) (v : Dword)
  /-- EVG_PEND_WRITE (R320): A write sets every pending bit of the group to the value written. -/
  | evgPendWrite (who : Requester) (g : Fin 64) (v : Dword)
  /-- EVG_GCTL_WRITE (R314): Setting GEN := 1 ORs the capture latches into P. -/
  | evgGctlWrite (who : Requester) (g : Fin 64) (v : Dword)
  /-- EVG_ROUTE_WRITE (R315): A route write is checked and a context handle resolved to a CID. -/
  | evgRouteWrite (who : Requester) (n : BitVec 11) (v : Dword)
  /-- HOLD_OFF_EXPIRY (R321): A group's hold-off counter reaches 0 and requests may be raised. -/
  | holdOffExpiry (g : Fin 64)
  /-- INTERRUPT_REQUEST (R317): A raised request reaches the core 25 ns after P is set. -/
  | interruptRequest (c : CoreId) (k : IntClass)
  /-- EVG_COPY_ERROR (R324): An uncorrectable error in a route copy is corrected or escalated to chip. -/
  | evgCopyError (both : Bool)
  /-- CHANNEL_TRAINING (R328): Cobbler trains a channel, which becomes Active, Covering or Lost. -/
  | channelTraining (m : Chan) (pass : Bool) (gib : Nat)
  /-- MC_REQUEST (R340): A request enters a channel controller and is charged or demoted. -/
  | mcRequest (m : Chan) (r : MemReq)
  /-- DRAM_ACTIVATE (R343): The scheduler issues an activate for a waiting reserved read. -/
  | dramActivate (m : Chan)
  /-- DRAM_READ_COMPLETE (R331): A DRAM burst returns and its ECC is checked. -/
  | dramReadComplete (m : Chan) (line : LineAddr) (e : Ecc)
  /-- WRITE_BATCH (R344): A batch of up to four queued writes drains. -/
  | writeBatch (m : Chan) (sub : Bool)
  /-- REFRESH_DUE (R332): A same-bank refresh falls due and is issued or postponed. -/
  | refreshDue (m : Chan) (bank : BitVec 7)
  /-- PATROL_SCRUB (R333): Patrol scrub reads the next line as best-effort. -/
  | patrolScrub (m : Chan) (e : Ecc)
  /-- CHANNEL_LOST (R337): A channel becomes Lost or its partner Covering, and R243 resolves the loss. -/
  | channelLost (m : Chan) (cause : LostCause)
  /-- SPD_TEMPERATURE_ALERT (R327): The SPD hub's temperature alert raises channel source 8. -/
  | spdTemperatureAlert (m : Chan) (asserted : Bool)
  /-- HOST_BAR_ACCESS (R353): A host access to a command-port BAR is translated and performed. -/
  | hostBarAccess (b : HostBar) (off : BitVec 36) (size : Fin 4) (wr : Option Dword)
  /-- HOST_DOORBELL (R354): A host write to HVAL raises source t of group 22. -/
  | hostDoorbell (t : Tid) (v : Word)
  /-- FUNCTION_LEVEL_RESET (R354): An FLR of a VF discards its requests and clears its MSI-X state. -/
  | functionLevelReset (t : Tid)
  /-- CP_VFDB_MSI (R354): Writing CP_VFDB.MSI sends an MSI-X vector of a VF. -/
  | cpVfdbMsi (who : Requester) (t : Tid) (v : Dword)
  /-- QUAD_CFG_WRITE (R355): A quad mode write is checked, drops links and reconfigures the quad. -/
  | quadCfgWrite (who : Requester) (q : QuadId) (v : Dword)
  /-- ETH_FRAME_RECEIVE (R358): A received frame is filtered to tenant receive rings. -/
  | ethFrameReceive (n : Fin 16) (frame : List Byte) (ns : Dword)
  /-- ETH_TRANSMIT (R358): A transmit descriptor's frame is sent if its source address is permitted. -/
  | ethTransmit (n : Fin 16) (t : Tid)
  /-- ROOT_PORT_INBOUND (R359): An inbound device memory request is translated and performed. -/
  | rootPortInbound (q : QuadId) (p : Fin 4) (addr : Dword) (size : Fin 4) (wr : Option Dword)
  /-- DPC_TRIGGER (R359): A surprise removal triggers DPC and fails outstanding accesses. -/
  | dpcTrigger (q : QuadId) (p : Fin 4)
  /-- PARTNER_IDENTITY_BLOCK (R363): A received identity block is checked and answered with ACCEPT or REFUSE. -/
  | partnerIdentityBlock (k : XLink) (blk : LineData)
  /-- ACCEPT (R361): ACCEPT from both ends makes the external link Active. -/
  | accept (k : XLink)
  /-- REFUSE (R361): A REFUSE puts the external link in Refused. -/
  | refuse (k : XLink) (code : BitVec 4)
  /-- DEPART (R364): A departure ends every outstanding exchange with the partner. -/
  | depart (k : XLink)
  /-- ECHO (R361): An ECHO round trip measures FLY. -/
  | echo (k : XLink) (rtt : Nat) (turn : Nat)
  /-- XL_LINK_TIMEOUT (R361): Train, Identify or Retrain times out and the link returns to Detect. -/
  | xlLinkTimeout (k : XLink)
  /-- REMOTE_READ (R365): A remote read reaches module k and is served from its segment. -/
  | remoteRead (k : XLink) (tid : Tid) (off : BitVec 34) (size : Fin 4)
  /-- REMOTE_WRITE (R365): A remote write reaches module k and is performed or refused. -/
  | remoteWrite (k : XLink) (tid : Tid) (off : BitVec 34) (size : Fin 4) (v : Dword)
  /-- REMOTE_COMPLETION (R366): A completion returns from module k and performs the remote access. -/
  | remoteCompletion (k : XLink) (tag : Nat) (ok : Bool) (v : Dword)
  /-- MAILBOX_GO (R367): Writing GO sends the send-page payload to a module. -/
  | mailboxGo (who : Requester) (t : Tid) (v : Dword)
  /-- MAILBOX_MESSAGE (R367): A mailbox message is delivered to tenant t's receive ring. -/
  | mailboxMessage (k : XLink) (t : Tid) (payload : List Dword)
  /-- VOTE_ROUND (R368): Writing ROUND sends this module's contribution. -/
  | voteRound (who : Requester) (ch : Fin 64) (v : Dword)
  /-- VOTE_CONTRIBUTION (R368): A partner's contribution arrives and may decide the round. -/
  | voteContribution (k : XLink) (ch : Fin 64) (round : Word) (value : BitVec 256)
  /-- VOTE_TIMEOUT (R368): TIMEOUT elapses and the round is decided from what is held. -/
  | voteTimeout (ch : Fin 64)
  /-- TICK (R369): A TICK message from the master gives one phase measurement. -/
  | tick (k : XLink) (ns : Int) (arrival : Int) (frame : BitVec 6)
  /-- LSRC_CTL_WRITE (R384): Writing EN changes a trace source's trigger state. -/
  | lsrcCtlWrite (who : Requester) (id : BitVec 9) (v : Dword)
  /-- SOFTWARE_TRACE_STORE (R379): A store to the software trace page emits SWT and completes after 40 ns. -/
  | softwareTraceStore (c : CoreId) (t : Tid) (off : BitVec 12) (v : Dword)
  /-- FUNNEL_PACKET (R380): A packet arrives at a funnel node and may displace a lower-priority one. -/
  | funnelPacket (n : FunnelNode) (p : Packet)
  /-- LOST_PACKET_EMIT (R381): A node emits LOST for a source once a kept entry is free. -/
  | lostPacketEmit (n : FunnelNode)
  /-- LACE_SINK_WRITE (R387): A write to LACE_SINK is checked and enables or stops the sink. -/
  | laceSinkWrite (who : Requester) (v : Dword)
  /-- SINK_PACKET (R387): The sink packs an arriving packet into its buffer. -/
  | sinkPacket (p : Packet)
  /-- PCR_DUMP_COMPLETE (R392): The dump ends and source 0 of group 27 pends. -/
  | pcrDumpComplete
  /-- SUPPLY_SAMPLE (R398): The supply monitor samples VIN and changes state on crossings. -/
  | supplySample (cv : BitVec 16)
  /-- RECOVERY_TIMER (R398): VIN above 35.0 V for 1 ms returns the monitor to Normal. -/
  | recoveryTimer
  /-- SNAPSHOT_CAPTURE_COMPLETE (R422): The register snapshot is held and written to the next slot. -/
  | snapshotCaptureComplete
  /-- LEAN_IN_FORCE (R402): Forced Lean takes effect within 50 µs, parking trios. -/
  | leanInForce
  /-- RUN_RESTORED (R402): The governor returns to Run after the last cause clears. -/
  | runRestored
  /-- THERMAL_SAMPLE (R403): A die sensor reading drives THERM_N or takes the die offline. -/
  | thermalSample (d : Fin 13) (tj : Int)
  /-- POWER_REQUEST (R404): Writing PWR_REQ.GO asks for an action on a domain. -/
  | powerRequest (who : Requester) (v : Dword)
  /-- POWER_REQUEST_COMPLETE (R404): A domain action finishes and REQST reads done. -/
  | powerRequestComplete (n : Fin 118)
  /-- MODULE_RESET (R405): RST_CTL KIND 1 resets the module. -/
  | moduleReset (who : Requester) (v : Dword)
  /-- DIE_RESET (R406): RST_CTL KIND 2 cleans and resets one compute die. -/
  | dieReset (who : Requester) (v : Dword)
  /-- TRIO_RESET (R406): RST_CTL KIND 3 cleans and resets one physical trio. -/
  | trioReset (who : Requester) (v : Dword)
  /-- CORE_RESET (R406): RST_CTL KIND 4 resets one core. -/
  | coreReset (who : Requester) (v : Dword)
  /-- MOD_RESET_N_LOW (R456): MOD_RESET_N held low 800 ns starts a module reset. -/
  | modResetNLow (ns : Nat) (straps : Straps)
  /-- POWER_ON_RESET_RELEASE (R397): Power-on reset is released once input and hold-up conditions hold. -/
  | powerOnResetRelease (straps : Straps)
  /-- CONTAINMENT_TIMEOUT (R21): A containment mechanism misses its limit and the error escalates. -/
  | containmentTimeout (u : Contained)
  /-- CHIP_ERROR (R25): A chip-level error puts the module in its safe state. -/
  | chipError (cause : Byte)
  /-- REFCLK_LOST (R27): Loss of REFCLK_100 or REFCLK_156 is detected. -/
  | refclkLost (r : RefClk)
  /-- REFCLK_HOLD_EXPIRY (R27): REFCLK_100 has not returned within 100 µs; chip-level error. -/
  | refclkHoldExpiry
  /-- NAP_ENTRY (R407): An idle stream's core enters Nap or Off. -/
  | napEntry (c : CoreId) (off : Bool)
  /-- NAP_EXIT (R407): A core leaves Nap or Off ready for the next window. -/
  | napExit (c : CoreId)
  /-- STANDBY_ENTRY (R409): The module stops, cleans, self-refreshes, commits Sole and powers down. -/
  | standbyEntry
  /-- EM_ACCUMULATE (R414): Once a second each die's electromigration accumulator adds its weight. -/
  | emAccumulate (d : Fin 13)
  /-- MARGIN_MEASURE (R415): Once a second a trio's delay-line margin is measured against LIMIT. -/
  | marginMeasure (t : Fin 84) (ps : BitVec 16)
  /-- SOLE_STAGING_DRAIN (R420): A staged record is written to the MRAM and verified. -/
  | soleStagingDrain (good : Bool)
  /-- LINK_CLOSE_TIMEOUT (R419): One second after its first record a link is closed by a tag record. -/
  | linkCloseTimeout (area : Fin 35)
  /-- SOLE_CTL_COMMIT (R423): Writing SOLE_CTL.COMMIT starts a commit. -/
  | soleCtlCommit (who : Requester) (v : Dword)
  /-- COMMIT_COMPLETE (R423): A commit ends and COMMITTING clears. -/
  | commitComplete
  /-- HOURLY_COMMIT (R423): Every powered hour a commit runs and life data is saved. -/
  | hourlyCommit
  /-- SNAP (R422): Writing SOLE_CTL.SNAP takes a snapshot. -/
  | snap (who : Requester) (v : Dword)
  /-- REFRESH (R426): Writing SOLE_CTL.REFRESH, or 7,300 hours elapsing, starts a refresh pass. -/
  | refresh (who : Requester) (v : Dword)
  /-- REFRESH_PASS_COMPLETE (R426): The refresh pass ends with a SUB 0x1B record. -/
  | refreshPassComplete (bad : List Nat)
  /-- SOLE_DEAD (R425): The Sole die does not answer for 10 ms and DEAD is set. -/
  | soleDead
  /-- SOLE_READ_GO (R427): Writing GO starts a Sole read engine copy. -/
  | soleReadGo (who : Requester) (t : Tid) (v : Dword)
  /-- SOLE_READ_COMPLETE (R427): A Sole copy ends with a STATUS. -/
  | soleReadComplete (t : Tid)
  /-- BOOT_STORE_END (R430): Writing BOOT_STAT.BSTORE writes the boot store to DRAM and ends it. -/
  | bootStoreEnd (who : Requester) (v : Dword)
  /-- BOOT_FAILURE (R432): A boot step fails; FAIL is set and Awl runs. -/
  | bootFailure (code : Byte)
  /-- CDT_LOCK (R65): Writing CDT_CTL.LOCK validates every bound slot and locks the table. -/
  | cdtLock (who : Requester) (v : Dword)
  /-- PMB_DOORBELL (R437): Writing a Policy Mailbox TAIL queues commands for Cobbler. -/
  | pmbDoorbell (who : Requester) (ring : Fin 2) (v : Dword)
  /-- INFO (R440): Returns identity, boot, security, Expert and tick status. -/
  | info (e : PmbEntry)
  /-- EXPERT_CHAL (R440): Returns a 48-byte Expert challenge in staging. -/
  | expertChal (e : PmbEntry)
  /-- EXPERT_RESP (R442): Verifies a signed response and sets EXPERT_CTL.EN. -/
  | expertResp (e : PmbEntry)
  /-- EXPERT_DROP (R440): Clears EXPERT_CTL.EN. -/
  | expertDrop (e : PmbEntry)
  /-- REG_READ (R440): Reads an MCS register. -/
  | regRead (e : PmbEntry)
  /-- REG_WRITE (R440): Writes the masked bits of an MCS register with every check. -/
  | regWrite (e : PmbEntry)
  /-- SEASON_LOAD (R440): Loads a season table into a slot. -/
  | seasonLoad (e : PmbEntry)
  /-- SEASON_ACTIVATE (R440): Requests activation of a season slot. -/
  | seasonActivate (e : PmbEntry)
  /-- CXE (R440): Serves a context command entry as queue 32. -/
  | cxe (e : PmbEntry)
  /-- TENANT_RESET (R440): Resets one tenant. -/
  | tenantReset (e : PmbEntry)
  /-- PPR (R334): Runs soft or hard post-package repair of a row. -/
  | ppr (e : PmbEntry)
  /-- CHANNEL_REMOVE (R440): Removes a channel from service. -/
  | channelRemove (e : PmbEntry)
  /-- STANDBY (R440): Enters Standby. -/
  | standby (e : PmbEntry)
  /-- RESET (R440): Performs an RST_CTL reset, committing Sole first for a module reset. -/
  | reset (e : PmbEntry)
  /-- RETIRE (R440): Retires a physical trio by spare substitution. -/
  | retire (e : PmbEntry)
  /-- SOLE_VERIFY (R440): Verifies tag-chain links of a Sole area. -/
  | soleVerify (e : PmbEntry)
  /-- SOLE_COMMIT (R440): Commits Sole. -/
  | soleCommit (e : PmbEntry)
  /-- IMAGE_WRITE (R440): Writes staging data to flash. -/
  | imageWrite (e : PmbEntry)
  /-- IMAGE_CHECK (R440): Checks an image set without booting. -/
  | imageCheck (e : PmbEntry)
  /-- ARB_ADVANCE (R436): Blows anti-rollback fuses up to a count. -/
  | arbAdvance (e : PmbEntry)
  /-- SEALED_RESTART (R440): Starts a Sealed restart. -/
  | sealedRestart (e : PmbEntry)
  /-- BOOT_LOAD (R440): Boot ROM copies staging into the boot store. -/
  | bootLoad (e : PmbEntry)
  /-- BOOT_GO (R440): Boot ROM boots the staged set. -/
  | bootGo (e : PmbEntry)
  /-- HELLO (R445): Awl returns identity, boot status and debug enables. -/
  | hello (r : AwlReq)
  /-- BAUD (R443): Awl changes its rate after the response. -/
  | baud (r : AwlReq)
  /-- AWL_BAUD_TIMEOUT (R443): 10 s without a valid frame returns Awl to 115,200 baud. -/
  | awlBaudTimeout
  /-- CHAL (R445): Awl returns DBG_CHAL. -/
  | chal (r : AwlReq)
  /-- RESP (R445): Awl writes DBG_RESP and GO and returns DBG_AUTH. -/
  | resp (r : AwlReq)
  /-- READ (R445): Awl reads physical addresses under ON. -/
  | read (r : AwlReq)
  /-- WRITE (R445): Awl writes physical addresses under OI. -/
  | write (r : AwlReq)
  /-- SOLE (R445): Awl returns Sole records of an area. -/
  | sole (r : AwlReq)
  /-- CTXLIST (R445): Awl returns SLOT_STAT of 16 slots. -/
  | ctxlist (r : AwlReq)
  /-- LINKLIST (R445): Awl returns link and quad status. -/
  | linklist (r : AwlReq)
  /-- LOAD (R445): Awl writes data into the boot store. -/
  | load (r : AwlReq)
  /-- BOOT (R445): Awl boots the staged set. -/
  | boot (r : AwlReq)
  /-- JTAG_INSTRUCTION (R446): A TAP instruction selects BYPASS, boundary scan or the debug access port. -/
  | jtagInstruction (ir : JtagIr)
  /-- REGISTER_WRITE (R5): A write to a register with no row of its own follows its access code and checks. -/
  | registerWrite (who : Requester) (off : Word) (size : Fin 4) (v : Dword)
  /-- REFCLK_RESTORED (R27): REFCLK_100 returns within the 100 µs PLL hold, and the module writes a Sole entry and continues. -/
  | refclkRestored
  /-- TICK_MISSING (R228): A Trio Dispatcher or memory controller sees no tick within 1 µs of its expected time, which is a trio error or a chip-level error. -/
  | tickMissing (u : TickUnit)
  /-- PLINK_RETRAIN_COMPLETE (R164): A package link in Retrain re-equalises its lanes within 20 µs, possibly taking the spare lane, and returns to Active. -/
  | plinkRetrainComplete (d : DieId) (badTx : Option (BitVec 5)) (badRx : Option (BitVec 5))
  /-- XL_RECEIVERS_DETECTED (R361): An external link in Detect finds receivers on all four lanes and enters Train. -/
  | xlReceiversDetected (k : XLink)
  /-- XL_LANES_LOCKED (R361): An external link locks its lanes and receives 1,024 good flits, moving from Train to Identify, or relocks from Retrain to Active. -/
  | xlLanesLocked (k : XLink)
  /-- ETH_LINK_CHANGE (R371): An Ethernet MAC's link comes up after negotiation or goes down, raising source 8l + 0 of its quad group. -/
  | ethLinkChange (n : Fin 16) (up : Bool)
  /-- ROOT_PORT_LINK_CHANGE (R359): A root port's link changes state, or in-band presence detect reports a device inserted, raising sources 8p + 0 or 8p + 1. -/
  | rootPortLinkChange (q : QuadId) (p : Fin 4) (ch : RpChange)
  /-- COMMAND_PORT_LINK_CHANGE (R371): The command-port PCIe link to the host trains or drops, or CP_PERST_N changes, raising source 0 of group 23. -/
  | commandPortLinkChange (ch : CpChange)
  /-- DRAM_ALERT (R331): A DRAM device reports a command/address parity or write-CRC error, and the command is retried, up to three times before the channel is Lost. -/
  | dramAlert (m : Chan) (k : DramAlert)
  /-- AWL_FRAME_GAP_TIMEOUT (R444): More than 1 ms passes between bytes of an Awl request frame, and the partial frame is discarded with no response. -/
  | awlFrameGapTimeout
  /-- DEVICE_COMPLETION (R113): A completion, good or with an error, returns from a PCIe root port or xSPI device for an uncached or Device access, ending the core's freeze or the posted store. -/
  | deviceCompletion (c : CoreId) (ok : Bool) (v : Dword)
  deriving DecidableEq, Repr

end Sys2Proof
end

