-- ==== Sys2Proof/Config.lean ====
section
/-! DEFINITION. What the spec leaves to the part or leaves open: constants without a body, so that a claim holds whatever
they are. -/

namespace Sys2Proof

/-- Free values (assumption 6): the value drawn with counter `n`, cut to the width where it is used. -/
opaque Config.freeValue : Nat → Dword
/-- The form in which `DIVSTn` shows the working values of the iterative units, which software treats as opaque (R58). -/
opaque Config.divMask : Nat → Dword
/-- The bytes of the boot ROM (R28). -/
opaque Config.bootRom : Nat → Byte
/-- SHA-384 of a string of bytes (R303, R311, R418). -/
opaque Config.sha384 : List Byte → List Byte
/-- ECDSA P-384 verification of a signature (r then s) under a public key over a message (R303, R311, R442). -/
opaque Config.ecdsaOk : (key msg sig : List Byte) → Bool
/-- AES-256-GCM decryption of an image under a fused key (R303): the plain text when the tag is right. -/
opaque Config.gcmOpen : (data : List Byte) → Option (List Byte)
/-- The security block's nonces, in the order it issues them (R311, R442). -/
opaque Config.nonce : Nat → List Byte
/-- The predictor key of the Sealed world, which the security block holds (R96). -/
opaque Config.sealedKey : Word
/-- The 16-byte module serial (R311). -/
opaque Config.serial : List Byte
/-- The fused hashes of the root keys and which are revoked (R301). -/
opaque Config.rootHash : Nat → List Byte
/-- A root key is revoked (R301). -/
opaque Config.rootRevoked : Nat → Bool
/-- The fused hash of the debug key of the Open world (R301). -/
opaque Config.dbgHash : List Byte
/-- The fused hash of the debug key of both worlds (R301). -/
opaque Config.sdbgHash : List Byte
/-- The tag of a chain link under the device's key (R418). -/
opaque Config.soleMac : List Dword → Dword × Dword
/-- The class and the first four bytes of the first message that starts in a flit's payload, if one does: the spec does not lay
out the header of a message (R161). -/
opaque Config.flitUnit : BitVec 448 → Option (Fin 4 × Word)
/-- The first four header bytes of a message on an external link, from its kind's number and what it carries (R360, R370). -/
opaque Config.xlHead : Nat → List Dword → Word

/-- The payload of an entry of the Sole configuration image, which the spec does not lay out (R417, R424): the register's
offset and its value. -/
opaque Config.cfgEntry : Nat → Dword → List Dword

/-- The channel that dw1 of PPR names, whose fields the spec does not place (R440). -/
opaque Config.pprChannel : Dword → Nat
/-- The die and the physical trio that dw1 of RETIRE names, whose fields the spec does not place (R440). -/
opaque Config.retireUnit : Dword → Nat × Nat

end Sys2Proof
end

