-- ==== Sys2Proof/Machine/Bits.lean ====
section
/-! DEFINITION. Bit fields of words, saturating counts, and the sparse tables that hold registers and memory. -/

namespace Sys2Proof.Machine

/-- The field [hi:lo] of a word, as a number. -/
def fld {n : Nat} (x : BitVec n) (hi lo : Nat) : Nat := (x.toNat >>> lo) % 2 ^ (hi + 1 - lo)

/-- Bit `i` of a word. -/
def bit {n : Nat} (x : BitVec n) (i : Nat) : Bool := x.getLsbD i

/-- The ones of the field [hi:lo]. -/
def fldMask (n hi lo : Nat) : BitVec n := BitVec.ofNat n (2 ^ (hi + 1 - lo) - 1) <<< lo

/-- A word with its field [hi:lo] set to `v`, cut to the field's width. -/
def setFld {n : Nat} (x : BitVec n) (hi lo v : Nat) : BitVec n :=
  (x &&& ~~~ fldMask n hi lo) ||| (BitVec.ofNat n (v % 2 ^ (hi + 1 - lo)) <<< lo)

/-- A word with bit `i` set to `b`. -/
def setBit {n : Nat} (x : BitVec n) (i : Nat) (b : Bool) : BitVec n := setFld x i i b.toNat

/-- 1 for true. -/
def bit01 (b : Bool) : Dword := if b then 1 else 0

/-- A count that saturates at the width's largest value. -/
def satAdd (x k width : Nat) : Nat := min (x + k) (2 ^ width - 1)

/-- The value of an unlisted key is `d`; of the listed entries for a key the first counts. -/
def SMap.get {α : Type} (d : α) : SMap α → Nat → α
  | [], _ => d
  | (k, v) :: m, i => if k = i then v else SMap.get d m i

/-- The table without a key. -/
def SMap.erase {α : Type} : SMap α → Nat → SMap α
  | [], _ => []
  | (k, v) :: m, i => if k = i then SMap.erase m i else (k, v) :: SMap.erase m i

/-- An entry put before the first larger key. -/
def SMap.ins {α : Type} : SMap α → Nat → α → SMap α
  | [], i, w => [(i, w)]
  | (k, v) :: m, i, w => if i < k then (i, w) :: (k, v) :: m else (k, v) :: SMap.ins m i w

/-- A table with the value of a key set: the default value removes the entry. -/
def SMap.put {α : Type} [DecidableEq α] (d : α) (m : SMap α) (i : Nat) (w : α) : SMap α :=
  if w = d then SMap.erase m i else SMap.ins (SMap.erase m i) i w

/-- The canonical form: keys strictly rising from `lo`, no entry equal to the default. -/
def SMap.wfFrom {α : Type} [DecidableEq α] (d : α) (lo : Nat) : SMap α → Bool
  | [] => true
  | (k, v) :: m => decide (lo ≤ k) && decide (v ≠ d) && SMap.wfFrom d (k + 1) m

/-- The canonical form of a table with default `d`. -/
def SMap.wf {α : Type} [DecidableEq α] (d : α) (m : SMap α) : Bool := SMap.wfFrom d 0 m

/-- The keys listed. -/
def SMap.keys {α : Type} (m : SMap α) : List Nat := m.map (·.1)

/-- The first number below `n` that satisfies `p`, searching from `i`. -/
def findFrom (p : Nat → Bool) : Nat → Nat → Option Nat
  | 0, _ => none
  | n + 1, i => if p i then some i else findFrom p n (i + 1)

/-- The bytes of a word of `n` bytes, least significant first (little-endian, 00_scope.md). -/
def toBytes (v : Nat) : Nat → List Byte
  | 0 => []
  | n + 1 => BitVec.ofNat 8 v :: toBytes (v / 256) n

/-- The number that bytes spell, least significant first. -/
def ofBytes : List Byte → Nat
  | [] => 0
  | b :: bs => b.toNat + 256 * ofBytes bs

/-- Sign extension of the low `w` bits to 64. -/
def sext64 (w : Nat) (x : BitVec w) : Dword := x.signExtend 64

/-- The number of ones. -/
def popCount {n : Nat} (x : BitVec n) : Nat := ((List.range n).filter (fun i => x.getLsbD i)).length

end Sys2Proof.Machine
end

