-- ==== Sys2Proof/Machine/RegMap.lean ====
section
/-! DEFINITION. The registers of the Module Configuration Space, read off the register maps of the spec: where each
stands (R31 and the maps), its fields with their access codes (R5), reset values (R9) and Kept letters (R10), and its level (R14).
Registers without a map line (rings and pages given in prose) are listed after the mapped ones with the field layout the
prose gives. -/

namespace Sys2Proof.Machine

/-- The access codes of R5. -/
inductive Acc where
  | ro | rw | rwl | w1c | w1s | rc | wo
  deriving DecidableEq, Repr

/-- A field: its bits, its access code, its reset value and the resets it survives: 1 power-on, 2 module, 4 die,
8 trio, 16 core, 32 tenant (R9). Bits in no field are Reserved (R8). -/
structure Field where
  hi : Nat
  lo : Nat
  acc : Acc
  rst : Nat
  kept : Nat
  deriving DecidableEq, Repr

/-- Where a register's base is counted from: the space's, a trio block's or a die block's base. -/
inductive Zone where
  | glob | trio | die
  deriving DecidableEq, Repr

/-- The registers. -/
inductive Reg where
  | modIdent | dieStatus | trioMap | cdtCtl | cdtSlot | cdtUop | coreCache | l2Ctl
  | l2Lock | ways | waysWorld | mscCtl | hitCfg | xltTcfg | fpoolBase | fpoolIdx
  | tqQuota | tqStatus | tqRelease | plinkStatus | plinkCtl | haStatus | trioRstat | trioRcnt
  | trioRctl | trioInj | weltStat | ftuCfg | ftuAlign | ftuStatus | limClassaMin | limCap
  | seasonLoad | seasonStat | seasonCtl | ctBase | cxqCfg | fqCfg | cxeNote | cxqIdx
  | fqIdx | cxeTstat | tntCfg | tntRst | qdmaCfg | qdmaIdx | sealRange | secCtl
  | secStat | dbgEn | dbgAuth | evgRoute | evgGctl | evgStat | mcCfg | mcStatus
  | mcEcclog | mcPortbw | mcTstat | cpVfcfg | cpVfdb | quadCfg | ethFilt | rpCfg
  | xlSys | xlStatus | xlSeg | xlVcfg | fiMatch | fiCnt | linkTest | fiCtl
  | lsrcCtl | laceCmp | ltCore | laceSink | laceWptr | laceStat | fabBww | pcrCfg
  | pcrIdx | pcrStat | supStat | pwrGov | pwrReq | pwrDomstat | rstCtl | rstCause
  | pwrIdle | lifeTrio | lifeEm | lifeMod | soleRate | soleStat | soleCtl | bootStat
  | xspiPage | pmbStat | expertCtl | ppsCap | evgEn | evgPend | evgAct | evgTrig
  | pmcSelCore | pmcCntCore | pmcSelTrio | pmcCntTrio | pmcSelDie | pmcCntDie | pmcSelMc | pmcCntMc
  | pmcSelLink | pmcCntLink | sealHoldLo | sealHoldHi | mcBankset | dbgChal | dbgResp | soleTrdA
  | soleTrdDst | soleTrdCtl | soleTrdPos | soleSrdA | soleSrdDst | soleSrdCtl | soleSrdPos | pcrRing
  | laceCmplo | laceCmphi | pmbIdx | pmbRing | pmbStage | ethRqcfg | ethTqcfg | ethRqidx
  | ethTqidx | xlMbcfg | xlMbidx | mbPayload | mbGo | mbStat | voteValue | voteRound
  | voteResult | voteAgreed | swtPage | traceSram
  deriving DecidableEq, Repr

/-- Where a register stands: its zone, its base in the zone, and two dimensions as (count, stride, first index). -/
structure Place where
  zone : Zone
  base : Nat
  n1 : Nat
  s1 : Nat
  n2 : Nat
  s2 : Nat
  first : Nat
  deriving DecidableEq, Repr

/-- The registers of zone or block g3E. -/
def regsG3E : List Reg :=
  [.modIdent, .dieStatus, .trioMap, .cdtCtl, .cdtSlot, .cdtUop, .secStat, .dbgEn, .dbgAuth, .expertCtl, .dbgChal, .dbgResp]

/-- The registers of zone or block trio. -/
def regsTrio : List Reg :=
  [.coreCache, .l2Ctl, .l2Lock, .trioRstat, .trioRcnt, .trioRctl, .trioInj, .weltStat, .ltCore, .pmcSelCore, .pmcCntCore, .pmcSelTrio, .pmcCntTrio]

/-- The registers of zone or block g33. -/
def regsG33 : List Reg :=
  [.ways, .waysWorld, .mscCtl, .hitCfg, .xltTcfg, .fpoolBase, .fpoolIdx, .tqQuota, .tqStatus, .tqRelease, .haStatus, .qdmaCfg, .qdmaIdx, .mcBankset]

/-- The registers of zone or block die. -/
def regsDie : List Reg :=
  [.plinkStatus, .plinkCtl, .fabBww, .lifeTrio, .pmcSelDie, .pmcCntDie]

/-- The registers of zone or block g3A. -/
def regsG3A : List Reg :=
  [.ftuCfg, .ftuAlign, .ftuStatus, .ppsCap]

/-- The registers of zone or block g30. -/
def regsG30 : List Reg :=
  [.limClassaMin, .limCap, .seasonLoad, .seasonStat, .seasonCtl, .ctBase, .cxqCfg, .fqCfg, .cxeNote, .cxqIdx, .fqIdx, .cxeTstat, .tntCfg, .tntRst]

/-- The registers of zone or block g39. -/
def regsG39 : List Reg :=
  [.sealRange, .secCtl, .sealHoldLo, .sealHoldHi]

/-- The registers of zone or block g31. -/
def regsG31 : List Reg :=
  [.evgRoute, .evgGctl, .evgStat, .evgEn, .evgPend, .evgAct, .evgTrig]

/-- The registers of zone or block g32. -/
def regsG32 : List Reg :=
  [.mcCfg, .mcStatus, .mcEcclog, .mcPortbw, .mcTstat, .pmcSelMc, .pmcCntMc]

/-- The registers of zone or block g35. -/
def regsG35 : List Reg :=
  [.cpVfcfg, .cpVfdb]

/-- The registers of zone or block g34. -/
def regsG34 : List Reg :=
  [.quadCfg, .ethFilt, .rpCfg, .xlSys, .xlStatus, .xlSeg, .xlVcfg, .fiMatch, .fiCnt, .linkTest, .fiCtl, .pmcSelLink, .pmcCntLink, .ethRqcfg, .ethTqcfg, .ethRqidx, .ethTqidx, .xlMbcfg, .xlMbidx, .mbPayload, .mbGo, .mbStat, .voteValue, .voteRound, .voteResult, .voteAgreed]

/-- The registers of zone or block g38. -/
def regsG38 : List Reg :=
  [.lsrcCtl, .laceCmp, .laceSink, .laceWptr, .laceStat, .pcrCfg, .pcrIdx, .pcrStat, .pcrRing, .laceCmplo, .laceCmphi, .swtPage, .traceSram]

/-- The registers of zone or block g36. -/
def regsG36 : List Reg :=
  [.supStat, .pwrGov, .pwrReq, .pwrDomstat, .rstCtl, .rstCause, .pwrIdle, .lifeEm, .lifeMod]

/-- The registers of zone or block g37. -/
def regsG37 : List Reg :=
  [.soleRate, .soleStat, .soleCtl, .soleTrdA, .soleTrdDst, .soleTrdCtl, .soleTrdPos, .soleSrdA, .soleSrdDst, .soleSrdCtl, .soleSrdPos]

/-- The registers of zone or block g3B. -/
def regsG3B : List Reg :=
  [.bootStat, .xspiPage]

/-- The registers of zone or block g3C. -/
def regsG3C : List Reg :=
  [.pmbStat, .pmbIdx, .pmbRing, .pmbStage]

/-- The registers of the 16 MiB block `b` of the space (R31's layout). -/
def regsOf (b : Nat) : List Reg :=
  match b with
  | 0x30 => regsG30
  | 0x31 => regsG31
  | 0x32 => regsG32
  | 0x33 => regsG33
  | 0x34 => regsG34
  | 0x35 => regsG35
  | 0x36 => regsG36
  | 0x37 => regsG37
  | 0x38 => regsG38
  | 0x39 => regsG39
  | 0x3A => regsG3A
  | 0x3B => regsG3B
  | 0x3C => regsG3C
  | 0x3E => regsG3E
  | _ => []

/-- Fields of the registers, by the maps of the spec. -/
def Reg.fields : Reg → List Field
  | .modIdent => [⟨63, 48, .ro, 0xd8, 63⟩, ⟨47, 40, .ro, 0x21, 63⟩, ⟨39, 36, .ro, 0xc, 63⟩, ⟨9, 8, .ro, 0, 60⟩, ⟨0, 0, .ro, 0, 60⟩]
  | .dieStatus => [⟨31, 24, .ro, 0, 60⟩, ⟨22, 16, .ro, 0, 56⟩, ⟨14, 8, .ro, 0, 56⟩, ⟨2, 0, .ro, 0, 56⟩]
  | .trioMap => [⟨30, 24, .ro, 0, 60⟩, ⟨17, 15, .ro, 0, 60⟩, ⟨14, 12, .ro, 0, 60⟩, ⟨11, 9, .ro, 0, 60⟩, ⟨8, 6, .ro, 0, 60⟩, ⟨5, 3, .ro, 0, 60⟩, ⟨2, 0, .ro, 0, 60⟩]
  | .cdtCtl => [⟨63, 32, .ro, 0, 60⟩, ⟨0, 0, .rwl, 0, 60⟩]
  | .cdtSlot => [⟨13, 13, .rwl, 0, 60⟩, ⟨12, 9, .rwl, 0, 60⟩, ⟨8, 1, .rwl, 0, 60⟩, ⟨0, 0, .rwl, 0, 60⟩]
  | .cdtUop => [⟨42, 42, .rwl, 0, 60⟩, ⟨41, 41, .rwl, 0, 60⟩, ⟨40, 38, .rwl, 0, 60⟩, ⟨37, 35, .rwl, 0, 60⟩, ⟨34, 32, .rwl, 0, 60⟩, ⟨31, 0, .rwl, 0, 60⟩]
  | .coreCache => [⟨7, 6, .rw, 0, 32⟩, ⟨3, 3, .rw, 0, 32⟩, ⟨1, 1, .rw, 1, 32⟩, ⟨0, 0, .rw, 1, 32⟩]
  | .l2Ctl => [⟨15, 12, .rw, 0, 48⟩, ⟨11, 11, .rw, 0, 48⟩, ⟨8, 8, .rw, 0, 48⟩, ⟨2, 2, .ro, 1, 48⟩, ⟨1, 1, .ro, 0, 48⟩, ⟨0, 0, .rw, 0, 48⟩]
  | .l2Lock => [⟨15, 0, .rw, 0, 48⟩]
  | .ways => [⟨31, 16, .rw, 0xffff, 60⟩, ⟨15, 0, .rw, 0xffff, 60⟩]
  | .waysWorld => [⟨63, 48, .rw, 0xffff, 60⟩, ⟨47, 32, .rw, 0xffff, 60⟩, ⟨31, 16, .rw, 0xffff, 60⟩, ⟨15, 0, .rw, 0xffff, 60⟩]
  | .mscCtl => [⟨1, 1, .ro, 0, 60⟩, ⟨0, 0, .rw, 0, 60⟩]
  | .hitCfg => [⟨45, 21, .rw, 0, 60⟩, ⟨8, 4, .rw, 0, 60⟩, ⟨0, 0, .rw, 0, 60⟩]
  | .xltTcfg => [⟨32, 32, .rw, 0, 60⟩, ⟨31, 0, .rw, 0, 60⟩]
  | .fpoolBase => [⟨45, 7, .rw, 0, 60⟩, ⟨4, 0, .rw, 0, 60⟩]
  | .fpoolIdx => [⟨51, 32, .rw, 0, 28⟩, ⟨19, 0, .ro, 0, 28⟩]
  | .tqQuota => [⟨31, 0, .rw, 0, 60⟩]
  | .tqStatus => [⟨63, 63, .ro, 0, 28⟩, ⟨31, 0, .ro, 0, 28⟩]
  | .tqRelease => [⟨31, 0, .wo, 0, 0⟩]
  | .plinkStatus => [⟨63, 48, .ro, 0, 56⟩, ⟨47, 32, .ro, 0, 56⟩, ⟨31, 24, .ro, 0, 56⟩, ⟨21, 17, .ro, 0, 60⟩, ⟨16, 12, .ro, 0, 60⟩, ⟨2, 0, .ro, 0, 56⟩]
  | .plinkCtl => [⟨1, 1, .wo, 0, 0⟩, ⟨0, 0, .wo, 0, 0⟩]
  | .haStatus => [⟨63, 44, .ro, 0, 60⟩, ⟨43, 37, .ro, 0x7f, 60⟩, ⟨36, 36, .ro, 0, 60⟩, ⟨35, 32, .ro, 0, 60⟩, ⟨25, 20, .ro, 0, 60⟩, ⟨17, 0, .ro, 0, 60⟩]
  | .trioRstat => [⟨22, 21, .ro, 3, 48⟩, ⟨20, 16, .ro, 0, 48⟩, ⟨15, 12, .ro, 0, 62⟩, ⟨10, 10, .ro, 0, 62⟩, ⟨9, 8, .ro, 0, 48⟩, ⟨6, 6, .ro, 0, 48⟩, ⟨5, 4, .ro, 3, 48⟩, ⟨3, 2, .ro, 0, 48⟩, ⟨1, 0, .ro, 0, 48⟩]
  | .trioRcnt => [⟨63, 48, .ro, 0, 48⟩, ⟨47, 32, .ro, 0, 48⟩, ⟨31, 16, .ro, 0, 48⟩, ⟨15, 0, .ro, 0, 48⟩]
  | .trioRctl => [⟨1, 1, .wo, 0, 0⟩, ⟨0, 0, .rw, 0, 48⟩]
  | .trioInj => [⟨7, 7, .wo, 0, 0⟩, ⟨6, 5, .rw, 3, 48⟩, ⟨4, 0, .rw, 0, 48⟩]
  | .weltStat => [⟨63, 48, .ro, 0, 48⟩, ⟨47, 0, .ro, 0, 48⟩]
  | .ftuCfg => [⟨39, 36, .rw, 0, 60⟩, ⟨35, 34, .rw, 0, 60⟩, ⟨33, 28, .rw, 0, 60⟩, ⟨27, 8, .rw, 0x186a0, 60⟩, ⟨0, 0, .rwl, 0, 60⟩]
  | .ftuAlign => [⟨63, 48, .rw, 0x3e8, 60⟩, ⟨19, 0, .rw, 0, 60⟩]
  | .ftuStatus => [⟨63, 32, .ro, 0, 60⟩, ⟨21, 16, .ro, 0, 60⟩, ⟨2, 0, .ro, 0, 60⟩]
  | .limClassaMin => [⟨19, 0, .rwl, 0, 60⟩]
  | .limCap => [⟨63, 63, .rwl, 0, 60⟩, ⟨55, 48, .rwl, 0, 60⟩, ⟨47, 41, .rwl, 0, 60⟩, ⟨40, 34, .rwl, 0, 60⟩, ⟨33, 27, .rwl, 0, 60⟩]
  | .seasonLoad => [⟨45, 12, .rw, 0, 60⟩, ⟨5, 4, .rw, 0, 60⟩, ⟨0, 0, .wo, 0, 0⟩]
  | .seasonStat => [⟨63, 56, .ro, 0, 60⟩, ⟨55, 48, .ro, 0, 60⟩, ⟨47, 43, .ro, 0x1f, 60⟩, ⟨0, 0, .ro, 0, 60⟩]
  | .seasonCtl => [⟨11, 8, .ro, 0, 60⟩, ⟨7, 6, .rw, 0, 60⟩, ⟨5, 5, .ro, 0, 60⟩, ⟨4, 4, .wo, 0, 0⟩, ⟨3, 3, .rwl, 0, 60⟩, ⟨1, 0, .ro, 0, 60⟩]
  | .ctBase => [⟨45, 19, .rw, 0, 60⟩, ⟨0, 0, .rw, 0, 60⟩]
  | .cxqCfg => [⟨45, 10, .rw, 0, 60⟩, ⟨4, 0, .rw, 0, 60⟩]
  | .fqCfg => [⟨45, 10, .rw, 0, 60⟩, ⟨4, 0, .rw, 0, 60⟩]
  | .cxeNote => [⟨31, 20, .rw, 0, 60⟩, ⟨19, 15, .rw, 0, 60⟩, ⟨14, 14, .rw, 0, 60⟩, ⟨13, 9, .rw, 0, 60⟩, ⟨8, 8, .rw, 0, 60⟩]
  | .cxqIdx => [⟨43, 32, .rw, 0, 28⟩, ⟨11, 0, .ro, 0, 28⟩]
  | .fqIdx => [⟨63, 48, .ro, 0, 28⟩, ⟨47, 32, .rw, 0, 28⟩, ⟨15, 0, .ro, 0, 28⟩]
  | .cxeTstat => [⟨63, 48, .ro, 0, 28⟩, ⟨47, 32, .ro, 0, 28⟩, ⟨31, 16, .ro, 0, 28⟩, ⟨15, 0, .ro, 0, 28⟩]
  | .tntCfg => [⟨63, 32, .ro, 0, 60⟩, ⟨4, 4, .ro, 0, 28⟩, ⟨2, 1, .rw, 3, 60⟩]
  | .tntRst => [⟨36, 32, .rw, 0, 60⟩, ⟨0, 0, .wo, 0, 0⟩]
  | .qdmaCfg => [⟨63, 52, .rw, 0, 60⟩, ⟨45, 10, .rw, 0, 60⟩, ⟨9, 9, .rw, 0, 60⟩, ⟨8, 8, .rw, 0, 60⟩, ⟨4, 0, .rw, 0, 60⟩]
  | .qdmaIdx => [⟨63, 48, .ro, 0, 28⟩, ⟨43, 32, .rw, 0, 28⟩, ⟨11, 0, .ro, 0, 28⟩]
  | .sealRange => [⟨63, 39, .rwl, 0, 60⟩, ⟨38, 14, .rwl, 0, 60⟩, ⟨0, 0, .rwl, 0, 60⟩]
  | .secCtl => [⟨21, 21, .rwl, 0, 60⟩, ⟨20, 20, .rw, 0, 60⟩, ⟨19, 0, .rw, 0x186a0, 60⟩]
  | .secStat => [⟨2, 2, .wo, 0, 0⟩, ⟨1, 1, .ro, 0, 60⟩, ⟨0, 0, .ro, 0, 60⟩]
  | .dbgEn => [⟨3, 3, .w1c, 0, 60⟩, ⟨2, 2, .w1c, 0, 60⟩, ⟨1, 1, .w1c, 0, 60⟩, ⟨0, 0, .w1c, 0, 60⟩]
  | .dbgAuth => [⟨15, 12, .ro, 0, 60⟩, ⟨7, 4, .ro, 0, 60⟩, ⟨1, 1, .wo, 0, 0⟩, ⟨0, 0, .wo, 0, 0⟩]
  | .evgRoute => [⟨63, 62, .rw, 0, 28⟩, ⟨61, 61, .ro, 0, 60⟩, ⟨60, 56, .rw, 0, 28⟩, ⟨55, 55, .rw, 0, 28⟩, ⟨54, 54, .rw, 0, 28⟩, ⟨53, 53, .rw, 0, 28⟩, ⟨47, 44, .rw, 0, 28⟩, ⟨43, 41, .rw, 0, 28⟩, ⟨40, 39, .rw, 0, 28⟩, ⟨38, 27, .rw, 0, 28⟩, ⟨26, 22, .rw, 0, 28⟩, ⟨12, 0, .ro, 0x1fff, 28⟩]
  | .evgGctl => [⟨47, 32, .rw, 0, 60⟩, ⟨31, 16, .ro, 0, 60⟩, ⟨0, 0, .rw, 1, 60⟩]
  | .evgStat => [⟨63, 48, .ro, 0, 60⟩, ⟨47, 32, .ro, 0, 60⟩, ⟨31, 16, .ro, 0, 60⟩]
  | .mcCfg => [⟨63, 48, .rw, 0x18, 60⟩, ⟨32, 32, .rwl, 0, 60⟩, ⟨31, 24, .rwl, 0x10, 60⟩, ⟨23, 16, .rwl, 0x40, 60⟩, ⟨13, 13, .rwl, 0, 60⟩, ⟨12, 12, .rwl, 0, 60⟩, ⟨11, 10, .rwl, 2, 60⟩, ⟨9, 8, .rwl, 0, 60⟩, ⟨7, 7, .rwl, 0, 60⟩, ⟨6, 6, .rwl, 0, 60⟩, ⟨5, 5, .rwl, 0, 60⟩]
  | .mcStatus => [⟨63, 48, .ro, 0, 60⟩, ⟨47, 40, .ro, 0, 60⟩, ⟨31, 24, .ro, 0, 60⟩, ⟨23, 16, .ro, 0, 60⟩, ⟨2, 0, .ro, 0, 60⟩]
  | .mcEcclog => [⟨63, 63, .w1c, 0, 60⟩, ⟨62, 62, .ro, 0, 60⟩, ⟨61, 58, .ro, 0, 60⟩, ⟨55, 16, .ro, 0, 60⟩, ⟨15, 0, .ro, 0, 60⟩]
  | .mcPortbw => [⟨63, 32, .ro, 0, 60⟩, ⟨31, 0, .ro, 0, 60⟩]
  | .mcTstat => [⟨63, 40, .ro, 0, 60⟩, ⟨31, 0, .ro, 0, 60⟩]
  | .cpVfcfg => [⟨63, 52, .rw, 0, 60⟩, ⟨47, 20, .rw, 0, 60⟩, ⟨6, 6, .rw, 0, 60⟩, ⟨5, 0, .rw, 0x14, 60⟩]
  | .cpVfdb => [⟨63, 32, .ro, 0, 28⟩, ⟨3, 0, .wo, 0, 0⟩]
  | .quadCfg => [⟨15, 14, .rw, 0, 60⟩, ⟨12, 12, .ro, 0, 60⟩, ⟨11, 11, .rw, 0, 60⟩, ⟨10, 8, .rw, 0, 60⟩, ⟨2, 0, .rw, 0, 60⟩]
  | .ethFilt => [⟨63, 63, .rw, 0, 60⟩, ⟨62, 58, .rw, 0, 60⟩, ⟨57, 50, .rw, 0, 60⟩, ⟨47, 0, .rw, 0, 60⟩]
  | .rpCfg => [⟨63, 52, .rw, 0, 60⟩, ⟨36, 32, .rw, 0, 60⟩, ⟨1, 1, .rw, 0, 60⟩, ⟨0, 0, .rw, 0, 60⟩]
  | .xlSys => [⟨63, 0, .rw, 0, 60⟩]
  | .xlStatus => [⟨63, 48, .ro, 0, 60⟩, ⟨47, 36, .ro, 0, 60⟩, ⟨35, 32, .ro, 0, 60⟩, ⟨31, 30, .ro, 0, 60⟩, ⟨29, 29, .ro, 0, 60⟩, ⟨23, 16, .ro, 0, 60⟩, ⟨3, 0, .ro, 0, 60⟩]
  | .xlSeg => [⟨63, 63, .rw, 0, 60⟩, ⟨62, 62, .rw, 0, 60⟩, ⟨61, 57, .rw, 0, 60⟩, ⟨45, 30, .rw, 0, 60⟩]
  | .xlVcfg => [⟨63, 63, .rw, 0, 60⟩, ⟨62, 58, .rw, 0, 60⟩, ⟨57, 46, .rw, 0, 60⟩, ⟨45, 41, .rw, 0, 60⟩, ⟨40, 37, .rw, 0, 60⟩, ⟨19, 0, .rw, 0, 60⟩]
  | .fiMatch => [⟨63, 32, .rw, 0, 60⟩, ⟨31, 0, .rw, 0, 60⟩]
  | .fiCnt => [⟨31, 0, .rw, 0, 60⟩]
  | .linkTest => [⟨0, 0, .rw, 0, 60⟩]
  | .fiCtl => [⟨63, 48, .rw, 0, 60⟩, ⟨47, 32, .rw, 1, 60⟩, ⟨31, 16, .rw, 0, 60⟩, ⟨15, 15, .rw, 0, 60⟩, ⟨13, 12, .rw, 0, 60⟩, ⟨11, 10, .rw, 0, 60⟩, ⟨8, 1, .rw, 0, 60⟩, ⟨0, 0, .rw, 0, 60⟩]
  | .lsrcCtl => [⟨63, 48, .rw, 0, 60⟩, ⟨47, 32, .rw, 0, 60⟩, ⟨26, 26, .rw, 0, 60⟩, ⟨25, 24, .ro, 0, 60⟩, ⟨23, 22, .rw, 0, 60⟩, ⟨21, 21, .rw, 0, 60⟩]
  | .laceCmp => [⟨2, 0, .rw, 0, 60⟩]
  | .ltCore => [⟨63, 32, .rw, 0xffffffff, 32⟩, ⟨13, 13, .rw, 0, 32⟩, ⟨12, 8, .rw, 0xa, 32⟩, ⟨4, 4, .rw, 0, 32⟩, ⟨3, 3, .rw, 0, 32⟩, ⟨1, 1, .rw, 0, 32⟩, ⟨0, 0, .rw, 0, 32⟩]
  | .laceSink => [⟨45, 12, .rw, 0, 60⟩, ⟨11, 7, .rw, 0x17, 60⟩, ⟨3, 3, .rw, 0, 60⟩, ⟨2, 2, .rw, 0, 60⟩, ⟨0, 0, .rw, 0, 60⟩]
  | .laceWptr => [⟨63, 63, .w1c, 0, 60⟩, ⟨34, 0, .ro, 0, 60⟩]
  | .laceStat => [⟨63, 32, .ro, 0, 60⟩, ⟨31, 0, .ro, 0, 60⟩]
  | .fabBww => [⟨63, 32, .ro, 0, 56⟩, ⟨31, 0, .ro, 0, 56⟩]
  | .pcrCfg => [⟨14, 8, .rw, 0x7f, 60⟩, ⟨6, 6, .rw, 0, 60⟩, ⟨5, 0, .rw, 0, 60⟩]
  | .pcrIdx => [⟨63, 52, .ro, 0, 60⟩, ⟨51, 32, .rw, 0, 60⟩, ⟨19, 0, .ro, 0, 60⟩]
  | .pcrStat => [⟨63, 32, .ro, 0, 60⟩, ⟨15, 0, .ro, 0, 60⟩]
  | .supStat => [⟨63, 48, .ro, 0, 62⟩, ⟨47, 32, .ro, 0, 62⟩, ⟨31, 16, .ro, 0, 62⟩, ⟨15, 8, .ro, 0, 62⟩, ⟨2, 0, .ro, 0, 62⟩]
  | .pwrGov => [⟨23, 16, .rw, 0x69, 60⟩, ⟨11, 11, .rw, 0, 60⟩, ⟨10, 10, .rw, 0, 60⟩, ⟨7, 5, .ro, 0, 60⟩, ⟨3, 2, .ro, 0, 60⟩]
  | .pwrReq => [⟨38, 32, .rw, 0, 60⟩, ⟨2, 1, .rw, 0, 60⟩, ⟨0, 0, .wo, 0, 0⟩]
  | .pwrDomstat => [⟨7, 4, .ro, 0, 60⟩, ⟨3, 2, .ro, 0, 60⟩, ⟨1, 0, .ro, 0, 60⟩]
  | .rstCtl => [⟨47, 44, .rw, 0, 60⟩, ⟨43, 41, .rw, 0, 60⟩, ⟨40, 39, .rw, 0, 60⟩, ⟨2, 0, .wo, 0, 0⟩]
  | .rstCause => [⟨63, 32, .ro, 0, 60⟩, ⟨15, 8, .ro, 0, 60⟩, ⟨0, 0, .ro, 0, 60⟩]
  | .pwrIdle => [⟨1, 1, .rw, 0, 60⟩, ⟨0, 0, .rw, 0, 60⟩]
  | .lifeTrio => [⟨63, 48, .ro, 0xffff, 56⟩, ⟨47, 32, .ro, 0, 60⟩, ⟨31, 16, .rw, 0x14, 56⟩, ⟨0, 0, .ro, 0, 56⟩]
  | .lifeEm => [⟨63, 24, .ro, 0, 62⟩, ⟨23, 16, .ro, 0, 62⟩, ⟨0, 0, .ro, 0, 62⟩]
  | .lifeMod => [⟨63, 32, .ro, 0, 62⟩, ⟨31, 16, .ro, 0, 62⟩]
  | .soleRate => [⟨63, 48, .ro, 0, 62⟩, ⟨31, 16, .rw, 0x40, 60⟩, ⟨15, 0, .rw, 0x64, 60⟩]
  | .soleStat => [⟨63, 32, .ro, 0, 62⟩, ⟨31, 16, .ro, 0, 62⟩, ⟨3, 3, .ro, 0, 62⟩, ⟨2, 2, .ro, 0, 62⟩, ⟨1, 1, .ro, 0, 62⟩, ⟨0, 0, .ro, 0, 62⟩]
  | .soleCtl => [⟨2, 2, .wo, 0, 0⟩, ⟨1, 1, .wo, 0, 0⟩, ⟨0, 0, .wo, 0, 0⟩]
  | .bootStat => [⟨39, 32, .ro, 0, 60⟩, ⟨27, 24, .ro, 0, 60⟩, ⟨16, 16, .ro, 0, 60⟩, ⟨2, 2, .w1c, 1, 60⟩, ⟨1, 0, .ro, 0, 60⟩]
  | .xspiPage => [⟨32, 32, .rw, 0, 60⟩, ⟨12, 0, .rw, 0, 60⟩]
  | .pmbStat => [⟨63, 32, .ro, 0, 60⟩, ⟨31, 16, .ro, 0, 60⟩, ⟨1, 1, .ro, 0, 60⟩, ⟨0, 0, .ro, 0, 60⟩]
  | .expertCtl => [⟨0, 0, .rw, 0, 60⟩]
  | .ppsCap => [⟨63, 63, .w1c, 0, 60⟩, ⟨62, 0, .ro, 0, 60⟩]
  | .evgEn => [⟨31, 0, .rw, 0, 28⟩]
  | .evgPend => [⟨31, 0, .rw, 0, 28⟩]
  | .evgAct => [⟨31, 0, .ro, 0, 28⟩]
  | .evgTrig => [⟨31, 0, .wo, 0, 0⟩]
  | .pmcSelCore => [⟨63, 48, .rw, 0, 32⟩, ⟨47, 47, .rw, 0, 32⟩, ⟨46, 46, .rw, 0, 32⟩, ⟨45, 45, .rw, 0, 32⟩, ⟨44, 41, .rw, 0xf, 32⟩, ⟨40, 40, .rw, 0, 32⟩, ⟨36, 36, .rw, 0, 32⟩, ⟨35, 31, .rw, 0, 32⟩, ⟨7, 0, .rw, 0, 32⟩]
  | .pmcCntCore => [⟨63, 63, .w1c, 0, 32⟩, ⟨47, 0, .rw, 0, 32⟩]
  | .pmcSelTrio => [⟨63, 48, .rw, 0, 48⟩, ⟨47, 47, .rw, 0, 48⟩, ⟨46, 46, .rw, 0, 48⟩, ⟨45, 45, .rw, 0, 48⟩, ⟨44, 41, .rw, 0xf, 48⟩, ⟨40, 40, .rw, 0, 48⟩, ⟨36, 36, .rw, 0, 48⟩, ⟨35, 31, .rw, 0, 48⟩, ⟨7, 0, .rw, 0, 48⟩]
  | .pmcCntTrio => [⟨63, 63, .w1c, 0, 48⟩, ⟨47, 0, .rw, 0, 48⟩]
  | .pmcSelDie => [⟨63, 48, .rw, 0, 56⟩, ⟨47, 47, .rw, 0, 56⟩, ⟨46, 46, .rw, 0, 56⟩, ⟨45, 45, .rw, 0, 56⟩, ⟨44, 41, .rw, 0xf, 56⟩, ⟨40, 40, .rw, 0, 56⟩, ⟨36, 36, .rw, 0, 56⟩, ⟨35, 31, .rw, 0, 56⟩, ⟨7, 0, .rw, 0, 56⟩]
  | .pmcCntDie => [⟨63, 63, .w1c, 0, 56⟩, ⟨47, 0, .rw, 0, 56⟩]
  | .pmcSelMc => [⟨63, 48, .rw, 0, 60⟩, ⟨47, 47, .rw, 0, 60⟩, ⟨46, 46, .rw, 0, 60⟩, ⟨45, 45, .rw, 0, 60⟩, ⟨44, 41, .rw, 0xf, 60⟩, ⟨40, 40, .rw, 0, 60⟩, ⟨36, 36, .rw, 0, 60⟩, ⟨35, 31, .rw, 0, 60⟩, ⟨7, 0, .rw, 0, 60⟩]
  | .pmcCntMc => [⟨63, 63, .w1c, 0, 60⟩, ⟨47, 0, .rw, 0, 60⟩]
  | .pmcSelLink => [⟨63, 48, .rw, 0, 60⟩, ⟨47, 47, .rw, 0, 60⟩, ⟨46, 46, .rw, 0, 60⟩, ⟨45, 45, .rw, 0, 60⟩, ⟨44, 41, .rw, 0xf, 60⟩, ⟨40, 40, .rw, 0, 60⟩, ⟨36, 36, .rw, 0, 60⟩, ⟨35, 31, .rw, 0, 60⟩, ⟨7, 0, .rw, 0, 60⟩]
  | .pmcCntLink => [⟨63, 63, .w1c, 0, 60⟩, ⟨47, 0, .rw, 0, 60⟩]
  | .sealHoldLo => [⟨63, 0, .rw, 0, 60⟩]
  | .sealHoldHi => [⟨53, 0, .rw, 0, 60⟩]
  | .mcBankset => [⟨63, 0, .rw, 0xffffffffffffffff, 60⟩]
  | .dbgChal => [⟨63, 0, .ro, 0, 60⟩]
  | .dbgResp => [⟨63, 0, .rw, 0, 60⟩]
  | .soleTrdA => [⟨63, 52, .rw, 0, 60⟩, ⟨46, 32, .rw, 0, 60⟩, ⟨17, 0, .rw, 0, 60⟩]
  | .soleTrdDst => [⟨63, 0, .rw, 0, 60⟩]
  | .soleTrdCtl => [⟨11, 8, .ro, 0, 60⟩, ⟨1, 1, .ro, 0, 60⟩, ⟨0, 0, .wo, 0, 0⟩]
  | .soleTrdPos => [⟨63, 63, .ro, 0, 62⟩, ⟨17, 0, .ro, 0, 62⟩]
  | .soleSrdA => [⟨57, 52, .rw, 0, 60⟩, ⟨46, 32, .rw, 0, 60⟩, ⟨17, 0, .rw, 0, 60⟩]
  | .soleSrdDst => [⟨63, 0, .rw, 0, 60⟩]
  | .soleSrdCtl => [⟨11, 8, .ro, 0, 60⟩, ⟨1, 1, .ro, 0, 60⟩, ⟨0, 0, .wo, 0, 0⟩]
  | .soleSrdPos => [⟨63, 63, .ro, 0, 62⟩, ⟨17, 0, .ro, 0, 62⟩]
  | .pcrRing => [⟨45, 10, .rw, 0, 60⟩, ⟨4, 0, .rw, 0, 60⟩]
  | .laceCmplo => [⟨63, 0, .rw, 0, 60⟩]
  | .laceCmphi => [⟨63, 0, .rw, 0, 60⟩]
  | .pmbIdx => [⟨43, 32, .rw, 0, 28⟩, ⟨11, 0, .ro, 0, 28⟩]
  | .pmbRing => [⟨63, 0, .rw, 0, 60⟩]
  | .pmbStage => [⟨63, 0, .rw, 0, 60⟩]
  | .ethRqcfg => [⟨63, 52, .rw, 0, 60⟩, ⟨45, 10, .rw, 0, 60⟩, ⟨9, 9, .rw, 0, 60⟩, ⟨8, 8, .rw, 0, 60⟩, ⟨4, 0, .rw, 0, 60⟩]
  | .ethTqcfg => [⟨63, 52, .rw, 0, 60⟩, ⟨45, 10, .rw, 0, 60⟩, ⟨9, 9, .rw, 0, 60⟩, ⟨8, 8, .rw, 0, 60⟩, ⟨4, 0, .rw, 0, 60⟩]
  | .ethRqidx => [⟨63, 48, .ro, 0, 28⟩, ⟨47, 32, .rw, 0, 28⟩, ⟨15, 0, .ro, 0, 28⟩]
  | .ethTqidx => [⟨63, 48, .ro, 0, 28⟩, ⟨43, 32, .rw, 0, 28⟩, ⟨11, 0, .ro, 0, 28⟩]
  | .xlMbcfg => [⟨63, 52, .rw, 0, 60⟩, ⟨45, 10, .rw, 0, 60⟩, ⟨9, 9, .rw, 0, 60⟩, ⟨8, 8, .rw, 0, 60⟩, ⟨4, 0, .rw, 0, 60⟩]
  | .xlMbidx => [⟨63, 48, .ro, 0, 28⟩, ⟨47, 32, .rw, 0, 28⟩, ⟨15, 0, .ro, 0, 28⟩]
  | .mbPayload => [⟨63, 0, .rw, 0, 60⟩]
  | .mbGo => [⟨1, 0, .wo, 0, 0⟩]
  | .mbStat => [⟨63, 32, .ro, 0, 60⟩, ⟨1, 0, .ro, 0, 60⟩]
  | .voteValue => [⟨63, 0, .rw, 0, 60⟩]
  | .voteRound => [⟨31, 0, .wo, 0, 0⟩]
  | .voteResult => [⟨44, 0, .ro, 0, 60⟩]
  | .voteAgreed => [⟨63, 0, .ro, 0, 60⟩]
  | .swtPage => [⟨63, 0, .wo, 0, 0⟩]
  | .traceSram => [⟨63, 0, .ro, 0, 60⟩]

/-- The registers of level Expert (R14). -/
def Reg.expert : Reg → Bool
  | .ways => true
  | .waysWorld => true
  | .plinkCtl => true
  | .trioInj => true
  | .fiMatch => true
  | .fiCnt => true
  | .linkTest => true
  | .fiCtl => true
  | .rstCtl => true
  | _ => false

/-- The place of a register. -/
def Reg.place : Reg → Place
  | .modIdent => ⟨.glob, 0x3E000000, 1, 0x8, 1, 0x8, 0⟩
  | .dieStatus => ⟨.glob, 0x3E000100, 12, 0x8, 1, 0x8, 0⟩
  | .trioMap => ⟨.glob, 0x3E000200, 12, 0x8, 1, 0x8, 0⟩
  | .cdtCtl => ⟨.glob, 0x3E010000, 1, 0x8, 1, 0x8, 0⟩
  | .cdtSlot => ⟨.glob, 0x3E010100, 32, 0x8, 1, 0x8, 0⟩
  | .cdtUop => ⟨.glob, 0x3E010800, 256, 0x8, 1, 0x8, 0⟩
  | .coreCache => ⟨.trio, 0x100, 3, 0x10000, 1, 0x8, 0⟩
  | .l2Ctl => ⟨.trio, 0x40000, 1, 0x8, 1, 0x8, 0⟩
  | .l2Lock => ⟨.trio, 0x40008, 1, 0x8, 1, 0x8, 0⟩
  | .ways => ⟨.glob, 0x33800000, 32, 0x1000, 1, 0x8, 0⟩
  | .waysWorld => ⟨.glob, 0x33820000, 1, 0x8, 1, 0x8, 0⟩
  | .mscCtl => ⟨.glob, 0x33840000, 1, 0x8, 1, 0x8, 0⟩
  | .hitCfg => ⟨.glob, 0x33860000, 1, 0x8, 1, 0x8, 0⟩
  | .xltTcfg => ⟨.glob, 0x33880000, 32, 0x1000, 1, 0x8, 0⟩
  | .fpoolBase => ⟨.glob, 0x33880008, 32, 0x1000, 1, 0x8, 0⟩
  | .fpoolIdx => ⟨.glob, 0x33880010, 32, 0x1000, 1, 0x8, 0⟩
  | .tqQuota => ⟨.glob, 0x33880018, 32, 0x1000, 1, 0x8, 0⟩
  | .tqStatus => ⟨.glob, 0x33880020, 32, 0x1000, 1, 0x8, 0⟩
  | .tqRelease => ⟨.glob, 0x33880028, 32, 0x1000, 1, 0x8, 0⟩
  | .plinkStatus => ⟨.die, 0x810000, 1, 0x8, 1, 0x8, 0⟩
  | .plinkCtl => ⟨.die, 0x810008, 1, 0x8, 1, 0x8, 0⟩
  | .haStatus => ⟨.glob, 0x33000000, 12, 0x10000, 1, 0x8, 0⟩
  | .trioRstat => ⟨.trio, 0x50000, 1, 0x8, 1, 0x8, 0⟩
  | .trioRcnt => ⟨.trio, 0x50008, 1, 0x8, 1, 0x8, 0⟩
  | .trioRctl => ⟨.trio, 0x50010, 1, 0x8, 1, 0x8, 0⟩
  | .trioInj => ⟨.trio, 0x50018, 1, 0x8, 1, 0x8, 0⟩
  | .weltStat => ⟨.trio, 0x60000, 1, 0x8, 1, 0x8, 0⟩
  | .ftuCfg => ⟨.glob, 0x3A000000, 1, 0x8, 1, 0x8, 0⟩
  | .ftuAlign => ⟨.glob, 0x3A000008, 1, 0x8, 1, 0x8, 0⟩
  | .ftuStatus => ⟨.glob, 0x3A000010, 1, 0x8, 1, 0x8, 0⟩
  | .limClassaMin => ⟨.glob, 0x30001000, 1, 0x8, 1, 0x8, 0⟩
  | .limCap => ⟨.glob, 0x30001008, 1, 0x8, 1, 0x8, 0⟩
  | .seasonLoad => ⟨.glob, 0x30000000, 1, 0x8, 1, 0x8, 0⟩
  | .seasonStat => ⟨.glob, 0x30000008, 1, 0x8, 1, 0x8, 0⟩
  | .seasonCtl => ⟨.glob, 0x30000010, 1, 0x8, 1, 0x8, 0⟩
  | .ctBase => ⟨.glob, 0x30100000, 32, 0x1000, 1, 0x8, 0⟩
  | .cxqCfg => ⟨.glob, 0x30100008, 33, 0x1000, 1, 0x8, 0⟩
  | .fqCfg => ⟨.glob, 0x30100010, 33, 0x1000, 1, 0x8, 0⟩
  | .cxeNote => ⟨.glob, 0x30100018, 32, 0x1000, 1, 0x8, 0⟩
  | .cxqIdx => ⟨.glob, 0x30140000, 33, 0x1000, 1, 0x8, 0⟩
  | .fqIdx => ⟨.glob, 0x30140008, 33, 0x1000, 1, 0x8, 0⟩
  | .cxeTstat => ⟨.glob, 0x30140010, 32, 0x1000, 1, 0x8, 0⟩
  | .tntCfg => ⟨.glob, 0x30200000, 32, 0x1000, 1, 0x8, 0⟩
  | .tntRst => ⟨.glob, 0x30220000, 1, 0x8, 1, 0x8, 0⟩
  | .qdmaCfg => ⟨.glob, 0x338C0000, 32, 0x1000, 1, 0x8, 0⟩
  | .qdmaIdx => ⟨.glob, 0x338E0000, 32, 0x1000, 1, 0x8, 0⟩
  | .sealRange => ⟨.glob, 0x39000100, 8, 0x8, 1, 0x8, 0⟩
  | .secCtl => ⟨.glob, 0x39000008, 1, 0x8, 1, 0x8, 0⟩
  | .secStat => ⟨.glob, 0x3E020010, 1, 0x8, 1, 0x8, 0⟩
  | .dbgEn => ⟨.glob, 0x3E020000, 1, 0x8, 1, 0x8, 0⟩
  | .dbgAuth => ⟨.glob, 0x3E020008, 1, 0x8, 1, 0x8, 0⟩
  | .evgRoute => ⟨.glob, 0x31000000, 64, 0x1000, 32, 0x8, 0⟩
  | .evgGctl => ⟨.glob, 0x31000100, 64, 0x1000, 1, 0x8, 0⟩
  | .evgStat => ⟨.glob, 0x31080000, 1, 0x8, 1, 0x8, 0⟩
  | .mcCfg => ⟨.glob, 0x32000000, 12, 0x100000, 1, 0x8, 0⟩
  | .mcStatus => ⟨.glob, 0x32000008, 12, 0x100000, 1, 0x8, 0⟩
  | .mcEcclog => ⟨.glob, 0x32000010, 12, 0x100000, 1, 0x8, 0⟩
  | .mcPortbw => ⟨.glob, 0x32010000, 12, 0x100000, 13, 0x8, 0⟩
  | .mcTstat => ⟨.glob, 0x32080000, 12, 0x100000, 32, 0x1000, 0⟩
  | .cpVfcfg => ⟨.glob, 0x35000000, 32, 0x1000, 1, 0x8, 1⟩
  | .cpVfdb => ⟨.glob, 0x35040000, 32, 0x1000, 1, 0x8, 1⟩
  | .quadCfg => ⟨.glob, 0x34000100, 8, 0x8, 1, 0x8, 0⟩
  | .ethFilt => ⟨.glob, 0x34600000, 16, 0x1000, 256, 0x8, 0⟩
  | .rpCfg => ⟨.glob, 0x34030000, 8, 0x100, 4, 0x8, 0⟩
  | .xlSys => ⟨.glob, 0x34000008, 1, 0x8, 1, 0x8, 0⟩
  | .xlStatus => ⟨.glob, 0x34010000, 3, 0x1000, 1, 0x8, 0⟩
  | .xlSeg => ⟨.glob, 0x34040000, 16, 0x8, 1, 0x8, 0⟩
  | .xlVcfg => ⟨.glob, 0x34070000, 64, 0x8, 1, 0x8, 0⟩
  | .fiMatch => ⟨.glob, 0x34080008, 32, 0x20, 1, 0x8, 0⟩
  | .fiCnt => ⟨.glob, 0x34080010, 32, 0x20, 1, 0x8, 0⟩
  | .linkTest => ⟨.glob, 0x34000000, 1, 0x8, 1, 0x8, 0⟩
  | .fiCtl => ⟨.glob, 0x34080000, 32, 0x20, 1, 0x8, 0⟩
  | .lsrcCtl => ⟨.glob, 0x38000000, 512, 0x8, 1, 0x8, 0⟩
  | .laceCmp => ⟨.glob, 0x38001000, 16, 0x20, 1, 0x8, 0⟩
  | .ltCore => ⟨.trio, 0x8000, 3, 0x10000, 1, 0x8, 0⟩
  | .laceSink => ⟨.glob, 0x38002000, 1, 0x8, 1, 0x8, 0⟩
  | .laceWptr => ⟨.glob, 0x38002008, 1, 0x8, 1, 0x8, 0⟩
  | .laceStat => ⟨.glob, 0x38002010, 1, 0x8, 1, 0x8, 0⟩
  | .fabBww => ⟨.die, 0x831000, 7, 0x100, 17, 0x8, 0⟩
  | .pcrCfg => ⟨.glob, 0x38003000, 1, 0x8, 1, 0x8, 0⟩
  | .pcrIdx => ⟨.glob, 0x38003010, 1, 0x8, 1, 0x8, 0⟩
  | .pcrStat => ⟨.glob, 0x38003018, 1, 0x8, 1, 0x8, 0⟩
  | .supStat => ⟨.glob, 0x36000000, 1, 0x8, 1, 0x8, 0⟩
  | .pwrGov => ⟨.glob, 0x36000008, 1, 0x8, 1, 0x8, 0⟩
  | .pwrReq => ⟨.glob, 0x36000100, 1, 0x8, 1, 0x8, 0⟩
  | .pwrDomstat => ⟨.glob, 0x36001000, 118, 0x8, 1, 0x8, 0⟩
  | .rstCtl => ⟨.glob, 0x36000200, 1, 0x8, 1, 0x8, 0⟩
  | .rstCause => ⟨.glob, 0x36000208, 1, 0x8, 1, 0x8, 0⟩
  | .pwrIdle => ⟨.glob, 0x36000300, 1, 0x8, 1, 0x8, 0⟩
  | .lifeTrio => ⟨.die, 0x820000, 7, 0x8, 1, 0x8, 0⟩
  | .lifeEm => ⟨.glob, 0x36003000, 13, 0x8, 1, 0x8, 0⟩
  | .lifeMod => ⟨.glob, 0x36003100, 1, 0x8, 1, 0x8, 0⟩
  | .soleRate => ⟨.glob, 0x37000400, 32, 0x8, 1, 0x8, 1⟩
  | .soleStat => ⟨.glob, 0x37000000, 1, 0x8, 1, 0x8, 0⟩
  | .soleCtl => ⟨.glob, 0x37000008, 1, 0x8, 1, 0x8, 0⟩
  | .bootStat => ⟨.glob, 0x3B000000, 1, 0x8, 1, 0x8, 0⟩
  | .xspiPage => ⟨.glob, 0x3B000100, 1, 0x8, 1, 0x8, 0⟩
  | .pmbStat => ⟨.glob, 0x3C000010, 1, 0x8, 1, 0x8, 0⟩
  | .expertCtl => ⟨.glob, 0x3E020018, 1, 0x8, 1, 0x8, 0⟩
  | .ppsCap => ⟨.glob, 0x3A000018, 1, 0x8, 1, 0x8, 0⟩
  | .evgEn => ⟨.glob, 0x31040000, 64, 0x1000, 1, 0x8, 0⟩
  | .evgPend => ⟨.glob, 0x31040008, 64, 0x1000, 1, 0x8, 0⟩
  | .evgAct => ⟨.glob, 0x31040010, 64, 0x1000, 1, 0x8, 0⟩
  | .evgTrig => ⟨.glob, 0x31040018, 64, 0x1000, 1, 0x8, 0⟩
  | .pmcSelCore => ⟨.trio, 0xC000, 3, 0x10000, 6, 0x10, 0⟩
  | .pmcCntCore => ⟨.trio, 0xC008, 3, 0x10000, 6, 0x10, 0⟩
  | .pmcSelTrio => ⟨.trio, 0x70000, 8, 0x10, 1, 0x8, 0⟩
  | .pmcCntTrio => ⟨.trio, 0x70008, 8, 0x10, 1, 0x8, 0⟩
  | .pmcSelDie => ⟨.die, 0x830000, 8, 0x10, 1, 0x8, 0⟩
  | .pmcCntDie => ⟨.die, 0x830008, 8, 0x10, 1, 0x8, 0⟩
  | .pmcSelMc => ⟨.glob, 0x32040000, 12, 0x100000, 8, 0x10, 0⟩
  | .pmcCntMc => ⟨.glob, 0x32040008, 12, 0x100000, 8, 0x10, 0⟩
  | .pmcSelLink => ⟨.glob, 0x34020000, 52, 0x100, 4, 0x10, 0⟩
  | .pmcCntLink => ⟨.glob, 0x34020008, 52, 0x100, 4, 0x10, 0⟩
  | .sealHoldLo => ⟨.glob, 0x39000200, 1, 0x8, 1, 0x8, 0⟩
  | .sealHoldHi => ⟨.glob, 0x39000208, 1, 0x8, 1, 0x8, 0⟩
  | .mcBankset => ⟨.glob, 0x33900000, 32, 0x1000, 2, 0x8, 0⟩
  | .dbgChal => ⟨.glob, 0x3E020040, 6, 0x8, 1, 0x8, 0⟩
  | .dbgResp => ⟨.glob, 0x3E020100, 25, 0x8, 1, 0x8, 0⟩
  | .soleTrdA => ⟨.glob, 0x37010000, 32, 0x1000, 1, 0x8, 1⟩
  | .soleTrdDst => ⟨.glob, 0x37010008, 32, 0x1000, 1, 0x8, 1⟩
  | .soleTrdCtl => ⟨.glob, 0x37010010, 32, 0x1000, 1, 0x8, 1⟩
  | .soleTrdPos => ⟨.glob, 0x37010018, 32, 0x1000, 1, 0x8, 1⟩
  | .soleSrdA => ⟨.glob, 0x37001000, 1, 0x8, 1, 0x8, 0⟩
  | .soleSrdDst => ⟨.glob, 0x37001008, 1, 0x8, 1, 0x8, 0⟩
  | .soleSrdCtl => ⟨.glob, 0x37001010, 1, 0x8, 1, 0x8, 0⟩
  | .soleSrdPos => ⟨.glob, 0x37001018, 1, 0x8, 1, 0x8, 0⟩
  | .pcrRing => ⟨.glob, 0x38003008, 1, 0x8, 1, 0x8, 0⟩
  | .laceCmplo => ⟨.glob, 0x38001008, 16, 0x20, 1, 0x8, 0⟩
  | .laceCmphi => ⟨.glob, 0x38001010, 16, 0x20, 1, 0x8, 0⟩
  | .pmbIdx => ⟨.glob, 0x3C000000, 2, 0x8, 1, 0x8, 0⟩
  | .pmbRing => ⟨.glob, 0x3C001000, 2048, 0x8, 1, 0x8, 0⟩
  | .pmbStage => ⟨.glob, 0x3C008000, 4096, 0x8, 1, 0x8, 0⟩
  | .ethRqcfg => ⟨.glob, 0x34200000, 16, 0x20000, 32, 0x1000, 0⟩
  | .ethTqcfg => ⟨.glob, 0x34200008, 16, 0x20000, 32, 0x1000, 0⟩
  | .ethRqidx => ⟨.glob, 0x34400000, 16, 0x20000, 32, 0x1000, 0⟩
  | .ethTqidx => ⟨.glob, 0x34400008, 16, 0x20000, 32, 0x1000, 0⟩
  | .xlMbcfg => ⟨.glob, 0x34050000, 32, 0x1000, 1, 0x8, 0⟩
  | .xlMbidx => ⟨.glob, 0x34090000, 32, 0x1000, 1, 0x8, 0⟩
  | .mbPayload => ⟨.glob, 0x34140000, 32, 0x1000, 7, 0x8, 0⟩
  | .mbGo => ⟨.glob, 0x34140040, 32, 0x1000, 1, 0x8, 0⟩
  | .mbStat => ⟨.glob, 0x34140048, 32, 0x1000, 1, 0x8, 0⟩
  | .voteValue => ⟨.glob, 0x34100000, 64, 0x1000, 4, 0x8, 0⟩
  | .voteRound => ⟨.glob, 0x34100020, 64, 0x1000, 1, 0x8, 0⟩
  | .voteResult => ⟨.glob, 0x34100040, 64, 0x1000, 1, 0x8, 0⟩
  | .voteAgreed => ⟨.glob, 0x34100060, 64, 0x1000, 4, 0x8, 0⟩
  | .swtPage => ⟨.glob, 0x38100000, 32, 0x1000, 512, 0x8, 0⟩
  | .traceSram => ⟨.glob, 0x38800000, 1048576, 0x8, 1, 0x8, 0⟩

end Sys2Proof.Machine
end

