-- ==== Sys2Proof/Machine/State.lean ====
section
/-! DEFINITION. The state of the block as plain data, and the state after reset. Sparse tables (`SMap`) list only
the entries that differ from their default: a core, trio or register that is not listed is as reset leaves it. -/

namespace Sys2Proof.Machine

/-- Why a command stops with a fault: for no reason. Every command has an effect in every state (assumption 33). -/
inductive Fault deriving DecidableEq, Repr

/-- Why a command is refused. -/
inductive Refusal where
  /-- Raised by an arm of `exec` that has no meaning yet. Safe: the machine stops. -/
  | notModelled (mnemonic : String)
  deriving DecidableEq, Repr

/-! ### One core -/

/-- The register sets that take traps (R103). -/
inductive TrapSet where
  | pl1 | fast | pl2 | pl3
  deriving DecidableEq, Repr

/-- A result on its way to its register (R43), or an armed pending-result record (R49). -/
structure PendRes where
  /-- The position at which the result becomes visible. Of results that become visible together the one later in the
  list wins: the list is in producer order (R45). -/
  vis : Nat
  /-- The register's key in `Arch.regs`; none when only flags are pending. -/
  reg : Option Nat
  val : Dword
  /-- Flags ORed into `FCSR` and `ASTAT` at the position (R47). -/
  fflags : BitVec 5
  aflags : BitVec 3
  /-- For an armed record: its set and its number, whose V bit clears at the application. -/
  rcd : Option (TrapSet × Fin 4)
  deriving DecidableEq, Repr

/-- The branch whose delay slot is the next position (R54, R467). -/
structure SlotSt where
  branch : Dword
  taken : Bool
  target : Dword
  annul : Bool
  deriving DecidableEq, Repr

/-- The integer iterative unit: magnitudes and the fields of `DIVST3` (R58). -/
structure IntUnit where
  a : Dword := 0
  b : Dword := 1
  x : Dword := 0
  ctl : Dword := 0
  deriving DecidableEq, Repr

/-- The floating-point iterative unit: operand bits and the fields of `DIVST7` (R58). -/
structure FpUnit where
  a : Dword := 0
  b : Dword := 0x3F800000
  x : Dword := 0
  ctl : Dword := 0
  deriving DecidableEq, Repr

/-- State of the running context on a core (R53, R256). `regs` holds g1-g31 at keys 1-31, f0-f31 at 32-63 and the
fast-bank g24-g31 at 64-71; `csr` holds the context's CSRs by number. -/
structure Arch where
  pc : Dword := 0
  posn : Nat := 0
  slot : Option SlotSt := none
  regs : SMap Dword := []
  pend : List PendRes := []
  csr : SMap Dword := []
  iu : IntUnit := {}
  fu : FpUnit := {}
  deriving DecidableEq, Repr

/-- A load-reserve reservation (R59): the physical address and the access size in bytes. -/
structure Resv where
  pa : BitVec 46
  size : Nat
  deriving DecidableEq, Repr

/-- Memory types (R141, R112). -/
inductive MemType where
  | wb | wt | uc | wc | devStrict | devRelaxed
  deriving DecidableEq, Repr

/-- An entry of the merging buffer (R114). -/
structure MergeEntry where
  line : LineAddr
  data : LineData
  mask : BitVec 64
  isOpen : Bool
  ty : MemType
  tid : Tid
  w : Bool
  deriving DecidableEq, Repr

/-- A resident L1 line: its way and its world tag (its data are those of the L2 line and the merging buffer, R111). -/
structure L1Line where
  line : LineAddr
  way : Nat
  w : Bool
  deriving DecidableEq, Repr

/-- A TLB entry: the doublewords of the table entry it copies, its set and its way (R144), and whether it is locked (R145). -/
structure TlbEntry where
  dw0 : Dword
  dw1 : Dword
  set : Nat
  way : Nat
  locked : Bool
  deriving DecidableEq, Repr

/-- A prefetch stream (R117): keyed by a load's PC, or by tenant and page (R118), with the lines that it has prefetched into
an L1D. -/
structure Stream where
  key : Nat
  last : Nat
  stride : Int := 0
  conf : Nat := 0
  fetched : List LineAddr := []
  deriving DecidableEq, Repr

/-- A TLBINV that some cores have not acknowledged (R154): those it has not reached, and those whose acknowledgement is on
its way. -/
structure InvOut where
  seq : Nat
  sel : InvSel
  await : List Nat
  acks : List Nat
  deriving DecidableEq, Repr

/-- An uncached access whose completion has not returned (R113). -/
structure DevAcc where
  pa : BitVec 46
  va : Dword
  size : Nat
  store : Bool
  signed : Bool
  reg : Nat
  word : Word
  /-- TAS.B: the access also writes 0xFF to its byte (R59). -/
  tas : Bool := false
  /-- The bytes of a load that the merging buffer supplies, lowest first (R115). -/
  held : List (Option Byte) := []
  /-- The flags of a sequence's earlier micro-operations, with their distances (R47, R63). -/
  flags : List (Nat × BitVec 5 × BitVec 3) := []
  deriving DecidableEq, Repr

/-- A call frame (R304) with what the forced return needs (R306): the level and return address of the MCALL. -/
structure CallFrame where
  regs : SMap Dword := []
  astat : Dword := 0
  fcsr : Dword := 0
  eprc : Dword := 0
  epr : List Dword := []
  level : BitVec 2 := 0
  ret : Dword := 0
  callNo : BitVec 12 := 0
  deriving DecidableEq, Repr

/-- What a core is doing. -/
inductive RunState where
  /-- powered off, held in reset, or in L2 retention -/
  | held
  /-- powered, with no context on its stream -/
  | idle
  | running
  /-- stopped in WAIT (R270) -/
  | waiting
  | nap
  | off
  deriving DecidableEq, Repr

/-- One core. `own` holds the core-owned CSRs (the PL2 and PL3 sets, `CSTAT_2`, `EDELEG`, `ESUB`) and what the Trio
Dispatcher loads at dispatch (`XID`). -/
structure Core where
  arch : Arch := {}
  own : SMap Dword := []
  run : RunState := .held
  halted : Bool := false
  stepOne : Bool := false
  /-- A halt waits at the debug access port until the core returns to W = 0 (R310). -/
  haltWait : Bool := false
  ctx : Option (Fin 64) := none
  resv : Option Resv := none
  merge : List MergeEntry := []
  /-- A FENCE.W holds later stores until the earlier ones are performed (R191). -/
  wfence : Bool := false
  /-- Posted stores that have left for a device and have no completion yet, oldest first (R465). -/
  posted : List (BitVec 46 × Tid) := []
  dev : Option DevAcc := none
  l1i : List L1Line := []
  l1d : List L1Line := []
  l1iRot : SMap Nat := []
  l1dRot : SMap Nat := []
  streams : List Stream := []
  itlb : List TlbEntry := []
  dtlb : List TlbEntry := []
  tlb2 : List TlbEntry := []
  itlbRot : Nat := 0
  dtlbRot : Nat := 0
  tlb2Rot : SMap Nat := []
  /-- The line in the single-line fetch buffer (R131, R466). -/
  fbuf : Option LineAddr := none
  wakeFlush : Bool := false
  /-- Lines that the core's maintenance has posted to be written back; those in WP still await WbAck (R128). -/
  wbs : List LineAddr := []
  /-- Maintenance by way or by set at level 1 or 2: when it began, and the nanoseconds that it lasts (R128, R266). -/
  maint : Option (Dword × Nat) := none
  invs : List InvOut := []
  invSeq : Nat := 0
  dirTab : SMap Nat := []
  btb : SMap (Nat × Dword) := []
  ras : List Dword := []
  /-- The position of the last push on the return stack (R94). -/
  rasAt : Option Nat := none
  /-- Positions whose first fetch is made while an older branch is unresolved (R98). -/
  spec : List Nat := []
  /-- The pipeline is frozen in the position it executes (R89). -/
  frozen : Bool := false
  key : Word := 0
  frame : Option CallFrame := none
  watch : Nat := 0
  /-- While a call runs, the time the watchdog counts from beyond `watch` (R305). -/
  wdFrom : Dword := 0
  intReq : List IntClass := []
  ptrNormal : Nat := 0
  ptrFast : Nat := 0
  ptrPl2 : Nat := 0
  bcastP : BitVec 8 := 0
  bcastA : BitVec 8 := 0
  lfsr : BitVec 20 := 1
  atoms : List Bool := []
  sinceSync : Nat := 0
  /-- The trace unit withholds the code that runs (R385). -/
  excl : Bool := false
  /-- The timebase of the last SYNC or TIME packet (R375). -/
  stamp : Dword := 0
  /-- Register writes that the later copies have yet to replay, each with its position (R220). -/
  replay : List (Nat × DebugReg × Dword) := []
  /-- The debugger's stores that a halted core performs at its resumption: address, size and value (R220). -/
  debugStores : List (Dword × Nat × Dword) := []
  deriving DecidableEq, Repr

/-! ### Caches and homes -/

/-- Line states at an agent (R170). -/
inductive LState where
  | m | o | e | s | wp
  deriving DecidableEq, Repr

/-- A line of an L2. -/
structure L2Line where
  line : LineAddr
  way : Nat
  st : LState
  data : LineData
  age : Nat
  w : Bool
  tid : Tid
  poison : Bool
  deriving DecidableEq, Repr

/-- The snoops of R172. -/
inductive Snp where
  | share | own | inv
  deriving DecidableEq, Repr

/-- A miss register filling for a line (R116), with the snoops it holds (R173). -/
structure MissReg where
  line : LineAddr
  tag : BitVec 6
  held : List Snp
  deriving DecidableEq, Repr

/-- The second-level cache of a trio and its agent (R109, R169). The masks are those that have arrived (R122). -/
structure L2 where
  lines : List L2Line := []
  superseded : List LineAddr := []
  miss : List MissReg := []
  answers : List (LineAddr × Snp) := []
  streams : List Stream := []
  ways : SMap (BitVec 16) := []
  wayO : BitVec 16 := 0xFFFF
  wayS : BitVec 16 := 0xFFFF
  lock : BitVec 16 := 0
  cleanNext : Option Dword := none
  deriving DecidableEq, Repr

/-- A line of the Memory-Side Cache. -/
structure MscLine where
  line : LineAddr
  way : Nat
  dirty : Bool
  data : LineData
  age : Nat
  w : Bool
  tid : Tid
  poison : Bool
  deriving DecidableEq, Repr

/-- The Memory-Side Cache: its lines and the masks that have arrived (R121, R122). -/
structure Msc where
  lines : List MscLine := []
  ways : SMap (BitVec 16) := []
  wayO : BitVec 16 := 0xFFFF
  wayS : BitVec 16 := 0xFFFF
  cleanNext : Option Dword := none
  deriving DecidableEq, Repr

/-- The requests of R171. -/
inductive ReqKind where
  | rdShared | rdOwn | upgrade
  deriving DecidableEq, Repr

/-- A request at a home: its input port and its message. -/
structure HomeReq where
  port : Nat
  kind : ReqKind
  msg : Msg
  deriving DecidableEq, Repr

/-- An open transaction (R168, R172): the agents whose answers it awaits, each with its snoop; those to be removed from the
entry; the data forwarded; and the memory read, with whether its data have returned. `listed`: the directory named the sender at
the start. -/
structure Txn where
  req : HomeReq
  await : List (AgentId × Snp)
  listed : Bool
  gone : List Nat := []
  fwd : Option (LineData × Bool) := none
  mem : LineData := 0
  memPsn : Bool := false
  memIn : Bool := false
  heldWb : List Msg := []
  deriving DecidableEq, Repr

/-- The holder states of a directory entry (R176): shared, exclusive, owned. -/
inductive DirSt where
  | s | x | o
  deriving DecidableEq, Repr

/-- A directory entry (R176): pointers with the owner first, or a broadcast die mask (R177). -/
structure DirEntry where
  line : LineAddr
  way : Nat
  st : DirSt
  ptrs : List AgentId
  bc : Bool
  dies : BitVec 13
  tid : Tid
  deriving DecidableEq, Repr

/-- A back-invalidation in the eviction buffer (R179). -/
structure EvictEntry where
  line : LineAddr
  tid : Tid
  await : List AgentId
  heldWb : List Msg := []
  deriving DecidableEq, Repr

/-- A home agent and its directory slice. -/
structure Home where
  queue : List HomeReq := []
  chain : List HomeReq := []
  txns : List Txn := []
  dir : List DirEntry := []
  evict : List EvictEntry := []
  notices : List (AgentId × Fin 4) := []
  dead : List AgentId := []
  /-- Lines poisoned by the reclaim in progress, with their tenants (R184). -/
  poisoned : List (Nat × Nat) := []
  correctedErr : Nat := 0
  doubleErr : Nat := 0
  superseded : Nat := 0
  deriving DecidableEq, Repr

/-- The kinds of coherence message the model records as sent and not yet arrived. -/
inductive MsgKind where
  | snpShare | snpOwn | snpInv | rspI | rspS | rspFwd | rspDirty
  | dataS | dataE | dataM | cmp | wbAck | wbDirty | memRead | agentDead
  deriving DecidableEq, Repr

/-- A message sent: its kind, the agent it travels to or from, its line, and the data it carries with their poison and W1. -/
structure Sent where
  kind : MsgKind
  agent : AgentId
  line : LineAddr
  data : LineData := 0
  psn : Bool := false
  w1 : Bool := false
  /-- The TID and W of the request, or of the line that is written back; NC of a request, and H of a load (R120, R161). -/
  tid : Tid := 0
  w : Bool := false
  nc : Bool := false
  h : Bool := false
  deriving DecidableEq, Repr

/-- A frame being allocated on demand for a tenant (R156, R157), and the allocations of the same entry that wait behind it, each with
the doubleword 0 that it matched (R158). `popping`: the frame is still being taken from the pool. -/
structure ZeroFill where
  frame : BitVec 34
  entry : BitVec 46
  store : Bool
  tid : Tid := 0
  chained : List Dword := []
  popping : Bool := false
  deriving DecidableEq, Repr

/-- A posted store that its home has refused, to be recorded at the end of the step (R465). -/
structure PostFail where
  tid : Tid
  pa : Nat
  cause : Nat
  sub : Nat
  deriving DecidableEq, Repr

/-! ### Contexts and trios -/

/-- The states of a slot (R252). -/
inductive CtxState where
  | free | dormant | ready | running | waiting | suspended | faulted
  deriving DecidableEq, Repr

/-- A detached access (R260). -/
structure DetAcc where
  acc : DevAcc
  failed : Bool
  deriving DecidableEq, Repr

/-- One slot of a context store (R256). `desc` is the descriptor copy, `eff` the field values in force (R290). -/
structure Slot where
  state : CtxState := .free
  desc : List Dword := []
  eff : List Dword := []
  arch : Arch := {}
  nested : SMap Dword := []
  events : Word := 0
  waitMask : Word := 0
  waitReg : Nat := 0
  handle : BitVec 12 := 0
  tid : Tid := 0
  ws : Bool := false
  det : Option DetAcc := none
  mig : Option (DieId × Fin 6) := none
  stream : Option (Fin 3) := none
  remain : Nat := 0
  used : Nat := 0
  /-- When it last became Ready (R262). -/
  readyAt : Dword := 0
  /-- While it runs, the time its budget is charged from (R267). -/
  since : Dword := 0
  fdone : Bool := false
  /-- The deadline of the current period has been checked (R241). -/
  late : Bool := false
  frame : Option CallFrame := none
  watch : Nat := 0
  /-- The queue whose KILL waits for the response of a detached access (R276); 33 and 34 are the rings of the
  Policy Mailbox. -/
  killQ : Option (Fin 35) := none
  deriving DecidableEq, Repr

/-- The window in force on a trio (R234). -/
inductive WinSt where
  | none | housekeeping | entry (n : Fin 16) | outside
  deriving DecidableEq, Repr

/-- The record of a logical trio in a season (R234): its header and its sixteen window entries. -/
structure TrioRec where
  hdr : Dword := 0
  win : List Dword := []
  deriving DecidableEq, Repr

/-- One physical trio: its Trio Dispatcher, its checking hardware and its L2. -/
structure Trio where
  slots : SMap Slot := []
  rcd : TrioRec := {}
  shadow : Option TrioRec := none
  window : WinSt := .none
  tickAt : Dword := 0
  parked : Bool := false
  /-- The wrong item that waits for its group: one copy's, or none where no two of three agree (R202, R214). -/
  inj : Option (Option (Fin 3) × Fin 32) := none
  /-- What the copies' latent differences change in their state digests, by copy (R204). -/
  skew : SMap Word := []
  welt : List (Fin 3 × WeltIn) := []
  retention : Bool := false
  l2 : L2 := {}
  /-- Lines carried this frame by window entry: key 2 × entry, plus 1 for reserved (R391). -/
  bww : SMap Nat := []
  modePend : Bool := false
  /-- The logical trio it served when it was lost with no spare left (R243). -/
  wasLog : Option (Fin 6) := none
  deriving DecidableEq, Repr

/-! ### The I/O die -/

/-- The Frame Tick Unit beyond its registers (R222-R228). -/
structure Ftu where
  tickAt : Dword := 0
  good : Nat := 0
  bad : Nat := 0
  first : Bool := false
  slew : Int := 0
  hold : Nat := 0
  phase : Nat := 0
  /-- The frame that runs has been corrected by its one unit (R226). -/
  corrected : Bool := false
  /-- The two copies of the tick counter (R228). -/
  ticks : Nat := 0
  ticksB : Nat := 0
  ignored : Nat := 0
  /-- The units at which the last tick has arrived (R229). -/
  arrived : List TickUnit := []
  deriving DecidableEq, Repr

/-- A cut (R244, R246): the tenant, the sub-cause, the reason, the resource, the beneficiary and the window entries of its
record, the amounts before and after, and for a budget the handle of its context. `pend`: it takes effect at the next frame
boundary (R245). `lean`: made only for a forced Lean. -/
structure Cut where
  tid : Tid
  sub : Byte
  reason : BitVec 4
  isChan : Bool
  res : BitVec 7
  ben : BitVec 6
  wins : BitVec 16
  before : Nat
  after : Nat
  handle : Nat
  pend : Bool
  lean : Bool
  deriving DecidableEq, Repr

/-- A substitution in progress (R287). -/
structure Subst where
  die : DieId
  log : Fin 6
  old : TrioId
  cause : SubstCause
  copied : Bool
  deriving DecidableEq, Repr

/-- The Global Context Engine beyond its registers: the season store (tables by doubleword index), a load in progress, the
season in force, cuts and substitutions. Trio records are numbered 6d + k (R231). -/
structure Gce where
  store : SMap (SMap Dword) := []
  /-- The line and the season slot of a load in progress (R238). -/
  load : Option (Nat × Nat) := none
  /-- A season has been activated. -/
  live : Bool := false
  pendFrames : Nat := 0
  /-- The tick at which the records and credits held in shadow are swapped in (R240). -/
  actTick : Nat := 0
  /-- The season that a forced Lean activates at the next major-frame boundary (R245). -/
  lalt : Option Nat := none
  credits : SMap Dword := []
  shadowCredits : Option (SMap Dword) := none
  /-- Credits that take effect at the next frame boundary (R245). -/
  creditPend : Option (SMap Dword) := none
  /-- The records in force or taking effect at the next frame boundary, by record number (R243). -/
  eff : SMap TrioRec := []
  /-- Records that the next frame boundary hands to their trios. -/
  dirty : List Nat := []
  parked : List Nat := []
  /-- Records that have lost their trio, or its redundancy. -/
  gone : List Nat := []
  /-- Losses to be resolved when the logical trio would next become active, with their reasons (R243). -/
  waiting : List (Nat × Nat) := []
  /-- Contexts that leave a trio for a host at the next frame boundary (R288). -/
  hosts : List (TrioId × Nat) := []
  /-- A forced Lean has been resolved; its cuts are withdrawn at the next frame boundary. -/
  lean : Bool := false
  leanOff : Bool := false
  /-- The queue at which the rotation of the command queues goes on (R281). -/
  turn : Nat := 0
  slackOff : Word := 0
  cuts : List Cut := []
  subst : List Subst := []
  tick : Dword := 0
  fqSeq : SMap Nat := []
  fqPh : SMap Bool := []
  deriving DecidableEq, Repr

/-- What a step raises for the end of the step: a rising edge at a source, a level line's change. -/
inductive Raised where
  | edge (s : Nat)
  | level (s : Nat) (on : Bool)
  deriving DecidableEq, Repr

/-- Whose event it is, which decides how a discarded one counts: a SIGNAL of a tenant, issued at PL2 or above or below it
(R272), an event source with a route of a tenant (R322), a notification of a tenant's handle (R282). -/
inductive Origin where
  | signal (tid : Nat) (high : Bool)
  | route (tid : Nat)
  | note (tid : Nat)
  deriving DecidableEq, Repr

/-- An event on its way to a context (R275). -/
structure Flight where
  cid : Nat
  ev : Nat
  org : Origin
  deriving DecidableEq, Repr

/-- The Event Gatherer beyond its registers: capture latches and level lines by group, the events on their way to
contexts, and what the step in progress has raised (the model's own; empty between steps). -/
structure Evg where
  raised : List Raised := []
  flight : List Flight := []
  latch : SMap Word := []
  line : SMap Word := []
  /-- Level lines whose current assertion has posted its event (R322). -/
  seen : SMap Word := []
  deriving DecidableEq, Repr

/-- A memory controller beyond its registers. -/
structure Mc where
  /-- The usable capacity in GiB that its training found; none while it has not passed (R326, R328). -/
  trained : Option Nat := none
  /-- The write queues of its subchannels, oldest first (R344). -/
  writeQ : List (Bool × LineAddr) := []
  /-- Reserved reads that wait for their activate, oldest first (R343). -/
  resWait : List LineAddr := []
  /-- Reserved reads that the next write batch must let pass (R344). -/
  owed : List LineAddr := []
  /-- Reserved reads whose bank is open. -/
  actives : List LineAddr := []
  demoted : Bool := false
  /-- When the uncorrectable errors of the last second happened (R331). -/
  ueTimes : List Dword := []
  retries : Nat := 0
  scrubAt : Nat := 0
  refreshPost : SMap Nat := []
  counts : SMap Nat := []
  /-- Reads open at the controller: the port, the line, and whether it is reserved (R341). -/
  openReqs : List (Fin 13 × LineAddr × Bool) := []
  deriving DecidableEq, Repr

/-- The security block beyond its registers: the Expert challenge, the nonces used, the anti-rollback count. -/
structure Sec where
  /-- The Expert challenge that awaits its response (R442). -/
  expert : List Byte := []
  nonces : Nat := 0
  arb : Nat := 0
  svcTrioFailed : Bool := false
  /-- The Sealed monitor has completed its start since the last reset (`SEC_STAT.SVC`). -/
  started : Bool := false
  sealCounter : Dword := 0
  /-- The response that is being verified (R311). -/
  dbgResp : List Byte := []
  deriving DecidableEq, Repr

/-- One receiver of a link beyond its registers (R161-R164): the sequence number it expects, the last ACK it took, whether its
NAK stands, and the NAKs in a row that it has sent and received for one flit. -/
structure Plink where
  expect : BitVec 12 := 0
  acked : BitVec 12 := 0
  nakSent : Bool := false
  naks : Nat := 0
  nakIn : Nat := 0
  /-- The end's replay buffer (R163): the flits it has sent that no ACK covers, and the SEQ of its next new one. -/
  unacked : List Flit := []
  next : BitVec 12 := 0
  /-- The flit from which a NAK asks it to send again. -/
  resend : Option (BitVec 12) := none
  /-- The credits returned to it, by class (R161, R162). -/
  credits : SMap Nat := []
  deriving DecidableEq, Repr

/-- A remote access awaiting its completion (R366). -/
structure Remote where
  tag : Nat
  core : CoreId
  tid : Tid
  store : Bool
  pa : BitVec 46
  deriving DecidableEq, Repr

/-- The messages of an external link (R360). -/
inductive XKind where
  | identity | accept | refuse | depart | echo | mailbox | vote | tick | read | write | completion | readData
  deriving DecidableEq, Repr

/-- A message sent on an external link: its kind and what it carries. -/
structure XlMsg where
  kind : XKind
  data : List Dword
  deriving DecidableEq, Repr

/-- An external link beyond its registers (R361-R369). `mbox` lists the mailbox sends awaiting their answer, `sent` the
messages sent, `held` a message that a reordering injector holds for the next of its class (R370). -/
structure Xl where
  flits : Plink := {}
  sentAccept : Bool := false
  gotAccept : Bool := false
  gotRefuse : Bool := false
  echoes : Nat := 0
  echoSum : Nat := 0
  partner : LineData := 0
  remote : List Remote := []
  nextTag : Nat := 0
  mbox : List (Nat × Tid) := []
  sent : List XlMsg := []
  held : List XlMsg := []
  deriving DecidableEq, Repr

/-- A vote channel beyond its page (R368): the current round, whether it awaits its decision, and the contributions held. -/
structure Vote where
  round : Option Word := none
  undecided : Bool := false
  contrib : List (BitVec 2 × Word × BitVec 256) := []
  deriving DecidableEq, Repr

/-- Links, quads, MACs, root ports and the command port beyond their registers. -/
structure Links where
  plinkIo : SMap Plink := []
  plinkDie : SMap Plink := []
  xl : SMap Xl := []
  votes : SMap Vote := []
  /-- The lanes, 4q + l, whose MAC has its link up (R356). -/
  ethUp : BitVec 32 := 0
  ethSent : List (Fin 16 × List Byte) := []
  ethDrop : SMap Nat := []
  rpUp : BitVec 32 := 0
  rpThere : BitVec 32 := 0
  cpUp : Bool := false
  cpPerst : Bool := true
  /-- The MSI-X tables: vector v of VF t holds its address at 8t + 2v, its data at 8t + 2v + 1, with
  bit 32 set while the vector is not masked. -/
  msix : SMap Dword := []
  msixPba : SMap Byte := []
  msixSent : List (Nat × Nat) := []
  vfBar : SMap Nat := []
  /-- The phase of each mailbox ring (R367). -/
  mbPh : SMap Bool := []
  /-- Frames that a reordering injector holds, by MAC and traffic class (R370). -/
  ethHeld : SMap (List Byte) := []
  fiCount : SMap Nat := []
  deriving DecidableEq, Repr

/-- Lace and the Performance Counter Reader beyond their registers. `out` holds packets on their way from their sources to the
funnel. -/
structure Lace where
  /-- The queues of the funnel nodes: the compute dies by number, and 12 the root (R380). -/
  queues : SMap (List Packet) := []
  /-- Packets discarded and not yet told by a LOST packet: node, source and count, the oldest loss first (R381). -/
  lost : List (Nat × Nat × Nat) := []
  /-- The LOST packets in the entries kept for them. -/
  kept : SMap (List Packet) := []
  out : List Packet := []
  partialLine : List Dword := []
  lossSeen : Bool := false
  full : Bool := false
  pcrTicks : Nat := 0
  dumping : Bool := false
  dumpSeq : Nat := 0
  pcrPh : Bool := true
  bank : SMap Dword := []
  deriving DecidableEq, Repr

/-- The supply monitor, the governor and the lands beyond the registers. -/
structure Power where
  beyond : SMap Nat := []
  dipStart : Dword := 0
  warnings : Nat := 0
  supplyReset : Bool := true
  overVolt : Bool := false
  everUp : Bool := false
  /-- The reason of a snapshot whose capture has begun (R422). -/
  snapBuf : Option Byte := none
  leanPend : Bool := false
  runPend : Bool := false
  /-- Lean is in force (R402). -/
  lean : Bool := false
  /-- Standby has been asked for; the module is in Standby (R409). -/
  standbyAsk : Bool := false
  standby : Bool := false
  alarm : Bool := true
  therm : Bool := false
  pwrGood : Bool := false
  ftickOut : Nat := 0
  ppsOut : Nat := 0
  refLost : Bool := false
  tjPeak : Int := 0
  eqFrac : SMap Nat := []
  straps : Straps := ⟨0, 0, false⟩
  hotDies : SMap Int := []
  domReq : SMap Dword := []
  deriving DecidableEq, Repr

/-- One area of Sole: its position and its open link (R419, R428). -/
structure SoleArea where
  next : Nat := 0
  wrap : Bool := false
  seq : BitVec 13 := 0
  ph : Bool := true
  link : List (List Dword) := []
  prevTag : Dword × Dword := (0, 0)
  /-- The token bucket's level in 10⁻⁸ tokens (none: full), and when it was last brought up to date (R421). -/
  tokens : Option Nat := none
  tokAt : Dword := 0
  supp : Nat := 0
  deriving DecidableEq, Repr

/-- Sole: the records by area × 2^20 + index, the areas, the staging buffer and the configuration image. -/
structure Sole where
  recs : SMap (List Dword) := []
  areas : SMap SoleArea := []
  staging : List (Nat × List Dword) := []
  failed : Nat := 0
  badMap : List Nat := []
  /-- The configuration image as last saved: registers by offset. -/
  cfg : SMap Dword := []
  /-- `LIFE_MOD.PHRS` at the last refresh. -/
  lastRefresh : Nat := 0
  /-- The copies in progress: the engine, 0 the system's, and the world that started it. -/
  reads : List (Nat × Bool) := []
  deriving DecidableEq, Repr

/-- Boot, the Policy Mailbox and Awl beyond the registers. -/
structure Boot where
  flash : SMap Byte := []
  /-- The boot store's bytes (R430). -/
  store : SMap Byte := []
  /-- Awl's rate, by the index of R443. -/
  baud : Nat := 0
  /-- The SEQ of the last request that Awl executed, and its response (R444). -/
  lastSeq : Option Byte := none
  lastResp : List Byte := []
  /-- The frames that Awl has sent. -/
  awlOut : List (List Byte) := []
  tap : JtagIr := .bypass
  /-- How far the boot has come (R431): 0 self-test to start, 1 in it, 2 waiting for a staged set, 3 set to be read, 4 Sealed
  monitor starting, 5 channels training, 6 dies starting, 7 self-tests running, 8 season 0 loading, 9 its activation pending,
  10 done or ended. -/
  phase : Nat := 0
  /-- The set that boots was staged by the command port or Awl (R435). -/
  staged : Bool := false
  /-- The images of the set in use, as read and tested: type, header and payload (R433, R434). -/
  images : List (Nat × List Byte × List Byte) := []
  /-- The OP that Cobbler has begun and not completed, by ring of the Policy Mailbox (R437); 0 none. -/
  busy : SMap Nat := []
  deriving DecidableEq, Repr

/-- What the last access or command answered to its requester (the model's own record of the completion). -/
inductive Resp where
  | none
  | ok (v : Dword)
  | err (sub : Byte)
  | data (l : List Dword)
  deriving DecidableEq, Repr

/-- The state of the block. -/
structure State where
  /-- The commands that wait, first in, first out. -/
  pending : List Instr := []
  /-- The module timebase, in 10 ns units. -/
  timebase : Dword := 0
  /-- The registers of the Module Configuration Space, by offset; an unlisted one holds its Reset value. -/
  mcs : SMap Dword := []
  /-- The cores, by `CoreId`. -/
  cores : SMap Core := []
  /-- The physical trios, by `TrioId`. -/
  trios : SMap Trio := []
  /-- DRAM, byte by byte (canonical: addresses strictly rising, no entry 0). -/
  mem : List Host.Cell := []
  /-- The lines marked poisoned in DRAM, strictly rising. -/
  poison : List Nat := []
  msc : Msc := {}
  homes : SMap Home := []
  /-- Coherence messages sent and not yet arrived, in the order of sending. -/
  net : List Sent := []
  /-- The coherent buffers of the I/O-die agents 0x55 to 0x57 (R169). -/
  ioBuf : SMap L2 := []
  /-- What homes have refused of posted stores, to be recorded at the step's end (the model's own). -/
  refusals : List PostFail := []
  fills : List ZeroFill := []
  ftu : Ftu := {}
  gce : Gce := {}
  evg : Evg := {}
  mcc : SMap Mc := []
  sec : Sec := {}
  links : Links := {}
  lace : Lace := {}
  power : Power := {}
  sole : Sole := {}
  boot : Boot := {}
  /-- The counter that free values are drawn with (the model's own). -/
  free : Nat := 0
  /-- The last completion (the model's own). -/
  resp : Resp := .none
  deriving DecidableEq, Repr

/-- The service trio's core at reset: it runs the boot ROM from its first byte (R28, R431), untranslated, so at PL3 with W = 1
(DEDUCED, assumption 4). -/
def Core.svcReset : Core := { arch := { pc := 0x3FFFFFF00000, csr := [(0x100, 0x38)] }, run := .running }

/-- The machine right after reset: power-on reset released for the first time (R405), the service trio in Voted mode about to
execute the boot ROM, every compute die Off, no seasons. The two cores of the service trio beside core 0 are its copies (R18).
`RST_CAUSE` and the staged record tell of a first power-up (R405, R418). -/
def State.reset : State :=
  { cores := [(252, Core.svcReset), (253, Core.svcReset), (254, Core.svcReset)]
    mcs := [(0x36000208, 0x100000100), (0x3D050000, 0x600032)]
    sole := { staging := [(0, [0x0006807FFFFFC000, 0, 0, 0, 1, 0, 0, 0])] }
    power := { supplyReset := false, pwrGood := true, everUp := true } }

end Sys2Proof.Machine
end

