-- ==== Sys2Proof/Machine/Regs.lean ====
section
/-! DEFINITION. Access to the parts of the state: cores, trios, homes, and the registers of the Module Configuration
Space by name; the write of a register's fields by access code (R5). -/

namespace Sys2Proof.Machine

/-! ### The parts of the state -/

/-- Core `c`. -/
def State.core (s : State) (c : Nat) : Core := SMap.get {} s.cores c
/-- The state with core `c` set. -/
def State.setCore (s : State) (c : Nat) (k : Core) : State := { s with cores := SMap.put {} s.cores c k }
/-- The state with core `c` changed. -/
def State.modCore (s : State) (c : Nat) (f : Core → Core) : State := s.setCore c (f (s.core c))
/-- Physical trio `t`. -/
def State.trio (s : State) (t : Nat) : Trio := SMap.get {} s.trios t
/-- The state with trio `t` set. -/
def State.setTrio (s : State) (t : Nat) (k : Trio) : State := { s with trios := SMap.put {} s.trios t k }
/-- The state with trio `t` changed. -/
def State.modTrio (s : State) (t : Nat) (f : Trio → Trio) : State := s.setTrio t (f (s.trio t))
/-- The home agent of channel `h`. -/
def State.home (s : State) (h : Nat) : Home := SMap.get {} s.homes h
/-- The state with home `h` changed. -/
def State.modHome (s : State) (h : Nat) (f : Home → Home) : State :=
  { s with homes := SMap.put {} s.homes h (f (s.home h)) }
/-- Memory controller `m`. -/
def State.mc (s : State) (m : Nat) : Mc := SMap.get {} s.mcc m
/-- The state with controller `m` changed. -/
def State.modMc (s : State) (m : Nat) (f : Mc → Mc) : State := { s with mcc := SMap.put {} s.mcc m (f (s.mc m)) }
/-- An agent's lines (R169): the L2 of a trio, or the coherent buffer of an agent of the I/O die. -/
def State.l2At (s : State) (a : Nat) : L2 := if a ≤ 84 then (s.trio a).l2 else SMap.get {} s.ioBuf a
/-- The state with an agent's lines changed. -/
def State.modL2 (s : State) (a : Nat) (f : L2 → L2) : State :=
  if a ≤ 84 then s.modTrio a (fun k => { k with l2 := f k.l2 }) else { s with ioBuf := SMap.put {} s.ioBuf a (f (s.l2At a)) }
/-- The state with the last completion set. -/
def State.answer (s : State) (r : Resp) : State := { s with resp := r }

/-- The trio of a core (R373's numbering). -/
def trioOf (c : Nat) : Nat := c / 3
/-- The core's number within its trio. -/
def coreIn (c : Nat) : Nat := c % 3
/-- Core `k` of trio `t`. -/
def coreNo (t k : Nat) : Nat := 3 * t + k
/-- The compute die of a physical trio; 12 is the I/O die. -/
def dieOf (t : Nat) : Nat := t / 7
/-- The service trio. -/
def svcTrio : Nat := 84

/-! ### Registers -/

/-- A register of the space: which, its trio or die, and its indices. -/
structure RegRef where
  reg : Reg
  z : Nat := 0
  i : Nat := 0
  j : Nat := 0
  deriving DecidableEq, Repr

/-- The base of a trio's block (R31). -/
def trioBase (t : Nat) : Nat := if t = svcTrio then 0x3D000000 else 0x04000000 * (t / 7) + 0x00100000 * (t % 7)

/-- The base a zone's registers count from. -/
def zoneBase (zn : Zone) (z : Nat) : Nat :=
  match zn with
  | .glob => 0
  | .trio => trioBase z
  | .die => 0x04000000 * z

/-- A register's offset in the space. -/
def RegRef.off (r : RegRef) : Nat :=
  let p := r.reg.place
  zoneBase p.zone r.z + p.base + r.i * p.s1 + r.j * p.s2

/-- The indices at which a place holds the doubleword at offset `rel` of its zone, if it does. -/
def Place.find (p : Place) (rel : Nat) : Option (Nat × Nat) :=
  if rel < p.base then none
  else
    let r := rel - p.base
    let i := r / p.s1
    let j := (r % p.s1) / p.s2
    if p.first ≤ i ∧ i < p.n1 ∧ j < p.n2 ∧ (r % p.s1) % p.s2 < 8 then some (i, j) else none

/-- The first register of a list that holds the doubleword at `rel`. -/
def findReg (rs : List Reg) (z rel : Nat) : Option RegRef :=
  match rs with
  | [] => none
  | r :: rest =>
    match r.place.find rel with
    | some (i, j) => some ⟨r, z, i, j⟩
    | none => findReg rest z rel

/-- The register that holds the byte at an offset of the space; fault-injector index 15 does not exist (R370). -/
def regAt (off : Nat) : Option RegRef :=
  if off < 0x30000000 then
    let d := off / 0x04000000
    let rel := off % 0x04000000
    if rel < 0x00700000 then findReg regsTrio (7 * d + rel / 0x00100000) (rel % 0x00100000)
    else findReg regsDie d rel
  else if off / 0x00100000 = 0x3D0 then findReg regsTrio svcTrio (off % 0x00100000)
  else
    match findReg (regsOf (off / 0x01000000)) 0 off with
    | some r =>
      if r.i = 15 ∧ (r.reg = .fiCtl ∨ r.reg = .fiMatch ∨ r.reg = .fiCnt) then none else some r
    | none => none

/-- The level sources of the Event Gatherer: sources 0, 2 and 3 of group 0 (R313) and indices 6, 8 and 9 of the memory
channels' groups 2 to 13 (R349's table); every other source is an edge source. -/
def levelSource (s : Nat) : Bool :=
  if s < 32 then s = 0 || s = 2 || s = 3
  else decide (64 ≤ s ∧ s < 448) && (s % 32 = 6 || s % 32 = 8 || s % 32 = 9)

/-- A register's value after a reset it does not survive (R9): the Reset column's fields; the first contents of fields
loaded from Sole are those of a module with nothing recorded (R33, assumption 2). -/
def RegRef.dflt (r : RegRef) : Dword :=
  match r.reg with
  | .trioMap => 0x2C688
  | .plinkStatus => 0x3FF000
  | .tntCfg => if r.i = 0 then 0 else 6
  | .evgRoute => if levelSource (32 * r.i + r.j) then 0x2000000000001FFF else 0x1FFF
  | _ => r.reg.fields.foldl (fun (a : Dword) f => setFld a f.hi f.lo f.rst) 0

/-- A register's value. -/
def State.reg (s : State) (r : RegRef) : Dword := SMap.get r.dflt s.mcs r.off
/-- The state with a register's value set. -/
def State.setReg (s : State) (r : RegRef) (v : Dword) : State := { s with mcs := SMap.put r.dflt s.mcs r.off v }
/-- A field of a register. -/
def State.rf (s : State) (r : RegRef) (hi lo : Nat) : Nat := fld (s.reg r) hi lo
/-- The state with a field of a register set. -/
def State.setRf (s : State) (r : RegRef) (hi lo v : Nat) : State := s.setReg r (setFld (s.reg r) hi lo v)
/-- A field raised by one, saturating at its width. -/
def State.incRf (s : State) (r : RegRef) (hi lo : Nat) : State :=
  s.setRf r hi lo (satAdd (s.rf r hi lo) 1 (hi + 1 - lo))

/-- Whether a register's RWL fields are locked: the lock conditions that the maps state. -/
def State.locked (s : State) (r : RegRef) : Bool :=
  match r.reg with
  | .cdtCtl | .cdtSlot | .cdtUop => s.rf ⟨.cdtCtl, 0, 0, 0⟩ 0 0 = 1
  | .ftuCfg => s.rf ⟨.seasonCtl, 0, 0, 0⟩ 3 3 = 1
  | .limClassaMin | .limCap => s.rf ⟨.limCap, 0, 0, 0⟩ 63 63 = 1
  | .seasonCtl => s.rf r 3 3 = 1
  | .sealRange | .secCtl => s.rf ⟨.secCtl, 0, 0, 0⟩ 21 21 = 1
  | .mcCfg => s.rf r 32 32 = 1
  | _ => false

/-- One field after a write of `v` (R5); an action field (WO) and a claim field (RC) hold nothing. -/
def Field.written (f : Field) (lock : Bool) (old v : Dword) : Dword :=
  match f.acc with
  | .rw => setFld old f.hi f.lo (fld v f.hi f.lo)
  | .rwl => if lock then old else setFld old f.hi f.lo (fld v f.hi f.lo)
  | .w1c => old &&& ~~~ (v &&& fldMask 64 f.hi f.lo)
  | .w1s => old ||| (v &&& fldMask 64 f.hi f.lo)
  | .ro | .rc | .wo => old

/-- All of a register's fields after a write of `v`; Reserved bits ignore it (R8). -/
def writeFields (fs : List Field) (lock : Bool) (old v : Dword) : Dword :=
  fs.foldl (fun (a : Dword) f => f.written lock a v) old

/-- The state after the fields of a register are written by their access codes. -/
def State.writeReg (s : State) (r : RegRef) (v : Dword) : State :=
  s.setReg r (writeFields r.reg.fields (s.locked r) (s.reg r) v)

/-! ### Names of trios and contexts -/

/-- The logical trio that physical trio `t` serves (R33): the first LOGk that names it. -/
def State.logOf (s : State) (t : Nat) : Option Nat :=
  if t < svcTrio then
    let m := s.reg ⟨.trioMap, 0, t / 7, 0⟩
    findFrom (fun k => decide (fld m (3 * k + 2) (3 * k) = t % 7)) 6 0
  else none

/-- The physical trio behind logical trio `k` of die `d`; none where LOGk reads 7 (R33). -/
def State.physOf (s : State) (d k : Nat) : Option Nat :=
  let v := s.rf ⟨.trioMap, 0, d, 0⟩ (3 * k + 2) (3 * k)
  if d < 12 ∧ k < 6 ∧ v < 7 then some (7 * d + v) else none

/-- A context ID (R19). -/
def mkCid (die trio slot : Nat) : Nat := 512 * die + 64 * trio + slot

/-- The context ID of slot `sl` of physical trio `t`; a trio lost with no spare left keeps the IDs of its contexts (R243);
0x1FFF where the trio never served a logical trio. -/
def State.cidOf (s : State) (t sl : Nat) : Nat :=
  match (s.logOf t).or ((s.trio t).wasLog.map (·.val)) with
  | some k => mkCid (t / 7) k sl
  | none => 0x1FFF

/-- The physical trio and the slot that a context ID names; none for an invalid die or trio field (R19) or a logical trio
with no physical trio behind it. -/
def State.ofCid (s : State) (cid : Nat) : Option (Nat × Nat) :=
  match s.physOf (cid / 512 % 16) (cid / 64 % 8) with
  | some t => some (t, cid % 64)
  | none => none

/-- A rising edge at a source, for the end of the step. -/
def State.raise (s : State) (n : Nat) : State := { s with evg := { s.evg with raised := s.evg.raised ++ [.edge n] } }
/-- A level line's change, for the end of the step. -/
def State.setLine (s : State) (n : Nat) (on : Bool) : State :=
  { s with evg := { s.evg with raised := s.evg.raised ++ [.level n on] } }
/-- An event sets out for a context (R275). -/
def State.post (s : State) (cid ev : Nat) (org : Origin) : State :=
  { s with evg := { s.evg with flight := s.evg.flight ++ [⟨cid, ev, org⟩] } }

/-- `f` applied for each number below `n`, in rising order. -/
def forN (n : Nat) (f : Nat → State → State) (s : State) : State := (List.range n).foldl (fun s i => f i s) s

/-- The module is held in power-on reset, or in Standby: nothing but the always-on island works (R399, R409). -/
def State.down (s : State) : Bool := s.power.supplyReset || s.power.standby
/-- `DIE_STATUS[d]`. -/
def dieStatR (d : Nat) : RegRef := ⟨.dieStatus, 0, d, 0⟩
/-- A physical trio is powered (R17, R468). -/
def State.powered (s : State) (t : Nat) : Bool := t = svcTrio || bit (s.reg (dieStatR (t / 7))) (8 + t % 7)
/-- The module is in its safe state (R25). -/
def State.safe (s : State) : Bool := s.rf ⟨.modIdent, 0, 0, 0⟩ 0 0 = 1
/-- `DIE_STATUS.STATE`. -/
def State.dieState (s : State) (d : Nat) : Nat := s.rf (dieStatR d) 2 0

end Sys2Proof.Machine
end

