-- ==== Sys2Proof/Machine/Inject.lean ====
section
/-! DEFINITION. Fault injectors (R370), and the messages that leave on the external links (R360). -/

namespace Sys2Proof.Machine

/-! ### Injectors -/

/-- `FI_CTL[i]`. -/
def fiCtlR (i : Nat) : RegRef := ⟨.fiCtl, 0, i, 0⟩
/-- `FI_CNT[i]`. -/
def fiCntR (i : Nat) : RegRef := ⟨.fiCnt, 0, i, 0⟩
/-- `FI_MATCH[i]`. -/
def fiMatchR (i : Nat) : RegRef := ⟨.fiMatch, 0, i, 0⟩

/-- The 16-bit Fibonacci LFSR with taps 16, 14, 13 and 11, tap n being bit n - 1 (DEDUCED: shifted as the sampler of R383). -/
def lfsr16 (x : BitVec 16) : BitVec 16 := (x <<< 1) ||| (if bit x 15 ^^ bit x 13 ^^ bit x 12 ^^ bit x 10 then 1 else 0)

/-- A unit of class `cls`, with its first four bytes, passes injector `i` (R370): the action when the injector fires. The count
of TRIG 0 starts afresh at a firing (DEDUCED). -/
def State.inject (s : State) (i cls : Nat) (head : Word) : State × Option Nat :=
  let c := s.reg (fiCtlR i)
  if !(bit c 0 && bit c (1 + cls)) then (s, none)
  else
    let n := SMap.get 0 s.links.fiCount i + 1
    let x := lfsr16 (BitVec.ofNat 16 (fld c 47 32))
    let m := s.reg (fiMatchR i)
    let fires := match fld c 13 12 with
      | 1 => decide (x.toNat < fld c 63 48)
      | 2 => decide (head.toNat &&& fld m 63 32 = fld m 31 0)
      | _ => decide (max 1 (fld c 31 16) ≤ n)
    let s := if fld c 13 12 = 1 then s.setRf (fiCtlR i) 47 32 x.toNat else s
    let s := { s with links := { s.links with fiCount := SMap.put 0 s.links.fiCount i (if fires then 0 else n) } }
    if fires then
      let s := s.incRf (fiCntR i) 31 0
      (if bit c 15 then s else s.setRf (fiCtlR i) 0 0 0, some (fld c 11 10))
    else (s, none)

/-! ### External links -/

/-- `XL_STATUS[k]`. -/
def xlStatusR (k : Nat) : RegRef := ⟨.xlStatus, 0, k, 0⟩
/-- The state of an external link (R361). -/
def State.xlState (s : State) (k : Nat) : Nat := s.rf (xlStatusR k) 3 0
/-- A link that carries traffic: Active, Replay or Retrain (R361). -/
def State.xlUp (s : State) (k : Nat) : Bool := let st := s.xlState k; st = 4 || st = 5 || st = 6
/-- The link whose partner is module `m` (R360: a pair is joined by one link). -/
def State.linkTo (s : State) (m : Nat) : Option Nat :=
  (List.range 3).find? (fun k => s.xlUp k && decide (s.rf (xlStatusR k) 31 30 = m))
/-- External link `k` beyond its registers. -/
def State.xl (s : State) (k : Nat) : Xl := SMap.get {} s.links.xl k
/-- The state with an external link changed. -/
def State.modXl (s : State) (k : Nat) (f : Xl → Xl) : State :=
  { s with links := { s.links with xl := SMap.put {} s.links.xl k (f (s.xl k)) } }

/-- The class of a message (R360). -/
def XKind.cls : XKind → Nat
  | .completion | .tick => 0
  | .readData | .write => 1
  | .identity | .accept | .refuse | .depart | .echo | .mailbox | .vote => 2
  | .read => 3

/-- A kind's number. -/
def XKind.num : XKind → Nat
  | .identity => 0 | .accept => 1 | .refuse => 2 | .depart => 3 | .echo => 4 | .mailbox => 5 | .vote => 6
  | .tick => 7 | .read => 8 | .write => 9 | .completion => 10 | .readData => 11

/-- The address that a message names, for those that name one: doubleword 1 of a remote read or write. -/
def XlMsg.addr (m : XlMsg) : Option Dword := match m.kind with
  | .read | .write => m.data[1]?
  | _ => none

/-- A message leaves on external link `k` past its injector (R370). A dropped or corrupted flit is restored by the replay that
the partner's NAK brings; a reordered message is held for the next of its class, which goes first unless both name one
address. -/
def State.sendXl (s : State) (k : Nat) (kind : XKind) (data : List Dword) : State :=
  let m : XlMsg := ⟨kind, data⟩
  let same := fun (h : XlMsg) => decide (h.kind.cls = kind.cls)
  let (s, act) := s.inject (12 + k) kind.cls (Config.xlHead kind.num data)
  match (s.xl k).held.find? same with
  | some h =>
    let first := if h.addr.isSome ∧ h.addr = m.addr then [h, m] else [m, h]
    s.modXl k (fun x => { x with sent := x.sent ++ first, held := x.held.filter (fun h => !same h) })
  | none =>
    if act = some 2 then s.modXl k (fun x => { x with held := x.held ++ [m] })
    else s.modXl k (fun x => { x with sent := x.sent ++ [m] })

/-- The module whose remote window holds an address (R28). -/
def remoteMod (pa : Nat) : Nat := (pa - 0x3E0000000000) / 0x400000000

/-- A remote access of core `c` leaves for its module with the next tag (R365, R366): a write with the bytes of its line and
their mask, a read with its size. -/
def State.remoteSend (s : State) (k c tid pa : Nat) (store : Bool) (data : List Dword) : State :=
  if h : c < 255 then
    let tag := (s.xl k).nextTag
    let t : Tid := (BitVec.ofNat 5 tid).toFin
    let s := s.modXl k (fun x => { x with remote := x.remote ++ [⟨tag, ⟨c, h⟩, t, store, BitVec.ofNat 46 pa⟩], nextTag := tag + 1 })
    s.sendXl k (if store then .write else .read)
      (BitVec.ofNat 64 tag :: BitVec.ofNat 64 pa :: BitVec.ofNat 64 tid :: data)
  else s

/-- A remote access of a tenant awaits nothing any more: the oldest one of its address leaves the lists. -/
def State.dropRemote (s : State) (tid : Tid) (pa : BitVec 46) (store : Bool) : State :=
  forN 3 (fun k s => s.modXl k (fun x => { x with
    remote := x.remote.eraseP (fun r => decide (r.tid = tid) && decide (r.pa = pa) && r.store == store) })) s

end Sys2Proof.Machine
end

