-- ==== Sys2Proof/Machine/Operands.lean ====
section
/-! DEFINITION. The operands of an instruction: register numbers under the fast bank (R36), control and status
registers and where they are held (R53, R103), the immediates (R38), and the instruction word rebuilt for `EWORD`. -/

namespace Sys2Proof.Machine

/-! ### Control and status registers -/

/-- CSRs held by the core and not by the context: `XID` (loaded at dispatch), the PL2 and PL3 ranges (R103). -/
def csrOwn (n : Nat) : Bool := n = 0x010 || decide (0x200 ≤ n)

/-- The value of a CSR after a core reset: `EDELEG` delegates every cause except Table walk error; the others 0. -/
def csrReset (n : Nat) : Dword := if n = 0x210 then 0x8EFFE else 0

/-- A CSR's stored value. -/
def Core.csr (k : Core) (n : Nat) : Dword :=
  if csrOwn n then SMap.get (csrReset n) k.own n else SMap.get 0 k.arch.csr n

/-- A core with a CSR's stored value set. -/
def Core.setCsr (k : Core) (n : Nat) (v : Dword) : Core :=
  if csrOwn n then { k with own := SMap.put (csrReset n) k.own n v }
  else { k with arch := { k.arch with csr := SMap.put 0 k.arch.csr n v } }

/-- `CSTAT` (CSR 0x100). -/
def Core.cstat (k : Core) : Dword := k.csr 0x100
/-- The current level. -/
def Core.pl (k : Core) : Nat := fld k.cstat 4 3
/-- The current world. -/
def Core.w (k : Core) : Bool := bit k.cstat 5
/-- A fast-class handler is running. -/
def Core.infast (k : Core) : Bool := bit k.cstat 6
/-- PL1 normal interrupts enabled. -/
def Core.nie (k : Core) : Bool := bit k.cstat 0
/-- Fast-class interrupts enabled. -/
def Core.fie (k : Core) : Bool := bit k.cstat 1
/-- Prediction on. -/
def Core.pred (k : Core) : Bool := bit k.cstat 7
/-- Interrupts routed to PL2 enabled (`CSTAT_2.PIE`). -/
def Core.pie (k : Core) : Bool := bit (k.csr 0x200) 0
/-- The tenant of the running context (`XID`). -/
def Core.tid (k : Core) : Nat := fld (k.csr 0x010) 20 16
/-- The address space of the running context (`XID`). -/
def Core.asid (k : Core) : Nat := fld (k.csr 0x010) 11 0

/-! ### Registers -/

/-- The key of general register `n`: with the fast bank in use g24-g31 name the fast-bank copies (R36). -/
def gKey (fast : Bool) (n : BitVec 5) : Nat := if fast && decide (24 ≤ n.toNat) then 40 + n.toNat else n.toNat
/-- The key of floating-point register `n`. -/
def fKey (n : BitVec 5) : Nat := 32 + n.toNat

/-- A register by key; g0 reads zero (R35). -/
def Arch.rd (a : Arch) (key : Nat) : Dword := if key = 0 then 0 else SMap.get 0 a.regs key
/-- A register set by key; a write to g0 is discarded (R35). -/
def Arch.wr (a : Arch) (key : Nat) (v : Dword) : Arch :=
  if key = 0 then a else { a with regs := SMap.put 0 a.regs key v }

/-- General register `n` as the running code reads it. -/
def Core.g (k : Core) (n : BitVec 5) : Dword := k.arch.rd (gKey k.infast n)
/-- Floating-point register `n`. -/
def Core.f (k : Core) (n : BitVec 5) : Dword := k.arch.rd (fKey n)

/-- A working value of the iterative units, in the order of `DIVST0` to `DIVST7`. -/
def Core.divst (k : Core) (i : Nat) : Dword :=
  match i with
  | 0 => k.arch.iu.a
  | 1 => k.arch.iu.b
  | 2 => k.arch.iu.x
  | 3 => k.arch.iu.ctl
  | 4 => k.arch.fu.a
  | 5 => k.arch.fu.b
  | 6 => k.arch.fu.x
  | _ => k.arch.fu.ctl

/-! ### Immediates (R38) -/

/-- A sign-extended immediate or displacement. -/
def simm {w : Nat} (x : BitVec w) : Dword := x.signExtend 64

/-- A displacement that counts words. -/
def wordDisp {w : Nat} (x : BitVec w) : Dword := x.signExtend 64 <<< 2

/-! ### Instruction words (R38) -/

/-- Format A. -/
def wordA (major : BitVec 6) (o : OpsA) (fn : BitVec 6) : Word := major ++ o.rd ++ o.rs1 ++ o.rs2 ++ o.ext ++ fn
/-- The fused multiply-add: rs3 in ext, the rounding mode in fn[5:3]. -/
def wordFma (o : OpsFma) (fn : BitVec 3) : Word := (0x06#6 : BitVec 6) ++ o.rd ++ o.rs1 ++ o.rs2 ++ o.rs3 ++ o.rm ++ fn
/-- Format B. -/
def wordB (major : BitVec 6) (m2 : BitVec 2) (o : OpsB) : Word := major ++ o.rd ++ o.rs1 ++ m2 ++ o.imm
/-- Format C. -/
def wordC (major : BitVec 6) (o : OpsC) : Word :=
  major ++ o.rt ++ o.rb ++ BitVec.ofBool o.h ++ BitVec.ofBool o.b14 ++ o.disp
/-- Format D. -/
def wordD (major : BitVec 6) (o : OpsD) : Word := major ++ o.rs ++ BitVec.ofBool o.a ++ BitVec.ofBool o.b19 ++ o.disp
/-- Format E. -/
def wordE (major : BitVec 6) (o : OpsE) : Word := major ++ BitVec.ofBool o.a ++ BitVec.ofBool o.b24 ++ o.disp
/-- Format F. -/
def wordF (major : BitVec 6) (fn4 : BitVec 4) (o : OpsF) : Word := major ++ o.rd ++ o.rs1 ++ fn4 ++ o.sys

/-- Field [hi:lo] of an instruction word, as a number. -/
def wfld (w : Word) (hi lo : Nat) : Nat := fld w hi lo

end Sys2Proof.Machine
end

