-- ==== Sys2Proof/Machine/Lace.lean ====
section
/-! DEFINITION. Lace sources, comparators and the performance counters: what a unit emits and counts when something
happens in it (R373-R378, R383-R386, R389). A packet emitted is on its way to the source's funnel node
(`Lace.out`); its arrival there is the command `FUNNEL_PACKET`. -/

namespace Sys2Proof.Machine

/-- `LSRC_CTL[id]`. -/
def lsrc (id : Nat) : RegRef := ⟨.lsrcCtl, 0, id, 0⟩

/-- The IDs that R373 assigns. -/
def srcUsed (id : Nat) : Bool :=
  id ≤ 254 || decide (256 ≤ id ∧ id ≤ 340) || decide (352 ≤ id ∧ id ≤ 363) || decide (368 ≤ id ∧ id ≤ 379) ||
    id = 384 || id = 385 || decide (416 ≤ id ∧ id ≤ 447) || id = 510 || id = 511

/-- A packet's header (R374). -/
def pktHdr (src type ndw payload : Nat) : Dword :=
  BitVec.ofNat 64 (src <<< 55 ||| type <<< 50 ||| ndw <<< 48 ||| payload % 2 ^ 48)

/-- A packet. -/
def mkPkt (src type payload : Nat) (dws : List Dword) : Packet := ⟨pktHdr src type dws.length payload, dws⟩

/-- A packet leaves its source for the funnel. -/
def State.emit (s : State) (p : Packet) : State := { s with lace := { s.lace with out := s.lace.out ++ [p] } }

/-- Whether a source is Tracing (R384). -/
def State.tracing (s : State) (id : Nat) : Bool := s.rf (lsrc id) 25 24 = 2

/-- The modes of a trio in `TRIO_RSTAT`. -/
def State.trioMode (s : State) (t : Nat) : Nat := s.rf ⟨.trioRstat, t, 0, 0⟩ 1 0

/-- The core that executes for core `c`: the lead of a Voted trio, core 0 of a pair (R194). -/
def State.leadOf (s : State) (c : Nat) : Nat :=
  let t := trioOf c
  match s.trioMode t with
  | 2 => coreNo t (s.rf ⟨.trioRstat, t, 0, 0⟩ 3 2)
  | 1 => if coreIn c < 2 then coreNo t 0 else c
  | _ => c

/-- Where a core of a redundant trio stands for its stream: cores of a Voted trio (MODE 2), and cores 0 and 1 of a Paired
one (MODE 1), trace under core 0 (R377). -/
def State.traceId (s : State) (c : Nat) : Nat :=
  if s.trioMode (trioOf c) = 2 ∨ (s.trioMode (trioOf c) = 1 ∧ coreIn c < 2) then 3 * trioOf c else c

/-- `LT_CORE` of a core. -/
def ltCore (c : Nat) : RegRef := ⟨.ltCore, trioOf c, coreIn c, 0⟩

/-- The context ID that runs on a core; 0x1FFF where none does. -/
def State.cidOn (s : State) (c : Nat) : Nat :=
  match (s.core c).ctx with
  | some sl => s.cidOf (trioOf c) sl.val
  | none => 0x1FFF

/-- Whether R385 withholds the code that a core runs. -/
def State.withheld (s : State) (c : Nat) : Bool :=
  let k := s.core c
  let en := s.reg ⟨.dbgEn, 0, 0, 0⟩
  (k.pl = 2 && !bit en 1) || ((k.pl = 3 || k.w) && !bit en 3) ||
    (k.ctx.isSome && !bit (s.reg (ltCore c)) (32 + k.tid))

/-- The SYNC packet of a core (R374). -/
def State.syncPkt (s : State) (c : Nat) : Packet :=
  let k := s.core c
  mkPkt (s.traceId c) 0x01 k.arch.pc.toNat
    [s.timebase, BitVec.ofNat 64 (s.cidOn c % 2 ^ 13 ||| k.tid <<< 13 ||| k.pl <<< 18 ||| k.w.toNat <<< 20 |||
      k.infast.toNat <<< 21 ||| k.asid <<< 22)]

/-- A packet of core `c`'s unit leaves, and counts towards the next SYNC (R375). -/
def State.emitOwn (s : State) (c : Nat) (p : Packet) : State := (s.emit p).modCore c (fun k => { k with sinceSync := k.sinceSync + 1 })

/-- The outcomes of the pending conditional branches, oldest in bit 0. -/
def atomBits : List Bool → Nat
  | [] => 0
  | b :: bs => b.toNat + 2 * atomBits bs

/-- A pending ATOM is emitted (R375). -/
def State.flushAtom (s : State) (c : Nat) : State :=
  match (s.core c).atoms with
  | [] => s
  | l => (s.emitOwn c (mkPkt (s.traceId c) 0x02 (l.length <<< 42 ||| atomBits l) [])).modCore c (fun k => { k with atoms := [] })

/-- A core emits a SYNC, after a pending ATOM, and starts its count again (R375). -/
def State.sync (s : State) (c : Nat) : State :=
  let s := s.flushAtom c
  (s.emit (s.syncPkt c)).modCore c (fun k => { k with sinceSync := 0, stamp := s.timebase })

/-- A core trace unit emits a packet: after a pending ATOM, after a TIME packet when one is due, and a SYNC follows every
4,096th packet (R375). Nothing is emitted unless the source is Tracing and the code is not withheld (R384, R385). -/
def State.emitCore (s : State) (c type payload : Nat) (dws : List Dword) : State :=
  if s.tracing (s.traceId c) && !s.withheld c then
    let s := s.flushAtom c
    let k := s.core c
    let s := if bit (s.reg (ltCore c)) 4 && decide (100 ≤ (s.timebase - k.stamp).toNat) then
        (s.emitOwn c (mkPkt (s.traceId c) 0x07 s.timebase.toNat [])).modCore c (fun k => { k with stamp := s.timebase })
      else s
    let s := s.emitOwn c (mkPkt (s.traceId c) type payload dws)
    if 4096 ≤ (s.core c).sinceSync then s.sync c else s
  else s

/-- The EVENT packet of a source that is not a core (R378). -/
def State.emitEvent (s : State) (id code data : Nat) : State :=
  if s.tracing id then s.emit (mkPkt id 0x0A (code <<< 40 ||| data % 2 ^ 40) [s.timebase]) else s

/-- A core traces under a core source: a later copy's has none (R377). -/
def State.traced (s : State) (id : Nat) : Bool := decide (s.traceId (s.leadOf id) = id)

/-- A core source's packets are not withheld (R385), nor is it a later copy's (R377). -/
def State.speaks (s : State) (id : Nat) : Bool := s.traced id && !s.withheld (s.leadOf id)

/-- A core source's pending ATOM leaves. -/
def State.flushSource (s : State) (id : Nat) : State := if s.traced id then s.flushAtom (s.leadOf id) else s

/-- A core source emits a SYNC. -/
def State.syncSource (s : State) (id : Nat) : State := if id ≤ 254 ∧ s.speaks id then s.sync (s.leadOf id) else s

/-- A source changes its trigger state, with a TRIG packet, which follows a core's pending ATOM (R375, R384). -/
def State.setTrig (s : State) (id st cause : Nat) : State :=
  if s.rf (lsrc id) 25 24 = st then s
  else
    let p := mkPkt id 0x0F (st ||| cause <<< 4) []
    if 254 < id then (s.setRf (lsrc id) 25 24 st).emit p
    else
      let s := (s.flushSource id).setRf (lsrc id) 25 24 st
      if s.speaks id then s.emitOwn (s.leadOf id) p else s

/-- Comparator `n` acts on source `id` (R384). A core source that enters Tracing emits a SYNC. -/
def State.fireAt (s : State) (id n : Nat) : State :=
  let v := s.reg (lsrc id)
  let st := fld v 25 24
  if st = 1 ∧ bit v (48 + n) then (s.setTrig id 2 n).syncSource id
  else if st = 2 ∧ bit v (32 + n) then s.setTrig id (if bit v 26 then 1 else 3) n
  else s

/-- The sources whose trigger is on. -/
def State.liveSrcs (s : State) : List Nat := (List.range 512).filter (fun id => bit (s.reg (lsrc id)) 21)

/-- Comparator `n`'s kind and operands. -/
def State.cmp (s : State) (n : Nat) : Nat × Dword × Dword :=
  (s.rf ⟨.laceCmp, 0, n, 0⟩ 2 0, s.reg ⟨.laceCmplo, 0, n, 0⟩, s.reg ⟨.laceCmphi, 0, n, 0⟩)

/-- The comparators `hits` fire together: every source of `ids` takes the transition of its state at the start, once (R384), and
their Event Gatherer sources pend. -/
def State.fireAll (s : State) (ids hits : List Nat) : State :=
  let s0 := s
  let s := hits.foldl (fun s n => s.raise (32 * 26 + 8 + n)) s
  ids.foldl (fun s id => hits.foldl (fun s n =>
    if s.rf (lsrc id) 25 24 = s0.rf (lsrc id) 25 24 then s.fireAt id n else s) s) s

/-- Every comparator that `p` selects by kind and operands fires at source `id`. -/
def State.fireWhere (s : State) (id : Nat) (p : Nat → Dword → Dword → Bool) : State :=
  s.fireAll [id] ((List.range 16).filter (fun n => let c := s.cmp n; c.1 ≠ 0 && p c.1 c.2.1 c.2.2))

/-- A comparator of kind 4 fires at every source (R383). -/
def State.fireOverflow (s : State) : State :=
  let hits := (List.range 16).filter (fun n => decide ((s.cmp n).1 = 4))
  if hits.isEmpty then s else s.fireAll s.liveSrcs hits

/-! ### Performance counters (R388-R390) -/

/-- A counter block. -/
inductive PmcBlock where
  | core (c : Nat)
  | trio (t : Nat)
  | die (d : Nat)
  | mc (m : Nat)
  | link (j : Nat)
  deriving DecidableEq, Repr

/-- `PMC_SEL` of counter `n` of a block. -/
def PmcBlock.sel : PmcBlock → Nat → RegRef
  | .core c, n => ⟨.pmcSelCore, trioOf c, coreIn c, n⟩
  | .trio t, n => ⟨.pmcSelTrio, t, n, 0⟩
  | .die d, n => ⟨.pmcSelDie, d, n, 0⟩
  | .mc m, n => ⟨.pmcSelMc, 0, m, n⟩
  | .link j, n => ⟨.pmcSelLink, 0, j, n⟩

/-- `PMC_CNT` of counter `n` of a block. -/
def PmcBlock.cnt : PmcBlock → Nat → RegRef
  | .core c, n => ⟨.pmcCntCore, trioOf c, coreIn c, n⟩
  | .trio t, n => ⟨.pmcCntTrio, t, n, 0⟩
  | .die d, n => ⟨.pmcCntDie, d, n, 0⟩
  | .mc m, n => ⟨.pmcCntMc, 0, m, n⟩
  | .link j, n => ⟨.pmcCntLink, 0, j, n⟩

/-- How many counters a block has. -/
def PmcBlock.size : PmcBlock → Nat
  | .core _ => 6
  | .link _ => 4
  | _ => 8

/-- A counter adds `k`: it wraps at 2^48 and sets OVF, fires comparators of kind 4 when TRG is set, and steps a chained
counter above it (R389). -/
def State.bump (s : State) (b : PmcBlock) : Nat → Nat → Nat → State
  | 0, _, _ => s
  | fuel + 1, n, k =>
    if b.size ≤ n then s
    else
      let v := s.reg (b.cnt n)
      let total := fld v 47 0 + k
      let s := s.setReg (b.cnt n) (setFld v 47 0 total)
      if total < 2 ^ 48 then s
      else
        let s := s.setRf (b.cnt n) 63 63 1
        let s := if bit (s.reg (b.sel n)) 45 then s.fireOverflow else s
        let up := s.reg (b.sel (n + 1))
        if n + 1 < b.size ∧ bit up 46 ∧ bit up 40 then s.bump b fuel (n + 1) 1 else s

/-- Event `code` happens `k` times in a block, while code of level `pl` of tenant `tid` runs there (none: the filters do
not apply). -/
def State.count (s : State) (b : PmcBlock) (code k : Nat) (pl : Option Nat) (tids : Option (List Nat)) :
    State :=
  forN b.size (fun n s =>
    let v := s.reg (b.sel n)
    let plOk := match pl with
      | some p => bit v (41 + p)
      | none => true
    let tidOk := match tids with
      | some l => !bit v 36 || decide (fld v 35 31 ∈ l)
      | none => true
    if bit v 40 && !bit v 46 && decide (fld v 7 0 = code) && plOk && tidOk then s.bump b 8 n k else s) s

/-- A core event, counted while the core's counters run (R385, R389). -/
def State.countCore (s : State) (c code : Nat) : State :=
  let k := s.core c
  if s.withheld c || k.halted then s else s.count (.core c) code 1 (some k.pl) (some [k.tid])

/-- A trio event of the contexts that run on its streams (R388). DEDUCED (assumption 32). -/
def State.countTrio (s : State) (t code : Nat) : State :=
  s.count (.trio t) code 1 none (some ((List.range 3).map (fun i => (s.core (coreNo t i)).tid)))
/-- A trio event that one tenant's request makes. -/
def State.countTrioFor (s : State) (t tid code : Nat) : State := s.count (.trio t) code 1 none (some [tid])
/-- A die fabric event. -/
def State.countDie (s : State) (d code : Nat) : State := s.count (.die d) code 1 none none
/-- A memory channel event. -/
def State.countMc (s : State) (m code : Nat) : State := s.count (.mc m) code 1 none none
/-- A link event. -/
def State.countLink (s : State) (j code : Nat) : State := s.count (.link j) code 1 none none

/-! ### What a position leaves in the trace and the counters -/

/-- A performed access, for data trace and sampling. -/
structure Performed where
  va : Dword
  val : Dword
  /-- 0 load, 1 store, 2 LR or SC, 3 TAS.B -/
  kind : Nat
  size : Nat
  scFailed : Bool := false
  /-- What served it, as TAG's doubleword 2 codes it. -/
  served : Nat := 1
  reserved : Bool := false
  deriving DecidableEq, Repr

/-- log2 of an access size. -/
def log2Size (n : Nat) : Nat := if n = 8 then 3 else if n = 4 then 2 else if n = 2 then 1 else 0

/-- One position's events: a conditional branch's outcome, a taken branch, a JALR's target, an access, a trap. -/
structure Happened where
  branch : Option Bool := none
  taken : Bool := false
  indir : Option Dword := none
  acc : Option Performed := none
  trapped : Bool := false
  /-- A WAITE, YIELD, FDONE or SIGNAL reached the Trio Dispatcher. -/
  dispatch : Bool := false
  deriving DecidableEq, Repr

/-- The LFSR of R394 one position on: taps 20 and 17. -/
def lfsrNext (x : BitVec 20) : BitVec 20 := (x <<< 1) ||| (if x.getLsbD 19 ^^ x.getLsbD 16 then 1 else 0)

/-- On entry to withheld code the unit emits EXCL, on leaving it SYNC (R385). -/
def State.exclude (s : State) (c : Nat) : State :=
  let k := s.core c
  let now := s.withheld c
  if now = k.excl then s
  else
    let s := s.modCore c (fun k => { k with excl := now })
    if s.tracing (s.traceId c) then
      if now then
        (s.flushAtom c).emitOwn c (mkPkt (s.traceId c) 0x09 (if k.pl = 2 then 0 else 1) [])
      else s.sync c
    else s

/-- A context is dispatched on the core (R375, R385): SYNC, or EXCL where its code is withheld. -/
def State.traceDispatch (s : State) (c : Nat) : State :=
  if s.withheld c then s.exclude c
  else
    let s := s.modCore c (fun k => { k with excl := false })
    if s.tracing (s.traceId c) then s.sync c else s

/-- The core enters Nap or Off (R384, R386): the pending ATOM and PWR leave; Off returns its source to Armed, for which TRIG's
comparator field has no stated value (a free value, assumption 6). -/
def State.traceSleep (s : State) (c : Nat) (off : Bool) : State :=
  let id := s.traceId c
  let s := if s.tracing id then (s.flushAtom c).emitOwn c (mkPkt id 0x08 off.toNat []) else s
  let st := s.rf (lsrc id) 25 24
  if off && decide (st = 1 ∨ st = 2) then
    { s with free := s.free + 1 }.setTrig id 1 ((Config.freeValue s.free).toNat % 16)
  else s

/-- The core leaves Nap or Off (R386). -/
def State.traceWake (s : State) (c : Nat) : State := if s.tracing (s.traceId c) && !s.withheld c then s.sync c else s

/-- The comparators that a position matches fire (R383): its address, the address of its access, the context that runs. -/
def State.comparePos (s : State) (c : Nat) (pc : Dword) (h : Happened) : State :=
  s.fireWhere (s.traceId c) (fun kind lo hi =>
    (decide (kind = 1) && decide (lo ≤ pc ∧ pc ≤ hi)) ||
    (decide (kind = 2) && (match h.acc with
      | some a => decide (lo ≤ a.va ∧ a.va ≤ hi)
      | none => false)) ||
    (decide (kind = 3) && (s.core c).ctx.isSome && decide (s.cidOn c &&& fld lo 28 16 = fld lo 12 0)))

/-- A conditional branch's outcome joins the pending ATOM (R375). -/
def State.traceBranch (s : State) (c : Nat) (h : Happened) : State :=
  match h.branch with
  | some b =>
    if bit (s.reg (ltCore c)) 0 && s.tracing (s.traceId c) && !s.withheld c then
      let s := s.modCore c (fun k => { k with atoms := k.atoms ++ [b] })
      if 42 ≤ (s.core c).atoms.length then s.flushAtom c else s
    else s
  | none => s

/-- The target of a JALR (R375). -/
def State.traceIndir (s : State) (c : Nat) (h : Happened) : State :=
  match h.indir with
  | some t => if bit (s.reg (ltCore c)) 0 then s.emitCore c 0x03 t.toNat [] else s
  | none => s

/-- An access, with its value where the trace unit shows values (R376). -/
def State.traceAcc (s : State) (c : Nat) (h : Happened) : State :=
  match h.acc with
  | some a =>
    if bit (s.reg (ltCore c)) 1 then
      s.emitCore c 0x06 a.va.toNat [if bit (s.reg (ltCore c)) 3 then a.val else 0,
        BitVec.ofNat 64 (a.kind ||| log2Size a.size <<< 2 ||| a.scFailed.toNat <<< 4)]
    else s
  | none => s

/-- Positions completed and branches taken count (R390). -/
def State.countPos (s : State) (c : Nat) (h : Happened) : State :=
  let s := if h.trapped then s else s.countCore c 0x01
  if h.taken then s.countCore c 0x06 else s

/-- The TAG packet of a position (R394), after a pending ATOM: the stage times are free values. -/
def State.tagEmit (s : State) (c : Nat) (pc : Dword) (h : Happened) : State :=
  let s := s.flushAtom c
  let acc := h.acc.getD ⟨0, 0, 0, 1, false, 0, false⟩
  let served := if h.trapped then 7 else acc.served
  let s := s.emitOwn c (mkPkt (s.traceId c) 0x0C pc.toNat [Config.freeValue s.free,
    BitVec.ofNat 64 (served ||| acc.reserved.toNat <<< 3 ||| s.cidOn c % 2 ^ 13 <<< 5 ||| (s.core c).tid <<< 18 |||
      s.timebase.toNat % 2 ^ 32 <<< 32), acc.va])
  { s with free := s.free + 1 }

/-- The sampling of positions (R394), which stands while TAGEN = 0 or the code is withheld (R385; DEDUCED, assumption 32): the LFSR
moves on, and a position it picks emits TAG. -/
def State.tagPos (s : State) (c : Nat) (pc : Dword) (h : Happened) : State :=
  let lt := s.reg (ltCore c)
  if bit lt 13 && !s.withheld c then
    let x := lfsrNext (s.core c).lfsr
    let s := s.modCore c (fun k => { k with lfsr := x })
    if x.toNat % 2 ^ fld lt 12 8 = 0 then s.tagEmit c pc h else s
  else s

/-- The trace, the comparators, the counters and the tagging of one position at address `pc` of core `c` (R375, R376, R383, R394). -/
def State.afterPos (s : State) (c : Nat) (pc : Dword) (h : Happened) : State :=
  ((((((s.exclude c).comparePos c pc h).traceBranch c h).traceIndir c h).traceAcc c h).countPos c h).tagPos c pc h

end Sys2Proof.Machine
end

