-- ==== Sys2Proof/Machine/Mem.lean ====
section
/-! DEFINITION. Physical memory: the address map (R28), DRAM bytes and poison, the Memory-Side Cache, the home agents'
directories, and the L2s as coherence agents (05_caches.md, 07_xamo_coherence.md). A line is numbered by PA[45:6]. -/

namespace Sys2Proof.Machine

/-! ### Where an address lies -/

/-- A line's granule, PA[45:12]. -/
def granule (line : Nat) : Nat := line / 64
/-- A line's channel and home agent (R110). -/
def chanOf (line : Nat) : Nat := granule line % 12
/-- A line's channel-local index L (R110). -/
def localOf (line : Nat) : Nat := granule line / 12 * 64 + line % 64
/-- The Memory-Side Cache set within its slice (R110). -/
def mscSet (line : Nat) : Nat := localOf line % (if chanOf line < 4 then 5462 else 5461)
/-- The directory set within its slice (R176). -/
def dirSet (line : Nat) : Nat := localOf line % 12288
/-- The line with channel-local index `l` of channel `m`. -/
def lineOf (m l : Nat) : Nat := (l / 64 * 12 + m) * 64 + l % 64

/-- `MC_STATUS[m].STATE`: 0 Off, 1 Training, 2 Active, 3 Lost, 4 Covering. -/
def State.chanState (s : State) (m : Nat) : Nat := s.rf ⟨.mcStatus, 0, m, 0⟩ 2 0

/-- The usable capacity U in GiB (R326): that of a channel in service. -/
def State.usable (s : State) : Nat :=
  match (List.range 12).find? (fun m => s.chanState m = 2 || s.chanState m = 4) with
  | some m => s.rf ⟨.mcStatus, 0, m, 0⟩ 23 16
  | none => 0

/-- The installed capacity in bytes (R326). -/
def State.installed (s : State) : Nat := 12 * s.usable * 2 ^ 30

/-- The channel is one of a mirrored pair (R338). -/
def State.mirrored (s : State) (m : Nat) : Bool :=
  s.rf ⟨.mcCfg, 0, m, 0⟩ 13 13 = 1 && s.rf ⟨.mcCfg, 0, m / 2 * 2 + (1 - m % 2), 0⟩ 13 13 = 1

/-- Every line of the channel is lost (R337): it is Lost and no partner covers it. -/
def State.chanLost (s : State) (m : Nat) : Bool :=
  s.chanState m = 3 && !(s.mirrored m && s.chanState (m / 2 * 2 + (1 - m % 2)) = 4)

/-- The boot store is in use (R430). -/
def State.bootStore (s : State) : Bool := s.rf ⟨.bootStat, 0, 0, 0⟩ 2 2 = 1
/-- An address in the boot store's range (R430). -/
def inBootRange (pa : Nat) : Bool := decide (0x200000 ≤ pa ∧ pa < 0x1200000)

/-- The regions of the address map (R28). -/
inductive Region where
  | dram | pcie | remote | mcs | rom | xspi | unpopulated
  deriving DecidableEq, Repr

/-- This module's ID. -/
def State.modId (s : State) : Nat := s.rf ⟨.modIdent, 0, 0, 0⟩ 9 8

/-- The region of a physical address (R28, R29, R430): DRAM above the installed capacity and the requester's own remote
window are unpopulated. -/
def State.region (s : State) (pa : Nat) : Region :=
  if pa < 0xC000000000 then
    if s.bootStore then (if inBootRange pa then .dram else .unpopulated)
    else if pa < s.installed then .dram else .unpopulated
  else if 0x3C0000000000 ≤ pa ∧ pa < 0x3D0000000000 then .pcie
  else if 0x3E0000000000 ≤ pa ∧ pa < 0x3E1000000000 then
    if (pa - 0x3E0000000000) / 0x400000000 = s.modId then .unpopulated else .remote
  else if 0x3F0000000000 ≤ pa ∧ pa < 0x3F0100000000 then .mcs
  else if 0x3FFFFFF00000 ≤ pa ∧ pa < 0x3FFFFFF40000 then .rom
  else if 0x3FFFFFF80000 ≤ pa ∧ pa < 0x400000000000 then .xspi
  else .unpopulated

/-- The address lies in installed DRAM for the checks of configuration registers: the channel is not lost (R337). -/
def State.inInstalled (s : State) (pa : Nat) : Bool :=
  decide (pa < s.installed) && !s.chanLost (chanOf (pa / 64))

/-- A range of `n` bytes lies wholly in installed DRAM: its end is below the capacity and no channel it meets is lost. A
range of twelve granules or more meets every channel. -/
def State.rangeInstalled (s : State) (pa n : Nat) : Bool :=
  decide (pa + n ≤ s.installed) &&
    (List.range 12).all (fun k => decide (n ≤ 4096 * k) || !s.chanLost ((pa / 4096 + k) % 12)) &&
    (n = 0 || !s.chanLost (chanOf ((pa + n - 1) / 64)))

/-- The channel whose controller serves a channel's lines: its partner while that covers it (R338). -/
def State.servChan (s : State) (m : Nat) : Nat :=
  let p := m / 2 * 2 + (1 - m % 2)
  if s.chanState m = 3 ∧ s.mirrored m ∧ s.chanState p = 4 then p else m

/-- A line in an enabled Sealed range (R300). -/
def State.sealedLine (s : State) (line : Nat) : Bool :=
  (List.range 8).any (fun i =>
    let r := s.reg ⟨.sealRange, 0, i, 0⟩
    bit r 0 && decide (fld r 38 14 ≤ line / 32768 ∧ line / 32768 ≤ fld r 63 39))

/-! ### DRAM -/

/-- The canonical form of memory: addresses strictly rising, no entry equal to what an unlisted address reads as. -/
def Memory.wf (m : List Host.Cell) : Bool := SMap.wf (0 : Byte) m
/-- A byte of memory; an unlisted one reads 0 (DESIGN CHOICE, assumption 3). -/
def State.byte (s : State) (a : Nat) : Byte := SMap.get 0 s.mem a
/-- The state with a byte of memory written. -/
def State.setByte (s : State) (a : Nat) (b : Byte) : State := { s with mem := SMap.put 0 s.mem a b }
/-- `n` bytes of memory as a number. -/
def State.bytes (s : State) (a n : Nat) : Nat := ofBytes ((List.range n).map (fun i => s.byte (a + i)))
/-- Bytes written in order. -/
def State.setBytes (s : State) (a : Nat) : List Byte → State
  | [] => s
  | b :: bs => (s.setByte a b).setBytes (a + 1) bs

/-- A line's 64 bytes from a byte function. -/
def lineFrom (f : Nat → Byte) : LineData := BitVec.ofNat 512 (ofBytes ((List.range 64).map f))
/-- Byte `i` of a line. -/
def lineByte (d : LineData) (i : Nat) : Byte := (d >>> (8 * i)).truncate 8
/-- Bytes of `new` where the mask is 1, of `old` elsewhere. -/
def mergeLine (old new : LineData) (mask : BitVec 64) : LineData :=
  lineFrom (fun i => if bit mask i then lineByte new i else lineByte old i)
/-- The number that `n` bytes at offset `off` of a line spell. -/
def lineNum (d : LineData) (off n : Nat) : Nat := (d.toNat >>> (8 * off)) % 2 ^ (8 * n)
/-- A line and a mask that hold `v` in `n` bytes at offset `off`. -/
def linePatch (off n v : Nat) : LineData × BitVec 64 :=
  (BitVec.ofNat 512 ((v % 2 ^ (8 * n)) <<< (8 * off)), BitVec.ofNat 64 ((2 ^ n - 1) <<< off))

/-- A line's poison mark set or cleared. -/
def State.setPoison (s : State) (line : Nat) (b : Bool) : State :=
  let rest := s.poison.filter (fun x => decide (x ≠ line))
  { s with poison := if b then rest.filter (fun x => decide (x < line)) ++ line :: rest.filter (fun x => decide (line < x))
                     else rest }
/-- Whether DRAM holds a line poisoned. -/
def State.isPoison (s : State) (line : Nat) : Bool := s.poison.contains line

/-- A line as DRAM, or the boot store in its place (R430), holds it; every line of a lost channel reads as poisoned (R337). -/
def State.dramRead (s : State) (line : Nat) : LineData × Bool :=
  if s.bootStore && inBootRange (line * 64) then (lineFrom (fun i => SMap.get 0 s.boot.store (line * 64 + i)), false)
  else (lineFrom (fun i => s.byte (line * 64 + i)), s.isPoison line || s.chanLost (chanOf line))

/-- A line written to DRAM with its poison mark; a write to a lost channel is discarded (R337). -/
def State.dramWrite (s : State) (line : Nat) (d : LineData) (psn : Bool) : State :=
  if s.bootStore && inBootRange (line * 64) then
    { s with boot := { s.boot with
        store := (List.range 64).foldl (fun m i => SMap.put 0 m (line * 64 + i) (lineByte d i)) s.boot.store } }
  else if s.chanLost (chanOf line) then s
  else (s.setBytes (line * 64) ((List.range 64).map (lineByte d))).setPoison line psn

/-! ### Replacement (R120, R121) -/

/-- The ways of a mask, lowest first. -/
def waysOf (mask : BitVec 16) : List Nat := (List.range 16).filter (fun i => bit mask i)

/-- The victim among candidate ways given each way's age (none: invalid), and what is added to every candidate's age. -/
def pickWay (cands : List Nat) (age : Nat → Option Nat) : Option (Nat × Nat) :=
  match cands with
  | [] => none
  | _ =>
    match cands.find? (fun w => (age w).isNone) with
    | some w => some (w, 0)
    | none =>
      let top := cands.foldl (fun m w => max m ((age w).getD 0)) 0
      match cands.find? (fun w => decide ((age w).getD 0 = top)) with
      | some w => some (w, 3 - top)
      | none => none

/-! ### The Memory-Side Cache -/

/-- A line present in the Memory-Side Cache. -/
def Msc.find (k : Msc) (line : Nat) : Option MscLine := k.lines.find? (fun l => decide (l.line.toNat = line))
/-- The cache without a line. -/
def Msc.drop (k : Msc) (line : Nat) : Msc := { k with lines := k.lines.filter (fun l => decide (l.line.toNat ≠ line)) }
/-- The cache with a line replaced by its new contents. -/
def Msc.update (k : Msc) (line : Nat) (f : MscLine → MscLine) : Msc :=
  { k with lines := k.lines.map (fun l => if l.line.toNat = line then f l else l) }

/-- The Memory-Side Cache is enabled and not being cleaned: it may allocate. -/
def State.mscAlloc (s : State) : Bool := s.rf ⟨.mscCtl, 0, 0, 0⟩ 1 0 = 1
/-- The cache serves hits: enabled or being cleaned (R133). -/
def State.mscOn (s : State) : Bool := s.rf ⟨.mscCtl, 0, 0, 0⟩ 1 0 ≠ 0

/-- The ways that an allocation may use (R121); masks that have arrived (R122). -/
def Msc.mask (k : Msc) (tid : Nat) (w : Bool) : BitVec 16 := if w then k.wayS else k.wayO &&& SMap.get 0xFFFF k.ways tid

/-- A line leaves the Memory-Side Cache: a dirty one is written to DRAM. -/
def State.mscEvict (s : State) (l : MscLine) : State :=
  let s := if l.dirty then s.dramWrite l.line.toNat l.data l.poison else s
  { s with msc := s.msc.drop l.line.toNat }

/-- A line allocated in the Memory-Side Cache, when a way remains (R121): the victim leaves, the candidates age. -/
def State.mscFill (s : State) (line tid : Nat) (w : Bool) (d : LineData) (dirty psn : Bool) (age : Nat) : State × Bool :=
  let here := fun (l : MscLine) => decide (chanOf l.line.toNat = chanOf line ∧ mscSet l.line.toNat = mscSet line)
  let inSet := s.msc.lines.filter here
  let ageAt := fun way => (inSet.find? (fun l => decide (l.way = way))).map (·.age)
  let cands := waysOf (s.msc.mask tid w)
  match pickWay cands ageAt with
  | none => (s, false)
  | some (way, add) =>
    let s := match inSet.find? (fun l => decide (l.way = way)) with
      | some v => s.mscEvict v
      | none => s
    let aged := s.msc.lines.map (fun l =>
      if here l && cands.contains l.way then { l with age := l.age + add } else l)
    ({ s with msc := { s.msc with lines := aged ++
        [⟨BitVec.ofNat 40 line, way, dirty, d, age, w, BitVec.ofNat 5 tid |>.toFin, psn⟩] } }, true)

/-- A request as the memory side sees it. -/
structure Rq where
  agent : Nat
  tid : Nat
  w : Bool
  res : Bool := false
  /-- A load with H = 1, an L2-prefetcher fill, or a fill of an L1D stream with conf = 3: it enters the L2 at age 3 (R120). -/
  old : Bool := false
  /-- A prefetch: no demand, and its fill enters the Memory-Side Cache at age 3 (R119, R120). -/
  pf : Bool := false
  deriving DecidableEq, Repr

/-- The home's input port of an agent (R166). -/
def portOf (agent : Nat) : Nat := if agent < 84 then agent / 7 else 12

/-- The colour of a line (R329). -/
def State.colour (s : State) (line : Nat) : Nat :=
  let g := granule line / 12
  if s.rf ⟨.mcCfg, 0, chanOf line, 0⟩ 6 6 = 1 then g % 128 else g % 64

/-- The colour is in a tenant's bank set (R342). -/
def State.inBankset (s : State) (tid line : Nat) : Bool :=
  let c := s.colour line
  bit (s.reg ⟨.mcBankset, 0, tid, c / 64⟩) (c % 64)

/-- The Event Gatherer's source `i` of a memory channel's group. -/
def chanSrc (m i : Nat) : Nat := 32 * (2 + m) + i

/-- A request enters the channel's controller: a reserved one is charged a line of its tenant's credit, or demoted
(R340, R345). Answers whether it is served as reserved. -/
def State.mcCharge (s : State) (r : Rq) (line : Nat) : State × Bool :=
  let m := s.servChan (chanOf line)
  let ts : RegRef := ⟨.mcTstat, 0, m, r.tid⟩
  let served := r.res && decide (0 < s.rf ts 31 0) && s.inBankset r.tid line
  let s := if served then s.setRf ts 31 0 (s.rf ts 31 0 - 1)
    else if r.res then
      let s := (s.incRf ts 63 40).countMc m 0x06
      if (s.mc m).demoted then s
      else (((s.modMc m (fun k => { k with demoted := true })).raise (chanSrc m 7)).emitEvent (368 + m) 0x20 r.tid)
    else s
  (s, served)

/-- A line of a request leaves the controller and is counted for its port (R349). -/
def State.mcCount (s : State) (m port : Nat) (served : Bool) : State :=
  let key := 2 * port + served.toNat
  s.modMc m (fun k => { k with counts := SMap.put 0 k.counts key (SMap.get 0 k.counts key + 1) })

/-- A request served whole at the controller. -/
def State.mcEnter (s : State) (r : Rq) (line : Nat) : State :=
  let q := s.mcCharge r line
  let m := s.servChan (chanOf line)
  (q.1.mcCount m (portOf r.agent) q.2).countMc m (if q.2 then 0x01 else 0x02)

/-- A W = 0 request meets a line of the Memory-Side Cache tagged W = 1, and the home has granted it: the line is written to DRAM if
dirty and leaves (R123). -/
def State.mscMeet (s : State) (w : Bool) (line : Nat) : State :=
  match (if s.mscOn then s.msc.find line else none) with
  | some l => if l.w && !w then s.mscEvict l else s
  | none => s

/-- A line read at the memory side: from the Memory-Side Cache, or from DRAM with an allocation (R112, R120, R123). -/
def State.memRead (s : State) (r : Rq) (line : Nat) (alloc : Bool) : State × LineData × Bool :=
  let s := (s.mcEnter r line).mscMeet r.w line
  let fill := fun (s : State) =>
    let d := s.dramRead line
    let s := s.countMc (chanOf line) 0x09
    if alloc && s.mscAlloc && !s.bootStore then
      ((s.mscFill line r.tid r.w d.1 false d.2 (if r.old || r.pf then 3 else 0)).1, d.1, d.2)
    else (s, d.1, d.2)
  if s.chanLost (chanOf line) then (s, (s.dramRead line).1, true)
  else if s.mscOn then
    match s.msc.find line with
    | some l =>
      let s := { s with msc := s.msc.update line (fun l => { l with age := 0 }) }
      (s.countMc (chanOf line) 0x08, l.data, l.poison)
    | none => fill s
  else fill s

/-- A whole line written at the memory side: into the Memory-Side Cache, or to DRAM (R121, R123). -/
def State.memWriteLine (s : State) (tid : Nat) (w : Bool) (line : Nat) (d : LineData) (psn : Bool) : State :=
  let s := (s.countMc (chanOf line) 0x03).mscMeet w line
  if s.chanLost (chanOf line) then s
  else
    match (if s.mscOn then s.msc.find line else none) with
    | some _ =>
      { s with msc := s.msc.update line (fun l => { l with data := d, dirty := true, age := 0, poison := psn }) }
    | none =>
      if s.mscAlloc && !s.bootStore then
        let f := s.mscFill line tid w d true psn 0
        if f.2 then f.1 else f.1.dramWrite line d psn
      else s.dramWrite line d psn

/-- A whole line written at the memory side without an allocation: into the Memory-Side Cache where it hits, else to DRAM. -/
def State.memPut (s : State) (w : Bool) (line : Nat) (d : LineData) (psn : Bool) : State :=
  let s := (s.countMc (chanOf line) 0x03).mscMeet w line
  if s.chanLost (chanOf line) then s
  else
    match (if s.mscOn then s.msc.find line else none) with
    | some _ =>
      { s with msc := s.msc.update line (fun l => { l with data := d, dirty := true, age := 0, poison := psn }) }
    | none => s.dramWrite line d psn

/-- Bytes merged into a line at the memory side: a poisoned line stays poisoned unless all 64 bytes are written (R185).
An uncached write hits in the Memory-Side Cache; a miss is not allocated (R112, R171). -/
def State.memMerge (s : State) (r : Rq) (line : Nat) (d : LineData) (mask : BitVec 64) : State :=
  let old := match (if s.mscOn then s.msc.find line else none) with
    | some l => (l.data, l.poison)
    | none => s.dramRead line
  let s := s.mcEnter r line
  s.memPut r.w line (mergeLine old.1 d mask) (old.2 && decide (mask ≠ BitVec.allOnes 64))

/-! ### The L2 -/

/-- A line present in an L2; a line in the writeback buffer counts as not held. -/
def L2.find (k : L2) (line : Nat) : Option L2Line :=
  k.lines.find? (fun l => decide (l.line.toNat = line) && decide (l.st ≠ .wp))
/-- A line in the writeback buffer. -/
def L2.findWp (k : L2) (line : Nat) : Option L2Line :=
  k.lines.find? (fun l => decide (l.line.toNat = line) && decide (l.st = .wp))
/-- The L2 without a line; its writeback buffer stays. -/
def L2.drop (k : L2) (line : Nat) : L2 :=
  { k with lines := k.lines.filter (fun l => decide (l.line.toNat ≠ line) || decide (l.st = .wp)) }
/-- The L2 with a line that it holds changed. -/
def L2.update (k : L2) (line : Nat) (f : L2Line → L2Line) : L2 :=
  { k with lines := k.lines.map (fun l => if l.line.toNat = line ∧ l.st ≠ .wp then f l else l) }

/-- A core's L1 copies of a line leave (R111), and its reservation on the granule ends (R59). -/
def Core.loseLine (k : Core) (line : Nat) : Core :=
  { k with l1i := k.l1i.filter (fun l => decide (l.line.toNat ≠ line))
           l1d := k.l1d.filter (fun l => decide (l.line.toNat ≠ line))
           resv := match k.resv with
             | some r => if r.pa.toNat / 64 = line then none else some r
             | none => none }

/-- A line leaves a trio's L2: every L1 copy of its three cores leaves, and reservations on it end. -/
def State.l2Lose (s : State) (t line : Nat) : State :=
  let s := s.modL2 t (fun k => k.drop line)
  if t ≤ 84 then forN 3 (fun i s => s.modCore (coreNo t i) (fun k => k.loseLine line)) s else s

/-- The ways of a trio's L2 that an allocation may use (R121, R124). -/
def State.l2Mask (s : State) (t tid : Nat) (w : Bool) : BitVec 16 :=
  let ctl := s.reg ⟨.l2Ctl, t, 0, 0⟩
  let k := (s.trio t).l2
  if bit ctl 11 then BitVec.ofNat 16 (2 ^ fld ctl 15 12)
  else (if w then k.wayS else k.wayO &&& SMap.get 0xFFFF k.ways tid) &&& ~~~k.lock

/-- The L2 is enabled and not being cleaned: it may allocate (R130, R131). -/
def State.l2Alloc (s : State) (t : Nat) : Bool := s.rf ⟨.l2Ctl, t, 0, 0⟩ 2 0 = 1
/-- The L2 serves hits: enabled, or being cleaned. -/
def State.l2On (s : State) (t : Nat) : Bool := s.rf ⟨.l2Ctl, t, 0, 0⟩ 1 0 ≠ 0

/-! ### Messages on their way (R161, R162) -/

/-- An agent's identifier. -/
def agentId (a : Nat) : AgentId := BitVec.ofNat 7 a |>.toFin

/-- A message without data sets out to or from an agent. -/
def State.send (s : State) (k : MsgKind) (a line : Nat) : State :=
  { s with net := s.net ++ [{ kind := k, agent := agentId a, line := BitVec.ofNat 40 line }] }

/-- The message of a snoop. -/
def Snp.msg : Snp → MsgKind
  | .share => .snpShare
  | .own => .snpOwn
  | .inv => .snpInv

/-! ### The directory -/

/-- A home's entry for a line. -/
def Home.entry (h : Home) (line : Nat) : Option DirEntry := h.dir.find? (fun e => decide (e.line.toNat = line))
/-- The directory without a line's entry. -/
def Home.free (h : Home) (line : Nat) : Home := { h with dir := h.dir.filter (fun e => decide (e.line.toNat ≠ line)) }

/-- The die mask's bit of an agent (R176). -/
def agentDie (a : Nat) : Nat := portOf a

/-- A trio that a block-level error has stopped: it dispatches nothing until it is replaced, and its agent is dead (R181, R287). -/
def State.failed (s : State) (t : Nat) : Bool :=
  s.powered t && decide ((s.core (coreNo t 0)).run = .held) && !(s.trio t).retention

/-- The active agents (R169): trios that are powered and not dead, the service trio, and the agents of the I/O die. -/
def State.activeAgents (s : State) : List Nat :=
  (List.range 0x58).filter (fun a => decide (84 ≤ a) || (s.powered a && !s.failed a))

/-- Every agent an entry may name: its pointers, or every active agent of the dies in its mask (R177). -/
def State.holders (s : State) (e : DirEntry) : List Nat :=
  if e.bc then s.activeAgents.filter (fun a => bit e.dies (agentDie a)) else e.ptrs.map (·.val)

/-- An entry's owner in X and O: PTR0 (R176). -/
def DirEntry.owner (e : DirEntry) : Option Nat :=
  match e.st with
  | .s => none
  | _ => (e.ptrs.head?).map (·.val)

/-- The entry that lists these holders, the owner first, in place of an older entry of the line, if any: a fifth holder makes it
broadcast, and it stays so until it is freed, its die mask taking in the dies of the new holders (R176, R177). In broadcast mode
only the owner, if any, stays a pointer. -/
def mkEntry (line way : Nat) (st : DirSt) (agents : List Nat) (was : Option DirEntry) (tid : Nat) : DirEntry :=
  let old := was.filter (fun e => e.bc)
  let dies : BitVec 13 := agents.foldl (fun m a => setBit m (agentDie a) true) ((old.map (fun e => e.dies)).getD 0)
  let bc := old.isSome || decide (4 < agents.length)
  { line := BitVec.ofNat 40 line, way := way, st := st
    ptrs := if bc then (if st = .s then [] else (agents.take 1).map agentId) else agents.map agentId
    bc := bc, dies := if bc then dies else 0, tid := BitVec.ofNat 5 tid |>.toFin }

/-- The slice's counts in `HA_STATUS` follow the directory and the eviction buffer. -/
def State.haSync (s : State) (h : Nat) : State :=
  (s.setRf ⟨.haStatus, 0, h, 0⟩ 17 0 (s.home h).dir.length).setRf ⟨.haStatus, 0, h, 0⟩ 25 20 (s.home h).evict.length

/-- The victim of an allocation in a full directory set (R179). -/
def dirVictim (es : List DirEntry) : Option DirEntry :=
  let byWay := (List.range 16).filterMap (fun w => es.find? (fun e => decide (e.way = w)))
  let shared (n : Nat) := byWay.find? (fun e => decide (e.st = .s) && !e.bc && decide (e.ptrs.length = n))
  ((List.range 5).findSome? shared).or
    ((byWay.find? (fun e => decide (e.st = .s))).or
      ((byWay.find? (fun e => decide (e.st = .x))).or byWay.head?))

/-- An allocation of an entry for a line would need a victim (R179). -/
def State.dirFull (s : State) (line : Nat) : Bool :=
  let k := s.home (chanOf line)
  (k.entry line).isNone && decide (16 ≤ (k.dir.filter (fun e => decide (dirSet e.line.toNat = dirSet line))).length)

/-- The victim moves into the eviction buffer, and SnpInv goes to every holder (R179). -/
def State.backInvalidate (s : State) (line : Nat) : State :=
  let h := chanOf line
  match dirVictim ((s.home h).dir.filter (fun e => decide (dirSet e.line.toNat = dirSet line))) with
  | none => s
  | some v =>
    let who := s.holders v
    let s := who.foldl (fun s a => s.send .snpInv a v.line.toNat) s
    let evict := fun (k : Home) => if who.isEmpty then k.evict else k.evict ++ [{ line := v.line, tid := v.tid, await := who.map agentId }]
    (s.modHome h (fun k => { k.free v.line.toNat with evict := evict k })).haSync h

/-- A directory entry written for a line, or freed when it names nobody; a full set makes room by a back-invalidation (R179). -/
def State.dirWrite (s : State) (line : Nat) (st : DirSt) (agents : List Nat) (tid : Nat) : State :=
  let h := chanOf line
  if agents.isEmpty then (s.modHome h (fun k => k.free line)).haSync h
  else
    match (s.home h).entry line with
    | some e =>
      (s.modHome h (fun k => { k with dir := (k.free line).dir ++ [mkEntry line e.way st agents (some e) tid] })).haSync h
    | none =>
      let s := if s.dirFull line then s.backInvalidate line else s
      let inSet := (s.home h).dir.filter (fun e => decide (dirSet e.line.toNat = dirSet line))
      match (List.range 16).find? (fun w => !inSet.any (fun e => decide (e.way = w))) with
      | some way => (s.modHome h (fun k => { k with dir := k.dir ++ [mkEntry line way st agents none tid] })).haSync h
      | none => s

/-- An agent that holds nothing leaves a pointer-mode entry (R178). -/
def State.unlist (s : State) (a line : Nat) : State :=
  let h := chanOf line
  match (s.home h).entry line with
  | some e =>
    if e.bc || !e.ptrs.contains (agentId a) then s
    else
      let e' := { e with ptrs := e.ptrs.filter (fun b => decide (b ≠ agentId a))
                         st := if e.owner = some a then .s else e.st }
      let dir := fun (k : Home) => if e'.ptrs.isEmpty then (k.free line).dir else k.dir.map (fun x => if x = e then e' else x)
      (s.modHome h (fun k => { k with dir := dir k })).haSync h
  | none => s

/-- The owner of a line leaves its entry, whose sharers stay (R174). -/
def State.disown (s : State) (a line : Nat) : State :=
  let h := chanOf line
  match (s.home h).entry line with
  | some e =>
    if e.owner ≠ some a then s
    else if e.bc then
      (s.modHome h (fun k => { k with dir := k.dir.map (fun x => if x = e then { e with st := .s, ptrs := [] } else x) })).haSync h
    else s.unlist a line
  | none => s

/-! ### Snoops -/

/-- An agent's answer (R173). -/
inductive Ans where
  | i
  | s
  | fwd (d : LineData) (psn w1 : Bool)
  | dirty (d : LineData) (psn : Bool)
  deriving DecidableEq, Repr

/-- What an agent answers to a snoop and what becomes of its line (R173, R174); an L2 in retention answers RspI (R408). -/
def State.snoop (s : State) (a : Nat) (k : Snp) (line : Nat) : State × Ans :=
  let s := if a ≤ 84 then s.countTrio a 0x04 else s
  let l2 := s.l2At a
  match l2.findWp line with
  | some l =>
    if l2.superseded.contains (BitVec.ofNat 40 line) then (s, .i)
    else (s.modL2 a (fun k => { k with superseded := k.superseded ++ [BitVec.ofNat 40 line] }), .fwd l.data l.poison true)
  | none =>
    match l2.find line with
    | none => (s, .i)
    | some l =>
      if a ≤ 84 ∧ (s.trio a).retention then (s.l2Lose a line, .i)
      else match k, l.st with
      | .share, .s => (s, .s)
      | .share, .e => (s.modL2 a (fun k => k.update line (fun l => { l with st := .s })), .fwd l.data l.poison false)
      | .share, .m => (s.modL2 a (fun k => k.update line (fun l => { l with st := .o })), .fwd l.data l.poison false)
      | .share, .o => (s, .fwd l.data l.poison false)
      | .own, .s => (s.l2Lose a line, .i)
      | .own, _ => (s.l2Lose a line, .fwd l.data l.poison false)
      | .inv, .m | .inv, .o => (s.l2Lose a line, .dirty l.data l.poison)
      | .inv, _ => (s.l2Lose a line, .i)
      | .share, .wp => (s, .i)

/-- What the snoops of a transaction have gathered. -/
structure Gathered where
  fwd : Option LineData := none
  psn : Bool := false
  /-- Agents that answered as holders and keep a copy. -/
  kept : List Nat := []
  /-- Agents to be removed from the entry. -/
  gone : List Nat := []
  deriving DecidableEq, Repr

/-- The home takes one answer: dirty data, and forwarded data from a writeback buffer under SnpShare or SnpInv, are written
to the memory side; other forwarded data go to the requester (R173). -/
def State.takeAns (s : State) (k : Snp) (line tid : Nat) (w : Bool) (g : Gathered) (a : Nat) (x : Ans) :
    State × Gathered :=
  match x with
  | .i => (s, { g with gone := a :: g.gone })
  | .s => (s, { g with kept := a :: g.kept })
  | .fwd d p w1 =>
    let g := { g with fwd := some d, psn := p }
    if w1 && decide (k ≠ .own) then (s.memWriteLine tid w line d p, { g with gone := a :: g.gone })
    else if k = .share && !w1 then (s, { g with kept := a :: g.kept })
    else (s, { g with gone := a :: g.gone })
  | .dirty d p => (s.memWriteLine tid w line d p, { g with gone := a :: g.gone })

/-- The snoops that a request calls for (R172): the agents and the kind for each. -/
def State.snoopPlan (s : State) (kind : ReqKind) (e : Option DirEntry) (from' : Nat) (nc wr : Bool) : List (Nat × Snp) :=
  match e with
  | none => []
  | some e =>
    let others := (s.holders e).filter (fun a => nc || decide (a ≠ from'))
    match kind with
    | .rdShared => (others.filter (fun a => e.owner = some a)).map (fun a => (a, .share))
    | .rdOwn => others.map (fun a => (a, if e.owner = some a && !wr then .own else .inv))
    | .upgrade => others.map (fun a => (a, .inv))

/-- Snoops sent and answered one after another. -/
def State.snoopAll (s : State) (line tid : Nat) (w : Bool) (plan : List (Nat × Snp)) : State × Gathered :=
  plan.foldl (fun sg p =>
    let r := sg.1.snoop p.1 p.2 line
    r.1.takeAns p.2 line tid w sg.2 p.1 r.2) (s, {})

/-! ### Dead agents (R182, R183) -/

/-- The key under which an AgentDead notice of a class travels to a home. -/
def noticeKey (h cls : Nat) : Nat := 4 * h + cls

/-- An agent dies on a live die (R182): an AgentDead notice in each class sets out for every home; nothing on its way to the agent
arrives. -/
def State.agentDies (s : State) (a : Nat) : State :=
  let toIt := fun (m : Sent) => decide (m.agent = agentId a) &&
    [MsgKind.snpShare, .snpOwn, .snpInv, .dataS, .dataE, .dataM, .cmp, .wbAck].contains m.kind
  forN 12 (fun h s => forN 4 (fun cls s => s.send .agentDead a (noticeKey h cls)) s)
    { s with net := s.net.filter (fun m => !toIt m) }

/-- A home starts the reclaim of an agent, or queues it behind the scan in progress (R182, R183). -/
def State.startReclaim (s : State) (h a : Nat) : State :=
  let busy := decide ((s.home h).dead ≠ [])
  let s := s.modHome h (fun k => if k.dead.contains (agentId a) then k else { k with dead := k.dead ++ [agentId a] })
  if busy then s
  else (s.setRf ⟨.haStatus, 0, h, 0⟩ 36 36 1).setRf ⟨.haStatus, 0, h, 0⟩ 43 37 a

/-- The agents that a home reclaims: those whose four notices have arrived, or whose die is offline. -/
def State.deadAt (s : State) (h : Nat) : List Nat := ((s.home h).dead).map (·.val)

/-- A line that a dead agent owned is marked poisoned in the Memory-Side Cache and DRAM (R182). -/
def State.poisonLine (s : State) (line tid : Nat) : State :=
  let h := chanOf line
  let s := { s with msc := s.msc.update line (fun l => { l with poison := true }) }.setPoison line true
  (s.incRf ⟨.haStatus, 0, h, 0⟩ 63 44).modHome h (fun k => { k with poisoned := k.poisoned ++ [(line, tid)] })

/-- The home resolves an entry that names a dead agent (R182). -/
def State.resolveEntry (s : State) (line a : Nat) : State :=
  let h := chanOf line
  match (s.home h).entry line with
  | none => s
  | some e =>
    if e.owner = some a then
      let s := if e.st = .o then
          ((s.holders e).filter (fun b => decide (b ≠ a))).foldl (fun s b => s.l2Lose b line) s
        else s
      ((s.poisonLine line e.tid.val).modHome h (fun k => k.free line)).haSync h
    else s.unlist a line

/-- A request resolves the entry of its line first (R183). -/
def State.resolveDead (s : State) (line : Nat) : State := (s.deadAt (chanOf line)).foldl (fun s a => s.resolveEntry line a) s

/-- A die that goes offline leaves every broadcast entry (R182). -/
def State.dropDie (s : State) (d : Nat) : State :=
  forN 12 (fun h s => (s.modHome h (fun k => { k with dir := k.dir.filterMap (fun e =>
    if !e.bc then some e
    else
      let m := setBit e.dies d false
      if m = 0 ∧ e.ptrs.isEmpty then none else some { e with dies := m }) })).haSync h) s

/-! ### Grants -/

/-- How a request at a home is refused: by a Sealed range (R300), or as a write to a lost channel (R337). -/
inductive MemErr where
  | world
  | device (sub : Nat)
  deriving DecidableEq, Repr

/-- The home's world check (R300). -/
def State.refused (s : State) (w : Bool) (line : Nat) : Bool := !w && s.sealedLine line

/-- What an RdShared that records its sender leaves in the directory, once the agents in `gone` have answered that they hold nothing:
the state granted (R171, R178). -/
def State.grantShared (s : State) (agent tid : Nat) (line : Nat) (gone : List Nat) : State × LState :=
  let e := (s.home (chanOf line)).entry line
  let listed := match e with
    | some e => (s.holders e).filter (fun a => decide (a ≠ agent) && !gone.contains a)
    | none => []
  if listed.isEmpty then (s.dirWrite line .x [agent] tid, .e)
  else
    let owner := (e.bind DirEntry.owner).filter (fun a => listed.contains a)
    let agents := owner.toList ++ listed.filter (fun a => decide (some a ≠ owner)) ++ [agent]
    let st : DirSt := if owner.isSome then .o else .s
    (s.dirWrite line st agents (if owner.isSome then (e.map (fun e => e.tid.val)).getD tid else tid), .s)

/-! ### Requests of a trio -/

/-- Whether a line could be allocated in a trio's L2 now. -/
def State.l2Room (s : State) (t : Nat) (r : Rq) : Bool := s.l2Alloc t && decide (s.l2Mask t r.tid r.w ≠ 0)

/-- A demand access hits a line of the L2: its age becomes 0 (R120). -/
def State.l2Touch (s : State) (t line : Nat) : State := s.modL2 t (fun k => k.update line (fun l => { l with age := 0 }))

/-- Whether the requester's world may hit the line (R123). -/
def L2Line.visible (l : L2Line) (w : Bool) : Bool := w || !l.w

/-- A line that an L2 serves to a request, if any. -/
def State.l2Hit (s : State) (t : Nat) (w : Bool) (line : Nat) : Option L2Line :=
  if s.l2On t then ((s.trio t).l2.find line).filter (fun l => l.visible w) else none

/-- Lines that a physical trio's requests carry on the outbound ring, by the window in force (R391), and the message as its die
fabric counts it (R390). -/
def State.ringCount (s : State) (t : Nat) (res : Bool) : State :=
  if t < 84 then
    (s.modTrio t (fun k =>
      let w := match k.window with
        | .entry n => n.val
        | _ => 16
      let key := 2 * w + res.toNat
      { k with bww := SMap.put 0 k.bww key (SMap.get 0 k.bww key + 1) })).countDie (t / 7) (if res then 0x08 else 0x09)
  else s

/-- A dirty line leaves an agent (R170): it waits in WP, and its WbDirty sets out. -/
def State.sendWb (s : State) (a : Nat) (l : L2Line) : State :=
  let s := s.modL2 a (fun k => { k with lines := k.lines ++ [{ l with st := .wp }] })
  let s := if a ≤ 84 then s.countTrio a 0x03 else s
  { s with net := s.net ++ [{ kind := .wbDirty, agent := agentId a, line := l.line, data := l.data, psn := l.poison, tid := l.tid, w := l.w }] }

/-- A line leaves an agent by replacement or maintenance: a modified one is posted, others leave silently. -/
def State.l2Evict (s : State) (a : Nat) (l : L2Line) : State :=
  let s := s.l2Lose a l.line.toNat
  if l.st = .m ∨ l.st = .o then s.sendWb a l else s

/-- A line enters an I/O-die agent's coherent buffer of 64 lines; of a full one the line longest there leaves (DESIGN CHOICE,
assumption 49). -/
def State.ioFill (s : State) (a : Nat) (l : L2Line) : State :=
  let here := (s.l2At a).lines.filter (fun x => decide (x.st ≠ .wp))
  let s := if 64 ≤ here.length then (match here.head? with
      | some v => s.l2Evict a v
      | none => s) else s
  s.modL2 a (fun k => { k with lines := k.lines ++ [l] })

/-- A line enters a trio's L2 when a way remains (R120, R121, R124), or a buffer of the I/O die. -/
def State.l2Fill (s : State) (t : Nat) (r : Rq) (line : Nat) (d : LineData) (psn : Bool) (st : LState) (age : Nat) :
    State × Bool :=
  let new := fun (way : Nat) => (⟨BitVec.ofNat 40 line, way, st, d, age, r.w, BitVec.ofNat 5 r.tid |>.toFin, psn⟩ : L2Line)
  if 84 < t then (s.ioFill t (new 0), true)
  else
    let set := line % 1024
    let here := fun (l : L2Line) => decide (l.line.toNat % 1024 = set) && decide (l.st ≠ .wp)
    let inSet := ((s.trio t).l2.lines.filter here)
    let ageAt := fun way => (inSet.find? (fun l => decide (l.way = way))).map (·.age)
    let cands := waysOf (s.l2Mask t r.tid r.w)
    match pickWay cands ageAt with
    | none => (s, false)
    | some (way, add) =>
      let s := match inSet.find? (fun l => decide (l.way = way)) with
        | some v => s.l2Evict t v
        | none => s
      (s.modL2 t (fun k => { k with lines := k.lines.map (fun l =>
          if here l && cands.contains l.way then { l with age := l.age + add } else l) ++ [new way] }), true)

/-- A W = 0 request meets a line tagged W = 1 and the home has granted it: the tagged line is written back and leaves
(R123). -/
def State.dropTagged (s : State) (t line : Nat) : State :=
  match (s.trio t).l2.find line with
  | some l => s.l2Evict t l
  | none => s

/-- A store's bytes written in a trio's L2, the line's state becoming `st` (R189): the other cores' L1D copies leave; a line poisoned
stays so unless all its bytes are written (R185). -/
def State.l2Put (s : State) (t c line : Nat) (d : LineData) (mask : BitVec 64) (st : LState) : State :=
  let s := s.modL2 t (fun k => k.update line (fun l =>
    { l with data := mergeLine l.data d mask, st := st, poison := l.poison && decide (mask ≠ BitVec.allOnes 64) }))
  forN 3 (fun i s => if coreNo t i = c then s
    else s.modCore (coreNo t i) (fun k => { k with l1d := k.l1d.filter (fun l => decide (l.line.toNat ≠ line)) })) s

/-- A store's bytes written in an L2 that owns the line (R112): WT with a copy to the home, so that the line is never dirty. -/
def State.l2Store (s : State) (t c : Nat) (r : Rq) (ty : MemType) (line : Nat) (d : LineData) (mask : BitVec 64) : State :=
  if ty = .wt then
    let s := s.l2Put t c line d mask .e
    match (s.trio t).l2.find line with
    | some l => (s.mcEnter r line).memPut r.w line l.data l.poison
    | none => s
  else s.l2Put t c line d mask .m

end Sys2Proof.Machine
end

