-- ==== Sys2Proof/Machine/Txn.lean ====
section
/-! DEFINITION. The coherence protocol message by message: requests and transactions at the homes, snoops and their answers,
writebacks, responses, notices of dead agents, and the completion of what is in progress on a line (R116, R162, R167, R168,
R170-R175, R178, R179, R182, R183, R188). -/

namespace Sys2Proof.Machine

/-! ### The merging buffer (R114) -/

/-- An entry closes with every older one (R114). -/
def closeUpTo : List MergeEntry → Nat → List MergeEntry
  | [], _ => []
  | e :: es, 0 => { e with isOpen := false } :: es
  | e :: es, n + 1 => { e with isOpen := false } :: closeUpTo es n

/-- The oldest entry closes while six or more are in use; an entry whose mask is all ones closes with its elders. -/
def settleMerge (m : List MergeEntry) : List MergeEntry :=
  let full := (List.range m.length).reverse.find? (fun i =>
    match m[i]? with
    | some e => decide (e.mask = BitVec.allOnes 64)
    | none => false)
  let m := match full with
    | some i => closeUpTo m i
    | none => m
  if 6 ≤ m.length then closeUpTo m 0 else m

/-- The first byte a mask covers. -/
def maskLow (m : BitVec 64) : Nat := (findFrom (fun i => bit m i) 64 0).getD 0

/-! ### The order of messages (R162) -/

/-- The class of a message: 0 RSP, 1 DAT, 2 SNP, 3 REQ. Requests are held at their homes from their arrival on. -/
def MsgKind.cls : MsgKind → Option Nat
  | .rspI | .rspS | .cmp | .wbAck => some 0
  | .rspFwd | .rspDirty | .dataS | .dataE | .dataM | .wbDirty => some 1
  | .snpShare | .snpOwn | .snpInv => some 2
  | .memRead | .agentDead => none

/-- A message that travels to its agent, and not from it. -/
def MsgKind.toAgent : MsgKind → Bool
  | .snpShare | .snpOwn | .snpInv | .dataS | .dataE | .dataM | .cmp | .wbAck => true
  | .rspI | .rspS | .rspFwd | .rspDirty | .wbDirty | .memRead | .agentDead => false

/-- The class of a message; a notice of a dead agent travels in each. -/
def Sent.cls (m : Sent) : Option Nat := if m.kind = .agentDead then some (m.line.toNat % 4) else m.kind.cls

/-- A message sent earlier arrives before a later one: those of one class in one direction keep their order on a package link, and
those of one agent everywhere. Notices to different homes keep none. -/
def Sent.before (x m : Sent) : Bool :=
  x.cls.isSome && decide (x.cls = m.cls) && x.kind.toAgent == m.kind.toAgent &&
    !(decide (x.kind = .agentDead) && decide (m.kind = .agentDead)) &&
    (decide (x.agent = m.agent) || (decide (portOf x.agent.val = portOf m.agent.val) && decide (portOf m.agent.val < 12)))

/-- The message that must arrive next so that `m` can: the oldest of those before it, or `m`. -/
def State.nextOf (s : State) (m : Sent) : Sent := ((s.net.takeWhile (fun x => decide (x ≠ m))).find? (fun x => x.before m)).getD m

/-- A message on its way, by kind, agent and line, that no earlier one holds up. -/
def State.sentOf (s : State) (k : MsgKind) (a : AgentId) (line : LineAddr) : Option Sent :=
  (s.net.find? (fun m => decide (m.kind = k) && decide (m.agent = a) && decide (m.line = line))).filter
    (fun m => decide (s.nextOf m = m))

/-- A message that has arrived. -/
def State.taken (s : State) (m : Sent) : State := { s with net := s.net.erase m }

/-- A message with data sets out. -/
def State.sendData (s : State) (k : MsgKind) (a : AgentId) (line : LineAddr) (d : LineData) (psn w1 : Bool) : State :=
  { s with net := s.net ++ [{ kind := k, agent := a, line := line, data := d, psn := psn, w1 := w1 }] }

/-- The message of these data is on its way: what the arrival of a data message asks. -/
def State.dataOf (s : State) (k : MsgKind) (m : Msg) : Option Sent :=
  (s.sentOf k m.agent m.line).filter (fun x => decide (x.data = m.data) && x.psn == m.psn && x.w1 == m.w1)

/-- A message as a header and data carry it (R161). -/
def Sent.msg (x : Sent) : Msg :=
  { line := x.line, agent := x.agent, tid := x.tid, w := x.w, res := false, nc := x.nc, h := x.h, w1 := x.w1, psn := x.psn, tag := 0
    data := x.data, mask := 0 }

/-! ### The home's state -/

/-- The open transaction of a line. -/
def Home.txnOf (k : Home) (line : LineAddr) : Option Txn := k.txns.find? (fun x => decide (x.req.msg.line = line))
/-- The home with a line's transaction replaced, or ended. -/
def Home.setTxn (k : Home) (line : LineAddr) (x : Option Txn) : Home :=
  { k with txns := k.txns.filterMap (fun y => if y.req.msg.line = line then x else some y) }
/-- A line whose next request must wait: it has a transaction or a back-invalidation in progress (R168, R179). -/
def Home.busy (k : Home) (line : LineAddr) : Bool :=
  k.txns.any (fun x => decide (x.req.msg.line = line)) || k.evict.any (fun e => decide (e.line = line))

/-- A frame is being filled for an entry in the line: an allocation is a transaction of its line (R156). -/
def State.fillOn (s : State) (line : Nat) : Bool := s.fills.any (fun z => decide (z.entry.toNat / 64 = line))
/-- A line whose next request must wait (R156, R168, R179). -/
def State.lineBusy (s : State) (line : LineAddr) : Bool := (s.home (chanOf line.toNat)).busy line || s.fillOn line.toNat

/-- The requester of a message, as the memory side sees it. -/
def rqOf (m : Msg) : Rq := { agent := m.agent.val, tid := m.tid.val, w := m.w, res := m.res, old := m.h }

/-- An uncached write (R171). -/
def HomeReq.ncw (q : HomeReq) : Bool := q.msg.nc && decide (q.kind = .rdOwn)

/-- A writeback is acknowledged without a write: it was superseded (R174). -/
def State.ackHeld (s : State) (h : Nat) (m : Msg) : State :=
  (s.send .wbAck m.agent.val m.line.toNat).modHome h (fun k => { k with superseded := k.superseded + 1 })

/-! ### Transactions -/

/-- A response with data to the request `m`. -/
def State.respondData (s : State) (k : MsgKind) (m : Msg) (d : LineData × Bool) : State :=
  { s with net := s.net ++ [{ kind := k, agent := m.agent, line := m.line, data := d.1, psn := d.2, tid := m.tid, w := m.w, nc := m.nc
                              h := m.h }] }

/-- The final response of a transaction, and what it leaves in the directory and memory (R171). -/
def State.grant (s : State) (x : Txn) : State :=
  let m := x.req.msg
  let line := m.line.toNat
  let r := rqOf m
  let d := x.fwd.getD (x.mem, x.memPsn)
  let cmp := fun (s : State) =>
    ({ s with net := s.net ++ [{ kind := .cmp, agent := m.agent, line := m.line, tid := m.tid, w := m.w, nc := m.nc }] } : State)
  match x.req.kind with
  | .rdShared =>
    if m.nc then s.respondData .dataS m d
    else
      let g := s.grantShared r.agent r.tid line x.gone
      g.1.respondData (if g.2 = .e then .dataE else .dataS) m d
  | .rdOwn =>
    if m.nc then cmp ((s.dirWrite line .s [] r.tid).memMerge r line m.data m.mask)
    else (s.dirWrite line .x [r.agent] r.tid).respondData .dataM m d
  | .upgrade =>
    let t := s.dirWrite line .x [r.agent] r.tid
    if x.listed then cmp t
    else
      let q := t.memRead r line true
      q.1.respondData .dataM m (q.2.1, q.2.2)

/-- The answers that dead agents owe a transaction are given for them; data owed by a dead owner are poisoned (R182). -/
def State.answerDead (s : State) (h : Nat) (x : Txn) : State × Txn :=
  ((s.home h).dead).foldl (fun (s, x) a =>
    if x.await.any (fun p => decide (p.1 = a)) then
      let line := x.req.msg.line.toNat
      let own := decide ((((s.home h).entry line).bind DirEntry.owner) = some a.val)
      (s.resolveEntry line a.val,
        { x with await := x.await.filter (fun p => decide (p.1 ≠ a)), gone := a.val :: x.gone
                 fwd := if own then some (x.mem, true) else x.fwd })
    else (s, x)) (s, x)

/-- A transaction ends once every snoop is answered and its data are available (R172), and room for an entry is there (R179). -/
def State.tryFinish (s : State) (h : Nat) (line : LineAddr) : State :=
  match (s.home h).txnOf line with
  | none => s
  | some x =>
    let (s, x) := s.answerDead h x
    let s := s.modHome h (fun k => k.setTxn line (some x))
    let ready := x.await.isEmpty && (x.req.kind = .upgrade || x.req.ncw || x.fwd.isSome || x.memIn)
    let full := !x.req.msg.nc && s.dirFull line.toNat
    if !ready || (full && decide (32 ≤ (s.home h).evict.length)) then s
    else
      let s := (s.modHome h (fun k => k.setTxn line none)).grant x
      x.heldWb.foldl (fun s m => s.ackHeld h m) s

/-- Every open transaction of a home that can end does. -/
def State.finishAll (s : State) (h : Nat) : State := ((s.home h).txns).foldl (fun s t => s.tryFinish h t.req.msg.line) s

/-- The snoops that dead agents owe back-invalidations are answered for them (R182). -/
def State.evictDead (s : State) (h a : Nat) : State :=
  let drop := fun (e : EvictEntry) =>
    let e' := { e with await := e.await.filter (fun b => decide (b ≠ agentId a)) }
    if e'.await.isEmpty then none else some e'
  (s.modHome h (fun k => { k with evict := k.evict.filterMap drop })).haSync h

/-- A request begins (R168, R172): a request to a Sealed range by the Open world, and a write to a lost channel, are refused, which
the step records of a trio's uncached store (R465); else the snoops and the memory read start together. -/
def State.beginTxn (s : State) (h : Nat) (q : HomeReq) : State :=
  let m := q.msg
  let line := m.line.toNat
  let world := s.refused m.w line
  if world || (q.ncw && s.chanLost h) then
    let s := s.modL2 m.agent.val (fun k => { k with miss := k.miss.filter (fun r => decide (r.line ≠ m.line)) })
    if q.ncw ∧ m.agent.val ≤ 84 then
      { s with refusals := s.refusals ++
          [⟨m.tid, line * 64 + maskLow m.mask, if world then 0x0B else 0x0F, if world then 3 else 0⟩] }
    else s
  else
    let s := s.resolveDead line
    let e := (s.home h).entry line
    let listed := match e with
      | some e => (s.holders e).contains m.agent.val
      | none => false
    let plan := s.snoopPlan q.kind e m.agent.val m.nc q.ncw
    let s := plan.foldl (fun s p => s.send p.2.msg p.1 line) s
    let reads := decide (q.kind ≠ .upgrade) && !q.ncw
    let (s, d, psn) := if reads then (s.memRead (rqOf m) line !m.nc) else (s, 0, false)
    let s := if reads then s.send .memRead m.agent.val line else s
    let x : Txn := { req := q, await := plan.map (fun p => (agentId p.1, p.2)), listed := listed, mem := d, memPsn := psn }
    (s.modHome h (fun k => { k with txns := k.txns ++ [x] })).tryFinish h m.line

/-- An agent may send a request that keeps the line (R116, R170, R171): it has a miss register free and none filling for the line,
into which the request would merge; RdShared and RdOwn are sent from I, Upgrade from S or O. -/
def State.maySend (s : State) (kind : ReqKind) (m : Msg) : Bool :=
  let k := s.l2At m.agent.val
  let line := m.line.toNat
  !k.miss.any (fun r => decide (r.line = m.line)) && decide (k.miss.length < 32) && (k.findWp line).isNone &&
    match kind, k.find line with
    | .upgrade, some l => decide (l.st = .s ∨ l.st = .o)
    | .upgrade, none => false
    | _, l => l.isNone

/-- A request reaches its home and waits at its port (R167); its agent has a miss register for the line (R116). -/
def State.requestArrives (s : State) (kind : ReqKind) (m : Msg) : State :=
  let a := m.agent.val
  if 0x57 < a || (!m.nc && !s.maySend kind m) then s
  else
    let s := if m.nc then s else s.modL2 a (fun k => { k with miss := k.miss ++ [⟨m.line, m.tag, []⟩] })
    s.modHome (chanOf m.line.toNat) (fun k => { k with queue := k.queue ++ [⟨portOf a, kind, m⟩] })

/-- The request that the arbiter takes (R167): the first port at or after the pointer with a reserved request, or, with none, with
a best-effort one. -/
def Home.winner (k : Home) (rr : Nat) : Option HomeReq :=
  let at' := fun (res : Bool) (i : Nat) => k.queue.find? (fun q => decide (q.port = (rr + i) % 13) && q.msg.res == res)
  ((List.range 13).findSome? (at' true)).or ((List.range 13).findSome? (at' false))

/-- `HA_STATUS`. -/
def haR (h : Nat) : RegRef := ⟨.haStatus, 0, h, 0⟩
/-- The arbiter has taken a request from a port (R167). -/
def State.arbitrated (s : State) (h port : Nat) : State := s.setRf (haR h) 35 32 ((port + 1) % 13)

/-- A home accepts a request (R167, R168): it begins, or joins its line's chain; one that finds 256 transactions open waits. -/
def State.accept (s : State) (h : Nat) (q : HomeReq) : Option State :=
  let k := s.home h
  let waits := s.lineBusy q.msg.line || k.chain.any (fun c => decide (c.msg.line = q.msg.line))
  if !waits && decide (256 ≤ k.txns.length) then none
  else
    let s := (s.arbitrated h q.port).modHome h (fun k => { k with queue := k.queue.erase q })
    some (if waits then s.modHome h (fun k => { k with chain := k.chain ++ [q] }) else s.beginTxn h q)

/-- The next request of a line's chain begins once the line is free (R168). -/
def State.chainBegin (s : State) (line : LineAddr) : Option State :=
  let h := chanOf line.toNat
  let k := s.home h
  if s.lineBusy line || decide (256 ≤ k.txns.length) then none
  else (k.chain.find? (fun c => decide (c.msg.line = line))).map
    (fun q => (s.modHome h (fun k => { k with chain := k.chain.erase q })).beginTxn h q)

/-- The data of a memory read return (R172): those of a transaction that has ended are discarded. -/
def State.memIn (s : State) (m : Sent) : State :=
  let h := chanOf m.line.toNat
  let s := s.taken m
  match (s.home h).txnOf m.line with
  | none => s
  | some x => (s.modHome h (fun k => k.setTxn m.line (some { x with memIn := true }))).tryFinish h m.line

/-! ### Snoops -/

/-- The snoops an agent has outstanding: it accepts sixteen (R162). -/
def State.snoopsAt (s : State) (a : Nat) : Nat := (s.l2At a).answers.length + ((s.l2At a).miss.map (fun r => r.held.length)).sum

/-- The snoop that a message carries. -/
def MsgKind.snoop : MsgKind → Option Snp
  | .snpShare => some .share
  | .snpOwn => some .own
  | .snpInv => some .inv
  | _ => none

/-- A snoop reaches an agent (R173): one whose fill is on its way holds it. -/
def State.snoopIn (s : State) (k : Snp) (m : Sent) : State :=
  let s := s.taken m
  let filling := s.net.any (fun x => decide (x.agent = m.agent) && decide (x.line = m.line) &&
    [MsgKind.dataS, .dataE, .dataM, .cmp].contains x.kind)
  s.modL2 m.agent.val (fun l2 =>
    if filling && l2.miss.any (fun r => decide (r.line = m.line)) then
      { l2 with miss := l2.miss.map (fun r => if r.line = m.line then { r with held := r.held ++ [k] } else r) }
    else { l2 with answers := l2.answers ++ [(m.line, k)] })

/-- An agent answers its oldest snoop for a line from the state the line then has (R173). -/
def State.answerSnoop (s : State) (a : AgentId) (line : LineAddr) : State :=
  match (s.l2At a.val).answers.find? (fun p => decide (p.1 = line)) with
  | none => s
  | some p =>
    let s := s.modL2 a.val (fun k => { k with answers := k.answers.erase p })
    match s.snoop a.val p.2 line.toNat with
    | (s, .i) => s.send .rspI a.val line.toNat
    | (s, .s) => s.send .rspS a.val line.toNat
    | (s, .fwd d psn w1) => s.sendData .rspFwd a line d psn w1
    | (s, .dirty d psn) => s.sendData .rspDirty a line d psn false

/-- A snoop's answer reaches the home (R173, R174, R178, R179). -/
def State.answered (s : State) (m : Sent) (x : Ans) : State :=
  let s := s.taken m
  let line := m.line.toNat
  let h := chanOf line
  let a := m.agent
  let mine := fun (w : Msg) => decide (w.agent = a)
  match ((s.home h).txnOf m.line).bind (fun t => (t.await.find? (fun p => decide (p.1 = a))).map (fun p => (t, p.2))) with
  | some (t, k) =>
    let q := t.req.msg
    let (s, g) := s.takeAns k line q.tid.val q.w {} a.val x
    let s := if x = .i then s.unlist a.val line else s
    let s := (t.heldWb.filter mine).foldl (fun s w => s.ackHeld h w) s
    let t' := { t with await := t.await.erase (a, k), gone := g.gone ++ t.gone
                       fwd := (g.fwd.map (fun d => (d, g.psn))).or t.fwd, heldWb := t.heldWb.filter (fun w => !mine w) }
    (s.modHome h (fun k => k.setTxn m.line (some t'))).tryFinish h m.line
  | none =>
    match (s.home h).evict.find? (fun e => decide (e.line = m.line) && e.await.contains a) with
    | none => s
    | some e =>
      let (s, _) := s.takeAns .inv line e.tid.val false {} a.val x
      let s := (e.heldWb.filter mine).foldl (fun s w => s.ackHeld h w) s
      let e' := { e with await := e.await.erase a, heldWb := e.heldWb.filter (fun w => !mine w) }
      let evict := fun (k : Home) => k.evict.filterMap (fun y => if y = e then (if e'.await.isEmpty then none else some e') else some y)
      ((s.modHome h (fun k => { k with evict := evict k })).haSync h).finishAll h

/-! ### Writebacks (R174) -/

/-- The home takes a dirty line from its agent, which leaves the entry when it is the owner (R174). -/
def State.writeBack (s : State) (a : Nat) (m : Msg) : State :=
  let line := m.line.toNat
  if (((s.home (chanOf line)).entry line).bind DirEntry.owner) = some a then
    (s.memWriteLine m.tid.val m.w line m.data m.psn).disown a line
  else s

/-- A WbDirty reaches its home: written and acknowledged from the owner, held while a snoop to the sender is outstanding, else
acknowledged. -/
def State.wbIn (s : State) (m : Msg) : State :=
  let h := chanOf m.line.toNat
  let k := s.home h
  if ((k.txnOf m.line).map (fun x => x.await.any (fun p => decide (p.1 = m.agent)))).getD false then
    s.modHome h (fun k => { k with txns := k.txns.map (fun x =>
      if x.req.msg.line = m.line then { x with heldWb := x.heldWb ++ [m] } else x) })
  else if k.evict.any (fun e => decide (e.line = m.line) && e.await.contains m.agent) then
    s.modHome h (fun k => { k with evict := k.evict.map (fun e =>
      if e.line = m.line then { e with heldWb := e.heldWb ++ [m] } else e) })
  else (s.writeBack m.agent.val m).send .wbAck m.agent.val m.line.toNat

/-- A WbAck reaches its agent and frees the writeback buffer's entry (R174). -/
def State.ackIn (s : State) (m : Sent) : State :=
  (s.taken m).modL2 m.agent.val (fun k => { k with
    lines := k.lines.filter (fun l => !(decide (l.line = m.line) && decide (l.st = .wp)))
    superseded := k.superseded.filter (fun l => decide (l ≠ m.line)) })

/-! ### Responses (R171) -/

/-- The snoops that a miss register held are answered once its fill is there and the access that asked for it is performed
(R173). -/
def State.missDone (s : State) (t : Nat) (line : LineAddr) : State :=
  s.modL2 t (fun k =>
    let held := (k.miss.filter (fun r => decide (r.line = line))).flatMap (fun r => r.held)
    { k with miss := k.miss.filter (fun r => decide (r.line ≠ line)), answers := k.answers ++ held.map (fun x => (line, x)) })

/-- The stores that asked for a line are performed when it is owned: closed entries for it at the head of the trio's merging buffers
are written into the L2 (R173, R189). -/
def State.performHeads (s : State) (t line : Nat) : State :=
  if 84 < t then s
  else
    forN 3 (fun i s =>
      let c := coreNo t i
      match (s.core c).merge, (s.trio t).l2.find line with
      | e :: rest, some l =>
        if !e.isOpen && decide (e.line.toNat = line) && decide (e.ty = .wb ∨ e.ty = .wt) && l.visible e.w && decide (l.st = .m) then
          (s.modCore c (fun k => { k with merge := settleMerge rest })).l2Store t c
            { agent := t, tid := e.tid.val, w := e.w } e.ty line e.data e.mask
        else s
      | _, _ => s) s

/-- Data reach their requester, which enters the state granted; an uncached access keeps nothing. A line that finds no way is
written back if it is modified. -/
def State.dataIn (s : State) (x : Sent) (st : LState) : State :=
  let s := s.taken x
  let a := x.agent.val
  let line := x.line.toNat
  let r : Rq := { agent := a, tid := x.tid.val, w := x.w }
  if x.nc || !(s.l2At a).miss.any (fun q => decide (q.line = x.line)) then s
  else
    let s := match (s.l2At a).find line with
      | some _ => s.modL2 a (fun k => k.update line (fun l =>
          { l with st := st, data := x.data, poison := x.psn, w := x.w, tid := x.tid }))
      | none =>
        let f := if 84 < a || s.l2Room a r then s.l2Fill a r line x.data x.psn st (if x.h then 3 else 0) else (s, false)
        if f.2 || decide (st ≠ LState.m) then f.1 else f.1.sendWb a ⟨x.line, 0, LState.m, x.data, 0, x.w, x.tid, x.psn⟩
    (s.performHeads a line).missDone a x.line

/-- A Cmp reaches its requester (R171): after an Upgrade the line is M; an uncached write is performed. -/
def State.cmpIn (s : State) (x : Sent) : State :=
  let s := s.taken x
  let a := x.agent.val
  if x.nc then s
  else
    ((s.modL2 a (fun k => k.update x.line.toNat (fun l => { l with st := .m }))).performHeads a x.line.toNat).missDone a x.line

/-! ### Dead agents -/

/-- A notice of a dead agent reaches a home (R182): with the fourth the reclaim starts, and what the agent owes is answered for it. -/
def State.noticeIn (s : State) (m : Sent) : State :=
  let h := m.line.toNat / 4
  let cls : Fin 4 := Fin.ofNat 4 m.line.toNat
  let a := m.agent
  let s := (s.taken m).modHome h (fun k => { k with notices := k.notices ++ [(a, cls)] })
  if ((s.home h).notices.filter (fun n => decide (n.1 = a))).length < 4 then s
  else
    let s := s.modHome h (fun k => { k with notices := k.notices.filter (fun n => decide (n.1 ≠ a)) })
    ((s.startReclaim h a.val).evictDead h a.val).finishAll h

/-! ### What is in progress on a line completes -/

/-- A message arrives. -/
def State.deliver (s : State) (m : Sent) : State :=
  match m.kind with
  | .snpShare => s.snoopIn .share m
  | .snpOwn => s.snoopIn .own m
  | .snpInv => s.snoopIn .inv m
  | .rspI => s.answered m .i
  | .rspS => s.answered m .s
  | .rspFwd => s.answered m (.fwd m.data m.psn m.w1)
  | .rspDirty => s.answered m (.dirty m.data m.psn)
  | .dataS => s.dataIn m .s
  | .dataE => s.dataIn m .e
  | .dataM => s.dataIn m .m
  | .cmp => s.cmpIn m
  | .wbAck => s.ackIn m
  | .wbDirty => (s.taken m).wbIn m.msg
  | .memRead => s.memIn m
  | .agentDead => s.noticeIn m

/-- A message arrives, or what must come before it happens: an earlier message of its class arrives, or the agent answers its oldest
snoop, having sixteen outstanding. -/
def State.bringIn (s : State) (m : Sent) : State :=
  let m := s.nextOf m
  if m.kind.snoop.isSome && decide (16 ≤ s.snoopsAt m.agent.val) then
    match (s.l2At m.agent.val).answers with
    | p :: _ => s.answerSnoop m.agent p.1
    | [] => s.deliver m
  else s.deliver m

/-- The agents with snoops to answer. -/
def State.snooped (s : State) (line : LineAddr) : Option Nat :=
  let asked := fun (k : L2) => k.answers.any (fun p => decide (p.1 = line))
  ((s.trios.find? (fun e => asked e.2.l2)).map (·.1)).or ((s.ioBuf.find? (fun e => asked e.2)).map (·.1))

/-- One event of what is in progress on a line: an answer to a snoop, the arrival of a message, or the notices of a dead agent that
the line's home would wait for. -/
def State.lineStep (s : State) (line : LineAddr) : Option State :=
  let h := chanOf line.toNat
  let k := s.home h
  match s.snooped line with
  | some a => some (s.answerSnoop (agentId a) line)
  | none =>
    match s.net.find? (fun m => decide (m.line = line) && decide (m.kind ≠ .agentDead)) with
    | some m => some (s.bringIn m)
    | none =>
      let named := ((k.entry line.toNat).map (fun e => e.ptrs)).getD [] ++
        ((k.txnOf line).map (fun x => x.await.map (·.1))).getD [] ++
        (k.evict.filter (fun e => decide (e.line = line))).flatMap (fun e => e.await)
      (s.net.find? (fun m => decide (m.kind = .agentDead) && decide (m.line.toNat / 4 = h) && named.contains m.agent)).map s.bringIn

/-- One event towards the completion of what is in progress on a line: its own, the next request of its chain, or the oldest
back-invalidation for whose room its transaction waits. -/
def State.settleStep (s : State) (line : LineAddr) : Option State :=
  match s.lineStep line with
  | some s => some s
  | none =>
    let k := s.home (chanOf line.toNat)
    match s.chainBegin line, k.txnOf line, k.evict with
    | some s, _, _ => some s
    | none, some _, e :: _ => s.lineStep e.line
    | none, _, _ => none

/-- Events one after another, `n` at most. -/
def State.settleN (s : State) (line : LineAddr) : Nat → State
  | 0 => s
  | n + 1 =>
    match s.settleStep line with
    | some s => s.settleN line n
    | none => s

/-- Everything in progress on a line completes: what an access to the line waits for (R168, R173-R175, R179). The bound is that of
the messages on their way and of those that the waiting requests bring forth. -/
def State.settleLine (s : State) (line : Nat) : State :=
  let k := s.home (chanOf line)
  s.settleN (BitVec.ofNat 40 line) (16 * s.net.length + 400 * (2 + k.chain.length + k.queue.length + k.evict.length))

/-- The requests that the home's arbiter takes before one at `port` are accepted, and then that one (R167). -/
def State.passArbiter (s : State) (h : Nat) (own : HomeReq) : Nat → State
  | 0 => s.arbitrated h own.port
  | n + 1 =>
    match ({ s.home h with queue := (s.home h).queue ++ [own] } : Home).winner (s.rf (haR h) 35 32) with
    | none => s.arbitrated h own.port
    | some q =>
      if q = own then s.arbitrated h own.port
      else
        match s.accept h q with
        | some s => s.passArbiter h own n
        | none => s.arbitrated h own.port

/-- A request of agent `r.agent` for a line has its turn at the home (R167, R168): what is in progress on the line completes, the
requests that the arbiter takes first are accepted, and those for the line complete too. -/
def State.turnAt (s : State) (r : Rq) (line : Nat) : State :=
  let s := s.settleLine line
  let m : Msg := { (⟨.rspI, agentId r.agent, BitVec.ofNat 40 line, 0, false, false, 0, r.w, false, r.old⟩ : Sent).msg with res := r.res }
  let h := chanOf line
  (s.passArbiter h ⟨portOf r.agent, .rdShared, m⟩ (s.home h).queue.length).settleLine line

end Sys2Proof.Machine
end

