-- ==== Sys2Proof/Machine/Agent.lean ====
section
/-! DEFINITION. The requests of trios and units as whole accesses: what is in progress on the line completes first, in the order
that the homes serve it, and the access is then served (R111, R112, R116, R123, R147, R156-R158, R167, R168, R170-R172). -/

namespace Sys2Proof.Machine

/-! ### Uncached writes, and the home's own operations on a line -/

/-- An uncached write begun and ended (R171): every holder is sent SnpInv, dirty data go to the memory side, and the bytes merge
there. -/
def State.ncWriteNow (s : State) (r : Rq) (line : Nat) (d : LineData) (mask : BitVec 64) : State :=
  let s := s.resolveDead line
  let e := (s.home (chanOf line)).entry line
  let g := s.snoopAll line r.tid r.w (s.snoopPlan .rdOwn e r.agent true true)
  (g.1.dirWrite line .s [] r.tid).memMerge r line d mask

/-- The home agent as it updates an entry for a tenant's walk. -/
def homeRq (tid : Nat) : Rq := { agent := 0x55, tid := tid, w := false }

/-- Doublewords as a line. -/
def lineOfDws (l : List Dword) : LineData := BitVec.ofNat 512 (l.foldr (fun (d : Dword) n => d.toNat + 2 ^ 64 * n) 0)
/-- Doubleword `i` of a line. -/
def lineDw (d : LineData) (i : Nat) : Dword := (d >>> (64 * i)).truncate 64

/-- A line at the memory side. -/
def State.memLine (s : State) (line : Nat) : LineData × Bool :=
  match (if s.mscOn then s.msc.find line else none) with
  | some l => (l.data, l.poison)
  | none => s.dramRead line

/-- The doublewords of an entry as the home's line holds them, with every cached copy taken back: the home's indivisible
operation sees and changes memory-side data (R149, R156). -/
def State.entryNow (s : State) (ea : Nat) : State × Dword × Dword :=
  let line := ea / 64
  let s := s.resolveDead line
  let s := (s.snoopAll line 0 false (s.snoopPlan .rdOwn ((s.home (chanOf line)).entry line) 0x80 true true)).1
  let s := s.dirWrite line .s [] 0
  let d := (s.memLine line).1
  (s, lineDw d (ea / 8 % 8), lineDw d (ea / 8 % 8 + 1))

/-- Doubleword 1 of an entry written at the home. -/
def State.putEntry (s : State) (r : Rq) (ea : Nat) (d1 : Dword) : State :=
  let p := linePatch (ea % 64 + 8) 8 d1.toNat
  s.memMerge r (ea / 64) p.1 p.2

/-! ### Frames being filled (R156-R158) -/

/-- The zero-fill of a frame (R157): each line's write has its turn at the line's home; every copy leaves, the zeros supersede dirty
data, and poison clears (R185). -/
def State.zeroFill (s : State) (t frame : Nat) : State :=
  forN 64 (fun i s =>
    let line := frame * 64 + i
    (s.turnAt (homeRq t) line).ncWriteNow (homeRq t) line 0 (BitVec.allOnes 64)) s

/-- The install of a frame (R156): PFN, FP, A, and D for a store. Answers both doublewords. -/
def State.allocInstall (s : State) (t ea frame : Nat) (store : Bool) : State × Dword × Dword :=
  match s.entryNow ea with
  | (s, h0, h1) =>
    let d1 := setFld (setFld (setFld h1 63 30 frame) 18 18 1) 21 20 (if store then 3 else 2)
    (s.putEntry (homeRq t) ea d1, h0, d1)

/-- The address of the entry that a fill is for. -/
def ZeroFill.ea (z : ZeroFill) : Nat := z.entry.toNat / 16 * 16

/-- The zero-fill of a frame ends, and its entry is installed (R156, R157). -/
def State.fillDone (s : State) (z : ZeroFill) : State × Dword × Dword :=
  let t := z.tid.val
  let r := (s.zeroFill t z.frame.toNat).allocInstall t z.ea z.frame.toNat z.store
  ({ r.1 with fills := r.1.fills.erase z }, r.2)

/-- The installed entry is returned to the allocation that filled its frame, and to each that waited behind it, which begins then:
with its doubleword 0 unchanged it finds FP = 1 and pops nothing (R158). -/
def State.fillEnds (s : State) (z : ZeroFill) : State :=
  let r := s.fillDone z
  z.chained.foldl (fun s d0 => s.answer (.data (if d0 = r.2.1 then [r.2.1, r.2.2] else []))) (r.1.answer (.data [r.2.1, r.2.2]))

/-- The fills for entries of a line, those whose frame is still being popped excepted. -/
def State.fillsOf (s : State) (line : Nat) : List ZeroFill :=
  s.fills.filter (fun z => decide (z.ea / 64 = line) && !z.popping)

/-- Everything in progress on a line completes, allocations of its entries too. -/
def State.calm (s : State) (line : Nat) : State :=
  let s := s.settleLine line
  match s.fillsOf line with
  | [] => s
  | zs => (zs.foldl State.fillEnds s).settleLine line

/-- A request for a line has its turn at the home (R156, R167, R168). -/
def State.turn (s : State) (r : Rq) (line : Nat) : State := ((s.calm line).turnAt r line).calm line

/-- An allocation of a directory entry that finds the eviction buffer's 32 entries busy waits for the oldest to be free (R179). -/
def State.dirRoom (s : State) (line : Nat) : State :=
  let k := s.home (chanOf line)
  match k.evict with
  | e :: _ => if s.dirFull line && decide (32 ≤ k.evict.length) then s.settleLine e.line.toNat else s
  | [] => s

/-- The doublewords of an entry at its home, in the turn of an update for a tenant's walk. -/
def State.homeEntry (s : State) (tid ea : Nat) : State × Dword × Dword := (s.turn (homeRq tid) (ea / 64)).entryNow ea

/-! ### Requests of agents -/

/-- RdShared of an agent, complete: the state granted is E when no other agent holds the line (R171, R172, R178). An NC
request records nobody. -/
def State.rdShared (s : State) (r : Rq) (line : Nat) (nc alloc : Bool) : State × Except MemErr (LineData × Bool × LState) :=
  let s := s.turn r line
  if s.refused r.w line then (s, .error .world)
  else
    let s := s.resolveDead line
    let e := (s.home (chanOf line)).entry line
    let g := s.snoopAll line r.tid r.w (s.snoopPlan .rdShared e r.agent nc false)
    let m := g.1.memRead r line alloc
    let s := m.1
    let data := g.2.fwd.getD m.2.1
    let psn := if g.2.fwd.isSome then g.2.psn else m.2.2
    if nc then (g.2.gone.foldl (fun s a => s.unlist a line) s, .ok (data, psn, .s))
    else
      let (s, st) := (s.dirRoom line).grantShared r.agent r.tid line g.2.gone
      (s, .ok (data, psn, st))

/-- RdOwn of an agent, complete: every other copy leaves, the agent becomes the owner (R171, R172). -/
def State.rdOwn (s : State) (r : Rq) (line : Nat) : State × Except MemErr (LineData × Bool) :=
  let s := s.turn r line
  if s.refused r.w line then (s, .error .world)
  else
    let s := s.resolveDead line
    let e := (s.home (chanOf line)).entry line
    let g := s.snoopAll line r.tid r.w (s.snoopPlan .rdOwn e r.agent false false)
    let m := g.1.memRead r line true
    let s := (m.1.dirRoom line).dirWrite line .x [r.agent] r.tid
    (s, .ok (g.2.fwd.getD m.2.1, if g.2.fwd.isSome then g.2.psn else m.2.2))

/-- Upgrade of an agent that holds the line shared, complete (R171): the other copies leave. Data come with the answer when the
directory no longer lists the sender. -/
def State.upgrade (s : State) (r : Rq) (line : Nat) : State × Except MemErr (Option (LineData × Bool)) :=
  let s := s.turn r line
  if s.refused r.w line then (s, .error .world)
  else
    let s := s.resolveDead line
    let e := (s.home (chanOf line)).entry line
    let listed := match e with
      | some e => (s.holders e).contains r.agent
      | none => false
    let g := s.snoopAll line r.tid r.w (s.snoopPlan .upgrade e r.agent false false)
    let s := (g.1.dirRoom line).dirWrite line .x [r.agent] r.tid
    if listed then (s, .ok none)
    else
      let m := s.memRead r line true
      (m.1, .ok (some m.2))

/-- An uncached write, complete (R171). A write to a lost channel is refused (R337). Answers the line as it was. -/
def State.ncWrite (s : State) (r : Rq) (line : Nat) (d : LineData) (mask : BitVec 64) : State × Except MemErr LineData :=
  let s := s.turn r line
  if s.refused r.w line then (s, .error .world)
  else if s.chanLost (chanOf line) then (s, .error (.device 0))
  else
    let was := (s.ncWriteNow r line 0 0).memLine line
    (s.ncWriteNow r line d mask, .ok was.1)

/-! ### A trio's L2 -/

/-- A miss register is free for a request that none of the three kept ones serves (R116): of 32, one is kept for each core's demand
reads. -/
def State.missRoom (s : State) (t : Nat) : Bool := decide ((s.trio t).l2.miss.length < 29)

/-- A drain waits until it finds a miss register that is not one of the kept ones (R116): the oldest fills arrive. -/
def State.missWait (s : State) (t : Nat) : State :=
  forN 4 (fun _ s => match (s.trio t).l2.miss with
    | m :: _ => if s.missRoom t then s else s.calm m.line.toNat
    | [] => s) s

/-- A line read through a trio's L2, cached (R111, R116, R120): the data, whether poisoned, whether the L2 now holds it,
and what served it (3 L2, 4 Memory-Side Cache, 5 DRAM). A miss of a line that a miss register is filling merges into it: the fill
arrives first. -/
def State.l2Read (s : State) (t : Nat) (r : Rq) (line : Nat) :
    State × Except MemErr (LineData × Bool × Bool × Nat) :=
  let hits := fun (s : State) (l : L2Line) =>
    (if r.pf then s else (s.l2Touch t line).countTrioFor t r.tid 0x01, Except.ok (l.data, l.poison, true, 3))
  match s.l2Hit t r.w line with
  | some l => hits s l
  | none =>
    let s := s.calm line
    match s.l2Hit t r.w line with
    | some l => hits s l
    | none =>
      if s.refused r.w line then (s, .error .world)
      else
        let s := (if r.pf then s else s.countTrioFor t r.tid 0x02).ringCount t r.res
        let s := (s.dropTagged t line).calm line
        let inMsc := (s.msc.find line).isSome && s.mscOn
        let room := s.l2Room t r
        match s.rdShared r line (!room) true with
        | (s, .error e) => (s, .error e)
        | (s, .ok (d, psn, st)) =>
          let f := if room then s.l2Fill t r line d psn st (if r.old then 3 else 0) else (s, false)
          (f.1, .ok (d, psn, f.2, if inMsc then 4 else 5))

/-- A store's bytes reach memory past the L2 (R112, R131). -/
def State.storePast (s : State) (t : Nat) (r : Rq) (line : Nat) (d : LineData) (mask : BitVec 64) :
    State × Except MemErr LineData := ((s.dropTagged t line).ringCount t r.res).ncWrite r line d mask

/-- A line of which the L2 has become the owner takes a store: during a clean the bytes are also written to the home, and the line
stays clean or dirty as it was (R130). -/
def State.ownedStore (s : State) (t c : Nat) (r : Rq) (ty : MemType) (line : Nat) (d : LineData) (mask : BitVec 64) (dirty : Bool) :
    State :=
  if s.rf ⟨.l2Ctl, t, 0, 0⟩ 1 1 = 1 then
    (s.l2Put t c line d mask (if dirty then LState.m else LState.e)).memMerge r line d mask
  else s.l2Store t c r ty line d mask

/-- A store that the L2's copy cannot serve: with ownership of the line and an allocation (R112), else past the L2. -/
def State.storeMiss (s : State) (t c : Nat) (r : Rq) (ty : MemType) (line : Nat) (d : LineData) (mask : BitVec 64) :
    State × Except MemErr LineData :=
  let s := s.calm line
  if s.refused r.w line then (s, .error .world)
  else
    let s := ((s.dropTagged t line).calm line).ringCount t r.res
    if s.l2Room t r then
      match s.rdOwn r line with
      | (s, .error e) => (s, .error e)
      | (s, .ok (old, psn)) =>
        let f := s.l2Fill t r line old psn .m (if r.old then 3 else 0)
        if f.2 then (f.1.ownedStore t c r ty line d mask true, .ok old) else f.1.ncWrite r line d mask
    else s.ncWrite r line d mask

/-- A merging-buffer entry's bytes reach memory (R112, R114, R171): WB and WT through the L2 with ownership of the line, WT
with a copy to the home so that the line is never dirty; other types, and everything while the L2 does not allocate, as an
uncached write. Answers the line as it was. -/
def State.drainBytes (s : State) (t c : Nat) (r : Rq) (ty : MemType) (line : Nat) (d : LineData) (mask : BitVec 64) :
    State × Except MemErr LineData :=
  if !decide (ty = .wb ∨ ty = .wt) then
    let s := s.calm line
    if s.refused r.w line then (s, .error .world) else s.storePast t r line d mask
  else
    let owns := fun (l : L2Line) => decide (l.st = .m ∨ l.st = .e)
    let s := match s.l2Hit t r.w line with
      | some l => if owns l then s else (s.missWait t).calm line
      | none => (s.missWait t).calm line
    match s.l2Hit t r.w line with
    | none => s.storeMiss t c r ty line d mask
    | some l =>
      let s := s.l2Touch t line
      if owns l then (s.ownedStore t c r ty line d mask (decide (l.st = .m)), .ok l.data)
      else
        match s.upgrade r line with
        | (s, .error e) => (s, .error e)
        | (s, .ok got) =>
          -- requests that the home served first may have taken the line: the data then come with the answer
          match (s.trio t).l2.find line, got with
          | some l, none => (s.ownedStore t c r ty line d mask (decide (l.st = .o)), .ok l.data)
          | some _, some x =>
            let s := s.modL2 t (fun k => k.update line (fun l => { l with data := x.1, poison := x.2 }))
            (s.ownedStore t c r ty line d mask true, .ok x.1)
          | none, _ =>
            let x := got.getD (s.memLine line)
            let f := s.l2Fill t r line x.1 x.2 .m 0
            if f.2 then (f.1.ownedStore t c r ty line d mask true, .ok x.1) else f.1.ncWrite r line d mask

end Sys2Proof.Machine
end

