-- ==== Sys2Proof/Machine/Sole.lean ====
section
/-! DEFINITION. The Sole recorder: records, staging, token buckets, areas and the tag chain (R416-R425, R428). -/

namespace Sys2Proof.Machine

/-- Doubleword 0 of a record (R283). -/
def recHdr (cause sub kind tid cid handle seq : Nat) (ph : Bool) : Dword :=
  BitVec.ofNat 64 (cause <<< 56 ||| sub <<< 48 ||| kind <<< 44 ||| tid <<< 39 ||| cid <<< 26 ||| handle <<< 14 |||
    seq <<< 1 ||| ph.toNat)

/-- A record of eight doublewords from its header, its time and its payload (R283): unlisted doublewords are 0. -/
def mkRec (hdr time : Dword) (payload : List Dword) : List Dword := (hdr :: time :: payload ++ List.replicate 6 0).take 8

/-- Records an area holds (R416): 0 the system ring, 1-31 the tenants', 32 snapshots, 33 the life log, 34 the
configuration image. -/
def areaCap (a : Nat) : Nat := if a = 0 then 262144 else if a = 32 then 196608 else if a = 33 then 64512 else if a = 34 then 1024 else 16384

/-- An area of Sole. -/
def State.area (s : State) (a : Nat) : SoleArea := SMap.get {} s.sole.areas a
/-- The state with an area changed. -/
def State.modArea (s : State) (a : Nat) (f : SoleArea → SoleArea) : State :=
  { s with sole := { s.sole with areas := SMap.put {} s.sole.areas a (f (s.area a)) } }

/-- `SOLE_STAT`. -/
def soleStatR : RegRef := ⟨.soleStat, 0, 0, 0⟩
/-- The bytes of Sole's spare lines, R416: 16,320 lines. -/
def spareLines : Nat := 16320
/-- The key of record `i` of area `a` in `Sole.recs`. -/
def recKey (a i : Nat) : Nat := a * 2 ^ 20 + i

/-- The area's TID field in its tag records and suppressed records. -/
def areaTid (a : Nat) : Nat := if a ≤ 31 then a else 0

/-- NEXT moves on: an area that wraps starts again, with its phase turned; the life log never wraps (R416, R417, R424). -/
def SoleArea.on (k : SoleArea) (a : Nat) : SoleArea :=
  let last := decide (k.next + 1 = areaCap a) && decide (a ≠ 33)
  { k with next := if last then 0 else k.next + 1, wrap := k.wrap || last, ph := if last then !k.ph else k.ph }

/-- A record written at NEXT of an area, with the area's SEQ and PH; NEXT moves on, wrapping where the area wraps (R416,
R417). The life log never wraps: when it is full the record is not written there (R424). -/
def State.solePut (s : State) (a : Nat) (r : List Dword) : State :=
  let k := s.area a
  if a = 33 ∧ areaCap 33 ≤ k.next then s.setRf soleStatR 2 2 1
  else
    let seq := k.seq + 1
    let dws := match r with
      | h :: t => (setFld h 13 0 (seq.toNat * 2 + k.ph.toNat)) :: t
      | [] => []
    let s := { s with sole := { s.sole with recs := SMap.put [] s.sole.recs (recKey a k.next) dws } }
    let s := s.modArea a (fun k => { k.on a with seq := seq })
    if a = 33 ∧ k.next + 1 = areaCap 33 then s.setRf soleStatR 2 2 1 else s

/-- The open link of an area closes with its tag record (R419). -/
def State.soleClose (s : State) (a : Nat) : State :=
  let k := s.area a
  match k.link with
  | [] => s
  | l =>
    let ctr := s.sec.sealCounter
    let tag := Config.soleMac (ctr :: k.prevTag.1 :: k.prevTag.2 :: l.flatten)
    let r := mkRec (recHdr 0 0 15 (areaTid a) 0x1FFF 0xFFF 0 false) s.timebase
      [ctr, BitVec.ofNat 64 l.length, tag.1, tag.2, k.prevTag.1, k.prevTag.2]
    let s := { s with sec := { s.sec with sealCounter := ctr + 1 } }
    (s.solePut a r).modArea a (fun k => { k with link := [], prevTag := tag })

/-- A record of an area reaches the MRAM and joins the open link; the 63rd closes it (R419). -/
def State.soleWrite (s : State) (a : Nat) (r : List Dword) : State :=
  let n := (s.area a).next
  let s := s.solePut a r
  let stored := SMap.get [] s.sole.recs (recKey a n)
  let s := s.modArea a (fun k => { k with link := k.link ++ [stored] })
  if 63 ≤ (s.area a).link.length then s.soleClose a else s

/-- A record enters staging, where 64 of the 256 entries are kept for the system ring and the life log (R420). -/
def State.stage (s : State) (a : Nat) (r : List Dword) : Option State :=
  let tenants := (s.sole.staging.filter (fun e => decide (1 ≤ e.1 ∧ e.1 ≤ 31))).length
  let room := decide (s.sole.staging.length < 256) && (!decide (1 ≤ a ∧ a ≤ 31) || decide (tenants < 192))
  if room then some { s with sole := { s.sole with staging := s.sole.staging ++ [(a, r)] } } else none

/-- A record of the system ring or the life log: with staging full, or Sole dead, it is not written and counts in SYSLOST
(R420, R425). -/
def State.soleSys (s : State) (a : Nat) (r : List Dword) : State :=
  if s.rf soleStatR 3 3 = 1 then s.incRf soleStatR 63 32
  else
    match s.stage a r with
    | some s => s
    | none => (s.incRf soleStatR 63 32).modArea 0 (fun k => { k with supp := k.supp + 1 })

/-- A tenant area's bucket brought up to now (R421): RATE tokens per second, up to BURST. -/
def State.refill (s : State) (t : Nat) : State :=
  let r := s.reg ⟨.soleRate, 0, t, 0⟩
  let full := fld r 31 16 * 10 ^ 8
  s.modArea t (fun k => { k with
    tokens := match k.tokens with
      | none => none
      | some n => if full ≤ n + fld r 15 0 * (s.timebase - k.tokAt).toNat then none
                  else some (n + fld r 15 0 * (s.timebase - k.tokAt).toNat)
    tokAt := s.timebase })

/-- The bucket's level. -/
def State.level (s : State) (t : Nat) : Nat :=
  let full := s.rf ⟨.soleRate, 0, t, 0⟩ 31 16 * 10 ^ 8
  min (((s.area t).tokens).getD full) full

/-- One token taken. -/
def State.takeToken (s : State) (t : Nat) : State :=
  let n := s.level t
  s.modArea t (fun k => { k with tokens := some (n - 10 ^ 8) })

/-- A tenant record is not written: it counts as suppressed (R420, R421). -/
def State.suppress (s : State) (t : Nat) : State :=
  (s.incRf ⟨.soleRate, 0, t, 0⟩ 63 48).modArea t (fun k => { k with supp := k.supp + 1 })

/-- The KIND 9 record of an area (R417). -/
def State.suppRec (s : State) (a : Nat) : List Dword :=
  mkRec (recHdr 0 0 9 (areaTid a) 0x1FFF 0xFFF 0 false) s.timebase [BitVec.ofNat 64 (s.area a).supp, BitVec.ofNat 64 a]

/-- A record of tenant area `t` under its token bucket (R420, R421). -/
def State.soleTenant (s : State) (t : Nat) (r : List Dword) : State :=
  if s.rf soleStatR 3 3 = 1 then s.incRf soleStatR 63 32
  else
    let s := s.refill t
    if s.level t < 10 ^ 8 then s.suppress t
    else
      let s :=
        if 0 < (s.area t).supp ∧ 2 * 10 ^ 8 ≤ s.level t then
          match s.stage t (s.suppRec t) with
          | some s => (s.takeToken t).modArea t (fun k => { k with supp := 0 })
          | none => s
        else s
      match s.stage t r with
      | some s => s.takeToken t
      | none => s.suppress t

/-- A record in Sole (R417): in the tenant's area for TID 1-31, otherwise in the system ring. -/
def State.soleRec (s : State) (tid : Nat) (r : List Dword) : State :=
  if 1 ≤ tid ∧ tid ≤ 31 then s.soleTenant tid r else s.soleSys 0 r

/-- A system event (R418); SUB 0x03, 0x12, 0x13 and 0x14 also go to the life log (R417). -/
def State.sysEvent (s : State) (sub : Nat) (payload : List Dword) : State :=
  let r := mkRec (recHdr 0 sub 8 0 0x1FFF 0xFFF 0 false) s.timebase payload
  let s := s.soleSys 0 r
  if sub = 0x03 ∨ sub = 0x12 ∨ sub = 0x13 ∨ sub = 0x14 then
    if s.rf soleStatR 2 2 = 1 then s else s.soleSys 33 r
  else s

/-- A unit word (R418): die 15 is the I/O die and the service trio; 7 no trio, 3 no core. -/
def unitWord (die log phys core : Nat) (tid : Option Nat) : Dword :=
  BitVec.ofNat 64 (die ||| log <<< 4 ||| phys <<< 7 ||| core <<< 10 |||
    (match tid with
      | some t => t <<< 16 ||| 1 <<< 21
      | none => 0))

/-- The die field of a physical trio in a unit word. -/
def unitDie (t : Nat) : Nat := if t = svcTrio then 0xF else t / 7
/-- The physical-trio field in a unit word. -/
def unitPhys (t : Nat) : Nat := if t = svcTrio then 7 else t % 7

/-- The unit word of a physical trio. -/
def State.trioWord (s : State) (t : Nat) : Dword := unitWord (unitDie t) ((s.logOf t).getD 7) (unitPhys t) 3 none
/-- The unit word of a core. -/
def State.coreWord (s : State) (c : Nat) : Dword :=
  unitWord (unitDie (trioOf c)) ((s.logOf (trioOf c)).getD 7) (unitPhys (trioOf c)) (coreIn c) none

/-- A reset's record (R418 SUB 0x06): its kind (0 P, 1 M, 2 D, 3 T, 4 C, 5 N), the unit and the cause. -/
def State.noteReset (s : State) (kind : Nat) (unit cause : Dword) : State := s.sysEvent 0x06 [BitVec.ofNat 64 kind, unit, cause]

/-- The record of a reset that no register ordered, whose cause code the spec does not state: a free value (assumption 6). -/
def State.noteContained (s : State) (kind : Nat) (unit : Dword) : State :=
  ({ s with free := s.free + 1 }).noteReset kind unit (Config.freeValue s.free)

/-- The record of a transition of a unit that R373 gives no source ID: the spec states none of its payload, so the unit, the
code and the data are free values (assumption 6). -/
def State.noteUnit (s : State) : State :=
  let n := s.free
  ({ s with free := n + 3 }).sysEvent 0x1F [Config.freeValue n, Config.freeValue (n + 1), Config.freeValue (n + 2)]

/-- A domain is held by the Sealed world (R309). -/
def State.held (s : State) (n : Nat) : Bool :=
  if n < 64 then bit (s.reg ⟨.sealHoldLo, 0, 0, 0⟩) n else bit (s.reg ⟨.sealHoldHi, 0, 0, 0⟩) (n - 64)

/-- Module protection acts on domains: each held one is named in Sole (R309). -/
def State.protect (s : State) (ns : List Nat) : State :=
  (ns.filter s.held).foldl (fun s n => s.sysEvent 0x1C [BitVec.ofNat 64 n]) s

/-- The next spare line is taken for a line that fails (R425): the record goes to the spare in its place; with every spare
in use the line is skipped. Answers whether the line can still be used. -/
def State.badLine (s : State) (key : Nat) : State × Bool :=
  if s.sole.badMap.length < spareLines then
    (({ s with sole := { s.sole with badMap := s.sole.badMap ++ [key] } }).setRf soleStatR 31 16
      (min (s.sole.badMap.length + 1) 0xFFFF), true)
  else (s, false)

/-- The oldest staged record is written (R420). A write that fails is tried again; after three failed attempts the line is
entered in the bad-line map, or skipped when no spare is left (R425). -/
def State.drainOne (s : State) (good : Bool) : State :=
  match s.sole.staging with
  | [] => s
  | (a, r) :: rest =>
    let out := fun (s : State) =>
      let s := ({ s with sole := { s.sole with staging := rest, failed := 0 } }).soleWrite a r
      if 0 < (s.area 0).supp then
        match s.stage 0 (s.suppRec 0) with
        | some s => s.modArea 0 (fun k => { k with supp := 0 })
        | none => s
      else s
    if good then out s
    else if s.sole.failed < 2 then { s with sole := { s.sole with failed := s.sole.failed + 1 } }
    else
      let b := s.badLine (recKey a (s.area a).next)
      if b.2 then out b.1
      else out (b.1.modArea a (fun k => k.on a))

/-- Staging drained whole (R423 step 1); `n` bounds the records taken. -/
def State.drainAll (s : State) : Nat → State
  | 0 => s
  | n + 1 => if s.sole.staging.isEmpty then s else (s.drainOne true).drainAll n

end Sys2Proof.Machine
end

