-- ==== Sys2Proof/Machine/Records.lean ====
section
/-! DEFINITION. Context slots by name, and the fault queues: records, their routing and their notifications (R250,
R253, R282-R285). -/

namespace Sys2Proof.Machine

/-! ### Slots -/

/-- Slot `n` of trio `t`. -/
def State.slot (s : State) (t n : Nat) : Slot := SMap.get {} (s.trio t).slots n
/-- The state with a slot set. -/
def State.setSlot (s : State) (t n : Nat) (k : Slot) : State :=
  s.modTrio t (fun tr => { tr with slots := SMap.put {} tr.slots n k })
/-- The state with a slot changed. -/
def State.modSlot (s : State) (t n : Nat) (f : Slot → Slot) : State := s.setSlot t n (f (s.slot t n))

/-- A field of a descriptor (R253). -/
def dfld (d : List Dword) (i hi lo : Nat) : Nat := fld (d.getD i 0) hi lo

/-- A detached access of the context awaits its response (R260). -/
def Slot.outstanding (k : Slot) : Bool :=
  match k.det with
  | some d => !d.failed
  | none => false

/-- PRIO. -/
def Slot.prio (k : Slot) : Nat := dfld k.eff 0 32 29
/-- REDUN. -/
def Slot.redun (k : Slot) : Nat := dfld k.eff 0 28 27
/-- AFFIN's bit for a stream. -/
def Slot.affin (k : Slot) (st : Nat) : Bool := bit (k.eff.getD 0 0) (24 + st)
/-- ASID. -/
def Slot.asid (k : Slot) : Nat := dfld k.eff 0 57 46
/-- PREDEN. -/
def Slot.preden (k : Slot) : Bool := bit (k.eff.getD 0 0) 23
/-- PKEY. -/
def Slot.pkey (k : Slot) : Nat := dfld k.eff 1 63 32
/-- EVMASK's bit for an event. -/
def Slot.evmask (k : Slot) (ev : Nat) : Bool := bit (k.eff.getD 1 0) ev
/-- BUDGET. -/
def Slot.budget (k : Slot) : Nat := dfld k.eff 2 20 0
/-- PMUL. -/
def Slot.pmul (k : Slot) : Nat := dfld k.eff 2 26 21
/-- PPHASE. -/
def Slot.pphase (k : Slot) : Nat := dfld k.eff 2 32 27
/-- DEADLINE. -/
def Slot.deadline (k : Slot) : Nat := dfld k.eff 2 52 33
/-- DLEN. -/
def Slot.dlen (k : Slot) : Bool := bit (k.eff.getD 2 0) 53
/-- WINMASK's bit for a window entry. -/
def Slot.winmask (k : Slot) (w : Nat) : Bool := bit (k.eff.getD 3 0) w
/-- SLK. -/
def Slot.slk (k : Slot) : Bool := bit (k.eff.getD 3 0) 16

/-- Doubleword `i` of a descriptor replaced. -/
def setDw (d : List Dword) (i : Nat) (v : Dword) : List Dword := d.set i v

/-- The budget left now: while the context runs its time is charged from `since` (R267). -/
def State.remain (s : State) (t n : Nat) : Nat :=
  let k := s.slot t n
  if k.state = .running then k.remain - (s.timebase - k.since).toNat else k.remain

/-- The slots of a trio that are not Free, in number order. -/
def Trio.live (tr : Trio) : List (Nat × Slot) := tr.slots.filter (fun e => decide (e.2.state ≠ .free))

/-- The slot that a tenant's handle names, if a context has it (R250). -/
def State.findHandle (s : State) (tid h : Nat) : Option (Nat × Nat) :=
  s.trios.findSome? (fun e =>
    ((e.2.live).find? (fun x => decide (x.2.tid.val = tid) && decide (x.2.handle.toNat = h))).map (fun x => (e.1, x.1)))

/-! ### Fault queues -/

/-- A notification event for the context that a handle names (R282); a handle that names no context counts in `EVDROP`. -/
def State.notify (s : State) (tid h ev : Nat) : State :=
  match s.findHandle tid h with
  | some (t, n) => s.post (s.cidOf t n) ev (.note tid)
  | none => s.incRf ⟨.cxeTstat, 0, tid, 0⟩ 47 32

/-- The Global Context Engine as a memory requester. -/
def gceRq (tid : Nat) : Rq := { agent := 0x55, tid := tid, w := false }

/-- A line that a unit of the I/O die writes to memory. -/
def State.unitWrite (s : State) (r : Rq) (line : Nat) (d : LineData) (mask : BitVec 64) : State := (s.ncWrite r line d mask).1

/-- A record for fault queue `q` (R282): written at TAIL with the queue's SEQ and PH, or dropped and counted in LOST while the
ring is full or has no size. Writing to queue 32 raises source 9. -/
def State.fqPut (s : State) (q : Nat) (r : List Dword) : State :=
  let seq := (SMap.get 0 s.gce.fqSeq q + 1) % 8192
  let s := { s with gce := { s.gce with fqSeq := SMap.put 0 s.gce.fqSeq q seq } }
  let cfg := s.reg ⟨.fqCfg, 0, q, 0⟩
  let k := fld cfg 4 0
  let idx : RegRef := ⟨.fqIdx, 0, q, 0⟩
  let tail := s.rf idx 15 0
  let head := s.rf idx 47 32 % 2 ^ k
  if k = 0 ∨ (tail + 1) % 2 ^ k = head then s.incRf idx 63 48
  else
    let ph := !SMap.get false s.gce.fqPh q
    let dws := match r with
      | h :: t => setFld h 13 0 (2 * seq + ph.toNat) :: t
      | [] => []
    let line := fld cfg 45 10 * 16 + tail
    let s := s.unitWrite (gceRq (if q = 32 then 0 else q)) line (lineOfDws dws) (BitVec.allOnes 64)
    let next := (tail + 1) % 2 ^ k
    let s := s.setRf idx 15 0 next
    let s := if next = 0 then { s with gce := { s.gce with fqPh := SMap.put false s.gce.fqPh q ph } } else s
    if q = 32 then s.raise 9 else s

/-- A record to fault queues and to Sole (R285). -/
def State.record (s : State) (queues : List Nat) (tid : Nat) (r : List Dword) : State :=
  (queues.foldl (fun s q => s.fqPut q r) s).soleRec tid r

/-- The queues of a tenant's record: its own, and queue 32 for TID 0 or on request, once (R285). -/
def queuesOf (tid : Nat) (pm : Bool) : List Nat := if pm || tid = 0 then [tid, 32] else [tid]

/-- A record tied to the context in a slot, through its fault routing: with HEN its event is posted to HND (R282). -/
def State.ctxRecord (s : State) (t n cause sub kind : Nat) (payload : List Dword) : State :=
  let k := s.slot t n
  let r := mkRec (recHdr cause sub kind k.tid.val (s.cidOf t n) k.handle.toNat 0 false) s.timebase payload
  let s := s.record (queuesOf k.tid.val (bit (k.eff.getD 3 0) 35)) k.tid.val r
  if bit (k.eff.getD 3 0) 34 then s.notify k.tid.val (dfld k.eff 3 28 17) (dfld k.eff 3 33 29) else s

/-- A record of a tenant not tied to a context: with FEN the tenant's notification event is posted (R282). -/
def State.tidRecord (s : State) (tid cause sub kind : Nat) (payload : List Dword) : State :=
  let r := mkRec (recHdr cause sub kind tid 0x1FFF 0xFFF 0 false) s.timebase payload
  let s := s.record (queuesOf tid false) tid r
  let nt := s.reg ⟨.cxeNote, 0, tid, 0⟩
  if bit nt 14 then s.notify tid (fld nt 31 20) (fld nt 19 15) else s

/-- A record of the partition manager's queue and Sole's system ring. -/
def State.pmRecord (s : State) (cause sub kind : Nat) (payload : List Dword) : State :=
  s.record [32] 0 (mkRec (recHdr cause sub kind 0 0x1FFF 0xFFF 0 false) s.timebase payload)

/-- The payload of a Trio degraded record (R284): die, trios, copy, group, lane and mode; the trio's status; the lead's PC. -/
def State.degradedBody (s : State) (t copy group lane : Nat) (pc : Dword) : List Dword :=
  [BitVec.ofNat 64 (unitDie t ||| ((s.logOf t).getD 7) <<< 4 ||| unitPhys t <<< 7 ||| copy <<< 10 ||| group <<< 12 |||
      lane <<< 17 ||| s.rf ⟨.trioRstat, t, 0, 0⟩ 1 0 <<< 19),
    s.reg ⟨.trioRstat, t, 0, 0⟩, pc]

/-- A Trio degraded record for the partition manager and Sole (R218). -/
def State.degraded (s : State) (t sub copy group lane : Nat) (pc : Dword) : State :=
  (s.emitEvent (256 + t) 0x03 sub).pmRecord 0x15 sub 0 (s.degradedBody t copy group lane pc)

/-- The Trio degraded record of a context that its copies' disagreement has stopped, one and the same for the partition manager,
Sole and the context's tenant, which has it through the context's fault routing (R200, R202, R285). -/
def State.stoppedRecord (s : State) (t n sub group lane : Nat) (pc : Dword) : State :=
  let k := s.slot t n
  let r := mkRec (recHdr 0x15 sub 0 k.tid.val (s.cidOf t n) k.handle.toNat 0 false) s.timebase (s.degradedBody t 3 group lane pc)
  let s := (s.emitEvent (256 + t) 0x03 sub).record (queuesOf k.tid.val true) k.tid.val r
  if bit (k.eff.getD 3 0) 34 then s.notify k.tid.val (dfld k.eff 3 28 17) (dfld k.eff 3 33 29) else s

/-- The Trio degraded record of a Checker fault, one and the same for the partition manager, Sole and every tenant of `tids`, which
loses its redundancy; with FEN a tenant's notification event is posted (R215, R282). -/
def State.checkerRecord (s : State) (t group lane : Nat) (tids : List Nat) (pc : Dword) : State :=
  let r := mkRec (recHdr 0x15 5 0 0 0x1FFF 0xFFF 0 false) s.timebase (s.degradedBody t 3 group lane pc)
  let s := (s.emitEvent (256 + t) 0x03 5).record (32 :: tids) 0 r
  tids.foldl (fun s tid =>
    let nt := s.reg ⟨.cxeNote, 0, tid, 0⟩
    if bit nt 14 then s.notify tid (fld nt 31 20) (fld nt 19 15) else s) s

/-- The record of a core error (R284): the die, the physical trio and the core. -/
def State.coreErrRecord (s : State) (t n sub core : Nat) (pc : Dword) : State :=
  s.ctxRecord t n 0 sub 1 [BitVec.ofNat 64 (unitDie t ||| unitPhys t <<< 7 ||| core <<< 10), pc]

end Sys2Proof.Machine
end

