-- ==== Sys2Proof/Machine/Buffer.lean ====
section
/-! DEFINITION. The merging buffer and posted stores (R114, R115, R465), the requests of a core (R339), and remote
accesses on their way to another module (R365, R366). -/

namespace Sys2Proof.Machine

/-- Tenant `tid`'s reserved credit on channel `m` in force (R233, R240, R243). -/
def State.credit (s : State) (tid m : Nat) : Nat := (SMap.get 0 s.gce.credits (12 * tid + m)).toNat

/-- The tenant a core acts for: the service trio is TID 0. -/
def State.tidOn (s : State) (c : Nat) : Nat := if trioOf c = svcTrio then 0 else (s.core c).tid

/-- A core's demand request for a line: reserved while its tenant holds credit on the channel (R339). -/
def State.rq (s : State) (c tid : Nat) (w : Bool) (line : Nat) (old : Bool) : Rq :=
  { agent := trioOf c, tid := tid, w := w, res := decide (0 < s.credit tid (s.servChan (chanOf line))), old := old }

/-- A posted store that failed (R465): one fault record, no trap. -/
def State.postedFail (s : State) (tid pa cause sub : Nat) : State :=
  s.tidRecord tid cause sub 0 [BitVec.ofNat 64 pa, BitVec.ofNat 64 sub]

/-- A merging-buffer entry reaches memory, or leaves for a device or another module, or fails as a posted store (R465). -/
def State.drainEntry (s : State) (c : Nat) (e : MergeEntry) : State :=
  let line := e.line.toNat
  let pa := line * 64 + maskLow e.mask
  let tid := e.tid.val
  match s.region pa with
  | .dram =>
    match s.drainBytes (trioOf c) c (s.rq c tid e.w line false) e.ty line e.data e.mask with
    | (s, .ok _) => s
    | (s, .error .world) => s.postedFail tid pa 0x0B 0x03
    | (s, .error (.device sub)) => s.postedFail tid pa 0x0F sub
  | .pcie | .xspi => s.modCore c (fun k => { k with posted := k.posted ++ [(BitVec.ofNat 46 pa, e.tid)] })
  | .remote =>
    match s.linkTo (remoteMod pa) with
    | some k => s.remoteSend k c tid pa true (e.mask :: (List.range 8).map (lineDw e.data))
    | none => s.postedFail tid pa 0x0F 0x01
  | .rom => s.postedFail tid pa 0x0F 0x02
  | .mcs | .unpopulated => s.postedFail tid pa 0x0F 0x01

/-- Every entry closes (R114). -/
def Core.closeAll (k : Core) : Core := { k with merge := k.merge.map (fun e => { e with isOpen := false }) }

/-- The youngest open entry for a line. -/
def mergeAt (m : List MergeEntry) (line : Nat) : Option Nat :=
  (List.range m.length).reverse.find? (fun i =>
    match m[i]? with
    | some e => e.isOpen && decide (e.line.toNat = line)
    | none => false)

/-- The oldest entry, when it is closed, drains (R114). -/
def State.drainFirst (s : State) (c : Nat) : State :=
  match (s.core c).merge with
  | [] => s
  | e :: rest => if e.isOpen then s else (s.modCore c (fun k => { k with merge := settleMerge rest })).drainEntry c e

/-- The buffer closes and empties: its eight entries at most drain, oldest first. -/
def State.drainMerge (s : State) (c : Nat) : State :=
  let s := s.modCore c Core.closeAll
  (s.core c).merge.foldl (fun s _ => s.drainFirst c) s

/-- A store of the core waits for no completion: no entry, no posted store and no remote store is outstanding (R191,
R366). -/
def State.storesDone (s : State) (c : Nat) : Bool :=
  (s.core c).merge.isEmpty && (s.core c).posted.isEmpty &&
    (List.range 3).all (fun k => !(s.xl k).remote.any (fun r => decide (r.core.val = c) && r.store))

/-- A store of the type takes an entry of its own, closed at once (R112, R113). -/
def MemType.alone (ty : MemType) : Bool := decide (ty = .uc ∨ ty = .devRelaxed ∨ ty = .devStrict)

/-- The entry that a store to a line merges into (R114). -/
def Core.mergeTo (k : Core) (line : Nat) (ty : MemType) : Option Nat := if ty.alone then none else mergeAt k.merge line

/-- The buffer has no room for a store to a line and no entry it may merge into: the store freezes (R89). -/
def Core.mergeFull (k : Core) (line : Nat) (ty : MemType) : Bool :=
  decide (8 ≤ k.merge.length) && (k.mergeTo line ty).isNone

/-- A store's bytes enter the buffer (R112, R114): a UC or Device-relaxed store in an entry of its own, closed at once. -/
def Core.mergeIn (k : Core) (line tid : Nat) (w : Bool) (ty : MemType) (d : LineData) (mask : BitVec 64) : Core :=
  match k.mergeTo line ty with
  | some i =>
    let m := k.merge.modify i (fun e => { e with data := mergeLine e.data d mask, mask := e.mask ||| mask })
    { k with merge := settleMerge m }
  | none =>
    let m := k.merge ++ [⟨BitVec.ofNat 40 line, d, mask, !ty.alone, ty, BitVec.ofNat 5 tid |>.toFin, w⟩]
    { k with merge := settleMerge (if ty.alone then closeUpTo m (m.length - 1) else m) }

/-- A line with the bytes that the core's merging buffer holds for it, the youngest entry's on top (R115). -/
def Core.overlay (k : Core) (line : Nat) (d : LineData) : LineData :=
  k.merge.foldl (fun d e => if e.line.toNat = line then mergeLine d e.data e.mask else d) d

end Sys2Proof.Machine
end

