-- ==== Sys2Proof/Machine/Trap.lean ====
section
/-! DEFINITION. Results on their way to registers, the change of world, taking a trap, and returning from one (R43-R52, R96,
R99-R107, R467). -/

namespace Sys2Proof.Machine

/-! ### Results in flight -/

/-- The first CSR number of a set: `EPC` is the next, `EPRC` the eighth after it (R103). -/
def TrapSet.base : TrapSet → Nat
  | .pl1 => 0x100
  | .fast => 0x110
  | .pl2 => 0x200
  | .pl3 => 0x300

/-- `FCSR` and `ASTAT` with flags ORed in (R47). -/
def Core.orFlags (k : Core) (ff : BitVec 5) (af : BitVec 3) : Core :=
  let k := if ff = 0 then k else k.setCsr 0x002 (k.csr 0x002 ||| ff.zeroExtend 64)
  if af = 0 then k else k.setCsr 0x001 (k.csr 0x001 ||| af.zeroExtend 64)

/-- One result reaches its register (R43, R49). -/
def Core.applyRes (k : Core) (r : PendRes) : Core :=
  let k := match r.reg with
    | some key => { k with arch := k.arch.wr key r.val }
    | none => k
  let k := k.orFlags r.fflags r.aflags
  match r.rcd with
  | some (set, n) => k.setCsr (set.base + 8) (setFld (k.csr (set.base + 8)) (16 * n.val + 15) (16 * n.val + 15) 0)
  | none => k

/-- Results in the order in which their registers take them: by position, then by producer (R45). -/
def byVis : List PendRes → List PendRes
  | [] => []
  | r :: rs =>
    let rest := byVis rs
    (rest.takeWhile (fun x => decide (x.vis < r.vis))) ++ r :: rest.dropWhile (fun x => decide (x.vis < r.vis))

/-- Every result visible at a position is in its register (R43, R45). -/
def Core.settle (k : Core) (pos : Nat) : Core :=
  let due := k.arch.pend.filter (fun r => decide (r.vis ≤ pos))
  let k := { k with arch := { k.arch with pend := k.arch.pend.filter (fun r => decide (pos < r.vis)) } }
  (byVis due).foldl Core.applyRes k

/-- A result produced at a position joins those in flight (R43). -/
def Core.produce (k : Core) (r : PendRes) : Core := { k with arch := { k.arch with pend := k.arch.pend ++ [r] } }

/-! ### Worlds -/

/-- `CSTAT` with the prediction switch that applies: the Sealed world's own, or the context's (R91). -/
def State.setPred (s : State) (c : Nat) : State :=
  let k := s.core c
  let p : Bool := if k.w then decide (s.rf ⟨.secCtl, 0, 0, 0⟩ 20 20 = 1)
    else match k.ctx with
      | some n => (s.slot (trioOf c) n.val).preden
      | none => false
  s.setCore c (k.setCsr 0x100 (setBit k.cstat 7 p))

/-- The stream of a core is redundant, so that its asynchronous inputs pass the Welt (R208). -/
def State.throughWelt (s : State) (c : Nat) : Bool :=
  s.trioMode (trioOf c) = 2 || (s.trioMode (trioOf c) = 1 && decide (coreIn c < 2))

/-- A core that is a copy other than core 0 of a redundant stream. -/
def State.isCopy (s : State) (c : Nat) : Bool := s.throughWelt c && decide (coreIn c ≠ 0)

/-- `WELT_STAT`. -/
def weltStatR (t : Nat) : RegRef := ⟨.weltStat, t, 0, 0⟩

/-- The Welt has delivered an input to a trio: `AGREED` counts it and wraps (R209). -/
def State.weltCount (s : State) (t : Nat) : State :=
  (s.setRf (weltStatR t) 47 0 (s.rf (weltStatR t) 47 0 + 1)).countTrio t 0x07

/-- An instruction of core `c` takes the timebase or its context's event bits; in a redundant stream the Welt delivers them at its
position (R208). -/
def State.sampled (s : State) (c : Nat) : State := if s.throughWelt c then s.weltCount (trioOf c) else s

/-- A halt asked of core `c` (R220): the core stops at the boundary, a redundant stream through the Welt (R208). -/
def State.askHalt (s : State) (c : Nat) : State :=
  let s := s.modCore c (fun k => { k with haltWait := false })
  if s.throughWelt c then s.modTrio (trioOf c) (fun t => { t with welt := t.welt ++ [(0, .halt)] })
  else s.modCore c (fun k => { k with halted := true })

/-- A change of W (R99): the merging buffer drains, the L1I and L1D are invalidated, the return stack empties, the new key
is taken (R96) and the prefetch streams clear (R117). A halt that waits for W = 0 is made (R310). -/
def State.changeWorld (s : State) (c : Nat) : State :=
  let s := s.drainMerge c
  let key := if (s.core c).w then Config.sealedKey
    else match (s.core c).ctx with
      | some n => BitVec.ofNat 32 (s.slot (trioOf c) n.val).pkey
      | none => 0
  let s := s.modCore c (fun k => { k with l1i := [], l1d := [], ras := [], streams := [], fbuf := none, key := key })
  let s := if !(s.core c).w && (s.core c).haltWait then s.askHalt c else s
  s.setPred c

/-! ### Taking a trap -/

/-- A trap: its cause and sub-cause, the faulting address and the instruction word it reports. -/
structure Trap where
  cause : Nat
  sub : Nat := 0
  eva : Dword := 0
  word : Word := 0
  deriving DecidableEq, Repr

/-- The set that takes a synchronous trap (R100, R101): PL3 at W = 1 and for Monitor call, PL2 from a fast-class handler, and
otherwise by the cause, never below the current level. -/
def Core.syncSet (k : Core) (cause : Nat) : TrapSet :=
  if k.w ∨ cause = 0x12 then .pl3
  else if k.infast then .pl2
  else if cause = 0x11 ∨ 2 ≤ k.pl then .pl2
  else if cause = 0x10 ∨ cause = 0x17 then .pl1
  else if cause ≤ 0x13 ∧ bit (k.csr 0x210) (if cause = 0x13 then 19 else cause) then .pl1
  else .pl2

/-- Whether a cause gives `EVA` the faulting address. -/
def causeEva (cause : Nat) : Bool := decide (1 ≤ cause ∧ cause ≤ 3) || decide (8 ≤ cause ∧ cause ≤ 0xF)
/-- Whether a cause gives `EWORD` the instruction word. -/
def causeWord (cause : Nat) : Bool := decide (4 ≤ cause ∧ cause ≤ 0x13)

/-- The results that need records at resumption position `r`: of several for one register the later-visible one, at most
four (R48, R50). They take records 0 to 3 in the order in which they become visible (DESIGN CHOICE, assumption 38). -/
def recordsAt (pend : List PendRes) (r : Nat) : List PendRes :=
  let late := byVis (pend.filter (fun x => decide (r < x.vis) && x.reg.isSome))
  (late.filter (fun x => !(late.any (fun y => decide (y.reg = x.reg) && decide (x.vis < y.vis))))
    |>.foldl (fun l x => l.filter (fun y => decide (y.reg ≠ x.reg)) ++ [x]) []).take 4

/-- A register's number and F bit in a record; g24-g31 of either bank carry the same number (R50). -/
def recNum (key : Nat) : Nat × Bool := if 64 ≤ key then (key - 40, false) else if 32 ≤ key then (key - 32, true) else (key, false)

/-- `EPRC` of records counted from position `r`. -/
def eprcOf (recs : List PendRes) (r : Nat) : Dword :=
  (recs.zipIdx).foldl (fun (w : Dword) x =>
    let n := recNum (x.1.reg.getD 0)
    setFld w (16 * x.2 + 15) (16 * x.2) (0x8000 ||| (x.1.vis - r) % 8 <<< 12 ||| n.2.toNat <<< 5 ||| n.1)) 0

/-- The pipeline drains at a trap with resumption position `r` (R48): results visible by then are written, the others go to
the set's records, every flag is ORed in (R79), and armed records that move are spent. -/
def Core.drainTo (k : Core) (base r : Nat) : Core :=
  let recs := recordsAt k.arch.pend r
  let late := k.arch.pend.filter (fun x => decide (r < x.vis))
  let k := k.settle r
  let k := late.foldl (fun k x => ({ x with reg := none } |> k.applyRes)) k
  let k := { k with arch := { k.arch with pend := [] } }
  let k := k.setCsr (base + 8) (eprcOf recs r)
  (recs.zipIdx).foldl (fun k x => k.setCsr (base + 9 + x.2) x.1.val) k

/-- The values of `ESTAT` at an entry (R103, R467). -/
def Core.estatAt (k : Core) (t : TrapSet) (cause sub : Nat) : Dword :=
  let high := t = .pl2 || t = .pl3
  let ds : Nat := match k.arch.slot with
    | some sl => 1 <<< 21 ||| sl.taken.toNat <<< 22 ||| sl.annul.toNat <<< 23
    | none => 0
  BitVec.ofNat 64 (cause ||| sub <<< 8 ||| k.pl <<< 16 ||| k.w.toNat <<< 18 ||| k.nie.toNat <<< 19 ||| k.fie.toNat <<< 20 |||
    ds ||| (high && k.pie).toNat <<< 24 ||| (high && k.infast).toNat <<< 25)

/-- `CSTAT` after an entry to a set (R103). -/
def cstatAt (t : TrapSet) (w : Dword) : Dword :=
  match t with
  | .pl1 => setFld (setFld (setFld w 6 6 0) 5 3 1) 0 0 0
  | .fast => setFld (setFld (setFld w 6 6 1) 5 3 1) 1 1 0
  | .pl2 => setFld (setFld w 6 3 2) 1 0 0
  | .pl3 => setFld (setFld w 6 3 7) 1 0 0

/-- Core `c` takes a trap at a set (R103): resumption position `r` positions after the current one, `EPC` `off` bytes after
the PC, or the branch for a trap at a delay slot (R467). -/
def State.enterTrap (s : State) (c : Nat) (t : TrapSet) (x : Trap) (r off : Nat) : State :=
  let s := s.modCore c Core.closeAll
  let k := s.core c
  let b := t.base
  let pc := k.arch.pc
  let epc := match k.arch.slot with
    | some sl => sl.branch
    | none => pc + BitVec.ofNat 64 off
  let etgt := match k.arch.slot with
    | some sl => sl.target
    | none => 0
  let wasW := k.w
  let es := k.estatAt t x.cause x.sub
  let k := k.drainTo b (k.arch.posn + r)
  let k := ((k.setCsr (b + 1) epc).setCsr (b + 2) es).setCsr (b + 3) etgt
  let k := if t = .fast then k
    else (k.setCsr (b + 4) (if causeEva x.cause then x.eva else 0)).setCsr (b + 5)
      (if causeWord x.cause then x.word.zeroExtend 64 else 0)
  let k := k.setCsr 0x100 (cstatAt t k.cstat)
  let k := if t = .pl2 ∨ t = .pl3 then k.setCsr 0x200 (setBit (k.csr 0x200) 0 false) else k
  let vec := simm ((k.csr (b + 6)).truncate 48 : BitVec 48) + BitVec.ofNat 64 (0x40 * x.cause)
  let k := { k with arch := { k.arch with pc := vec, posn := k.arch.posn + r, slot := none }, resv := none, spec := [] }
  let s := s.setCore c k
  let s := if (s.core c).w ≠ wasW then s.changeWorld c else s
  let k := s.core c
  let s := s.countCore c 0x0D
  if bit (s.reg (ltCore c)) 0 then
    s.emitCore c 0x04 epc.toNat [BitVec.ofNat 64 (x.cause ||| x.sub <<< 8 ||| fld es 22 21 <<< 16 ||| k.pl <<< 18 |||
      k.w.toNat <<< 20)]
  else s

/-- A synchronous trap of the instruction at the PC (R101). -/
def State.trap (s : State) (c : Nat) (x : Trap) : State := s.enterTrap c ((s.core c).syncSet x.cause) x 0 0

/-- A call's trap: the resumption position and `EPC` are after it (R101). -/
def State.callTrap (s : State) (c : Nat) (x : Trap) : State := s.enterTrap c ((s.core c).syncSet x.cause) x 1 4

/-! ### Returning -/

/-- The set that RFE returns from (R106). -/
def Core.rfeSet (k : Core) : TrapSet :=
  if k.infast then .fast else if k.pl = 1 then .pl1 else if k.pl = 2 then .pl2 else .pl3

/-- The level of a set. -/
def TrapSet.level : TrapSet → Nat
  | .pl1 | .fast => 1
  | .pl2 => 2
  | .pl3 => 3

/-- The cases in which RFE is refused (R107). -/
def Core.rfeRefused (k : Core) : Bool :=
  let t := k.rfeSet
  let es := k.csr (t.base + 2)
  decide (t.level < fld es 17 16) || (bit es 18 && !k.w) || (decide (fld es 17 16 = 3) && !bit es 18)

/-- The armed records of an `EPRC` at resumption position `pos` (R49): a REM outside 1-4 counts as no record. -/
def Core.armed (k : Core) (set : TrapSet) (pos : Nat) (fast : Bool) : List PendRes :=
  ([0, 1, 2, 3] : List (Fin 4)).filterMap (fun n =>
    let n' := n.val
    let e := k.csr (set.base + 8)
    let rem := fld e (16 * n' + 14) (16 * n' + 12)
    let num := fld e (16 * n' + 4) (16 * n')
    if bit e (16 * n' + 15) ∧ 1 ≤ rem ∧ rem ≤ 4 then
      some ⟨pos + rem, some (if bit e (16 * n' + 5) then 32 + num else gKey fast (BitVec.ofNat 5 num)),
        k.csr (set.base + 9 + n'), 0, 0, some (set, n)⟩
    else none)

/-- A context at PL0 that leaves its stream drains as for a trap: its results in flight are in the records of the PL1 normal set
(R51, R260). At PL1 and above that set may hold the records of the program a trap interrupted; the results in flight of such a
context stay with it as they are (DESIGN CHOICE, assumption 50). -/
def Core.park (k : Core) : Core := if k.pl = 0 then k.drainTo TrapSet.pl1.base k.arch.posn else k
/-- At its next dispatch the records are armed, counted from the position at which it resumes (R51). -/
def Core.unpark (k : Core) : Core :=
  if k.pl = 0 then { k with arch := { k.arch with pend := k.armed .pl1 k.arch.posn k.infast } } else k

/-- Every result in flight reaches its register (R49: RFE first makes every result of the handler visible). -/
def Core.settleAll (k : Core) : Core :=
  let k' := { k with arch := { k.arch with pend := [] } }
  (byVis k.arch.pend).foldl Core.applyRes k'

/-- The level, the world and the enables restored from a set's `ESTAT` (R106). W takes PW whatever the set, so that RFE from the
PL1 or PL2 set at W = 1 with PW = 0 returns to the Open world, which R99 gives to RFE from PL3 alone (DESIGN CHOICE, assumption
42). -/
def Core.restore (k : Core) (t : TrapSet) : Core :=
  let es := k.csr (t.base + 2)
  let infast := match t with
    | .fast => false
    | .pl1 => k.infast
    | .pl2 | .pl3 => bit es 25
  let w := setFld (setFld (setFld (setFld (setFld k.cstat 4 3 (fld es 17 16)) 5 5 (bit es 18).toNat) 6 6 infast.toNat)
    0 0 (bit es 19).toNat) 1 1 (bit es 20).toNat
  let k := k.setCsr 0x100 w
  if t = .pl2 ∨ t = .pl3 then k.setCsr 0x200 (setBit (k.csr 0x200) 0 (bit es 24)) else k

/-- An address as the PC holds it: bits [63:48] are the sign extension of bit 47 ("Registers" of 02). -/
def canonPc (a : Dword) : Dword := simm (a.truncate 48 : BitVec 48)

/-- The position ends: the next address follows the delay slot's branch or is sequential (R54). -/
def Core.advance (k : Core) (slot : Option SlotSt) : Core :=
  let a := k.arch
  let pc := match slot, a.slot with
    | none, some sl => if sl.taken then sl.target else sl.branch + 8
    | _, _ => a.pc + 4
  { k with arch := { a with pc := canonPc pc, posn := a.posn + 1, slot := slot } }

/-- Where RFE resumes, and the delay slot it resumes at (R106). -/
def Core.resumeAt (k : Core) (t : TrapSet) : Dword × Option SlotSt :=
  let es := k.csr (t.base + 2)
  let epc := canonPc (k.csr (t.base + 1))
  if bit es 21 then (canonPc (epc + 4), some ⟨epc, bit es 22, k.csr (t.base + 3), bit es 23⟩) else (epc, none)

/-- Core `c` returns from its trap set (R106): RFE's own position `pos` ends, and the resumed code's first position follows. -/
def State.rfe (s : State) (c : Nat) : State :=
  let s := s.modCore c Core.closeAll
  let k := (s.core c).settleAll
  let wasW := k.w
  let t := k.rfeSet
  let at' := k.resumeAt t
  let k := k.restore t
  let pos := k.arch.posn + 1
  let recs := k.armed t pos k.infast
  let k := { k with arch := { k.arch with pc := at'.1, posn := pos, slot := at'.2, pend := recs }, resv := none, spec := [] }
  let back := wasW && !k.w
  let k := if back then { k with frame := none, watch := 0 } else k
  let s := s.setCore c k
  let s := if (s.core c).w ≠ wasW then s.changeWorld c else s
  if bit (s.reg (ltCore c)) 0 then s.emitCore c 0x05 at'.1.toNat [] else s

/-- The state that RFE would restore accepts a PL1 normal interrupt (R105, R323). -/
def Core.rfeAccepts (k : Core) : Bool :=
  let r := k.restore k.rfeSet
  !r.w && decide (r.pl ≤ 1) && r.nie && !r.infast

/-- The tail-chained entry of R323: the RFE is abandoned for the vector of 0x20; the set keeps all but CAUSE, SUB, `EVA` and
`EWORD`. -/
def State.tailChain (s : State) (c : Nat) : State :=
  let s := s.modCore c Core.closeAll
  let k := (s.core c).settleAll
  let k := k.setCsr 0x102 (setFld (k.csr 0x102) 15 0 0x20)
  let k := (k.setCsr 0x104 0).setCsr 0x105 0
  let vec := simm ((k.csr 0x106).truncate 48 : BitVec 48) + 0x800
  let k := { k with arch := { k.arch with pc := vec, posn := k.arch.posn + 1, slot := none }, resv := none, spec := [] }
  let s := (s.setCore c k).countCore c 0x0D
  let es := k.csr 0x102
  if bit (s.reg (ltCore c)) 0 then
    s.emitCore c 0x04 (k.csr 0x101).toNat [BitVec.ofNat 64 (0x20 ||| fld es 22 21 <<< 16 ||| k.pl <<< 18)]
  else s

/-! ### The MCALL call frame (R304-R306) -/

/-- The call frame that the core copies at MCALL entry, once the entry has been made from level `lvl` with return `ret`. -/
def Core.mkFrame (k : Core) (lvl : Nat) (ret : Dword) (call : BitVec 12) : CallFrame :=
  { regs := k.arch.regs.filter (fun e => decide (e.1 < 64)), astat := k.csr 0x001, fcsr := k.csr 0x002
    eprc := k.csr 0x308, epr := (List.range 4).map (fun n => k.csr (0x309 + n)), level := BitVec.ofNat 2 lvl
    ret := ret, callNo := call }

/-- The watchdog's count of a running call (R305). -/
def State.watchNow (s : State) (c : Nat) : Nat := (s.core c).watch + (s.timebase - (s.core c).wdFrom).toNat

/-- The forced return of R306 with a sub-cause of Sealed service lost: it ends a freeze, and reaches the copies of a redundant stream
through the Welt (R209). -/
def State.forceReturn (s : State) (c sub : Nat) : State :=
  let k := s.core c
  match k.frame with
  | none => s
  | some f =>
    let fh := bit (k.csr 0x302) 25
    let es := k.csr 0x302
    let keep := k.arch.regs.filter (fun e => decide (64 ≤ e.1))
    let k := { k with arch := { k.arch with regs := f.regs ++ keep, pend := [], iu := {}, fu := {}, slot := none } }
    let k := (k.setCsr 0x001 f.astat).setCsr 0x002 f.fcsr
    let k := k.setCsr 0x308 f.eprc
    let k := (f.epr.zipIdx).foldl (fun k x => k.setCsr (0x309 + x.2) x.1) k
    let w := setFld (setFld (setFld (setFld (setFld k.cstat 4 3 f.level.toNat) 5 5 0) 6 6 fh.toNat) 0 0 (bit es 19).toNat)
      1 1 (bit es 20).toNat
    let k := k.setCsr 0x100 w
    let k := k.setCsr 0x200 (setBit (k.csr 0x200) 0 (bit es 24))
    let recs := (k.armed .pl3 k.arch.posn k.infast).map (fun r => { r with rcd := none })
    let k := (List.range 13).foldl (fun k i => k.setCsr (0x300 + i) (if i = 6 ∨ i = 7 then k.csr (0x300 + i) else 0)) k
    let k := { k with arch := { k.arch with pc := f.ret, pend := recs }, frame := none, watch := 0, run := .running, dev := none, frozen := false, maint := none }
    let s := ((s.setCore c k).sampled c).changeWorld c
    s.enterTrap c ((s.core c).syncSet 0x17) { cause := 0x17, sub := sub } 0 0

end Sys2Proof.Machine
end

