-- ==== Sys2Proof/Machine/Streams.lean ====
section
/-! DEFINITION. The Trio Dispatcher: streams, windows, eligibility, the dispatch decision, and a context's leaving and
entering a stream (R193, R234, R252, R257-R264, R267, R290). -/

namespace Sys2Proof.Machine

/-! ### The active season -/

/-- Doubleword `i` of the table in season slot `sl` (R231). -/
def State.seasonDw (s : State) (sl i : Nat) : Dword := SMap.get 0 (SMap.get [] s.gce.store sl) i
/-- `SEASON_CTL`. -/
def seasonCtlR : RegRef := ⟨.seasonCtl, 0, 0, 0⟩
/-- The active season's slot. -/
def State.active (s : State) : Nat := s.rf seasonCtlR 1 0
/-- Seasons run: `SEASON_CTL.EN`. -/
def State.seasonsOn (s : State) : Bool := bit (s.reg seasonCtlR) 3
/-- Doubleword 0 of tenant `t`'s record in season slot `sl` (R233). -/
def State.tenantRec (s : State) (sl t : Nat) : Dword := s.seasonDw sl (8 + 16 * t)
/-- A tenant's class: 0 A to 3 D. -/
def State.classOf (s : State) (t : Nat) : Nat := s.rf ⟨.tntCfg, 0, t, 0⟩ 2 1
/-- SLACKUSE in force: the active season's, unless a cut has withdrawn it (R244). -/
def State.slackUse (s : State) (t : Nat) : Bool := bit (s.tenantRec s.active t) 3 && !bit s.gce.slackOff t
/-- RANK in the active season. -/
def State.rank (s : State) (t : Nat) : Nat := fld (s.tenantRec s.active t) 15 8

/-! ### Streams and windows -/

/-- The streams of a trio by mode (R193): the cores of an Independent trio, the pair and core 2 of a Paired trio, the whole
of a Voted trio. -/
def State.streams (s : State) (t : Nat) : List Nat :=
  match s.trioMode t with
  | 0 => [0, 1, 2]
  | 1 => [0, 2]
  | _ => [0]

/-- A redundancy requirement is met on a stream of a trio in a mode (R193). -/
def redunOk (mode st redun : Nat) : Bool :=
  redun = 0 || (redun = 1 && (mode = 2 || (mode = 1 && st = 0))) || (redun = 2 && mode = 2)

/-- A window entry of the trio's record in force. -/
def Trio.entry (tr : Trio) (n : Nat) : Dword := tr.rcd.win.getD n 0

/-- The owner of the window in force. -/
def Trio.owner (tr : Trio) : Option Nat :=
  match tr.window with
  | .entry n => if bit (tr.entry n.val) 45 then none else some (fld (tr.entry n.val) 44 40)
  | _ => none

/-- The instant is slack for a stream on which the owner has nothing to run (R234). -/
def Trio.slackNow (tr : Trio) : Bool :=
  match tr.window with
  | .outside => true
  | .entry n => bit (tr.entry n.val) 45 || bit (tr.entry n.val) 46
  | _ => false

/-- What eligibility asks on a stream apart from the window (R261). -/
def State.fit (s : State) (t st n : Nat) (k : Slot) : Bool :=
  ((k.state = .ready && !k.outstanding) || (k.state = .running && decide (k.stream.map (·.val) = some st))) &&
    decide (0 < s.remain t n) && k.affin st && redunOk (s.trioMode t) st k.redun

/-- The smaller of two keys, compared from the left. -/
def keyLt : List Nat → List Nat → Bool
  | [], _ => false
  | _ :: _, [] => false
  | a :: as, b :: bs => a < b || (a = b && keyLt as bs)

/-- The entry with the smallest key. -/
def bestOf (l : List (List Nat × Nat)) : Option Nat :=
  (l.foldl (fun (b : Option (List Nat × Nat)) x =>
    match b with
    | some y => if keyLt x.1 y.1 then some x else some y
    | none => some x) none).map (·.2)

/-- The core on which a stream executes. -/
def State.streamCore (s : State) (t st : Nat) : Nat := s.leadOf (coreNo t st)
/-- The stream that executes on a core. -/
def State.streamOf (s : State) (c : Nat) : Nat := if s.throughWelt c then 0 else coreIn c

/-- The dispatch decision's choice for one stream among the slots not in `taken` (R262). -/
def State.choose (s : State) (t st : Nat) (taken : List Nat) : Option Nat :=
  let tr := s.trio t
  let c := s.core (s.streamCore t st)
  if tr.parked ∨ (c.run ≠ .idle ∧ c.run ≠ .running ∧ c.run ≠ .waiting) then none
  else
    let live : List (Nat × Slot) := tr.live.filter (fun e => !taken.contains e.1 && s.fit t st e.1 e.2)
    let owned : List (Nat × Slot) := match tr.window, tr.owner with
      | .entry w, some o => live.filter (fun e => decide (e.2.tid.val = o) && e.2.winmask w.val)
      | _, _ => []
    match bestOf (owned.map (fun e => ([15 - e.2.prio, e.2.readyAt.toNat, e.1], e.1))) with
    | some n => some n
    | none =>
      if tr.slackNow then
        let idle := live.filter (fun (e : Nat × Slot) => e.2.slk && s.slackUse e.2.tid.val)
        bestOf (idle.map (fun e =>
          ([s.classOf e.2.tid.val, s.rank e.2.tid.val, 15 - e.2.prio, e.2.readyAt.toNat, e.1], e.1)))
      else none

/-! ### Leaving and entering a stream -/

/-- The CSRs of the nested frame (R258): the PL2 set with its records and `CSTAT_2`, and for PL3 the PL3 set with its
records. -/
def nestedCsrs (pl : Nat) : List Nat :=
  let two := (List.range 13).map (fun i => 0x200 + i)
  if pl = 2 then two else if pl = 3 then two ++ (List.range 12).map (fun i => 0x301 + i) else []

/-- The slot on a stream, if any. -/
def State.occupant (s : State) (t st : Nat) : Option Nat := ((s.core (s.streamCore t st)).ctx).map (·.val)

/-- The time a running context has been charged since its dispatch (R267). -/
def State.charged (s : State) (t n : Nat) : Nat := (s.timebase - (s.slot t n).since).toNat

/-- The context on a stream leaves it in state `dest` (R258, R260): the merging buffer drains, the state is saved with the
context, an access awaiting its completion is detached, and the core idles. -/
def State.leave (s : State) (t st : Nat) (dest : CtxState) : State :=
  let c := s.streamCore t st
  match s.occupant t st with
  | none => s
  | some n =>
    let s := (s.drainMerge c).modCore c Core.park
    let k := s.core c
    let used := s.charged t n
    let lvl := k.pl
    let watch := if k.frame.isSome then s.watchNow c else 0
    let s := s.modSlot t n (fun b => { b with
      state := dest, arch := k.arch, stream := none
      nested := (nestedCsrs lvl).filterMap (fun i => if k.csr i = 0 then none else some (i, k.csr i))
      ws := k.w, det := k.dev.map (fun a => ⟨a, false⟩)
      remain := b.remain - used, used := b.used + used
      readyAt := if dest = .ready then s.timebase else b.readyAt
      frame := k.frame, watch := watch })
    let wasW := k.w
    let s := s.modCore c (fun k => ({ k with
      arch := {}, ctx := none, run := .idle, resv := none, streams := [], ras := [], dev := none, frame := none
      watch := 0, key := 0 }).setCsr 0x010 0)
    if wasW then s.changeWorld c else s

/-- `XID` of a context. -/
def xidOf (tid asid : Nat) : Dword := BitVec.ofNat 64 (tid <<< 16 ||| asid)

/-- The descriptor fields that take effect at the next dispatch (R290): PKEY, PREDEN, EVMASK and the fault routing; with them
the ASID, which the dispatch loads (DEDUCED, assumption 13). -/
def atDispatch (eff desc : List Dword) : List Dword :=
  let d (i : Nat) := desc.getD i 0
  let e (i : Nat) := eff.getD i 0
  let z := setFld (setFld (e 0) 23 23 (fld (d 0) 23 23)) 57 46 (fld (d 0) 57 46)
  ((eff.set 0 z).set 1 (d 1)).set 3 (setFld (e 3) 35 17 (fld (d 3) 35 17))

/-- A core with a slot's saved state restored (R257, R258): the stream, the nested frame, the key and `XID`. -/
def Core.load (k : Core) (b : Slot) (n : Fin 64) (now : Dword) : Core :=
  let k := { k with arch := b.arch, ctx := some n, run := .running, resv := none, streams := [], ras := [], spec := [], frozen := false, maint := none }
  let k := { k with frame := b.frame, watch := b.watch, wdFrom := now
                    key := if b.ws then Config.sealedKey else BitVec.ofNat 32 b.pkey }
  let k := (k.setCsr 0x010 (xidOf b.tid.val b.asid)).unpark
  (nestedCsrs k.pl).foldl (fun k i => k.setCsr i (SMap.get 0 b.nested i)) k

/-- A context enters a stream (R257, R258): its state is restored with the key, the tag and the prediction switch, in every copy
alike, so that no latent difference stays. A detached access that ended in error takes its trap before the context's first
instruction (R260). -/
def State.enter (s : State) (t st n : Nat) : State :=
  let c := s.streamCore t st
  if hn : n < 64 then
    let s := if s.throughWelt c then s.modTrio t (fun k => { k with skew := [] }) else s
    let s := s.modSlot t n (fun b => { b with
      state := .running, stream := some (Fin.ofNat 3 st), since := s.timebase, eff := atDispatch b.eff b.desc })
    let b := s.slot t n
    let s := s.setCore c ((s.core c).load b ⟨n, hn⟩ s.timebase)
    let s := if b.ws then s.changeWorld c else s.setPred c
    let s := s.modSlot t n (fun b => { b with frame := none })
    let id := 256 + t
    let s := s.fireWhere id (fun kind lo _ => decide (kind = 3) && decide (s.cidOn c &&& fld lo 28 16 = fld lo 12 0))
    let s := s.traceDispatch c
    match b.det with
    | some d =>
      let s := s.modSlot t n (fun b => { b with det := none })
      s.trap c { cause := 0x0F, eva := d.acc.va, word := d.acc.word }
    | none => s
  else s

/-- The streams' choices, lower-numbered stream first (R262). -/
def State.choices (s : State) (t : Nat) : List (Nat × Option Nat) :=
  (s.streams t).foldl (fun l st => l ++ [(st, s.choose t st (l.filterMap (·.2)))]) []

/-- The dispatch decision (R262, R263): contexts not chosen again for their stream are preempted and become Ready; the
chosen ones enter. -/
def State.redispatch (s : State) (t : Nat) : State :=
  let picks := s.choices t
  let moved := picks.filter (fun p => decide (s.occupant t p.1 ≠ p.2))
  let out := moved.map (fun p => match s.occupant t p.1 with
    | some n => s.cidOf t n
    | none => 0x1FFF)
  let s := moved.foldl (fun s p => s.leave t p.1 .ready) s
  (moved.zip out).foldl (fun s p =>
    match p.1.2 with
    | some n =>
      let s := s.enter t p.1.1 n
      (s.countTrio t 0x08).emitEvent (256 + t) 0x01 (p.2 ||| s.cidOf t n <<< 13 ||| p.1.1 <<< 26)
    | none => s) s

/-- The context on core `c` leaves in state `dest`, and the trio decides (R263). -/
def State.depart (s : State) (c : Nat) (dest : CtxState) : State :=
  (s.leave (trioOf c) (coreIn c) dest).redispatch (trioOf c)

/-- A context becomes Ready (R252), and the trio decides. -/
def State.makeReady (s : State) (t n : Nat) : State :=
  (s.modSlot t n (fun b => { b with state := .ready, readyAt := s.timebase })).redispatch t

/-- YIELD's decision (R273): the context competes as Ready from now; chosen again for its stream it runs on with no
switch. -/
def State.yieldOn (s : State) (t st n : Nat) : State :=
  let s := s.modSlot t n (fun b => { b with state := .ready, readyAt := s.timebase
                                            remain := b.remain - s.charged t n, used := b.used + s.charged t n
                                            since := s.timebase })
  if (s.choices t).any (fun p => decide (p = (st, some n))) then
    (s.modSlot t n (fun b => { b with state := .running })).redispatch t
  else (s.leave t st .ready).redispatch t

/-! ### Slots and names -/

/-- The route registers that a write has touched: the others hold their reset value, unrouted (R312). -/
def State.routes (s : State) : List RegRef :=
  (s.mcs.filter (fun e => decide (0x31000000 ≤ e.1 ∧ e.1 < 0x31040000) && decide (e.1 % 0x1000 < 0x100))).map
    (fun e => ⟨.evgRoute, 0, (e.1 - 0x31000000) / 0x1000, e.1 % 0x1000 / 8⟩)

/-- The routes of a tenant's handle resolve to a context ID (R315). -/
def State.resolve (s : State) (tid h cid : Nat) : State :=
  s.routes.foldl (fun s r =>
    let v := s.reg r
    if fld v 63 62 = 2 ∧ fld v 60 56 = tid ∧ fld v 38 27 = h then s.setRf r 12 0 cid else s) s

/-- A slot becomes Free (R252): its handle is free and its routes resolve to no context (R315). -/
def State.freeSlot (s : State) (t n : Nat) : State :=
  let b := s.slot t n
  (s.setSlot t n {}).resolve b.tid.val b.handle.toNat 0x1FFF

/-- The core on which a context runs. -/
def State.coreOf (s : State) (t n : Nat) : Option Nat := (s.slot t n).stream.map (fun st => s.streamCore t st.val)

/-- A Running context leaves its stream and its slot takes state `dest` (R252); a context elsewhere takes it at once. The trio
decides. -/
def State.toState (s : State) (t n : Nat) (dest : CtxState) : State :=
  match s.coreOf t n with
  | some c => s.depart c dest
  | none => (s.modSlot t n (fun b => { b with state := dest })).redispatch t

end Sys2Proof.Machine
end

