-- ==== Sys2Proof/Machine/Evg.lean ====
section
/-! DEFINITION. The Event Gatherer: pending and active sources, routes, claims and completes, requests, and the end of a step,
which settles what the step has raised (R312-R322). -/

namespace Sys2Proof.Machine

/-- Sources 0-7 are broadcast sources (R313). -/
def isBcast (n : Nat) : Bool := decide (n < 8)
/-- A source's route. -/
def routeR (n : Nat) : RegRef := ⟨.evgRoute, 0, n / 32, n % 32⟩
/-- `EVG_PEND`, `EVG_ACT`, `EVG_EN`, `EVG_GCTL` of a group. -/
def pendR (g : Nat) : RegRef := ⟨.evgPend, 0, g, 0⟩
/-- `EVG_ACT`. -/
def actR (g : Nat) : RegRef := ⟨.evgAct, 0, g, 0⟩
/-- `EVG_EN`. -/
def enR (g : Nat) : RegRef := ⟨.evgEn, 0, g, 0⟩
/-- `EVG_GCTL`. -/
def gctlR (g : Nat) : RegRef := ⟨.evgGctl, 0, g, 0⟩

/-- E of a source; there are 2,048 (R312). -/
def State.evE (s : State) (n : Nat) : Bool := decide (n < 2048) && bit (s.reg (enR (n / 32))) (n % 32)
/-- GEN of a source's group. -/
def State.evGen (s : State) (n : Nat) : Bool := bit (s.reg (gctlR (n / 32))) 0
/-- P of a source as a core sees it: its own copy for a broadcast source. -/
def State.evP (s : State) (c n : Nat) : Bool :=
  if isBcast n then bit (s.core c).bcastP n else bit (s.reg (pendR (n / 32))) (n % 32)
/-- A of a source as a core sees it. -/
def State.evA (s : State) (c n : Nat) : Bool :=
  if isBcast n then bit (s.core c).bcastA n else bit (s.reg (actR (n / 32))) (n % 32)

/-- A bit of a table of words by group. -/
def grpBit (m : SMap Word) (n : Nat) : Bool := bit (SMap.get 0 m (n / 32)) (n % 32)
/-- The table with a source's bit set. -/
def setGrpBit (m : SMap Word) (n : Nat) (b : Bool) : SMap Word :=
  SMap.put 0 m (n / 32) (setBit (SMap.get 0 m (n / 32)) (n % 32) b)

/-- The cores that a broadcast source reaches (R313): those whose `ESUB` bit is 1. -/
def State.subscribers (s : State) (n : Nat) : List Nat := (s.cores.map (·.1)).filter (fun c => bit ((s.core c).csr 0x222) n)

/-- The event of a source routed to a context (R322): posted to the CID resolved, or discarded and counted where no context
has it. -/
def State.postRoute (s : State) (n : Nat) : State :=
  let r := s.reg (routeR n)
  let cid := fld r 12 0
  let live : Bool := match s.ofCid cid with
    | some (t, sl) => decide ((s.slot t sl).state ≠ .free)
    | none => false
  if cid ≠ 0x1FFF ∧ live then s.post cid (fld r 26 22) (.route (fld r 60 56))
  else s.incRf ⟨.evgStat, 0, 0, 0⟩ 47 32

/-- P of a source is set (R314): a context route posts its event and leaves P clear; a broadcast source pends at every
subscribed core. -/
def State.setP (s : State) (n : Nat) : State :=
  if s.rf (routeR n) 63 62 = 2 then s.postRoute n
  else if isBcast n then
    (s.subscribers n).foldl (fun s c => s.modCore c (fun k => { k with bcastP := setBit k.bcastP n true })) s
  else s.setRf (pendR (n / 32)) (n % 32) (n % 32) 1

/-- A rising edge at a source (R314): discarded while E = 0, captured while GEN = 0. -/
def State.edge (s : State) (n : Nat) : State :=
  if !s.evE n then s
  else if !s.evGen n then { s with evg := { s.evg with latch := setGrpBit s.evg.latch n true } }
  else s.setP n

/-- A level line changes. -/
def State.level' (s : State) (n : Nat) (on : Bool) : State :=
  { s with evg := { s.evg with line := setGrpBit s.evg.line n on
                               seen := if on then s.evg.seen else setGrpBit s.evg.seen n false } }

/-- A sample of an asserted level line (R314, R322): it sets P while A = 0, and posts once for each assertion to a
context. -/
def State.sample (s : State) (n : Nat) : State :=
  if !s.evE n then s
  else if s.rf (routeR n) 63 62 = 2 then
    if grpBit s.evg.seen n then s
    else ({ s with evg := { s.evg with seen := setGrpBit s.evg.seen n true } }).edge n
  else if isBcast n then
    if !s.evGen n then
      if (s.subscribers n).all (fun c => bit (s.core c).bcastA n) then s
      else { s with evg := { s.evg with latch := setGrpBit s.evg.latch n true } }
    else (s.subscribers n).foldl (fun s c => s.modCore c (fun k =>
      if bit k.bcastA n then k else { k with bcastP := setBit k.bcastP n true })) s
  else if bit (s.reg (actR (n / 32))) (n % 32) then s
  else s.edge n

/-- The sources whose line is asserted. -/
def State.asserted (s : State) : List Nat :=
  s.evg.line.flatMap (fun e => ((List.range 32).filter (fun i => bit e.2 i)).map (fun i => 32 * e.1 + i))

/-- GEN returns to 1: the capture latches are ORed into P and cleared (R314). -/
def State.openGroup (s : State) (g : Nat) : State :=
  let w := SMap.get 0 s.evg.latch g
  let s := { s with evg := { s.evg with latch := SMap.put 0 s.evg.latch g 0 } }
  ((List.range 32).filter (fun i => bit w i)).foldl (fun s i => s.setP (32 * g + i)) s

/-! ### Claims, completes and requests -/

/-- A route's class and level match a register or a request (R317). -/
def routeClass (r : Dword) (k : IntClass) : Bool :=
  match k with
  | .fast => bit r 54
  | .pl2 => !bit r 54 && bit r 53
  | .normal => !bit r 54 && !bit r 53

/-- A source is eligible at a core for a class (R317). -/
def State.eligible (s : State) (c : Nat) (k : IntClass) (n : Nat) : Bool :=
  let r := s.reg (routeR n)
  s.evP c n && s.evE n && !s.evA c n && s.evGen n && decide (fld r 63 62 = 1) && routeClass r k &&
    (if isBcast n then bit ((s.core c).csr 0x222) n
      else match s.physOf (fld r 47 44) (fld r 43 41) with
        | some t => decide (s.leadOf (coreNo t (fld r 40 39)) = s.leadOf c)
        | none => false) &&
    (k = .pl2 || bit r 55 || ((s.core c).ctx.isSome && decide (fld r 60 56 = (s.core c).tid)))

/-- The sources that may be eligible anywhere, in rising order: pending bits, and the broadcast sources. -/
def State.candidates (s : State) : List Nat :=
  List.range 8 ++ (List.range 64).flatMap (fun g =>
    let w := s.reg (pendR g)
    if w = 0 then [] else ((List.range 32).filter (fun i => bit w i && decide (8 ≤ 32 * g + i))).map (fun i => 32 * g + i))

/-- The pointer of a claim register (R318). -/
def Core.claimPtr (k : Core) : IntClass → Nat
  | .normal => k.ptrNormal
  | .fast => k.ptrFast
  | .pl2 => k.ptrPl2

/-- A claim pointer set. -/
def Core.setPtr (k : Core) (i : IntClass) (v : Nat) : Core :=
  match i with
  | .normal => { k with ptrNormal := v }
  | .fast => { k with ptrFast := v }
  | .pl2 => { k with ptrPl2 := v }

/-- P and A of a source set as a claim or a complete leaves them. -/
def State.setPA (s : State) (c n : Nat) (p a : Bool) : State :=
  if isBcast n then s.modCore c (fun k => { k with bcastP := setBit k.bcastP n p, bcastA := setBit k.bcastA n a })
  else (s.setRf (pendR (n / 32)) (n % 32) (n % 32) p.toNat).setRf (actR (n / 32)) (n % 32) (n % 32) a.toNat

/-- A claim at a core's register (R318, R321): the first eligible source at or after PTR is made active, its P cleared, its
group's hold-off loaded. Answers the winner, or 0xFFF. -/
def State.claim (s : State) (c : Nat) (k : IntClass) : State × Nat :=
  let el := s.candidates.filter (fun n => s.eligible c k n)
  let p := (s.core c).claimPtr k
  match (el.find? (fun n => decide (p ≤ n))).or el.head? with
  | none => (s, 0xFFF)
  | some n =>
    let s := (s.setPA c n false true).modCore c (fun q => q.setPtr k ((n + 1) % 2048))
    let g := gctlR (n / 32)
    let s := s.setRf g 31 16 (s.rf g 47 32)
    (s.emitEvent 385 0x40 (n ||| trioOf c <<< 11 ||| coreIn c <<< 19), n)

/-- A complete at a core's register (R319). -/
def State.complete (s : State) (c : Nat) (k : IntClass) (n : Nat) : State :=
  if n < 2048 ∧ s.evA c n ∧ s.rf (routeR n) 63 62 = 1 ∧ routeClass (s.reg (routeR n)) k then
    (s.setPA c n (s.evP c n) false).emitEvent 385 0x41 (n ||| trioOf c <<< 11 ||| coreIn c <<< 19)
  else s.incRf ⟨.evgStat, 0, 0, 0⟩ 63 48

/-- The Event Gatherer raises a core's request of a class (R317, R321): hold-off holds it back except at a core in WAIT. -/
def State.requested (s : State) (c : Nat) (k : IntClass) : Bool :=
  s.candidates.any (fun n => s.eligible c k n &&
    (decide (s.rf (gctlR (n / 32)) 31 16 = 0) || decide ((s.core c).run = .waiting)))

/-- The requests of a core that are still raised. -/
def State.keptReqs (s : State) (c : Nat) : List IntClass := (s.core c).intReq.filter (fun k => s.requested c k)

/-- A request no longer raised falls at the core. -/
def State.dropRequests (s : State) : State :=
  s.cores.foldl (fun (s : State) e =>
    if (s.core e.1).intReq.isEmpty then s else s.modCore e.1 (fun k => { k with intReq := s.keptReqs e.1 })) s

/-! ### The end of a step -/

/-- What one raised item does. -/
def State.take (s : State) : Raised → State
  | .edge n => s.edge n
  | .level n on => s.level' n on

/-- The posted stores that homes have refused in the step are recorded (R465). -/
def State.recordRefusals (s : State) : State :=
  s.refusals.foldl (fun (s : State) p => s.postedFail p.tid.val p.pa p.cause p.sub) { s with refusals := [] }

/-- The end of every step: refused posted stores are recorded, the edges and lines that the step raised act at the Event Gatherer,
asserted lines are sampled, and requests that have lost their last source fall. -/
def State.finish (s : State) : State :=
  let s := s.recordRefusals
  let l := s.evg.raised
  let s := { s with evg := { s.evg with raised := [] } }
  let s := l.foldl State.take s
  let s := s.asserted.foldl State.sample s
  s.dropRequests

/-- The end of a command that completes. -/
def done (s : State) : Host.Outcome State Fault Refusal := .next s.finish

end Sys2Proof.Machine
end

