-- ==== Sys2Proof/Machine/Ftu.lean ====
section
/-! DEFINITION. The Frame Tick Unit: ticks, sources, locking and the second (R222-R228, R457); and the answer of a register
write. -/

namespace Sys2Proof.Machine

/-- What a write to a register comes to: done; refused with a sub-cause of Device access error (0x0F), nothing changed;
begun, its completion coming later (R113); or held back whole behind another that waits. -/
inductive Wr where
  | ok (s : State)
  | err (sub : Nat)
  | wait (s : State)
  | stay

/-- `FTU_CFG`, `FTU_ALIGN`, `FTU_STATUS`, `PPS_CAP`. -/
def ftuCfgR : RegRef := ⟨.ftuCfg, 0, 0, 0⟩
/-- `FTU_ALIGN`. -/
def ftuAlignR : RegRef := ⟨.ftuAlign, 0, 0, 0⟩
/-- `FTU_STATUS`. -/
def ftuStatusR : RegRef := ⟨.ftuStatus, 0, 0, 0⟩
/-- `PPS_CAP`. -/
def ppsCapR : RegRef := ⟨.ppsCap, 0, 0, 0⟩

/-- `FTU_CFG.RUN`. -/
def State.running (s : State) : Bool := bit (s.reg ftuCfgR) 0
/-- The frame period in timebase units. -/
def State.period (s : State) : Nat := s.rf ftuCfgR 27 8
/-- Frames per major frame. -/
def State.frames (s : State) : Nat := s.rf ftuCfgR 33 28 + 1
/-- The tick source. -/
def State.tickSrc (s : State) : Nat := s.rf ftuCfgR 35 34
/-- The index of the current frame within its major frame. -/
def State.frame (s : State) : Nat := s.rf ftuStatusR 21 16
/-- The state of the Frame Tick Unit: 0 Stopped, 1 Free, 2 Acquire, 3 Locked, 4 Holdover. -/
def State.ftuState (s : State) : Nat := s.rf ftuStatusR 2 0

/-- A transition of R225, which Sole records; entering Acquire starts the count of measurements afresh (R226). -/
def State.setFtu (s : State) (new : Nat) : State :=
  let old := s.ftuState
  let s := { s with ftu := { s.ftu with good := 0, bad := 0, first := decide (new = 2) } }
  if old = new then s
  else ((s.setRf ftuStatusR 2 0 new).sysEvent 0x10 [BitVec.ofNat 64 (16 * old + new)]).raise 13

/-- The phase of the tick instants, less than PERIOD: a tick is due at a timebase that satisfies R222. -/
def State.tickDue (s : State) (t : Nat) : Bool :=
  decide (s.period ≠ 0) && decide ((t + s.period - s.ftu.phase % s.period) % s.period = 0)

/-- The index of the frame whose tick is at timebase `t` (R222). -/
def State.frameAt (s : State) (t : Nat) : Nat := (t - s.ftu.phase) / s.period % s.frames

/-- The first tick instant after the last tick. -/
def State.nextTick (s : State) : Dword := s.ftu.tickAt + BitVec.ofNat 64 s.period

/-- TICK leaves on every Active link (R369), with the timebase in ns and the frame index. -/
def State.sendTicks (s : State) (t : Dword) : State :=
  if s.tickSrc = 3 then s
  else forN 3 (fun k s => if s.xlUp k then s.sendXl k .tick [t * 10, BitVec.ofNat 64 s.frame] else s) s

/-- A tick is raised for the instant `t` (R222, R227): FTICK_OUT pulses, and the tick sets out for every unit. -/
def State.raiseTick (s : State) (t : Dword) : State :=
  let s := s.setRf ftuStatusR 21 16 (s.frameAt t.toNat)
  let s := { s with ftu := { s.ftu with
                        tickAt := t, ticks := s.ftu.ticks + 1, ticksB := s.ftu.ticksB + 1, arrived := [], corrected := false }
                    power := { s.power with ftickOut := s.power.ftickOut + 1 } }
  (s.sendTicks t).raise 14

/-- The second pulses (R457). -/
def State.pulse (s : State) : State := { s with power := { s.power with ppsOut := s.power.ppsOut + 1 } }

/-- The phase correction of a frame while seasons run, at most one unit at its end (R226): at a tick the next instant moves toward a
new OFFSET; with none to come, the timebase moves toward the source at the frame's end (`early`, `lengthens`). -/
def State.slewFrame (s : State) : State :=
  let want := s.rf ftuAlignR 19 0
  if s.ftu.phase < want then { s with ftu := { s.ftu with phase := s.ftu.phase + 1, corrected := true } }
  else if want < s.ftu.phase then { s with ftu := { s.ftu with phase := s.ftu.phase - 1, corrected := true } }
  else s

/-- The timebase is one unit short of a tick that ends a frame of a season, and the frame has not been corrected yet (R226). -/
def State.mayCorrect (s : State) : Bool :=
  s.running && bit (s.reg seasonCtlR) 3 && !s.ftu.corrected && s.tickDue (s.timebase.toNat + 1)
/-- The frame that ends is shortened by a unit: the timebase is behind its source (R226). -/
def State.early (s : State) : Bool := s.mayCorrect && decide (0 < s.ftu.slew)
/-- The frame that ends is lengthened by a unit: the timebase is ahead of its source (R226). -/
def State.lengthens (s : State) : Bool := s.mayCorrect && decide (s.ftu.slew < 0)

/-- No tick has been raised at the timebase as it now stands. -/
def State.fresh (s : State) : Bool := decide (s.ftu.ticks = 0) || decide (s.ftu.tickAt ≠ s.timebase)

/-- The tick source behind a port or a link is lost, or the selected one (R225): Acquire becomes Free; Locked becomes Holdover, or
Free with HOLDMAX = 0. -/
def State.sourceLost (s : State) : State :=
  if s.tickSrc = 0 then s
  else if s.ftuState = 2 then s.setFtu 1
  else if s.ftuState = 3 then s.setFtu (if s.rf ftuAlignR 63 48 = 0 then 1 else 4)
  else s

/-- The instant of the tick that precedes timebase `t`'s `n`th next tick instant (R222). -/
def State.tickInstant (s : State) (k : Nat) : Dword := BitVec.ofNat 64 (k * s.period + s.ftu.phase % s.period - s.period)

/-- A tick is raised where the timebase satisfies the period and the offset, or a unit early at a frame that is shortened
(R222, R226). -/
def State.frameTick (s : State) : State :=
  let s := if s.early then { s with timebase := s.timebase + 1, ftu := { s.ftu with slew := s.ftu.slew - 1 } } else s
  if s.tickDue s.timebase.toNat then
    let s := s.raiseTick s.timebase
    if bit (s.reg seasonCtlR) 3 then s.slewFrame else s
  else s

/-- A reset of the whole module stops the Frame Tick Unit, which Sole records (R225). -/
def State.noteStopped (s : State) : State :=
  if s.ftuState = 0 then s else s.sysEvent 0x10 [BitVec.ofNat 64 (16 * s.ftuState)]

/-- The timebase moves forward by `u` units in one step (R222): every tick instant and every second that it passes acts at the
step. -/
def State.stepForward (s : State) (u : Nat) : State :=
  let t := s.timebase.toNat
  let t' := t + u
  let s := { s with timebase := BitVec.ofNat 64 t' }
  let s := forN (t' / 100000000 - t / 100000000) (fun _ s => s.pulse) s
  if !s.running || s.period = 0 then s
  else
    let k := fun (x : Nat) => (x + s.period - s.ftu.phase % s.period) / s.period
    forN (k t' - k t) (fun i s => s.raiseTick (s.tickInstant (k t + 1 + i))) s

/-- A measurement of the phase error in ns, source minus timebase (R224-R226): it steps the phase once while no season runs, sets
the slew while seasons run, and drives the states. The fractional trim of the timebase's increment sets how long a unit of it
lasts, which no step shows. -/
def State.measure (s : State) (err : Int) : State :=
  if s.ftuState < 2 then s
  else
    let s := s.setRf ftuStatusR 63 32 (BitVec.ofInt 32 err).toNat
    let s := if s.ftuState = 4 then s.setFtu 2 else s
    let u := err.tdiv 10
    let en := bit (s.reg seasonCtlR) 3
    if s.ftuState = 2 ∧ s.ftu.first ∧ !en then
      let s := { s with ftu := { s.ftu with first := false } }
      if 0 ≤ u then s.stepForward u.toNat else { s with ftu := { s.ftu with hold := s.ftu.hold + (-u).toNat } }
    else
      let s := { s with ftu := { s.ftu with first := false, slew := if en then u else 0 } }
      let mag := err.natAbs
      if s.ftuState = 2 then
        let good := if mag ≤ 40 then s.ftu.good + 1 else 0
        if 16 ≤ good then s.setFtu 3 else { s with ftu := { s.ftu with good := good } }
      else
        let bad := if 80 < mag then s.ftu.bad + 1 else 0
        if 4 ≤ bad then s.setFtu 2 else { s with ftu := { s.ftu with bad := bad } }

/-- PHASE_MEASUREMENT (R226). With the internal source there is none (R224). -/
def execPhaseMeasurement (err : Int) (s : State) : Host.Outcome State Fault Refusal :=
  done (
    if s.tickSrc = 0 then s else (s.measure err))

/-- FTICK_IN_EDGE (R224): with SRC = 2 the edge is measured against the nearest tick; one more than 1 µs away is ignored and
counted. -/
def execFtickInEdge (err : Int) (s : State) : Host.Outcome State Fault Refusal :=
  done (
    if s.tickSrc ≠ 2 then s
    else if 1000 < err.natAbs then { s with ftu := { s.ftu with ignored := s.ftu.ignored + 1 } }
    else (s.measure err))

/-- TICK_SOURCE_LOST (R224). -/
def execTickSourceLost (s : State) : Host.Outcome State Fault Refusal := done s.sourceLost

/-- HOLDOVER_EXPIRY (R225). -/
def execHoldoverExpiry (s : State) : Host.Outcome State Fault Refusal :=
  done (
    if s.ftuState = 4 then (s.setFtu 1) else s)

/-- A write to `FTU_CFG` (R223). -/
def State.writeFtuCfg (s : State) (v : Dword) : Wr :=
  let old := s.reg ftuCfgR
  let new := writeFields Reg.ftuCfg.fields (s.locked ftuCfgR) old v
  let run := bit old 0
  if (run ∧ (fld new 27 8 ≠ fld old 27 8 ∨ fld new 33 28 ≠ fld old 33 28)) ∨
      fld new 27 8 < 5000 ∨ 1000000 < fld new 27 8 ∨ (fld new 35 34 = 3 ∧ 2 < fld new 39 36) then .err 0
  else
    let s := s.setReg ftuCfgR new
    let go := if fld new 35 34 = 0 then 1 else 2
    if bit new 0 then
      if !run then .ok ({ s with ftu := { s.ftu with phase := s.rf ftuAlignR 19 0 } }.setFtu go)
      else if fld new 39 34 ≠ fld old 39 34 then .ok (s.setFtu go)
      else .ok s
    else if run then .ok (s.setFtu 0)
    else .ok s

/-- A write to `FTU_ALIGN` (R226): an OFFSET not below PERIOD is refused; the tick instants move at once while no season
runs. -/
def State.writeFtuAlign (s : State) (v : Dword) : Wr :=
  if s.period ≤ fld v 19 0 then .err 0
  else
    let s := s.writeReg ftuAlignR v
    if bit (s.reg seasonCtlR) 3 then .ok s
    else .ok { s with ftu := { s.ftu with phase := s.rf ftuAlignR 19 0 } }

/-- PPS_IN_EDGE (R457): the timebase of the edge, in ns, is captured. -/
def execPpsInEdge (ns : BitVec 63) (s : State) : Host.Outcome State Fault Refusal :=
  done (s.setReg ppsCapR (setBit (ns.setWidth 64) 63 true))

/-- PPS_OUT_PULSE (R457): at a multiple of 100,000,000 units. -/
def execPpsOutPulse (s : State) : Host.Outcome State Fault Refusal :=
  done (
    if s.timebase.toNat % 100000000 = 0 then s.pulse else s)

end Sys2Proof.Machine
end

