-- ==== Sys2Proof/Machine/Partner.lean ====
section
/-! DEFINITION. Votes among modules (R368), and what ends when the partner of an external link leaves (R361, R364). -/

namespace Sys2Proof.Machine

/-! ### Votes -/

/-- `XL_VCFG[c]`. -/
def vcfgR (c : Nat) : RegRef := ⟨.xlVcfg, 0, c, 0⟩
/-- Vote channel `c` beyond its page. -/
def State.vote (s : State) (c : Nat) : Vote := SMap.get {} s.links.votes c
/-- The state with a vote channel changed. -/
def State.modVote (s : State) (c : Nat) (f : Vote → Vote) : State :=
  { s with links := { s.links with votes := SMap.put {} s.links.votes c (f (s.vote c)) } }
/-- Module `m` participates in channel `c`. -/
def State.votes (s : State) (c m : Nat) : Bool := bit (s.reg (vcfgR c)) (37 + m)
/-- The contribution of module `m` to the current round that the channel holds. -/
def Vote.of (v : Vote) (m : Nat) : Option (BitVec 256) :=
  (v.contrib.find? (fun x => decide (x.1.toNat = m) && decide (some x.2.1 = v.round))).map (·.2.2)
/-- The current round can be decided: every participant has contributed or is unreachable. -/
def State.voteReady (s : State) (c : Nat) : Bool :=
  let v := s.vote c
  v.undecided && (List.range 4).all (fun m => !s.votes c m || (v.of m).isSome || (decide (m ≠ s.modId) && (s.linkTo m).isNone))

/-- The value that more than half of the participants set in PART contributed. -/
def State.voteWinner (s : State) (c : Nat) : Option (BitVec 256) :=
  let v := s.vote c
  let part := ((List.range 4).filter (s.votes c)).length
  ((List.range 4).filterMap (fun m => if s.votes c m then v.of m else none)).find? (fun x =>
    decide (part < 2 * ((List.range 4).filter (fun m => s.votes c m && decide (v.of m = some x))).length))

/-- The channel decides its round from what it holds (R368): RESULT and the agreed value are written, and the event is posted.
Unanimous: every participant contributed the winner (DEDUCED, assumption 16). -/
def State.voteDecide (s : State) (c : Nat) : State :=
  let v := s.vote c
  let win := s.voteWinner c
  let all := (List.range 4).all (fun m => !s.votes c m || decide ((v.of m) = win))
  let out := match win with
    | some _ => if all then 0 else 1
    | none => 2
  let mask := fun (p : Nat → Bool) => (List.range 4).foldl (fun n m => if p m then n + 2 ^ m else n) 0
  let present := mask (fun m => s.votes c m && (v.of m).isSome)
  let dissent := mask (fun m => s.votes c m && (v.of m).isSome && win.isSome && decide (v.of m ≠ win))
  let r := (v.round.getD 0).toNat ||| out <<< 32 ||| present <<< 36 ||| dissent <<< 40 ||| 1 <<< 44
  let s := s.modVote c (fun v => { v with undecided := false })
  let s := s.setReg ⟨.voteResult, 0, c, 0⟩ (BitVec.ofNat 64 r)
  let s := forN 4 (fun i s => s.setReg ⟨.voteAgreed, 0, c, i⟩ (((win.getD 0) >>> (64 * i)).truncate 64)) s
  let cfg := s.reg (vcfgR c)
  s.notify (fld cfg 62 58) (fld cfg 57 46) (fld cfg 45 41)

/-- The channel decides when it can. -/
def State.voteCheck (s : State) (c : Nat) : State := if s.voteReady c then s.voteDecide c else s

/-! ### The end of a link -/

/-- What the loss of a partner ends: the access on which a core stands frozen, a slot's detached access, a write that
awaits an answer. -/
inductive Ended where
  | load (c : Nat)
  | slot (t n : Nat)
  | write (pa : Nat)
  deriving DecidableEq, Repr

/-- `MB_STAT[t]`. -/
def mbStatR (t : Nat) : RegRef := ⟨.mbStat, 0, t, 0⟩
/-- The physical address of `GO` in tenant `t`'s send page (R367). -/
def mbGoPa (t : Nat) : Nat := 0x3F0000000000 + (RegRef.off ⟨.mbGo, 0, t, 0⟩)

/-- The slot whose detached access is the tenant's load, or the store, at `pa`. -/
def State.detachedAt (s : State) (tid : Tid) (pa : BitVec 46) (store : Bool) : Option (Nat × Nat) :=
  s.trios.findSome? (fun e => (e.2.slots.find? (fun x => match x.2.det with
    | some d => !d.failed && d.acc.store = store && decide (d.acc.pa = pa) && decide (x.2.tid = tid)
    | none => false)).map (fun x => (e.1, x.1)))

/-- Who waits for a remote access: the core that stands frozen on it, or the slot that holds it detached; nobody waits for a
posted store. -/
def State.waiter (s : State) (r : Remote) : Option Ended :=
  match (s.core r.core.val).dev with
  | some a => if a.pa = r.pa ∧ a.store = r.store then some (.load r.core.val) else none
  | none => (s.detachedAt r.tid r.pa r.store).map (fun x => .slot x.1 x.2)

/-- A remote access fails (R364, R365): a posted store with its record, another at the core or the slot that awaits it. -/
def State.remoteFail (s : State) (r : Remote) (stop : Ended → State → State) : State :=
  match s.waiter r with
  | some e => stop e s
  | none => if r.store then s.postedFail r.tid.val r.pa.toNat 0x0F 0 else s

/-- The partner of link `k` has left (R364). -/
def State.partnerLeft (s : State) (k : Nat) (stop : Ended → State → State) : State :=
  let x := s.xl k
  let s := s.modXl k (fun x => { x with remote := [], mbox := [], held := [] })
  let s := x.remote.foldl (fun s r => s.remoteFail r stop) s
  let s := x.mbox.foldl (fun s m => stop (.write (mbGoPa m.2.val)) (s.setRf (mbStatR m.2.val) 1 0 2)) s
  let s := forN 64 (fun c s => s.voteCheck c) s
  let s := if s.tickSrc = 3 ∧ s.rf ftuCfgR 39 36 = k then s.sourceLost else s
  s.raise (31 * 32 + 4 * k + 1)

/-- A transition of link `k` (R361), which Sole records; every start of the link starts its exchange of identities afresh. -/
def State.xlGo (s : State) (k st : Nat) : State :=
  let s := (s.setRf (xlStatusR k) 3 0 st).noteUnit
  if st < 4 then s.modXl k (fun x => { x with
      flits := {}, sentAccept := false, gotAccept := false, gotRefuse := false, echoes := 0, echoSum := 0
      partner := 0 })
  else s

/-- A link goes to a state in which it has no partner: Detect or Off. -/
def State.xlDrop (s : State) (k st : Nat) (stop : Ended → State → State) : State :=
  if s.xlState k = st then s
  else
    let up := s.xlUp k
    let s := s.xlGo k st
    if up then s.partnerLeft k stop else s

/-- This module departs from a link (R361): DEPART is sent where there is a partner. -/
def State.xlDepart (s : State) (k : Nat) (stop : Ended → State → State) : State :=
  if s.xlUp k then (s.sendXl k .depart []).xlDrop k 1 stop else s

end Sys2Proof.Machine
end

