-- ==== Sys2Proof/Machine/Prefetch.lean ====
section
/-! DEFINITION. The prefetch streams, and demand reads of an L2 that train its prefetcher (R117, R118). -/

namespace Sys2Proof.Machine

/-- An access at `a` trains the stream with its key (R117): the streams, the oldest having made room for a new one, and the
stride of a stream that is confident, with whether its confidence is full. -/
def trainStreams (ss : List Stream) (cap key a : Nat) : List Stream × Option (Int × Bool) :=
  match ss.find? (fun x => decide (x.key = key)) with
  | none => ((if cap ≤ ss.length then ss.drop 1 else ss) ++ [{ key := key, last := a }], none)
  | some x =>
    let d : Int := (a : Int) - x.last
    let y : Stream := if d = x.stride ∧ d ≠ 0 then { x with conf := min (x.conf + 1) 3, last := a }
      else { x with stride := d, conf := 0, last := a }
    (ss.map (fun z => if z.key = key then y else z), if 2 ≤ y.conf then some (d, decide (y.conf = 3)) else none)

/-- A demand miss of a trio's L2 trains its prefetcher (R118), which fills the L2 from the same page; a prefetch that the home
refuses, or that finds no miss register free (R116), is dropped. -/
def State.l2Train (s : State) (t : Nat) (r : Rq) (line : Nat) : State :=
  if !bit (s.reg ⟨.l2Ctl, t, 0, 0⟩) 8 then s
  else
    let x := trainStreams (s.trio t).l2.streams 32 (granule line * 32 + r.tid) line
    let s := s.modL2 t (fun k => { k with streams := x.1 })
    match x.2 with
    | none => s
    | some (d, _) =>
      let target := (line : Int) + d
      if target / 64 ≠ (granule line : Int) ∨ !s.l2Alloc t then s
      else if ((s.trio t).l2.find target.toNat).isSome then s
      else if !s.missRoom t then s.countTrioFor t r.tid 0x0A
      else
        match s.l2Read t { r with res := false, old := true, pf := true } target.toNat with
        | (s, .ok _) => s.countTrioFor t r.tid 0x09
        | (s, .error _) => s.countTrioFor t r.tid 0x0A

/-- A line read through a trio's L2 on demand: loads, fetches and walks. A merging buffer's drain is no demand miss, and trains
nothing (DESIGN CHOICE, assumption 43). -/
def State.l2Demand (s : State) (t : Nat) (r : Rq) (line : Nat) :
    State × Except MemErr (LineData × Bool × Bool × Nat) :=
  let hit := s.l2On t && (((s.trio t).l2.find line).filter (fun l => l.visible r.w)).isSome
  match s.l2Read t r line with
  | (s, .ok x) => (if hit then s else s.l2Train t r line, .ok x)
  | (s, .error e) => (s, .error e)

end Sys2Proof.Machine
end

