-- ==== Sys2Proof/Machine/Xlate.lean ====
section
/-! DEFINITION. Translation: which accesses are translated, the TLBs, the walk of the Hashed Inverted Table, accessed and
dirty marks, demand allocation and invalidation (R135-R158). -/

namespace Sys2Proof.Machine

/-- What a part of an instruction comes to: a value, a trap, or nothing yet, the core being frozen (R89). -/
inductive Got (α : Type) where
  | ok (a : α)
  | trap (x : Trap)
  | stay
  deriving DecidableEq, Repr

/-- The kinds of access that translation tells apart (R142). -/
inductive Acc' where
  | fetch | load | store | tas | maint
  deriving DecidableEq, Repr

/-- The access sets D. -/
def Acc'.writes : Acc' → Bool
  | .store | .tas => true
  | _ => false

/-- The translation miss of an access. -/
def missTrap (k : Acc') (va : Dword) : Trap := { cause := if k = .fetch then 0x02 else 0x0A, eva := va }
/-- The access denied of an access. -/
def deniedTrap (k : Acc') (sub : Nat) (va : Dword) : Trap :=
  { cause := if k = .fetch then 0x03 else 0x0B, sub := sub, eva := va }

/-- A physical page address with the type that governs the access. -/
structure Page where
  pa : Nat
  ty : MemType
  region : Region
  /-- The access was translated. -/
  trans : Bool
  deriving DecidableEq, Repr

/-- The memory type that MT spells (R141). -/
def mtOf (n : Nat) : MemType :=
  match n with
  | 0 => .wb
  | 1 => .wt
  | 2 => .uc
  | 3 => .wc
  | 5 => .devRelaxed
  | _ => .devStrict

/-- The type of an untranslated access (R136). -/
def regionType (r : Region) : MemType :=
  match r with
  | .dram | .rom => .wb
  | .remote => .uc
  | _ => .devStrict

/-- The type that governs a translated access: the Module Configuration Space is Device-strict and the boot ROM WB whatever
the entry gives (R30); other regions outside DRAM are cached by no agent (DEDUCED, assumption 11), so WB and WT act as UC. -/
def effType (r : Region) (t : MemType) : MemType :=
  match r with
  | .dram => t
  | .mcs => .devStrict
  | .rom => .wb
  | _ => if t = .wb ∨ t = .wt then .uc else t

/-! ### Entries -/

/-- The shift of a page size. -/
def pageShift (sz : Nat) : Nat := if sz = 0 then 12 else if sz = 1 then 16 else if sz = 2 then 21 else 30

/-- A walk's key: the tenant, the address space and the region's page size. -/
structure Key where
  tid : Nat
  asid : Nat
  sz : Nat
  /-- The PL2 key, under which U is ignored (R135). -/
  pm : Bool
  deriving DecidableEq, Repr

/-- The key of a translated access of core `c` (R135, R137). -/
def State.keyOf (s : State) (c : Nat) (va : Dword) : Key :=
  let k := s.core c
  let pm := decide (k.pl = 2)
  let tid := if pm then 0 else k.tid
  let r := fld va 47 44
  ⟨tid, if pm then 0xFFF else k.asid, s.rf ⟨.xltTcfg, 0, tid, 0⟩ (2 * r + 1) (2 * r), pm⟩

/-- V of an entry. -/
def eV (d0 : Dword) : Bool := bit d0 63
/-- A right of doubleword 1: R 29, W 28, X 27, U 26, G 22, A 21, D 20, DA 19, FP 18, L 17. -/
def eBit (d1 : Dword) (i : Nat) : Bool := bit d1 i

/-- An entry matches a key and an address (R140). -/
def entryMatch (d0 d1 : Dword) (key : Key) (va : Dword) : Bool :=
  let sh := pageShift key.sz
  eV d0 && decide (fld d0 60 56 = key.tid) && decide (fld d0 62 61 = key.sz) &&
    decide (fld d0 43 8 >>> (sh - 12) = fld va 47 12 >>> (sh - 12)) &&
    (eBit d1 22 || decide (fld d0 55 44 = key.asid))

/-- The physical address through an entry (R141). -/
def entryPa (d1 : Dword) (sz : Nat) (va : Dword) : Nat :=
  let sh := pageShift sz
  (fld d1 63 30 >>> (sh - 12)) <<< sh ||| va.toNat % 2 ^ sh

/-- The rights check of R142, with the fetch types of R466. -/
def State.rightsOk (s : State) (pl : Nat) (key : Key) (k : Acc') (d1 : Dword) (va : Dword) : Bool :=
  let u : Bool := key.pm || decide (pl ≠ 0) || eBit d1 26
  let ty := effType (if eBit d1 18 then s.region (entryPa d1 key.sz va) else .dram) (mtOf (fld d1 25 23))
  u && match k with
    | .fetch => eBit d1 27 && !(decide (pl = 1) && !key.pm && eBit d1 26) && decide (ty ≠ .devStrict ∧ ty ≠ .devRelaxed)
    | .load => eBit d1 29
    | .store => eBit d1 28
    | .tas => eBit d1 29 && eBit d1 28
    | .maint => decide (pl ≠ 0) || eBit d1 29

/-! ### TLBs (R144, R145) -/

/-- An entry of a TLB is selected by TLBINV (R153). -/
def selHits (x : InvSel) (e : TlbEntry) : Bool :=
  let sh := pageShift (fld e.dw0 62 61)
  match x with
  | .va va asid tid =>
    decide (fld e.dw0 60 56 = tid.toNat) && decide (fld e.dw0 43 8 >>> (sh - 12) = fld va 47 12 >>> (sh - 12)) &&
      (eBit e.dw1 22 || decide (fld e.dw0 55 44 = asid.toNat))
  | .asid asid tid => decide (fld e.dw0 60 56 = tid.toNat) && decide (fld e.dw0 55 44 = asid.toNat) && !eBit e.dw1 22
  | .tid tid => decide (fld e.dw0 60 56 = tid.toNat)
  | .all => true

/-- The entries that a selection removes leave a core's TLBs (R153). -/
def Core.tlbInv (k : Core) (x : InvSel) : Core :=
  { k with itlb := k.itlb.filter (fun e => !selHits x e), dtlb := k.dtlb.filter (fun e => !selHits x e)
           tlb2 := k.tlb2.filter (fun e => !selHits x e) }

/-- The entry of a TLB that a key and an address hit. -/
def tlbFind (l : List TlbEntry) (key : Key) (va : Dword) : Option TlbEntry :=
  l.find? (fun e => entryMatch e.dw0 e.dw1 key va)

/-- An entry enters the ITLB or the DTLB at the rotating way; an older copy of the same translation leaves. -/
def Core.fill1 (k : Core) (fetch : Bool) (key : Key) (va d0 d1 : Dword) : Core :=
  let keep (l : List TlbEntry) (way : Nat) := l.filter (fun e => !entryMatch e.dw0 e.dw1 key va && decide (e.way ≠ way))
  if fetch then
    { k with itlb := keep k.itlb k.itlbRot ++ [⟨d0, d1, 0, k.itlbRot, false⟩], itlbRot := (k.itlbRot + 1) % 32 }
  else { k with dtlb := keep k.dtlb k.dtlbRot ++ [⟨d0, d1, 0, k.dtlbRot, false⟩], dtlbRot := (k.dtlbRot + 1) % 64 }

/-- An entry enters the second-level TLB: the lowest invalid way of its set, else rotation over the ways not locked; at most
two ways of a set hold locked entries, which leave by invalidation alone (R144, R145): a fresh copy of a locked entry's
translation takes its place and stays locked. -/
def Core.fill2 (k : Core) (key : Key) (va d0 d1 : Dword) : Core :=
  let set := (fld va 47 12 >>> (pageShift key.sz - 12)) % 512
  let was := k.tlb2.find? (fun e => entryMatch e.dw0 e.dw1 key va && e.locked)
  if was.isSome then
    { k with tlb2 := k.tlb2.map (fun e => if some e = was then { e with dw0 := d0, dw1 := d1 } else e) }
  else
  let rest := k.tlb2.filter (fun e => !(entryMatch e.dw0 e.dw1 key va))
  let inSet := rest.filter (fun e => decide (e.set = set))
  let at' := fun w => inSet.find? (fun (e : TlbEntry) => decide (e.way = w))
  let rot := SMap.get 0 k.tlb2Rot set
  let order := (List.range 4).map (fun i => (rot + i) % 4)
  let free := (List.range 4).find? (fun w => (at' w).isNone)
  let pick := free.or (order.find? (fun w => ((at' w).map (·.locked)) = some false))
  let lock := eBit d1 17 && decide ((inSet.filter (·.locked)).length < 2)
  match pick with
  | none => { k with tlb2 := rest }
  | some w =>
    { k with tlb2 := rest.filter (fun e => !(decide (e.set = set) && decide (e.way = w))) ++ [⟨d0, d1, set, w, lock⟩]
             tlb2Rot := if free.isSome then k.tlb2Rot else SMap.put 0 k.tlb2Rot set ((w + 1) % 4) }

/-! ### The walk -/

/-- `HIT_CFG`. -/
def hitCfgR : RegRef := ⟨.hitCfg, 0, 0, 0⟩

/-- The primary and secondary bucket indices (R139). -/
def hashOf (n : Nat) (v tid asid : Nat) : Nat × Nat :=
  let m := 2 ^ n - 1
  let p := ((v ^^^ (v >>> n)) ^^^ (tid <<< (n - 5))) &&& m
  (p, ((p ^^^ m) ^^^ (asid * 0x101)) &&& m)

/-- A bucket's address. -/
def State.bucketPa (s : State) (i : Nat) : Nat := s.rf hitCfgR 45 21 * 0x200000 + i * 0x80

/-- A Sole record with SUB 0x16 that names a bucket (R151). -/
def State.walkRecord (s : State) (pa : Nat) : State := s.sysEvent 0x16 [BitVec.ofNat 64 pa]

/-- Who walks: a core, whose bucket reads go through its trio's L2 with W = 0 (R147), or a unit of the I/O die, which reads
uncached (R298). -/
inductive Walker where
  | core (c : Nat)
  | unit (r : Rq)
  deriving DecidableEq, Repr

/-- One line of a bucket: its data, and whether it is poisoned. A core's walk reads on demand, and so trains the L2 prefetcher
(R118). -/
def State.walkRead (s : State) (w : Walker) (line : Nat) : State × Except MemErr (LineData × Bool) :=
  match w with
  | .core c =>
    match s.l2Demand (trioOf c) (s.rq c (s.tidOn c) false line false) line with
    | (s, .ok x) => (s, .ok (x.1, x.2.1))
    | (s, .error e) => (s, .error e)
  | .unit r =>
    match s.rdShared r line true false with
    | (s, .ok x) => (s, .ok (x.1, x.2.1))
    | (s, .error e) => (s, .error e)

/-- A bucket read: both lines together, coherent (R147, R151). -/
def State.bucketRead (s : State) (w : Walker) (pa : Nat) (va : Dword) : State × Got (LineData × LineData) :=
  if !s.inInstalled pa then (s, .trap { cause := 0x0C, sub := 1, eva := va })
  else
    match s.walkRead w (pa / 64) with
    | (s, .error _) => (s.walkRecord pa, .trap { cause := 0x0C, sub := 2, eva := va })
    | (s, .ok a) =>
      match s.walkRead w (pa / 64 + 1) with
      | (s, .error _) => (s.walkRecord pa, .trap { cause := 0x0C, sub := 2, eva := va })
      | (s, .ok b) =>
        if a.2 || b.2 then (s.walkRecord pa, .trap { cause := 0x0C, sub := 0, eva := va })
        else (s, .ok (a.1, b.1))

/-- The lowest-numbered slot of a bucket that matches: its address and its doublewords. -/
def slotIn (pa : Nat) (b : LineData × LineData) (key : Key) (va : Dword) : Option (Nat × Dword × Dword) :=
  (List.range 8).findSome? (fun i =>
    let l := if i < 4 then b.1 else b.2
    let d0 := lineDw l (2 * (i % 4))
    let d1 := lineDw l (2 * (i % 4) + 1)
    if entryMatch d0 d1 key va then some (pa + 16 * i, d0, d1) else none)

/-- The search of both buckets (R140). -/
def State.walkFind (s : State) (c : Walker) (key : Key) (va : Dword) : State × Got (Option (Nat × Dword × Dword)) :=
  let n := s.rf hitCfgR 8 4
  let h := hashOf n (fld va 47 12 >>> (pageShift key.sz - 12)) key.tid key.asid
  let p := s.bucketPa h.1
  match s.bucketRead c p va with
  | (s, .trap x) => (s, .trap x)
  | (s, .stay) => (s, .stay)
  | (s, .ok b) =>
    match slotIn p b key va with
    | some e => (s, .ok (some e))
    | none =>
      if h.2 = h.1 then (s, .ok none)
      else
        let q := s.bucketPa h.2
        match s.bucketRead c q va with
        | (s, .trap x) => (s, .trap x)
        | (s, .stay) => (s, .stay)
        | (s, .ok b) => (s, .ok (slotIn q b key va))

/-! ### The home's operations on an entry (R149, R156) -/

/-- Setting A, and D for a store (R149): applied only if doubleword 0 is unchanged and V = 1. Answers the updated entry. -/
def State.markEntry (s : State) (tid ea : Nat) (d0 : Dword) (setD : Bool) : State × Option Dword :=
  match s.homeEntry tid ea with
  | (s, h0, h1) =>
    if h0 = d0 ∧ eV h0 then
      let d1 := setBit h1 21 true
      let d1 := if setD then setBit d1 20 true else d1
      (s.putEntry (homeRq tid) ea d1, some d1)
    else (s, none)

/-- `FPOOL_BASE`. -/
def fpoolBaseR (t : Nat) : RegRef := ⟨.fpoolBase, 0, t, 0⟩
/-- `FPOOL_IDX`. -/
def fpoolIdxR (t : Nat) : RegRef := ⟨.fpoolIdx, 0, t, 0⟩
/-- `TQ_STATUS`. -/
def tqStatusR (t : Nat) : RegRef := ⟨.tqStatus, 0, t, 0⟩
/-- `TQ_QUOTA`. -/
def tqQuotaR (t : Nat) : RegRef := ⟨.tqQuota, 0, t, 0⟩

/-- The next usable frame is popped: bad entries are skipped with a SUB 0x20 record (R151). None: the pool is empty. -/
def State.popFrame (s : State) (t : Nat) : Nat → State × Option Nat
  | 0 => (s, none)
  | fuel + 1 =>
    let k := s.rf (fpoolBaseR t) 4 0
    let head := s.rf (fpoolIdxR t) 19 0 % 2 ^ k
    let tail := s.rf (fpoolIdxR t) 51 32 % 2 ^ k
    if head = tail then (s, none)
    else
      let pa := s.rf (fpoolBaseR t) 45 7 * 128 + 8 * head
      let line := pa / 64
      let next := fun (s : State) => s.setRf (fpoolIdxR t) 19 0 ((head + 1) % 2 ^ k)
      let skip := fun (s : State) (entry : Dword) (why : Nat) =>
        ((next s).sysEvent 0x20 [BitVec.ofNat 64 t, BitVec.ofNat 64 pa, entry, BitVec.ofNat 64 why]).popFrame t fuel
      match s.rdShared { (homeRq t) with res := decide (0 < s.credit t (chanOf line)) } line true false with
      | (s, .error _) => skip s 0 2
      | (s, .ok (d, psn, _)) =>
        let entry := lineDw d (pa / 8 % 8)
        let frame := fld entry 45 12
        if psn then skip s 0 0
        else if !s.inInstalled (frame * 4096) || s.sealedLine (frame * 64) then skip s entry 1
        else (next s, some frame)

/-- An allocation at the home up to the pop (R156): the installed entry, a Quota fault's sub-cause, a changed entry, or the
frame popped. -/
inductive Alloc where
  | changed
  | installed (d1 : Dword)
  | quota (sub : Nat)
  | frame (z : ZeroFill)
  deriving DecidableEq, Repr

/-- The allocation's decisions and its pop (R156, R158): from the pop on, the frame's fill is the transaction of the entry's line. -/
def State.allocStart (s : State) (t ea : Nat) (d0 : Dword) (store : Bool) : State × Alloc :=
  match s.homeEntry t ea with
  | (s, h0, h1) =>
    if h0 ≠ d0 ∨ !eV h0 then (s, .changed)
    else if eBit h1 18 then (s, .installed h1)
    else if s.rf (tqQuotaR t) 31 0 ≤ s.rf (tqStatusR t) 31 0 then (s, .quota 0)
    else
      let z : ZeroFill := { frame := 0, entry := BitVec.ofNat 46 ea, store := store, tid := Fin.ofNat 32 t, popping := true }
      match { s with fills := s.fills ++ [z] }.popFrame t (2 ^ 20) with
      | (s, none) => ({ s with fills := s.fills.erase z }, .quota 1)
      | (s, some f) =>
        let z' := { z with frame := BitVec.ofNat 34 f, popping := false }
        ({ s with fills := s.fills.map (fun y => if y = z then z' else y) }.setRf (tqStatusR t) 31 0 (s.rf (tqStatusR t) 31 0 + 1),
          .frame z')

/-- One walk (R140-R142, R149, R152, R156): an entry with every mark the access needs, or a trap; `restarts` bounds the
failed updates (two restarts, R149). -/
def State.walk (s : State) (c : Walker) (key : Key) (k : Acc') (pl : Nat) (va : Dword) : Nat → State × Got (Dword × Dword)
  | 0 => (s, .trap (missTrap k va))
  | restarts + 1 =>
    match s.walkFind c key va with
    | (s, .trap x) => (s, .trap x)
    | (s, .stay) => (s, .stay)
    | (s, .ok none) => (s, .trap (missTrap k va))
    | (s, .ok (some (ea, d0, d1))) =>
      let da := eBit d1 19 && decide (key.sz = 0)
      if !eBit d1 18 && !da then (s, .trap (missTrap k va))
      else if !s.rightsOk pl key k d1 va then (s, .trap (deniedTrap k 0 va))
      else if !eBit d1 18 then
        match s.allocStart key.tid ea d0 k.writes with
        | (s, .changed) => s.walk c key k pl va restarts
        | (s, .installed e1) => (s, .ok (d0, e1))
        | (s, .quota sub) => (s, .trap { cause := 0x0D, sub := sub, eva := va })
        | (s, .frame z) =>
          let r := s.fillDone z
          (r.1, .ok (d0, r.2.2))
      else if !eBit d1 21 || (k.writes && !eBit d1 20) then
        if s.rf ⟨.xltTcfg, 0, key.tid, 0⟩ 32 32 = 0 then (s, .trap (deniedTrap k 1 va))
        else
          match s.markEntry key.tid ea d0 k.writes with
          | (s, none) => s.walk c key k pl va restarts
          | (s, some e1) => (s, .ok (d0, e1))
      else (s, .ok (d0, d1))

/-- A walk's entry installed in the second-level TLB and the first-level one. -/
def State.installTlb (s : State) (c : Nat) (key : Key) (k : Acc') (va d0 d1 : Dword) : State :=
  s.modCore c (fun q => (q.fill2 key va d0 d1).fill1 (decide (k = .fetch)) key va d0 d1)

/-- An entry found in a TLB or by a walk used for an access. -/
def State.usePage (s : State) (key : Key) (d1 va : Dword) : Page :=
  let pa := entryPa d1 key.sz va
  let r := s.region pa
  ⟨pa, effType r (mtOf (fld d1 25 23)), r, true⟩

/-- A translation through the TLBs and the table (R137, R142, R144, R152). -/
def State.xlate (s : State) (c : Nat) (k : Acc') (va : Dword) : State × Got Page :=
  let q := s.core c
  let pl := q.pl
  let key := s.keyOf c va
  let fetch := decide (k = .fetch)
  if va ≠ simm (va.truncate 48 : BitVec 48) then (s, .trap (missTrap k va))
  else if s.rf hitCfgR 0 0 = 0 then (s, .trap (missTrap k va))
  else
    let walk := fun (s : State) =>
      let s := s.countCore c 0x0A
      match s.walk (.core c) key k pl va 3 with
      | (s, .ok (d0, d1)) => (s.installTlb c key k va d0 d1, Got.ok (s.usePage key d1 va))
      | (s, .trap x) => (s, .trap x)
      | (s, .stay) => (s, .stay)
    let check := fun (s : State) (e : TlbEntry) =>
      if !s.rightsOk pl key k e.dw1 va then (s, Got.trap (deniedTrap k 0 va))
      else if k.writes && !eBit e.dw1 20 then
        if s.rf ⟨.xltTcfg, 0, key.tid, 0⟩ 32 32 = 0 then (s, .trap (deniedTrap k 1 va)) else walk s
      else (s, .ok (s.usePage key e.dw1 va))
    match tlbFind (if fetch then q.itlb else q.dtlb) key va with
    | some e => check s e
    | none =>
      let s := s.countCore c (if fetch then 0x08 else 0x09)
      match tlbFind q.tlb2 key va with
      | some e => check (s.modCore c (fun q => q.fill1 fetch key va e.dw0 e.dw1)) e
      | none => walk s

/-- A core that slept through an invalidation empties its TLBs before its first access (R154). -/
def State.wakeTlb (s : State) (c : Nat) : State :=
  if (s.core c).wakeFlush then
    s.modCore c (fun q => { q with wakeFlush := false, itlb := [], dtlb := [], tlb2 := [] })
  else s

/-- Where a speculative fetch of core `c` goes (R98): through the TLBs alone, without a walk; none for a fetch that is
dropped. -/
def State.specPage (s : State) (c : Nat) (va : Dword) : State × Option Page :=
  let s := s.wakeTlb c
  let q := s.core c
  if q.w then
    (s, if fld va 63 46 ≠ 0 then none else some ⟨va.toNat, regionType (s.region va.toNat), s.region va.toNat, false⟩)
  else if va ≠ simm (va.truncate 48 : BitVec 48) ∨ s.rf hitCfgR 0 0 = 0 then (s, none)
  else
    let key := s.keyOf c va
    let use := fun (e : TlbEntry) => if s.rightsOk q.pl key .fetch e.dw1 va then some (s.usePage key e.dw1 va) else none
    match tlbFind q.itlb key va with
    | some e => (s, use e)
    | none =>
      let s := s.countCore c 0x08
      match tlbFind q.tlb2 key va with
      | some e => (s.modCore c (fun q => q.fill1 true key va e.dw0 e.dw1), use e)
      | none => (s, none)

/-- Where an access of core `c` goes (R135, R136): untranslated at W = 1. -/
def State.translate (s : State) (c : Nat) (k : Acc') (va : Dword) : State × Got Page :=
  let s := s.wakeTlb c
  if (s.core c).w then
    if fld va 63 46 ≠ 0 then (s, .trap { cause := 0x0F, sub := 1, eva := va })
    else
      let r := s.region va.toNat
      (s, .ok ⟨va.toNat, regionType r, r, false⟩)
  else s.xlate c k va

end Sys2Proof.Machine
end

