-- ==== Sys2Proof/Machine/Reset.lean ====
section
/-! DEFINITION. What resets do to cores, trios and registers, the clean of an L2, the death of an agent, and the safe state
(R9, R10, R18, R21-R25, R108, R130, R181, R182, R405, R406, R410). -/

namespace Sys2Proof.Machine

/-! ### Registers (R9, R10) -/

/-- The bits of the Kept column. -/
def keptM : Nat := 2
/-- A die reset. -/
def keptD : Nat := 4
/-- A trio reset. -/
def keptT : Nat := 8
/-- A core reset. -/
def keptC : Nat := 16
/-- A tenant reset. -/
def keptN : Nat := 32

/-- A register's value after a reset of the kind `k`: fields that survive keep theirs, the others take their Reset value. -/
def RegRef.afterReset (r : RegRef) (k : Nat) (old : Dword) : Dword :=
  r.reg.fields.foldl (fun (v : Dword) f => if f.kept &&& k ≠ 0 then setFld v f.hi f.lo (fld old f.hi f.lo) else v) r.dflt

/-- The registers at offsets that `p` selects are reset. -/
def State.resetRegs (s : State) (k : Nat) (p : Nat → Bool) : State :=
  s.mcs.foldl (fun s e => if p e.1 then
    match regAt e.1 with
    | some r => s.setReg r (r.afterReset k e.2)
    | none => s
    else s) s

/-- An offset in a core's 64 KiB (R31). -/
def inCore (c off : Nat) : Bool :=
  let b := trioBase (trioOf c) + 0x10000 * coreIn c
  decide (b ≤ off ∧ off < b + 0x10000)
/-- An offset in a trio's 1 MiB. -/
def inTrio (t off : Nat) : Bool := decide (trioBase t ≤ off ∧ off < trioBase t + 0x100000)
/-- An offset in a die's 64 MiB. -/
def inDie (d off : Nat) : Bool := decide (off / 0x04000000 = d)

/-! ### Cores -/

/-- A core after a reset (R410): only what the Event Gatherer holds for it stays, and the invalidations that it has posted (R154). -/
def Core.fresh (k : Core) (run : RunState) : Core :=
  { run := run, bcastP := k.bcastP, bcastA := k.bcastA, invs := k.invs, invSeq := k.invSeq }

/-- The state of a core of a trio that is powered; in the safe state the compute dies are held isolated (R25). -/
def State.restRun (s : State) (t : Nat) : RunState :=
  if t = svcTrio then .running
  else if bit (s.reg ⟨.dieStatus, 0, t / 7, 0⟩) (8 + t % 7) && !s.safe then .idle
  else .held

/-- A core is reset (R405, R410): its context, if any, has left its stream. A core of the service trio starts at its reset
vector. -/
def State.coreReset (s : State) (c : Nat) : State :=
  let k := s.core c
  let k' := if trioOf c = svcTrio then
      { Core.svcReset with bcastP := k.bcastP, bcastA := k.bcastA, invs := k.invs, invSeq := k.invSeq }
            else k.fresh (s.restRun (trioOf c))
  (s.setCore c k').resetRegs keptC (inCore c)

/-- The pending-result records, `ASTAT`, `FCSR` and the iterative units of a running context hold their reset values: a reset of its
core discards what they held (R53). -/
def Core.discard (k : Core) : Core :=
  ([0x001, 0x002] ++ [0x108, 0x118, 0x208, 0x308].flatMap (fun b => (List.range 5).map (fun i => b + i))).foldl
    (fun (k : Core) n => k.setCsr n 0) { k with arch := { k.arch with pend := [], iu := {}, fu := {} } }

/-- A core's running context loses what a core reset discards (R53). -/
def State.loseUnits (s : State) (c : Nat) : State := s.modCore c Core.discard
/-- The running contexts of a trio lose what a reset of their cores discards (R53). -/
def State.loseTrioUnits (s : State) (t : Nat) : State := forN 3 (fun i s => s.loseUnits (coreNo t i)) s

/-- The context on a core moves to Faulted (R252, R260), with nothing written for it here; `lose` discards the merging buffer's
open entries (R406) and keeps nothing the copies computed. -/
def State.faultOn (s : State) (c : Nat) (lose : Bool) : State :=
  let s := if lose then s.modCore c (fun k => { k with merge := [] }) else s
  s.leave (trioOf c) (coreIn c) .faulted

/-! ### L2s and agents -/

/-- Every dirty line of an L2 is written back, and its WbAck returns (R130). The clean copy stays. -/
def State.l2WriteAll (s : State) (t : Nat) : State :=
  (s.trio t).l2.lines.foldl (fun s l =>
    let line := l.line.toNat
    if l.st = .m ∨ l.st = .o then
      let s := s.calm line
      match (s.trio t).l2.find line with
      | some l =>
        if l.st = .m ∨ l.st = .o then
          ((s.modL2 t (fun k => k.update line (fun l => { l with st := .s }))).sendWb t l).calm line
        else s
      | none => s
    else if l.st = .wp then s.calm line
    else s) s

/-- Every line leaves an L2, with every L1 line and reservation of the trio (R111, R130). -/
def State.l2Empty (s : State) (t : Nat) : State :=
  let s := s.modL2 t (fun k => { k with lines := [], superseded := [], miss := [], answers := [], streams := [] })
  forN 3 (fun i s => s.modCore (coreNo t i) (fun k => { k with l1i := [], l1d := [], resv := none, fbuf := none })) s

/-- The fills on their way to an L2 arrive, and the snoops that it has outstanding are answered. -/
def State.l2Quiet (s : State) (t : Nat) : State :=
  let k := (s.trio t).l2
  (k.miss.map (fun r => r.line) ++ k.answers.map (fun p => p.1)).foldl (fun s line => s.calm line.toNat) s

/-- A clean of R130, whole: what is in progress at the L2 completes, dirty lines are written back, every line leaves. The merging
buffers of the trio's cores drain before it ends (DESIGN CHOICE, assumption 44). -/
def State.l2Clean (s : State) (t : Nat) : State :=
  let s := forN 3 (fun i s => s.drainMerge (coreNo t i)) s
  ((s.l2Quiet t).l2WriteAll t).l2Empty t

/-- The masks and the lock as the registers now hold them reach a trio's L2 (R122). -/
def State.masksToL2 (s : State) (t : Nat) : State :=
  let w := s.reg ⟨.waysWorld, 0, 0, 0⟩
  s.modL2 t (fun k => { k with
    ways := (List.range 32).foldl (fun (m : SMap (BitVec 16)) i =>
      SMap.put 0xFFFF m i (BitVec.ofNat 16 (s.rf ⟨.ways, 0, i, 0⟩ 15 0))) []
    wayO := BitVec.ofNat 16 (fld w 15 0), wayS := BitVec.ofNat 16 (fld w 31 16)
    lock := BitVec.ofNat 16 (s.rf ⟨.l2Lock, t, 0, 0⟩ 15 0) })

/-- The masks reach the Memory-Side Cache (R122). -/
def State.masksToMsc (s : State) : State :=
  let w := s.reg ⟨.waysWorld, 0, 0, 0⟩
  { s with msc := { s.msc with
    ways := (List.range 32).foldl (fun (m : SMap (BitVec 16)) i =>
      SMap.put 0xFFFF m i (BitVec.ofNat 16 (s.rf ⟨.ways, 0, i, 0⟩ 31 16))) []
    wayO := BitVec.ofNat 16 (fld w 47 32), wayS := BitVec.ofNat 16 (fld w 63 48) } }

/-! ### Trios -/

/-- A physical trio is reset (R405, R410): its contexts' saved states, `NOREDUN` and `CFSRC` stay; its cores, registers and L2
do not. Contexts on its streams have left. -/
def State.trioReset (s : State) (t : Nat) : State :=
  let s := s.resetRegs keptT (inTrio t)
  let s := s.modTrio t (fun k => { k with
    l2 := {}, inj := none, welt := [], shadow := k.shadow, retention := false, modePend := false })
  let s := forN 3 (fun i s => s.coreReset (coreNo t i)) s
  s.masksToL2 t

/-- Every context running on a trio moves to Faulted. -/
def State.faultTrio (s : State) (t : Nat) (lose : Bool) : State := forN 3 (fun i s => s.faultOn (coreNo t i) lose) s

/-- A containment in progress at a level is abandoned for one at a higher level, and recorded as subsumed (R22). -/
def State.subsume (s : State) (level : Nat) (open' : Bool) (unit : Dword) : State :=
  if open' then s.sysEvent 0x08 [BitVec.ofNat 64 level, unit] else s

/-! ### The safe state (R25) -/

/-- A commit of Sole begins (R423): staging drains, and COMMITTING reads 1 until the commit ends. -/
def State.commitStart (s : State) : State :=
  if s.rf soleStatR 3 3 = 1 then s else ((s.drainAll 512).setRf soleStatR 0 0 1)

/-- Every context stops and becomes Suspended, with its state kept (R25, R252). -/
def State.stopAll (s : State) : State :=
  let s := forN 84 (fun t s => forN 3 (fun i s => s.leave t i .suspended) s) s
  s.trios.foldl (fun s e => e.2.slots.foldl (fun s x =>
    if x.2.state = .free ∨ x.2.state = .faulted ∨ x.2.state = .suspended then s
    else s.modSlot e.1 x.1 (fun b => { b with state := .suspended })) s) s

/-- A remote load or a mailbox write that waits ends with the partner (R364), the contexts being stopped. -/
def Ended.stopped (e : Ended) (s : State) : State :=
  match e with
  | .load c =>
    match (s.core c).dev with
    | some a => (s.modCore c (fun k => { k with dev := none })).trap c { cause := 0x0F, eva := a.va, word := a.word }
    | none => s
  | .slot t n => s.modSlot t n (fun b => { b with det := b.det.map (fun d => { d with failed := true }) })
  | .write pa =>
    let here := fun (a : DevAcc) => a.store && decide (a.pa.toNat = pa)
    let s := s.cores.foldl (fun (s : State) e => if (e.2.dev.map here).getD false
      then s.modCore e.1 (fun k => { k with dev := none }.advance none) else s) s
    s.trios.foldl (fun s e => e.2.slots.foldl (fun (s : State) x =>
      if ((x.2.det.map (·.acc)).map here).getD false then s.modSlot e.1 x.1 (fun b =>
        let k := (({ arch := b.arch } : Core).unpark).advance none
        { b with det := none, arch := ((k.settle k.arch.posn).park).arch }) else s) s) s

/-- Every MAC goes link-down, which loses a tick source behind one (R224), every root port is held in reset, every external link
departs (R25, R364). -/
def State.quiesce (s : State) : State :=
  let s := if s.tickSrc = 1 then s.sourceLost else s
  let s := { s with links := { s.links with ethUp := 0, rpUp := 0, rpThere := 0 } }
  forN 3 (fun k s => s.xlDepart k Ended.stopped) s

/-- The compute dies are held isolated: no core of them issues (R25). -/
def State.isolateAll (s : State) : State :=
  s.cores.foldl (fun s e => if e.1 < 252 then s.modCore e.1 (fun k => { k with run := .held }) else s) s

/-- A snapshot is asked for (R422): its capture begins, unless the buffer is still in use; then it is skipped, with a KIND 9
record. -/
def State.snapshot (s : State) (reason : Nat) : State :=
  if s.power.snapBuf.isSome then
    s.soleSys 0 (mkRec (recHdr 0 0 9 0 0x1FFF 0xFFF 0 false) s.timebase [1, 32])
  else { s with power := { s.power with snapBuf := some (BitVec.ofNat 8 reason) } }

/-- The service trio is held stopped (R18, R25). -/
def State.stopService (s : State) : State :=
  forN 3 (fun i s => s.modCore (coreNo svcTrio i) (fun k => { k with run := .held }))
    { s with sec := { s.sec with svcTrioFailed := true } }

/-- What the safe state and a supply reset do to the module (R25, R399), with a record for each held domain (R309). -/
def State.shutDown (s : State) : State :=
  let s := ((s.stopAll).quiesce).isolateAll
  let s := { s with power := { s.power with alarm := true } }
  s.protect (List.range 96 ++ (List.range 8).map (· + 108))

/-- A home has still to reclaim an agent of a die that is Offline: its containment is not complete (R21). -/
def State.reclaims (s : State) (d : Nat) : Bool :=
  decide (s.dieState d = 3) && (List.range 12).any (fun h => (s.home h).dead.any (fun a => decide (a.val / 7 = d)))

/-- The module enters its safe state (R25) on a trigger: its SUB or cause, and the doubleword 3 of the record. With the error
in the service trio itself that trio is held stopped (R18). A module that is in it stays in it. Containments in progress below
are subsumed (R22). -/
def State.safeState (s : State) (cause : Nat) (dw3 : Dword) (svc : Bool) : State :=
  if s.rf ⟨.modIdent, 0, 0, 0⟩ 0 0 = 1 then (if svc then s.stopService else s)
  else
    let s := (s.snapshot 2).sysEvent 0x09 [BitVec.ofNat 64 cause, dw3]
    let s := forN 84 (fun t s => s.subsume 1 (s.failed t && decide (s.dieState (t / 7) = 2)) (s.trioWord t)) s
    let s := forN 12 (fun d s => s.subsume 2 (s.reclaims d) (unitWord d 7 7 3 none)) s
    let s := (s.shutDown).setRf ⟨.modIdent, 0, 0, 0⟩ 0 0 1
    let s := if svc then s.stopService else s.setRf ⟨.bootStat, 0, 0, 0⟩ 27 24 4
    s.commitStart

/-- A chip-level error of the service trio (R18). -/
def State.svcTrioError (s : State) : State := s.safeState 0x15 0 true

end Sys2Proof.Machine
end

