-- ==== Sys2Proof/Machine/Season.lean ====
section
/-! DEFINITION. Season tables: their layout, their validation, their loading, and requests for activation (R204's CRC, R231-R240,
R469). -/

namespace Sys2Proof.Machine

/-! ### CRC-32 (R204) -/

/-- Eight steps of the reflected polynomial 0xEDB88320. -/
def crcBits : Nat → Word → Word
  | 0, c => c
  | n + 1, c => crcBits n (if c.getLsbD 0 then (c >>> 1) ^^^ 0xEDB88320 else c >>> 1)
/-- One byte taken into a CRC. -/
def crcByte (c : Word) (b : Byte) : Word := crcBits 8 (c ^^^ b.setWidth 32)
/-- The CRC-32 of IEEE 802.3 of a string of bytes. -/
def crc32 (l : List Byte) : Word := ~~~ l.foldl crcByte 0xFFFFFFFF

/-! ### The table -/

/-- The doublewords of a season table (R231): 22,592 bytes. -/
def tableDws : Nat := 2824
/-- A table by doubleword index. -/
abbrev Table := SMap Dword
/-- A doubleword of a table. -/
def tdw (t : Table) (i : Nat) : Dword := SMap.get 0 t i
/-- Doubleword `i` of tenant `n`'s record. -/
def tenDw (t : Table) (n i : Nat) : Dword := tdw t (8 + 16 * n + i)
/-- CREDIT[m] of a tenant record (R233). -/
def tenCredit (t : Table) (n m : Nat) : Nat := let d := tenDw t n (2 + m / 2); if m % 2 = 0 then fld d 31 0 else fld d 63 32
/-- Doubleword `i` of trio record `r`: 0 the header, 1 to 16 the window entries (R234). -/
def trioDw (t : Table) (r i : Nat) : Dword := tdw t (520 + 32 * r + i)
/-- Trio record `r`. -/
def trioRec (t : Table) (r : Nat) : TrioRec := ⟨trioDw t r 0, (List.range 16).map (fun i => trioDw t r (i + 1))⟩

/-- MODE of a record. -/
def TrioRec.mode (r : TrioRec) : Nat := fld r.hdr 1 0
/-- ACTIVE of a record. -/
def TrioRec.act (r : TrioRec) : Bool := bit r.hdr 2
/-- HK of a record. -/
def TrioRec.hk (r : TrioRec) : Nat := fld r.hdr 27 8
/-- A window entry's START. -/
def wStart (w : Dword) : Nat := fld w 19 0
/-- A window entry's LEN. -/
def wLen (w : Dword) : Nat := fld w 39 20
/-- A window entry's TID. -/
def wTid (w : Dword) : Nat := fld w 44 40
/-- The window has no owner. -/
def wAny (w : Dword) : Bool := bit w 45
/-- The entry is valid. -/
def wV (w : Dword) : Bool := bit w 47
/-- EVERY + 1. -/
def wEvery (w : Dword) : Nat := fld w 53 48 + 1
/-- PHASE. -/
def wPhase (w : Dword) : Nat := fld w 59 54
/-- A valid window occurs in frame `f` of the major frame (R234). -/
def wOccurs (w : Dword) (f : Nat) : Bool := wV w && decide (f % wEvery w = wPhase w)
/-- A valid window owned by a tenant. -/
def wOwned (w : Dword) : Bool := wV w && !wAny w

/-- The owners of a record's valid windows. -/
def TrioRec.owners (r : TrioRec) : List Nat := ((r.win.filter wOwned).map wTid).eraseDups

/-! ### Validation (R237, R239, R469) -/

/-- `LIM_CAP`. -/
def limCapR : RegRef := ⟨.limCap, 0, 0, 0⟩

/-- The derated capacity of a channel in service (R237), in lines per frame. -/
def State.derated (s : State) (m : Nat) : Nat := (6 + s.rf ⟨.mcCfg, 0, m, 0⟩ 11 10) * s.period * s.rf limCapR 55 48 / 256

/-- The derated capacity C_m (R237), in lines per frame. -/
def State.capacity (s : State) (m : Nat) : Nat := if s.chanState m = 2 ∨ s.chanState m = 4 then s.derated m else 0

/-- The most active trios at an operating point (R236). -/
def State.trioLimit (s : State) (point : Nat) : Nat :=
  min 72 (if point = 0 then s.rf limCapR 33 27 else if point = 1 then s.rf limCapR 40 34 else s.rf limCapR 47 41)

/-- 24 times the core cycle in ns at an operating point. -/
def cycle24 (point : Nat) : Nat := if point = 0 then 15 else if point = 1 then 20 else 30

/-- The housekeeping minimum of R235 is met at a point: HK in units of 10 ns. -/
def hkMeets (mode hk point : Nat) : Bool :=
  decide (960 + (if mode = 2 then 2992 else if mode = 1 then 2800 else 816) * cycle24 point ≤ 240 * hk)

/-- Two valid windows overlap in a frame in which both occur (code 0x11). -/
def wOverlap (frames : Nat) (a b : Dword) : Bool :=
  decide (wStart a < wStart b + wLen b ∧ wStart b < wStart a + wLen a) &&
    (List.range frames).any (fun f => wOccurs a f && wOccurs b f)

/-- A failed check: the code, REC and WIN. -/
abbrev Failure := Nat × Nat × Nat

/-- The header's checks (step 2 of R469). -/
def State.checkHeader (s : State) (t : Table) (slot : Nat) (crcOk : Bool) : Option Failure :=
  let h := tdw t 1
  let point := fld h 27 26
  let lean := fld h 29 28
  if fld (tdw t 0) 31 0 ≠ 0x5EA50001 ∨ !crcOk then some (0x01, 0, 0x1F)
  else if fld h 19 0 ≠ s.period ∨ fld h 25 20 + 1 ≠ s.frames then some (0x02, 0, 0x1F)
  else if point = 3 ∨ ¬(lean = 1 ∨ lean = 2) ∨ (point ≠ 0 ∧ lean ≠ point) ∨ (bit h 32 ∧ fld h 31 30 = slot) then
    some (0x03, 0, 0x1F)
  else none

/-- A tenant record's checks, in the order 0x40, 0x41, 0x20 (step 3). -/
def State.checkTenant (s : State) (t : Table) (n : Nat) : Option Failure :=
  let d := tenDw t n 0
  let fail (c : Nat) : Option Failure := some (c, n + 1, 0x1F)
  if bit d 0 ∧ fld d 2 1 ≠ s.classOf n then fail 0x40
  else if bit d 0 ∧ (List.range n).any (fun q =>
      let e := tenDw t q 0
      bit e 0 && decide (fld e 2 1 = fld d 2 1 ∧ fld e 15 8 = fld d 15 8)) then fail 0x41
  else if (List.range 12).any (fun m =>
      decide (s.capacity m < ((List.range (n + 1)).map (fun q => tenCredit t q m)).sum)) then fail 0x20
  else none

/-- A window entry's checks, in the order 0x32, 0x16, 0x10, 0x12, 0x11, 0x14, 0x15 (step 4). -/
def State.checkWindow (s : State) (t : Table) (r i : Nat) : Option Failure :=
  let rec' := trioRec t r
  let w := trioDw t r (i + 1)
  let cls := s.classOf (wTid w)
  let fail (c : Nat) : Option Failure := some (c, r + 0x21, i)
  if !wV w then none
  else if !rec'.act then fail 0x32
  else if wEvery w ≤ wPhase w ∨ s.frames % wEvery w ≠ 0 ∨ wLen w = 0 then fail 0x16
  else if s.period - 1 < wStart w + wLen w then fail 0x10
  else if wStart w < rec'.hk then fail 0x12
  else if (List.range i).any (fun j => wOverlap s.frames (trioDw t r (j + 1)) w) then fail 0x11
  else if !wAny w ∧ cls = 0 ∧ wLen w < s.rf ⟨.limClassaMin, 0, 0, 0⟩ 19 0 then fail 0x14
  else if !wAny w ∧ (!bit (tenDw t (wTid w) 0) 0 ∨ (cls = 0 ∧ rec'.mode ≠ 2) ∨ (cls = 1 ∧ rec'.mode = 0)) then fail 0x15
  else none

/-- A trio record's checks, in the order 0x17, 0x13, 0x30, 0x31, then its windows (step 4). -/
def State.checkTrio (s : State) (t : Table) (r : Nat) : Option Failure :=
  let rec' := trioRec t r
  let h := tdw t 1
  let fail (c : Nat) : Option Failure := some (c, r + 0x21, 0x1F)
  let count := ((List.range (r + 1)).filter (fun q => (trioRec t q).act)).length
  if rec'.mode = 3 then fail 0x17
  else if rec'.act ∧ !(hkMeets rec'.mode rec'.hk (fld h 27 26) && hkMeets rec'.mode rec'.hk (fld h 29 28)) then fail 0x13
  else if rec'.act ∧ s.trioLimit (fld h 27 26) < count then fail 0x30
  else if rec'.act ∧ (s.physOf (r / 6) (r % 6)).isNone then fail 0x31
  else (List.range 16).findSome? (fun i => s.checkWindow t r i)

/-- The first failure of a table in the order of R469. -/
def State.checkTable (s : State) (t : Table) (slot : Nat) (crcOk : Bool) : Option Failure :=
  ((s.checkHeader t slot crcOk).or ((List.range 32).findSome? (fun n => s.checkTenant t n))).or
    ((List.range 72).findSome? (fun r => s.checkTrio t r))

/-! ### Loading (R238) -/

/-- `SEASON_STAT`. -/
def seasonStatR : RegRef := ⟨.seasonStat, 0, 0, 0⟩
/-- `SEASON_LOAD`. -/
def seasonLoadR : RegRef := ⟨.seasonLoad, 0, 0, 0⟩

/-- A load ends (R238): its status, source 12, and a Sole record when it is refused (R418). -/
def State.loadEnd (s : State) (slot : Nat) (f : Option Failure) : State :=
  let (c, r, w) := f.getD (0, 0, 0x1F)
  let s := ((((s.setRf seasonStatR 63 56 c).setRf seasonStatR 55 48 r).setRf seasonStatR 47 43 w).setRf seasonStatR 0 0 0)
  let s := if f.isSome then s.sysEvent 0x11 [BitVec.ofNat 64 slot, s.reg seasonStatR] else s
  s.raise 12

/-- The bit of `SEASON_CTL.VALID` for a slot set. -/
def State.setValid (s : State) (slot : Nat) (b : Bool) : State := s.setRf seasonCtlR (8 + slot) (8 + slot) b.toNat

/-- The slot holds a validated season. -/
def State.valid (s : State) (slot : Nat) : Bool := bit (s.reg seasonCtlR) (8 + slot)

/-- The change from `s` to `s'` leaves a validated season with more credits on a channel than the limit registers let the channel
serve (R15, R237). -/
def State.overCommits (s s' : State) : Bool :=
  (List.range 4).any (fun sl => s.valid sl && (List.range 12).any (fun m =>
    let c := ((List.range 32).map (fun q => tenCredit (SMap.get [] s.gce.store sl) q m)).sum
    decide (c ≤ s.derated m ∧ s'.derated m < c)))
/-- A change is pending. -/
def State.changePending (s : State) : Bool := bit (s.reg seasonCtlR) 5
/-- `SEASON_CTL.NEXT`. -/
def State.nextSeason (s : State) : Nat := s.rf seasonCtlR 7 6

/-- A load of a slot is started, or refused with code 0x04 at once (R238). -/
def State.loadGo (s : State) (line slot : Nat) : State :=
  if (s.seasonsOn ∧ slot = s.active) ∨ (s.changePending ∧ slot = s.nextSeason) ∨ (s.gce.lalt = some slot ∧ s.valid slot) then
    s.loadEnd slot (some (0x04, 0, 0x1F))
  else
    let s := (s.setValid slot false).setRf seasonStatR 0 0 1
    { s with gce := { s.gce with load := some (line, slot) } }

/-- A write to `SEASON_LOAD`: GO is ignored while a load is in progress. -/
def State.writeSeasonLoad (s : State) (v : Dword) : Wr :=
  let s := s.writeReg seasonLoadR v
  if bit v 0 ∧ s.rf seasonStatR 0 0 = 0 then .ok (s.loadGo (s.rf seasonLoadR 45 12 * 64) (s.rf seasonLoadR 5 4))
  else .ok s

/-- Lines read as a unit of the I/O die reads them: none where one is refused or poisoned. -/
def State.unitLines (s : State) (r : Rq) (line : Nat) : Nat → State × Option (List LineData)
  | 0 => (s, some [])
  | n + 1 =>
    match s.rdShared r line true false with
    | (s, .ok (d, false, _)) =>
      match s.unitLines r (line + 1) n with
      | (s, some l) => (s, some (d :: l))
      | (s, none) => (s, none)
    | (s, _) => (s, none)

/-- Doublewords as a table. -/
def toTable (l : List Dword) : Table := ((List.range l.length).zip l).filter (fun e => decide (e.2 ≠ 0))

/-- The bytes of doublewords. -/
def dwBytes (l : List Dword) : List Byte := l.flatMap (fun d => toBytes d.toNat 8)

/-- The table of a load is read and checked (R231, R238, R239). -/
def State.loadCheck (s : State) (line slot : Nat) : State :=
  let bad := fun (s : State) (f : Failure) => s.loadEnd slot (some f)
  if !s.rangeInstalled (line * 64) (8 * tableDws) then bad s (0x05, 0, 0x1F)
  else
    match s.unitLines (gceRq 0) line (tableDws / 8) with
    | (s, none) => bad s (0x05, 0, 0x1F)
    | (s, some ls) =>
      let dws := ls.flatMap (fun d => (List.range 8).map (lineDw d))
      let crc := crc32 (dwBytes (dws.set 0 (setFld (dws.getD 0 0) 63 32 0)))
      let t := toTable dws
      match s.checkTable t slot (decide (fld (tdw t 0) 63 32 = crc.toNat)) with
      | some f => bad s f
      | none =>
        let s := { s with gce := { s.gce with store := SMap.put [] s.gce.store slot t } }
        (s.setValid slot true).loadEnd slot none

/-- SEASON_LOAD_COMPLETE (R469): the load in progress ends; nothing happens while none is. -/
def execSeasonLoadComplete (s : State) : Host.Outcome State Fault Refusal :=
  done (
    match s.gce.load with
    | none => s
    | some (line, slot) => (({ s with gce := { s.gce with load := none } }).loadCheck line slot))

/-! ### Requests (R240) -/

/-- Activation of NEXT is requested. -/
def State.requestSeason (s : State) : State :=
  { s.setRf seasonCtlR 5 5 1 with gce := { s.gce with pendFrames := 0 } }

/-- A write to `SEASON_CTL`: NEXT keeps its value while a change is pending; EN needs the ticks and a valid NEXT, and requests
the first activation; REQ is ignored while EN = 0, while a change is pending, or while NEXT is not valid. -/
def State.writeSeasonCtl (s : State) (v : Dword) : Wr :=
  let pend := s.changePending
  let on := s.seasonsOn
  let s := if pend then s else s.setRf seasonCtlR 7 6 (fld v 7 6)
  let ok := s.valid s.nextSeason
  if !on then
    if bit v 3 ∧ s.running ∧ ok then .ok (s.setRf seasonCtlR 3 3 1).requestSeason else .ok s
  else if bit v 4 ∧ !pend ∧ ok then .ok s.requestSeason
  else .ok s

end Sys2Proof.Machine
end

