-- ==== Sys2Proof/Machine/Move.lean ====
section
/-! DEFINITION. Contexts that move between trios, and the descriptors in memory (R250, R286, R288). -/

namespace Sys2Proof.Machine

/-- `CT_BASE` of a tenant. -/
def ctBaseR (tid : Nat) : RegRef := ⟨.ctBase, 0, tid, 0⟩
/-- The address of a handle's descriptor (R253). -/
def State.descPa (s : State) (tid h : Nat) : Nat := s.rf (ctBaseR tid) 45 19 * 0x80000 + 0x80 * h

/-- A descriptor's CID field written in memory (R250); a descriptor that cannot be read is left alone. -/
def State.writeCid (s : State) (tid h cid : Nat) : State :=
  let line := s.descPa tid h / 64
  if !bit (s.reg (ctBaseR tid)) 0 then s
  else
    match s.rdShared (gceRq tid) line true false with
    | (s, .ok (d, false, _)) =>
      let p := linePatch 0 8 (setFld (lineDw d 0) 45 33 cid).toNat
      s.unitWrite (gceRq tid) line p.1 p.2
    | (s, _) => s

/-- The lowest free slot of a trio. -/
def State.lowFree (s : State) (t : Nat) : Option Nat := findFrom (fun n => decide ((s.slot t n).state = .free)) 64 0

/-- A descriptor copy with its CID field set. -/
def withCid (d : List Dword) (cid : Nat) : List Dword := d.set 0 (setFld (d.getD 0 0) 45 33 cid)

/-- Events on their way to one context ID go to another (R276). -/
def State.redirect (s : State) (old new : Nat) : State :=
  { s with evg := { s.evg with flight := s.evg.flight.map (fun f => if f.cid = old then { f with cid := new } else f) } }

/-- A context moves to the lowest free slot of trio `t2` (R286): its ID changes, its routes and the events on their way follow,
its descriptor's CID is written, and a context-moved record goes out. With no free slot it stays where it is. -/
def State.moveSlot (s : State) (t n t2 : Nat) : State :=
  let s := s.modSlot t n (fun b => { b with mig := none })
  let b := s.slot t n
  let old := s.cidOf t n
  match s.lowFree t2 with
  | none => s.ctxRecord t n 0 2 2 [BitVec.ofNat 64 old]
  | some m =>
    let new := s.cidOf t2 m
    let s := (s.setSlot t2 m { b with desc := withCid b.desc new, eff := withCid b.eff new, stream := none }).setSlot t n {}
    let s := ((s.resolve b.tid.val b.handle.toNat new).redirect old new).writeCid b.tid.val b.handle.toNat new
    let s := s.emitEvent 384 0x32 (old ||| new <<< 13)
    s.ctxRecord t2 m 0 1 2 [BitVec.ofNat 64 old, BitVec.ofNat 64 new]

/-- The migrations pending in a trio take place (R286): a detached context waits for the first tick after its response, and so
does one whose target has no physical trio. -/
def State.migrateAll (s : State) (t : Nat) : State :=
  (s.trio t).slots.foldl (fun s e =>
    let b := s.slot t e.1
    match b.mig with
    | some (d, k) =>
      if b.outstanding ∨ b.state = .running then s
      else match s.physOf d.val k.val with
        | some t2 => s.moveSlot t e.1 t2
        | none => s
    | none => s) s

end Sys2Proof.Machine
end

