-- ==== Sys2Proof/Machine/Redun.lean ====
section
/-! DEFINITION. Redundant execution: dissents, divergences, no majority and Checker faults, and the comparison of a position's
items (R194-R203, R213-R218). The copies of a stream that are in step hold the same state, which the model keeps once, with the
lead; a dissenter keeps its own. -/

namespace Sys2Proof.Machine

/-- `TRIO_RSTAT`. -/
def rstat (t : Nat) : RegRef := ⟨.trioRstat, t, 0, 0⟩
/-- `TRIO_RCNT`. -/
def rcnt (t : Nat) : RegRef := ⟨.trioRcnt, t, 0, 0⟩
/-- The dissenter of a trio; 3: none. -/
def State.dissenter (s : State) (t : Nat) : Nat := s.rf (rstat t) 5 4
/-- The lead of a trio's redundant stream (R194). -/
def State.leadCore (s : State) (t : Nat) : Nat := s.streamCore t 0
/-- The PC of a trio's lead. -/
def State.leadPc (s : State) (t : Nat) : Dword := (s.core (s.leadCore t)).arch.pc

/-- The group and the lane of an event are recorded. -/
def State.noteEvent (s : State) (t grp lane : Nat) : State := (s.setRf (rstat t) 20 16 grp).setRf (rstat t) 22 21 lane
/-- A copy leads; a change of lead emits a SYNC (R377). -/
def State.setLead (s : State) (t i : Nat) : State :=
  if s.rf (rstat t) 3 2 = i then s else (s.setRf (rstat t) 3 2 i).traceWake (coreNo t i)
/-- All copies are in step: no dissenter, core 0 leads. -/
def State.inStep (s : State) (t : Nat) : State := ((s.setRf (rstat t) 5 4 3).setRf (rstat t) 6 6 0).setLead t 0

/-- The lowest-numbered lane that flags copy `k` of a full Voted trio (A 0-1, B 1-2, C 0-2). -/
def laneOf (k : Nat) : Nat := if k = 2 then 1 else 0
/-- The lane between the two copies that remain beside dissenter `k`. -/
def laneLeft (k : Nat) : Nat := if k = 0 then 1 else if k = 1 then 2 else 0

/-! ### The copies' state -/

/-- A copy that holds the state of core `k` and takes part in nothing: its clock is gated (R201). It keeps its registers, its
core-owned state, its caches and its predictor. -/
def Core.gated (k : Core) : Core :=
  { k with run := .held, halted := false, stepOne := false, haltWait := false, ctx := none, resv := none, merge := []
           wfence := false, posted := [], dev := none, wbs := [], maint := none, invs := [], spec := [], frozen := false
           frame := none, intReq := [], atoms := [], replay := [], debugStores := [] }

/-- What the Event Gatherer and the trace unit hold for core `own` stays with it while the rest becomes `k`. -/
def Core.become (own k : Core) : Core :=
  { k with bcastP := own.bcastP, bcastA := own.bcastA, lfsr := own.lfsr, sinceSync := own.sinceSync, stamp := own.stamp
           excl := own.excl }

/-- Copy `k` takes the lead's state as it stands (R205). -/
def State.copyInto (s : State) (t k : Nat) : State :=
  let lead := (s.core (s.leadCore t)).gated
  s.modCore (coreNo t k) (fun own => own.become lead)

/-- The lead passes from core `a` to core `b` (R201, R205): the stream goes on there with all that it waits for. -/
def State.passLead (s : State) (a b : Nat) : State :=
  let k := s.core a
  let s := (s.modCore b (fun own => own.become k)).modCore a (fun own => own.become k.gated)
  if h : b < 255 then
    forN 3 (fun i s => s.modXl i (fun x => { x with
      remote := x.remote.map (fun r => if r.core.val = a then { r with core := ⟨b, h⟩ } else r) })) s
  else s

/-- The copies of a mode beside core 0. -/
def copiesOf (mode : Nat) : List Nat := if mode = 0 then [] else if mode = 1 then [1] else [1, 2]

/-- A copy that leaves its stream, whose context has left it: the core-owned state, the TLBs and, in Voted mode, the L1s that it
holds in step with the lead (R195, R215). -/
def Core.splitFrom (own lead : Core) (l1 : Bool) : Core :=
  { own with
    arch := {}, own := lead.own, itlb := lead.itlb, dtlb := lead.dtlb, tlb2 := lead.tlb2, itlbRot := lead.itlbRot
    dtlbRot := lead.dtlbRot, tlb2Rot := lead.tlb2Rot
    l1i := if l1 then lead.l1i else own.l1i, l1d := if l1 then lead.l1d else own.l1d
    l1iRot := if l1 then lead.l1iRot else own.l1iRot, l1dRot := if l1 then lead.l1dRot else own.l1dRot }

/-- The copies leave their stream: each keeps its core-owned state as it stands, those in step the lead's, a dissenter its own
(R211, R215). -/
def State.splitCopies (s : State) (t : Nat) : State :=
  let mode := s.trioMode t
  let d := if mode = 2 then s.dissenter t else 3
  let c := s.leadCore t
  let lead := s.core c
  let s := (if mode = 0 then [] else 0 :: copiesOf mode).foldl (fun s i =>
    if coreNo t i = c then s
    else s.modCore (coreNo t i) (fun k =>
      if i = d then { k with arch := {}, run := s.restRun t }
      else { k.splitFrom lead (decide (mode = 2)) with run := s.restRun t })) s
  s.modTrio t (fun k => { k with skew := [] })

/-! ### Disagreements -/

/-- A dissent of copy `k` in a Voted trio (R201), or its digest dissent (R204): it stops with the state it has; beside copy 0 core
1 leads. -/
def State.dissent (s : State) (t k grp lane : Nat) (digest : Bool) : State :=
  let s := if k = 0 then s.passLead (coreNo t 0) (coreNo t 1) else s.copyInto t k
  let s := ((s.setRf (rstat t) 5 4 k).setRf (rstat t) 6 6 1).setLead t (if k = 0 then 1 else 0)
  let s := s.noteEvent t grp lane
  let s := if digest then s.incRf (rcnt t) 47 32 else s.incRf (rcnt t) 31 16
  s.degraded t (if digest then 3 else 0) k grp lane (s.leadPc t)

/-- The context of the copies' stream moves to Faulted with what the copies computed since their last released request
discarded, the named cores are reset, and the record is written (R200, R202). -/
def State.stopCopies (s : State) (t sub grp lane cores : Nat) (digest : Bool) : State :=
  let pc := s.leadPc t
  let n := s.occupant t 0
  let s := s.noteEvent t grp lane
  let s := if digest then s.incRf (rcnt t) 47 32 else s.incRf (rcnt t) 15 0
  let s := (s.loseUnits (s.leadCore t)).faultOn (s.leadCore t) true
  let s := forN cores (fun i s => (s.coreReset (coreNo t i)).noteContained 4 (s.coreWord (coreNo t i))) s
  let s := match n with
    | some n => s.stoppedRecord t n sub grp lane pc
    | none => s.degraded t sub 3 grp lane pc
  let s := (if cores = 3 then s.inStep t else s).modTrio t (fun k => { k with skew := [] })
  if t = svcTrio then s.svcTrioError else s.redispatch t

/-- A Divergence of a pair (R200). -/
def State.divergence (s : State) (t grp : Nat) : State := s.stopCopies t 1 grp 0 2 false
/-- A no majority of a Voted trio (R202). -/
def State.noMajority (s : State) (t grp lane : Nat) : State := s.stopCopies t 2 grp lane 3 false

/-- Copy `k`'s item in a group differs from the others' (R198, R199, R201). -/
def State.mismatch (s : State) (t k grp : Nat) : State :=
  match s.trioMode t with
  | 0 => s
  | 1 => if k < 2 then s.divergence t grp else s
  | _ =>
    let d := s.dissenter t
    if d = 3 then s.dissent t k grp (laneOf k) false
    else if k = d then s
    else s.noMajority t grp (laneLeft d)

/-- None of three items agree (R202); in a pair, the two differ. -/
def State.allDiffer (s : State) (t grp : Nat) : State :=
  match s.trioMode t with
  | 0 => s
  | 1 => s.divergence t grp
  | _ => s.noMajority t grp (if s.dissenter t = 3 then 0 else laneLeft (s.dissenter t))

/-! ### Comparison -/

/-- The items that a core's copies bring to the comparators at once (R197). -/
structure Items where
  /-- A request to an L1: a fetch, a load or a store; and whether it is a store. -/
  l1 : Bool := false
  store : Bool := false
  /-- A request to the L2, and one with data. -/
  l2 : Bool := false
  l2data : Bool := false
  /-- WAITE, YIELD, FDONE or SIGNAL. -/
  dispatch : Bool := false
  trap : Bool := false
  /-- A step of the pipeline. -/
  step : Bool := false
  /-- An asynchronous input taken. -/
  welt : Bool := false
  /-- A register or a CSR written, and a position retired. -/
  wrote : Bool := false
  retired : Bool := false
  deriving DecidableEq, Repr

/-- The items bring something to group `g` (R197): in Voted mode only what leaves for the L2 is compared, and no writeback. -/
def Items.inGroup (x : Items) (mode g : Nat) : Bool :=
  let pair := decide (mode = 1)
  if g ≤ 5 ∨ g = 14 then if pair then x.l1 || x.l2 else x.l2
  else if g ≤ 13 then if pair then x.store || x.l2data else x.l2data
  else if g = 15 then x.dispatch
  else if g = 16 then x.trap
  else if g = 17 then x.step
  else if g = 18 then x.welt
  else if g ≤ 27 then pair && x.wrote
  else pair && x.retired

/-- The disagreement of copy `k`, or of all, stops the stream: a Divergence or a no majority, and no dissent. -/
def State.stops (s : State) (t : Nat) (k : Option (Fin 3)) : Bool :=
  decide (s.trioMode t = 1) || k.isNone || decide (s.dissenter t ≠ 3)

/-- The comparison of what core `c`'s copies bring as `s` becomes `t` (R196-R202): only released requests are performed, so a
disagreement that stops the stream leaves `s`, and the others come after `t`. All items of a position are compared before any
of its effects (DESIGN CHOICE, assumption 52). A dissenter brings nothing. -/
def State.compared (s t : State) (c : Nat) (x : Items) : State :=
  let n := trioOf c
  match (s.trio n).inj with
  | none => t
  | some (k, g) =>
    let out := match k with
      | some k => decide (s.trioMode n = 2 ∧ s.dissenter n = k.val) || decide (s.trioMode n = 1 ∧ k.val = 2)
      | none => false
    if s.throughWelt c && x.inGroup (s.trioMode n) g.val && !out then
      let u := (if s.stops n k then s else t).modTrio n (fun q => { q with inj := none })
      match k with
      | some k => u.mismatch n k.val g.val
      | none => u.allDiffer n g.val
    else t

/-! ### Faults in the checking hardware -/

/-- The contexts of a trio whose redundancy requirement an Independent trio does not meet. -/
def State.unmet (s : State) (t : Nat) : List (Nat × Slot) := (s.trio t).live.filter (fun e => decide (e.2.redun ≠ 0))

/-- An event of the comparison flagged in the cycle of a Checker fault is counted, and nothing else comes of it (R216): a dissent of
a full Voted trio, a Divergence or a no majority. -/
def State.countFlagged (s : State) (t : Nat) (other : Option Flagged) : State :=
  match other with
  | none => s
  | some .dissent => if s.trioMode t = 2 ∧ s.dissenter t = 3 then s.incRf (rcnt t) 31 16 else s
  | some .stop => s.incRf (rcnt t) 15 0

/-- A Checker fault (R215): the trio is Independent from now on, its running redundant context is Faulted, and one record is
written. The service trio stays Voted, and the module enters its safe state (R217). -/
def State.checker (s : State) (t src : Nat) (other : Option Flagged) : State :=
  let pc := s.leadPc t
  let grp := s.rf (rstat t) 20 16
  let lane := s.rf (rstat t) 22 21
  let s := s.countFlagged t other
  if t = svcTrio then
    let s := (s.setRf (rstat t) 10 10 1).setRf (rstat t) 15 12 src
    (s.checkerRecord t grp lane [] pc).svcTrioError
  else
    let tids := ((s.unmet t).map (fun e => e.2.tid.val)).eraseDups
    let s := (s.faultOn (s.leadCore t) true).splitCopies t
    let s := (((s.setRf (rstat t) 1 0 0).setRf (rstat t) 10 10 1).setRf (rstat t) 15 12 src).inStep t
    (s.checkerRecord t grp lane tids pc).redispatch t

/-- A failed self-test (R213); the service trio stays Voted (R217). -/
def State.selfTestFailed (s : State) (t grp lane : Nat) : State :=
  let s := ((s.setRf (rstat t) 9 8 3).setRf (rstat t) 10 10 1).setRf (rstat t) 15 12 4
  let s := if t = svcTrio then s else s.setRf (rstat t) 1 0 0
  let s := s.noteEvent t grp lane
  let s := s.degraded t 6 3 grp lane 0
  if t = svcTrio then s.svcTrioError else s

/-- A core error (R108): in a Voted trio a dissent of that copy, in a pair a Divergence (R203); otherwise the context is
Faulted, the core is reset and a record is written. -/
def State.coreError (s : State) (c sub : Nat) : State :=
  let t := trioOf c
  if s.throughWelt c then s.mismatch t (coreIn c) 17
  else
    let pc := (s.core c).arch.pc
    let n := s.occupant t (coreIn c)
    let s := (((s.loseUnits c).faultOn c true).coreReset c).noteContained 4 (s.coreWord c)
    let s := match n with
      | some n => s.coreErrRecord t n sub (coreIn c) pc
      | none => s
    s.redispatch t

/-- An error that a core corrects or gets round (R108): a predictor entry is invalidated, a counter becoming 0b01 again (DESIGN
CHOICE, assumption 46); a line leaves the L1, to be fetched again from the L2; a single bit is corrected. Each is counted where
there was something to err. -/
def Core.corrected (k : Core) (e : CoreErr) : Option Core :=
  match e with
  | .regFile | .control => none
  | .regFileSingle | .controlSingle => some k
  | .direction i => some { k with dirTab := SMap.put 1 k.dirTab i.toNat 1 }
  | .target i =>
    if SMap.get (1024, 0) k.btb i.toNat = (1024, 0) then none
    else some { k with btb := SMap.put (1024, 0) k.btb i.toNat (1024, 0) }
  | .ret i => if i.val < k.ras.length then some { k with ras := k.ras.eraseIdx (k.ras.length - 1 - i.val) } else none
  | .l1i line =>
    if k.l1i.any (fun l => decide (l.line = line)) then some { k with l1i := k.l1i.filter (fun l => decide (l.line ≠ line)) }
    else none
  | .l1d line =>
    if k.l1d.any (fun l => decide (l.line = line)) then some { k with l1d := k.l1d.filter (fun l => decide (l.line ≠ line)) }
    else none
  | .tlb2 set way =>
    let hit := fun (x : TlbEntry) => decide (x.set = set.toNat ∧ x.way = way.val)
    if k.tlb2.any hit then some { k with tlb2 := k.tlb2.filter (fun x => !hit x) } else none

/-- The event that counts a corrected error or a parity refetch: none for a TLB entry, which is walked for again. -/
def errCounts : CoreErr → Bool
  | .tlb2 _ _ => false
  | _ => true

/-- A copy of a redundant stream gets round an error (R203): an L1 or TLB entry that is lost changes a Voted copy's need to freeze,
which mismatches in G17; a pair takes the main's as it comes, the checker's L1s are off, and an entry of its TLB that is lost is a
mismatch. Predictors of later copies are unused (R194). -/
def State.copyCorrects (s : State) (c : Nat) (e : CoreErr) : State :=
  let t := trioOf c
  let lead := s.leadCore t
  match (s.core lead).corrected e with
  | none => s
  | some k =>
    let goOn := fun (_ : Unit) =>
      let s := s.setCore lead k
      if errCounts e then s.countCore lead 0x0F else s
    match e with
    | .regFileSingle | .controlSingle => s.countCore c 0x0F
    | .direction _ | .target _ | .ret _ => if c = lead then goOn () else s
    | _ =>
      if s.trioMode t = 2 then
        if coreIn c = s.dissenter t then s
        else (if errCounts e then s.countCore c 0x0F else s).mismatch t (coreIn c) 17
      else if c = lead then goOn ()
      else
        match e with
        | .tlb2 _ _ => s.mismatch t (coreIn c) 17
        | _ => s

/-- An error of a core's arrays happens (R108). A core that is held has no state to err in. -/
def execCoreError (c : CoreId) (e : CoreErr) (s : State) : Host.Outcome State Fault Refusal :=
  done (
    if (s.core (s.leadOf c.val)).run = .held then s
    else
      match e with
      | .regFile => (s.coreError c.val 1)
      | .control => (s.coreError c.val 2)
      | _ =>
        if s.throughWelt c.val then (s.copyCorrects c.val e)
        else
          match (s.core c.val).corrected e with
          | some k =>
            let s := s.setCore c.val k
            (if errCounts e then s.countCore c.val 0x0F else s)
          | none => s)

end Sys2Proof.Machine
end

