-- ==== Sys2Proof/Machine/Cuts.lean ====
section
/-! DEFINITION. Conflicting guarantees: standing, the resolution of a loss, the cuts with their records, and what takes effect
at a frame boundary (R242-R246, R288). -/

namespace Sys2Proof.Machine

/-! ### Standing (R242) -/

/-- A tenant's standing: the smaller is the stronger; tenants of equal class and rank are taken in TID order. -/
def State.standing (s : State) (t : Nat) : List Nat := [s.classOf t, s.rank t, t]

/-- A record in force or taking effect at the next frame boundary. -/
def State.effRec (s : State) (r : Nat) : TrioRec := SMap.get {} s.gce.eff r
/-- The state with a record changed; the next frame boundary hands it to its trio. -/
def State.setEff (s : State) (r : Nat) (k : TrioRec) : State :=
  { s with gce := { s.gce with eff := SMap.put {} s.gce.eff r k, dirty := s.gce.dirty ++ [r] } }

/-- Entries in the order of their keys, the smallest first. -/
def sortKey (l : List (List Nat × Nat)) : List Nat := (l.mergeSort (fun a b => !keyLt b.1 a.1)).map (·.2)

/-- Tenants, the weakest first. -/
def State.weakest (s : State) (l : List Nat) : List Nat := (sortKey (l.map (fun t => (s.standing t, t)))).reverse
/-- The strongest of some tenants; 0x3F when there is none. -/
def State.strongest (s : State) (l : List Nat) : Nat := (sortKey (l.map (fun t => (s.standing t, t)))).headD 0x3F

/-- The standing of a record's trio: that of its strongest owner; with no owned window it is weaker than any that has one;
of equals the higher record index is the weaker. -/
def State.strength (s : State) (r : Nat) : List Nat :=
  match (s.effRec r).owners with
  | [] => [4, 0, r]
  | l => let t := s.strongest l; [s.classOf t, s.rank t, r]

/-- The record's trio is active: neither lost nor withdrawn nor parked. -/
def State.inService (s : State) (r : Nat) : Bool :=
  (s.effRec r).act && !s.gce.gone.contains r && !s.gce.parked.contains r

/-- The physical trio behind a record: also the one that was lost with no spare left. -/
def State.trioFor (s : State) (r : Nat) : Option Nat :=
  (s.physOf (r / 6) (r % 6)).or
    (((List.range 7).map (fun p => 7 * (r / 6) + p)).find? (fun t => decide (((s.trio t).wasLog).map (·.val) = some (r % 6))))

/-! ### Cut records (R244, R246, R284) -/

/-- The record of a cut: a budget cut names its context, and goes through its fault routing; every other names none (R284). -/
def State.cutRecord (s : State) (c : Cut) (eff : Dword) : State :=
  let dw2 := c.reason.toNat ||| c.isChan.toNat <<< 4 ||| c.res.toNat <<< 8 ||| c.ben.toNat <<< 16 ||| c.wins.toNat <<< 32
  let pay := [BitVec.ofNat 64 dw2, BitVec.ofNat 64 c.before, BitVec.ofNat 64 c.after, eff]
  let s := match (if c.sub = 0x82 then s.findHandle c.tid.val c.handle else none) with
    | some (t, n) => s.ctxRecord t n 0x16 c.sub.toNat 0 pay
    | none => s.tidRecord c.tid.val 0x16 c.sub.toNat 0 pay
  s.raise 17

/-- A cut is made and recorded. -/
def State.makeCut (s : State) (c : Cut) (eff : Dword) : State :=
  ({ s with gce := { s.gce with cuts := s.gce.cuts ++ [c] } }).cutRecord c eff

/-- The lowest BUDGET that cuts in force, or about to be, leave a tenant's context. -/
def State.budgetCap (s : State) (tid h : Nat) (pend : Bool) : Option Nat :=
  (s.gce.cuts.filter (fun c => decide (c.sub = 0x82 ∧ c.tid.val = tid ∧ c.handle = h) && (pend || !c.pend))).foldl
    (fun (m : Option Nat) c => some (min (m.getD c.after) c.after)) none

/-- The time per period that a record's windows can deliver to a context under R248: the least over the periods of the major
frame, with one dispatch in each window, at the point in force. -/
def State.deliverable (s : State) (r : Nat) (b : Slot) : Nat :=
  let rec' := s.effRec r
  if !rec'.act ∨ s.gce.parked.contains r then 0
  else
    let sw := let p := s.rf ⟨.pwrGov, 0, 0, 0⟩ 3 2; if p = 0 then 70 else if p = 1 then 80 else 100
    let mine := ((List.range 16).zip rec'.win).filter (fun e =>
      wOwned e.2 && decide (wTid e.2 = b.tid.val) && b.winmask e.1)
    let inFrame := fun (f : Nat) => (mine.filter (fun e => wOccurs e.2 f)).map (fun e => wLen e.2)
    let period := fun (j : Nat) =>
      let l := (List.range (b.pmul + 1)).flatMap (fun i => inFrame ((b.pphase + j * (b.pmul + 1) + i) % s.frames))
      (10 * l.sum - l.length * (500 + sw)) / 10
    ((List.range (s.frames / (b.pmul + 1))).map period).foldl min (period 0)

/-- The time per frame of some windows, averaged over the frames (R246). -/
def windowTime (l : List Dword) : Nat := (l.map (fun w => wLen w / wEvery w)).sum

/-- A unit of R246: die × 8 + logical trio. -/
def resOf (r : Nat) : BitVec 7 := BitVec.ofNat 7 (r / 6 * 8 + r % 6)

/-- What a resolution's cuts share: the reason, the beneficiary, whether they wait for the boundary, whether they are made only
for a forced Lean, and the timebase of the first frame affected. -/
structure Why where
  reason : Nat
  ben : Nat
  pend : Bool
  lean : Bool
  eff : Dword

/-- A cut of a trio's resources. -/
def Why.cut (y : Why) (tid sub r : Nat) : Cut :=
  ⟨BitVec.ofNat 5 tid |>.toFin, BitVec.ofNat 8 sub, BitVec.ofNat 4 y.reason, false, resOf r, BitVec.ofNat 6 y.ben, 0, 0, 0,
    4096, y.pend, y.lean⟩

/-- Step 1 of R244: a tenant's SLACKUSE is withdrawn, once. -/
def State.cutSlack (s : State) (y : Why) (tid r : Nat) : State :=
  if !bit (s.tenantRec s.active tid) 3 then s
  else if s.gce.cuts.any (fun c => decide (c.sub = 0x80 ∧ c.tid.val = tid)) then
    if y.lean then s
    else { s with gce := { s.gce with cuts := s.gce.cuts.map (fun c =>
      if c.sub = 0x80 ∧ c.tid.val = tid then { c with lean := false } else c) } }
  else s.makeCut (y.cut tid 0x80 r) y.eff

/-- Step 2 of R244: a tenant's windows in a record are removed. -/
def State.cutWindows (s : State) (y : Why) (tid r : Nat) (old : TrioRec) : State :=
  let of := fun (k : TrioRec) => (k.win.filter (fun w => wOwned w && decide (wTid w = tid)))
  let mask := ((List.range 16).zip old.win).foldl (fun (m : BitVec 16) e =>
    if wOwned e.2 ∧ wTid e.2 = tid then setBit m e.1 true else m) 0
  let left := if s.gce.parked.contains r then 0 else windowTime (of (s.effRec r))
  if (of old).isEmpty then s
  else s.makeCut { y.cut tid 0x81 r with wins := mask, before := windowTime (of old), after := left } y.eff

/-- Step 3 of R244: the budgets of a tenant's contexts on a record's trio, lowest priority first, are reduced to what the
remaining windows deliver. -/
def State.cutBudgets (s : State) (y : Why) (tid r : Nat) : State :=
  match s.trioFor r with
  | none => s
  | some t =>
    let mine := (s.trio t).live.filter (fun e => decide (e.2.tid.val = tid))
    (sortKey (mine.map (fun e => ([e.2.prio, e.1], e.1)))).foldl (fun s n =>
      let b := s.slot t n
      let have' := min b.budget ((s.budgetCap tid b.handle.toNat true).getD b.budget)
      let new := s.deliverable r b
      if new < have' then
        s.makeCut { y.cut tid 0x82 r with before := have', after := new, handle := b.handle.toNat } y.eff
      else s) s

/-- The owners of windows in the records that an event cuts lose them (R244), the weakest tenant first: each its slack, then its
windows, then its budgets. -/
def State.cutTrios (s : State) (y : Why) (rs : List (Nat × TrioRec)) : State :=
  (s.weakest (rs.flatMap (fun e => e.2.owners)).eraseDups).foldl (fun s tid =>
    match rs.filter (fun e => e.2.owners.contains tid) with
    | [] => s
    | e :: es =>
      let s := (e :: es).foldl (fun s x => s.cutWindows y tid x.1 x.2) (s.cutSlack y tid e.1)
      (e :: es).foldl (fun s x => s.cutBudgets y tid x.1) s) s

/-- The owners of one record's windows lose them. -/
def State.cutTrio (s : State) (y : Why) (r : Nat) (old : TrioRec) : State := s.cutTrios y [(r, old)]

/-! ### Resolutions (R243) -/

/-- Class A cannot be served: the safe state, whose record names the event, the resource and the tenant (R418). -/
def State.cannotServe (s : State) (reason : Nat) (isChan : Bool) (res : Nat) (owners : List Nat) : State :=
  let tid := s.strongest (owners.filter (fun t => decide (s.classOf t = 0)))
  s.safeState 0x16
    (BitVec.ofNat 64 (reason ||| isChan.toNat <<< 4 ||| res <<< 8 ||| tid % 32 <<< 16 ||| 1 <<< 63)) false

/-- A class A tenant is among some owners. -/
def State.hasA (s : State) (l : List Nat) : Bool := l.any (fun t => decide (s.classOf t = 0))

/-- A trio lost with no spare (`event` 0), or its redundancy withdrawn with no spare (`event` 4): a host of its mode, the weakest
of those weaker than it, adopts its record and its contexts; with no host its windows are cut (R243, R288). One that is not
active, or is parked, is resolved when it would next become active. `reason` and `eff` are those of the records. -/
def State.loseTrio (s : State) (r event reason : Nat) (eff : Dword) : State :=
  let lost := s.effRec r
  if s.safe ∨ s.gce.gone.contains r ∨ (event = 4 ∧ lost.mode = 0) then s
  else
    let live := s.inService r
    let s := { s with gce := { s.gce with gone := s.gce.gone ++ [r] } }
    if !live then { s with gce := { s.gce with waiting := s.gce.waiting ++ [(r, event)] } }
    else
      let owners := lost.owners
      let cands := (List.range 72).filter (fun x =>
        s.inService x && decide ((s.effRec x).mode = lost.mode) && keyLt (s.strength r) (s.strength x))
      match (sortKey (cands.map (fun x => (s.strength x, x)))).getLast? with
      | none =>
        if s.hasA owners then s.cannotServe event false (resOf r).toNat owners
        else
          let s := s.setEff r { lost with win := [] }
          s.cutTrio ⟨reason, 0x3F, true, false, eff⟩ r lost
      | some h =>
        let old := s.effRec h
        let ben := s.strongest owners
        let s := (s.setEff h lost).setEff r { lost with win := [] }
        let s := match s.trioFor r with
          | some t => if ht : t < 85 then { s with gce := { s.gce with hosts := s.gce.hosts ++ [((⟨t, ht⟩ : TrioId), h)] } } else s
          | none => s
        s.cutTrio ⟨reason, ben, true, false, eff⟩ h old

/-- A tenant's credit on a channel, with what takes effect at the next frame boundary. -/
def State.creditNext (s : State) (t m : Nat) : Nat := (SMap.get 0 (s.gce.creditPend.getD s.gce.credits) (12 * t + m)).toNat

/-- Credits that take effect at the next frame boundary. -/
def State.setCredit (s : State) (t m v : Nat) : State :=
  { s with gce := { s.gce with
    creditPend := some (SMap.put 0 (s.gce.creditPend.getD s.gce.credits) (12 * t + m) (BitVec.ofNat 64 v)) } }

/-- A credit cut's record. -/
def State.cutCredit (s : State) (y : Why) (tid m before after : Nat) : State :=
  s.makeCut { y.cut tid 0x83 0 with isChan := true, res := BitVec.ofNat 7 m, before := before, after := after } y.eff

/-- A channel is lost and not mirrored (R243): every tenant's credit on it becomes 0. -/
def State.loseChannel (s : State) (m reason : Nat) (eff : Dword) : State :=
  let held := (List.range 32).filter (fun t => decide (0 < s.creditNext t m))
  if s.safe then s
  else if s.hasA held then s.cannotServe 1 true m held
  else (s.weakest held).foldl (fun s t =>
    let c := s.creditNext t m
    (s.setCredit t m 0).cutCredit ⟨reason, 0x3F, true, false, eff⟩ t m c 0) s

/-- A mirrored channel is lost (R243): its partner takes the sum of both channels' credits, cut from the weakest tenant as far
as its capacity needs. -/
def State.coverChannel (s : State) (m p reason : Nat) (eff : Dword) : State :=
  let total := fun (t : Nat) => s.creditNext t m + s.creditNext t p
  let cap := s.capacity p
  let as := (List.range 32).filter (fun t => decide (s.classOf t = 0 ∧ 0 < total t))
  if s.safe then s
  else if cap < (as.map total).sum then s.cannotServe 1 true m as
  else
    let out := (s.weakest (List.range 32)).foldl (fun (a : Nat × List (Nat × Nat)) t =>
      let k := min (total t) a.1
      (a.1 - k, a.2 ++ [(t, total t - k)])) ((((List.range 32).map total).sum - cap), ([] : List (Nat × Nat)))
    let ben := s.strongest ((out.2.filter (fun e => decide (0 < e.2))).map (·.1))
    out.2.foldl (fun s e =>
      let s' := (s.setCredit e.1 m 0).setCredit e.1 p e.2
      if e.2 < total e.1 then s'.cutCredit ⟨reason, ben, true, false, eff⟩ e.1 p (total e.1) e.2 else s') s

/-- LEANPT of the active season. -/
def State.leanPoint (s : State) : Nat := fld (s.seasonDw s.active 1) 29 28

/-- A trio is parked or released (R243): parked, it dispatches nothing. -/
def State.park (s : State) (r : Nat) (on : Bool) : State :=
  match s.physOf (r / 6) (r % 6) with
  | some t => s.modTrio t (fun k => { k with parked := on })
  | none => s

/-- SLACKUSE as the cuts in force leave it. -/
def State.slackNow (s : State) : State :=
  { s with gce := { s.gce with slackOff := s.gce.cuts.foldl (fun (w : Word) c =>
      if c.sub = 0x80 ∧ !c.pend then setBit w c.tid.val true else w) 0 } }

/-- Budgets in force: what a cut leaves applies to the period that runs, and takes nothing back (R245). -/
def State.capBudgets (s : State) (cs : List Cut) : State :=
  cs.foldl (fun (s : State) (c : Cut) =>
    if c.sub = 0x82 then
      match s.findHandle c.tid.val c.handle with
      | some (t, n) => s.modSlot t n (fun b => { b with
          eff := b.eff.set 2 (setFld (b.eff.getD 2 0) 20 0 c.after), remain := min b.remain (c.after - b.used) })
      | none => s
    else s) s

/-- A forced Lean parks active trios, the weakest first, until their count meets the limit at LEANPT (R243, R245): at once. A
withdrawal that waits for the next frame boundary does not come. -/
def State.leanPark (s : State) (reason : Nat) (eff : Dword) : State :=
  let act := (List.range 72).filter s.inService
  let weak := (sortKey (act.map (fun r => (s.strength r, r)))).reverse
  let out := weak.take (act.length - s.trioLimit s.leanPoint)
  let s := { s with gce := { s.gce with leanOff := false } }
  if s.safe then s
  else
  match out.find? (fun r => s.hasA (s.effRec r).owners) with
  | some r => s.cannotServe 2 false (resOf r).toNat (s.effRec r).owners
  | none =>
    let s := { s with gce := { s.gce with parked := s.gce.parked ++ out, lean := true } }
    let y : Why := ⟨reason, 0x3F, false, true, eff⟩
    let s := out.foldl (fun s r => s.park r true) s
    let s := s.protect (out.filterMap (fun r => s.physOf (r / 6) (r % 6)))
    let n := s.gce.cuts.length
    let s := s.cutTrios y (out.map (fun r => (r, s.effRec r)))
    let s := (s.slackNow).capBudgets (s.gce.cuts.drop n)
    out.foldl (fun s r => match s.physOf (r / 6) (r % 6) with
      | some t => s.redispatch t
      | none => s) s

/-! ### The frame boundary (R245) -/

/-- A record is handed to its trio: into the shadow where the trio has yet to swap at this tick, else in force. -/
def State.handRec (s : State) (r : Nat) : State :=
  match s.physOf (r / 6) (r % 6) with
  | none => s
  | some t =>
    let k := s.effRec r
    let waits := decide (s.ftu.ticks = s.gce.actTick) && !s.ftu.arrived.any (fun u => match u with
      | .trio x => decide (x.val = t)
      | _ => false)
    s.modTrio t (fun tr => if waits ∧ tr.shadow.isSome then { tr with shadow := some k } else { tr with rcd := k })

/-- The contexts of a lost trio move to its host, strongest tenant first and highest PRIO first (R288). -/
def State.moveToHost (s : State) (t h : Nat) : State :=
  match s.physOf (h / 6) (h % 6) with
  | none => s
  | some t2 =>
    (sortKey ((s.trio t).live.map (fun e => (s.standing e.2.tid.val ++ [15 - e.2.prio, e.1], e.1)))).foldl (fun s n =>
      let b := s.slot t n
      if b.outstanding then
        s.modSlot t n (fun b => { b with mig := some (Fin.ofNat 12 (h / 6), Fin.ofNat 6 (h % 6)) })
      else s.moveSlot t n t2) s

/-- Pending cuts take effect (R245). -/
def State.cutsTakeEffect (s : State) : State :=
  let now := s.gce.cuts.filter (·.pend)
  let s := { s with gce := { s.gce with cuts := s.gce.cuts.map (fun (c : Cut) => { c with pend := false }) } }
  let s := (s.slackNow).capBudgets now
  let s := match s.gce.creditPend with
    | some c => { s with gce := { s.gce with credits := c, creditPend := none } }
    | none => s
  let ds := s.gce.dirty.eraseDups
  let hs := s.gce.hosts
  let s := { s with gce := { s.gce with dirty := [], hosts := [] } }
  let s := ds.foldl State.handRec s
  hs.foldl (fun s e => s.moveToHost e.1.val e.2) s

/-- The cuts made only for a forced Lean are withdrawn, each with its record, and its trios are no longer parked (R245); losses
that waited for them are resolved now (R243). -/
def State.leanWithdraw (s : State) (eff : Dword) : State :=
  let back := s.gce.cuts.filter (·.lean)
  let parked := s.gce.parked
  let wait := s.gce.waiting.filter (fun w => parked.contains w.1)
  let s := { s with gce := { s.gce with
    cuts := s.gce.cuts.filter (fun c => !c.lean), parked := [], lean := false, leanOff := false
    waiting := s.gce.waiting.filter (fun w => !parked.contains w.1)
    gone := s.gce.gone.filter (fun r => !(wait.any (fun w => decide (w.1 = r)))) } }
  let s := back.foldl (fun s c => s.cutRecord { c with sub := 0x8F, before := c.after, after := c.before } eff) s.slackNow
  let s := parked.foldl (fun s r => s.park r false) s
  wait.foldl (fun s w => s.loseTrio w.1 w.2 w.2 eff) s

/-! ### Losses present (R192, R20) -/

/-- The die's spare trio can replace a trio: unused, not retired, its die Online; for a redundancy's sake its self-test has not
failed (R192, R287). -/
def State.spareReady (s : State) (d : Nat) (redundancy : Bool) : Bool :=
  let v := s.reg ⟨.trioMap, 0, d, 0⟩
  decide (s.rf ⟨.dieStatus, 0, d, 0⟩ 2 0 = 2) && !bit v 30 &&
    (List.range 6).all (fun k => decide (fld v (3 * k + 2) (3 * k) ≠ 6)) &&
    (!redundancy || decide (s.rf (rstat (7 * d + 6)) 10 10 = 0)) &&
    !s.gce.subst.any (fun x => decide (x.die.val = d))

/-- The redundancy of the trio behind a record is withdrawn and no spare can take its place (R192). -/
def State.withdrawn (s : State) (r : Nat) : Bool :=
  decide ((s.effRec r).mode ≠ 0) && !s.spareReady (r / 6) true &&
    (match s.physOf (r / 6) (r % 6) with
      | some t => decide (s.rf (rstat t) 10 10 = 1)
      | none => false)

/-- A Checker fault with no spare left withdraws the redundancy of the trio's record (R215, R243): from the next frame boundary. -/
def State.checkerFault (s : State) (t src : Nat) (other : Option Flagged) : State :=
  let s := s.checker t src other
  match s.logOf t with
  | some k =>
    let r := 6 * (t / 7) + k
    if s.gce.live ∧ s.withdrawn r then s.loseTrio r 4 4 s.nextTick else s
  | none => s

/-- A fault in the checking hardware (R214, R215): none arises in Independent mode, and a self-test runs outside it only
within the resynchronisation of a dissenter (R207). An event of the comparison may be flagged in the same cycle (R216). -/
def execCheckerFault (t : TrioId) (e : CheckerEvent) (s : State) : Host.Outcome State Fault Refusal :=
  done (
    if s.trioMode t.val = 0 ∨ (e.src = .selfTest ∧ s.rf (rstat t.val) 6 6 = 0) then s
    else (s.checkerFault t.val (match e.src with
      | .dualRail => 1
      | .delayReg => 2
      | .laneIncons => 3
      | .selfTest => 4
      | .weltLanes => 5) e.other))

end Sys2Proof.Machine
end

