-- ==== Sys2Proof/Machine/Modes.lean ====
section
/-! DEFINITION. Mode changes, the self-test, the state digest and resynchronisation (R192, R204-R207, R211-R213), and the
injection of a comparison error (R214). -/

namespace Sys2Proof.Machine

/-- `TRIO_RCTL`. -/
def rctlR (t : Nat) : RegRef := ⟨.trioRctl, t, 0, 0⟩

/-- Every L1 and TLB of a trio is invalidated (R205, R211). -/
def State.flushTrio (s : State) (t : Nat) : State :=
  forN 3 (fun i s => s.modCore (coreNo t i) (fun (k : Core) =>
    { k with l1i := [], l1d := [], itlb := [], dtlb := [], tlb2 := [], fbuf := none })) s

/-- The state copy of a resynchronisation (R205): the dissenter takes the state of a majority copy. -/
def State.copyStep (s : State) (t : Nat) : State :=
  let d := s.dissenter t
  if s.trioMode t ≠ 2 ∨ d = 3 then s
  else (s.copyInto t d).modTrio t (fun k => { k with skew := [] })

/-- A trio takes a mode, its streams empty (R211): a dissenter first takes a majority copy's state (R207), copies that separate
keep the core-owned state they share, and cores that become copies take core 0's. -/
def State.setMode (s : State) (t m : Nat) : State :=
  let s := (s.copyStep t).splitCopies t
  let s := (copiesOf m).foldl (fun s i => s.modCore (coreNo t i) (fun (k : Core) => { k with run := .held })) s
  ((s.setRf (rstat t) 1 0 m).inStep t).flushTrio t

/-- The mode that a record gives a trio: Independent where its redundancy is withdrawn (R192). -/
def State.modeFor (s : State) (t : Nat) : Nat := if s.rf (rstat t) 10 10 = 1 then 0 else (s.trio t).rcd.mode

/-- The mode change at a season's first tick (R211): with no self-test passed since the last reset, it comes first. -/
def State.changeMode (s : State) (t : Nat) : State :=
  let m := s.modeFor t
  if m = s.trioMode t then s
  else if m ≠ 0 ∧ s.rf (rstat t) 9 8 ≠ 2 then
    (s.setRf (rstat t) 9 8 1).modTrio t (fun k => { k with modePend := true })
  else s.setMode t m

/-! ### The state digest -/

/-- The save stream of what runs on core `k` (R257), which the pipeline's drain precedes: 105 doublewords. -/
def Core.saveStream (k : Core) : List Dword :=
  let k := k.park
  let csrs (b n : Nat) := (List.range n).map (fun i => k.csr (b + i))
  (List.range 31).map (fun i => k.arch.rd (i + 1)) ++ (List.range 8).map (fun i => k.arch.rd (64 + i)) ++
    (List.range 32).map (fun i => k.arch.rd (32 + i)) ++ k.arch.pc :: csrs 0x001 2 ++ (List.range 8).map k.divst ++
    csrs 0x108 5 ++ csrs 0x118 5 ++ csrs 0x101 7 ++ csrs 0x111 3 ++ csrs 0x116 2 ++ [k.csr 0x100]

/-- The core-owned state that the digest covers, in ascending CSR number (R204): the PL2 set with `CSTAT_2` and `EDELEG`, and the
PL3 set. -/
def Core.ownStream (k : Core) : List Dword :=
  (List.range 13).map (fun i => k.csr (0x200 + i)) ++ k.csr 0x210 :: (List.range 12).map (fun i => k.csr (0x301 + i))

/-- The CRC-32 of a copy's state (R204). The iterative units count as they stand in the core. -/
def Core.digest (k : Core) : Word :=
  crc32 (dwBytes ((if k.ctx.isSome then k.saveStream else []) ++ k.ownStream))

/-- The wrong item of a group that carries the digest, G19 to G22 (R197): copy `k`'s digest has bit 0 of that byte flipped. -/
def State.digestFlip (s : State) (t k : Nat) : Word :=
  match (s.trio t).inj with
  | some (some j, g) => if j.val = k ∧ 19 ≤ g.val ∧ g.val ≤ 22 then 1 <<< (8 * (g.val - 19)) else 0
  | _ => 0

/-- Copy `k`'s digest as the voter has it. The copies in step hold the lead's state but for the differences that no item has shown
yet. -/
def State.copyDigest (s : State) (t k : Nat) : Word :=
  let own := if k = s.dissenter t then s.core (coreNo t k) else s.core (s.leadCore t)
  own.digest ^^^ SMap.get 0 (s.trio t).skew k ^^^ s.digestFlip t k

/-- The flip of the copies of a trio that reached a digest has been met, `k` the copies compared. -/
def State.flipMet (s : State) (t : Nat) (ks : List Nat) : State :=
  if ks.any (fun k => decide (s.digestFlip t k ≠ 0)) then s.modTrio t (fun q => { q with inj := none }) else s

/-- The first group of G19 to G22 in which two digests differ. -/
def digestGroup (a b : Word) : Nat :=
  19 + (((List.range 4).find? (fun i => decide (fld ((a ^^^ b).setWidth 64) (8 * i + 7) (8 * i) ≠ 0))).getD 0)

/-- What the voter makes of three digests (R204): the dissenter, or 3 where none agree; none where all do. -/
def voteOf (a b c : Word) : Option Nat :=
  if a = b then (if b = c then none else some 2)
  else if a = c then some 1 else if b = c then some 0 else some 3

/-- The state digest at the tick (R204). -/
def State.digest (s : State) (t : Nat) : State :=
  if s.trioMode t ≠ 2 ∨ !bit (s.reg (rctlR t)) 0 then s
  else
    let d := s.dissenter t
    let v := s.copyDigest t
    if d = 3 then
      let u := s.flipMet t [0, 1, 2]
      match voteOf (v 0) (v 1) (v 2) with
      | none => u
      | some 3 => u.stopCopies t 4 (digestGroup (v 0) (v 1)) 0 3 true
      | some k => u.dissent t k (if k = 2 then digestGroup (v 1) (v 2) else digestGroup (v 0) (v 1)) (laneOf k) true
    else
      let a := if d = 0 then 1 else 0
      let b := if d = 2 then 1 else 2
      let u := s.flipMet t [a, b]
      if v a = v b then u else u.stopCopies t 4 (digestGroup (v a) (v b)) (laneLeft d) 3 true

/-! ### Resynchronisation -/

/-- The dissenter has rejoined (R205): core 0 leads again. -/
def State.rejoined (s : State) (t d : Nat) : State :=
  let s := if d = 0 then s.passLead (coreNo t 1) (coreNo t 0) else s
  (s.incRf (rcnt t) 63 48).inStep t |>.degraded t 8 d (s.rf (rstat t) 20 16) (s.rf (rstat t) 22 21) (s.core (coreNo t 0)).arch.pc

/-- The resynchronisation of a dissenter in the housekeeping window (R205): the state copy, the flush, and the verification digest
of all three copies, in which a difference leaves the copy excluded (R207). -/
def State.resync (s : State) (t : Nat) : State :=
  let d := s.dissenter t
  if s.trioMode t ≠ 2 ∨ d = 3 then s
  else
    let s := (s.copyStep t).flushTrio t
    let lead := s.copyDigest t (if d = 0 then 1 else 0)
    let own := s.copyDigest t d
    if own = lead then s.rejoined t d
    else
      let g := digestGroup own lead
      ((s.flipMet t [d]).noteEvent t g (laneOf d)).degraded t 7 d g (laneOf d) (s.leadPc t)

/-- A write of `TRIO_RCTL`: `STGO` starts the self-test while the trio is Independent and none runs (R212). -/
def State.writeRctl (s : State) (t : Nat) (v : Dword) : State :=
  let s := s.writeReg (rctlR t) v
  if bit v 1 ∧ s.trioMode t = 0 ∧ s.rf (rstat t) 9 8 ≠ 1 then s.setRf (rstat t) 9 8 1 else s

/-- A write of `TRIO_INJ`: `GO` arms the flip (its register's table), ignored while the test-enable bit is 0 or for copy 3. -/
def State.writeInj (s : State) (t : Nat) (v : Dword) : State :=
  let r : RegRef := ⟨.trioInj, t, 0, 0⟩
  let s := s.writeReg r v
  if h : fld v 6 5 < 3 then
    if bit v 7 ∧ bit (s.reg ⟨.linkTest, 0, 0, 0⟩) 0 then
      s.modTrio t (fun k => { k with inj := some (some ⟨fld v 6 5, h⟩, Fin.ofNat 32 (fld v 4 0)) })
    else s
  else s

/-- A mode change that waited for the self-test takes place: the running contexts leave first (R211). -/
def State.finishMode (s : State) (t : Nat) : State :=
  let s := s.modTrio t (fun k => { k with modePend := false })
  let s := (s.streams t).foldl (fun s st => s.leave t st .ready) s
  (s.setMode t (s.modeFor t)).redispatch t

/-- The redundancy of a logical trio's record is withdrawn and no spare can take its place: it is resolved (R192, R243). -/
def State.withdrawNow (s : State) (t : Nat) : State :=
  match s.logOf t with
  | some k =>
    let r := 6 * (t / 7) + k
    if s.gce.live ∧ s.withdrawn r then s.loseTrio r 4 4 s.nextTick else s
  | none => s

end Sys2Proof.Machine
end

