-- ==== Sys2Proof/Machine/Contain.lean ====
section
/-! DEFINITION. Containment at the block, region and chip levels, its escalation, and trios that are powered on and off
(R18, R21-R25, R181, R182, R404-R406, R468). -/

namespace Sys2Proof.Machine

/-- `PWR_DOMSTAT[n]`. -/
def domR (n : Nat) : RegRef := ⟨.pwrDomstat, 0, n, 0⟩

/-! ### Trios on and off -/

/-- A trio's cores are held, and hold nothing. -/
def State.holdTrio (s : State) (t : Nat) : State :=
  forN 3 (fun i s => s.modCore (coreNo t i) (fun (k : Core) => k.fresh .held)) s

/-- A trio is powered and its arrays are cleared (R404); `NOREDUN` and `CFSRC` are reloaded (R213). -/
def State.trioOn (s : State) (t : Nat) : State :=
  let s := (s.setRf (dieStatR (t / 7)) (8 + t % 7) (8 + t % 7) 1).setRf (domR t) 1 0 0
  s.trioReset t

/-- A trio is powered down. -/
def State.trioOff (s : State) (t : Nat) : State :=
  let s := (s.setRf (dieStatR (t / 7)) (8 + t % 7) (8 + t % 7) 0).setRf (domR t) 1 0 2
  (s.holdTrio t).modTrio t (fun k => { k with l2 := {}, inj := none, welt := [], retention := false, modePend := false })

/-- A trio enters L2 retention (R407, R408): dirty lines are written back, and its cores are Off. -/
def State.retain (s : State) (t : Nat) : State :=
  if (s.trio t).retention then s
  else
    let s := forN 3 (fun i s => s.drainMerge (coreNo t i)) s
    let s := s.l2WriteAll t
    let s := forN 3 (fun i s => s.modCore (coreNo t i) (fun (k : Core) =>
      { (k.fresh .held) with own := k.own, intReq := k.intReq, lfsr := k.lfsr, invSeq := k.invSeq })) s
    (s.modTrio t (fun k => { k with retention := true })).setRf (domR t) 1 0 1

/-- A trio leaves L2 retention: its cores start again, but for those that execute with another. -/
def State.unretain (s : State) (t : Nat) : State :=
  if !(s.trio t).retention then s
  else
    let s := forN 3 (fun i s => if s.leadOf (coreNo t i) ≠ coreNo t i then s
      else s.modCore (coreNo t i) (fun (k : Core) => { k with run := s.restRun t })) s
    (s.modTrio t (fun k => { k with retention := false })).setRf (domR t) 1 0 0

/-! ### Errors -/

/-- A block-level error (R21, R181, R405, R406): the trio is reset without a clean, its agent is dead, and its contexts wait for
a substitution or a migration. In the service trio it is a chip-level error (R18). -/
def State.blockError (s : State) (t : Nat) : State :=
  if t = svcTrio then s.svcTrioError
  else
    let s := (((s.loseTrioUnits t).faultTrio t true).agentDies t).trioReset t
    (s.holdTrio t).noteContained 3 (s.trioWord t)

/-- A compute die goes offline (R21, R181, R182): its messages on their way are lost, its trios stop, it leaves the broadcast entries,
and every home reclaims its agents. A die is not taken offline
twice, nor in the safe state. A block's containment in progress on it is abandoned and recorded as subsumed, apart from that of
trio `only`, whose escalation this is (R22); with it a substitution in progress ends. -/
def State.dieOffline (s : State) (d cause : Nat) (only : Option Nat) : State :=
  if s.safe ∨ s.dieState d = 0 ∨ s.dieState d = 3 ∨ s.dieState d = 4 then s
  else
    let s := (s.setRf (dieStatR d) 2 0 3).setRf (dieStatR d) 31 24 cause
    let s := { s with gce := { s.gce with subst := s.gce.subst.filter (fun x => decide (x.die.val ≠ d)) }
                      net := s.net.filter (fun m => decide (portOf m.agent.val ≠ d)) }
    let s := s.dropDie d
    forN 7 (fun p s =>
      let t := 7 * d + p
      if !s.powered t then s
      else
        let s := s.subsume 1 (s.failed t && decide (only ≠ some t)) (s.trioWord t)
        let s := (((s.faultTrio t true).modTrio t (fun k => { k with l2 := {} })).holdTrio t)
        forN 12 (fun h s => ((s.startReclaim h t).evictDead h t).finishAll h) s) s

/-- CONTAINMENT_TIMEOUT (R21): the error passes to the next level up, which writes a record that names the level that failed. No
level stands above the chip. -/
def execContainmentTimeout (u : Contained) (s : State) : Host.Outcome State Fault Refusal :=
  done (
    match u with
    | .core c =>
      let t := trioOf c.val
      ((s.sysEvent 0x07 [0, s.coreWord c.val]).blockError t)
    | .trio t =>
      if t.val = svcTrio then ((s.sysEvent 0x07 [1, s.trioWord t.val]).svcTrioError)
      else ((s.sysEvent 0x07 [1, s.trioWord t.val]).dieOffline (t.val / 7) 3 (some t.val))
    | .die d =>
      let w := unitWord d.val 7 7 3 none
      (((s.snapshot 4).sysEvent 0x07 [2, w]).safeState 0x07 0 false)
    | .chip => s)

/-- CHIP_ERROR (R25): the module enters its safe state. -/
def execChipError (cause : Byte) (s : State) : Host.Outcome State Fault Refusal := done (s.safeState cause.toNat 0 false)

end Sys2Proof.Machine
end

