-- ==== Sys2Proof/Machine/Homes.lean ====
section
/-! DEFINITION. The coherence protocol's commands, message by message: requests, transactions, snoops and their answers, writebacks,
responses, and the reclaim of dead agents (R166-R184, R188). -/

namespace Sys2Proof.Machine

/-! ### Requests (R171) -/

/-- RDSHARED (R171). -/
def execRdshared (m : Msg) (s : State) : Host.Outcome State Fault Refusal := done (s.requestArrives .rdShared m)
/-- RDOWN (R171). -/
def execRdown (m : Msg) (s : State) : Host.Outcome State Fault Refusal := done (s.requestArrives .rdOwn m)
/-- UPGRADE (R171). -/
def execUpgrade (m : Msg) (s : State) : Host.Outcome State Fault Refusal := done (s.requestArrives .upgrade m)

/-- HOME_ACCEPT (R167, R168). -/
def execHomeAccept (h : Chan) (s : State) : Host.Outcome State Fault Refusal :=
  done (
    match (s.home h.val).winner (s.rf (haR h.val) 35 32) with
    | none => s
    | some q => ((s.accept h.val q).getD s))

/-- CHAIN_BEGIN (R168). -/
def execChainBegin (line : LineAddr) (s : State) : Host.Outcome State Fault Refusal := done ((s.chainBegin line).getD s)

/-- A message that has arrived acts; one that is not on its way, or that an earlier one holds up, does nothing. -/
def State.arrives (s : State) (m : Option Sent) : State :=
  match m with
  | some m => s.deliver m
  | none => s

/-- MEMORY_READ_DATA (R172). -/
def execMemoryReadData (line : LineAddr) (s : State) : Host.Outcome State Fault Refusal :=
  done (s.arrives (s.net.find? (fun m => decide (m.kind = .memRead) && decide (m.line = line))))

/-! ### Snoops -/

/-- A snoop reaches an agent that has fewer than sixteen outstanding (R162, R173). -/
def snoopRow (k : Snp) (a : AgentId) (line : LineAddr) (s : State) : Host.Outcome State Fault Refusal :=
  done (if 16 ≤ s.snoopsAt a.val then s else s.arrives (s.sentOf k.msg a line))

/-- SNPSHARE (R173). -/
def execSnpshare (a : AgentId) (line : LineAddr) (s : State) : Host.Outcome State Fault Refusal := snoopRow .share a line s
/-- SNPOWN (R173, R174). -/
def execSnpown (a : AgentId) (line : LineAddr) (s : State) : Host.Outcome State Fault Refusal := snoopRow .own a line s
/-- SNPINV (R111, R173, R408). -/
def execSnpinv (a : AgentId) (line : LineAddr) (s : State) : Host.Outcome State Fault Refusal := snoopRow .inv a line s

/-- SNOOP_ANSWER (R173): the oldest snoop for the line is answered from the state the line then has. -/
def execSnoopAnswer (a : AgentId) (line : LineAddr) (s : State) : Host.Outcome State Fault Refusal := done (s.answerSnoop a line)

/-- RSPI (R178). -/
def execRspi (m : Msg) (s : State) : Host.Outcome State Fault Refusal := done (s.arrives (s.sentOf .rspI m.agent m.line))
/-- RSPS (R173). -/
def execRsps (m : Msg) (s : State) : Host.Outcome State Fault Refusal := done (s.arrives (s.sentOf .rspS m.agent m.line))
/-- RSPFWD (R173). -/
def execRspfwd (m : Msg) (s : State) : Host.Outcome State Fault Refusal := done (s.arrives (s.dataOf .rspFwd m))
/-- RSPDIRTY (R173). -/
def execRspdirty (m : Msg) (s : State) : Host.Outcome State Fault Refusal := done (s.arrives (s.dataOf .rspDirty m))

/-! ### Writebacks (R174) -/

/-- WBDIRTY (R170, R174): the message on its way reaches the home; with none on its way, the agent's modified line enters WP and its
WbDirty travels. -/
def execWbdirty (m : Msg) (s : State) : Host.Outcome State Fault Refusal :=
  done (
    let a := m.agent.val
    let mine := fun (x : Sent) => decide (x.kind = .wbDirty) && decide (x.agent = m.agent) && decide (x.line = m.line)
    if 0x57 < a then s
    else if s.net.any mine then (s.arrives (s.sentOf .wbDirty m.agent m.line))
    else
      match (s.l2At a).find m.line.toNat with
      | some l =>
        if l.st = .m ∨ l.st = .o then
          let s := s.l2Evict a l
          (s.arrives (s.sentOf .wbDirty m.agent m.line))
        else (s.wbIn m)
      | none => (s.wbIn m))

/-- WBACK (R174). -/
def execWback (a : AgentId) (line : LineAddr) (s : State) : Host.Outcome State Fault Refusal := done (s.arrives (s.sentOf .wbAck a line))

/-! ### Responses (R171) -/

/-- DATAS (R171). -/
def execDatas (m : Msg) (s : State) : Host.Outcome State Fault Refusal := done (s.arrives (s.dataOf .dataS m))
/-- DATAE (R171). -/
def execDatae (m : Msg) (s : State) : Host.Outcome State Fault Refusal := done (s.arrives (s.dataOf .dataE m))
/-- DATAM (R171). -/
def execDatam (m : Msg) (s : State) : Host.Outcome State Fault Refusal := done (s.arrives (s.dataOf .dataM m))
/-- CMP (R171). -/
def execCmp (m : Msg) (s : State) : Host.Outcome State Fault Refusal := done (s.arrives (s.sentOf .cmp m.agent m.line))

/-! ### Dead agents and directory errors -/

/-- AGENTDEAD (R182): a notice arrives, behind every earlier message of its agent in its class. -/
def execAgentdead (h : Chan) (a : AgentId) (cls : Fin 4) (s : State) : Host.Outcome State Fault Refusal :=
  done (s.arrives (s.sentOf .agentDead a (BitVec.ofNat 40 (noticeKey h.val cls.val))))

/-- A memory poison record's payload: up to six lines, each with its valid bit (R284). -/
def poisonDws (ls : List Nat) : List Dword := ls.map (fun l => BitVec.ofNat 64 (l * 64 + 2 ^ 63))

/-- Records of a reclaim's poisoned lines, by tenant, six lines to a record (R184); TID 0's go to Sole only. -/
def State.poisonRecords (s : State) (tid : Nat) (ls : List Nat) : Nat → State
  | 0 => s
  | n + 1 =>
    if ls.isEmpty then s
    else
      let dws := poisonDws (ls.take 6)
      let s := if tid = 0 then s.soleRec 0 (mkRec (recHdr 0x0E 0 0 0 0x1FFF 0xFFF 0 false) s.timebase dws)
        else s.tidRecord tid 0x0E 0 0 dws
      s.poisonRecords tid (ls.drop 6) n

/-- RECLAIM_SCAN_COMPLETE (R182-R184): every entry that names the agent is resolved, the records are written, and the next death
in the slice is handled. -/
def execReclaimScanComplete (h : Chan) (s : State) : Host.Outcome State Fault Refusal :=
  done (
    let r : RegRef := ⟨.haStatus, 0, h.val, 0⟩
    if s.rf r 36 36 = 0 then s
    else
      let a := s.rf r 43 37
      let s := ((s.home h.val).dir).foldl (fun s e => s.resolveEntry e.line.toNat a) s
      let s := s.finishAll h.val
      let lines := (s.home h.val).poisoned
      let s := s.modHome h.val (fun k => { k with poisoned := [], dead := k.dead.filter (fun d => decide (d ≠ agentId a)) })
      let s := forN 32 (fun t s => s.poisonRecords t ((lines.filter (fun l => decide (l.2 = t))).map (·.1)) lines.length) s
      let s := (s.setRf r 36 36 0).setRf r 43 37 0x7F
      match (s.home h.val).dead with
      | b :: _ => ((s.setRf r 36 36 1).setRf r 43 37 b.val)
      | [] => s)

/-- DIRECTORY_ERROR (R180). -/
def execDirectoryError (line : LineAddr) (e : DirErr) (s : State) : Host.Outcome State Fault Refusal :=
  done (
    let l := line.toNat
    let h := chanOf l
    match e with
    | .single => (s.modHome h (fun k => { k with correctedErr := k.correctedErr + 1 }))
    | .double =>
      let s := s.calm l
      let tid := (((s.home h).entry l).map (fun e => e.tid.val)).getD 0
      let s := (s.snoopAll l tid false (s.activeAgents.map (fun a => (a, .inv)))).1
      let s := (s.modHome h (fun k => { k.free l with doubleErr := k.doubleErr + 1 })).haSync h
      s.noteUnit
    | .copies => (s.safeState 0x1F 0 false))

end Sys2Proof.Machine
end

