-- ==== Sys2Proof/Machine/Arith.lean ====
section
/-! DEFINITION. Integer and packed-decimal arithmetic (03_arithmetic_units.md, R66-R72): results as pure functions. -/

namespace Sys2Proof.Machine

/-- A 32-bit result, sign-extended (the W forms). -/
def wres (x : Word) : Dword := x.signExtend 64

/-- Leading zeros of a double. -/
def clz64 (a : Dword) : Nat := if a = 0 then 64 else 63 - a.toNat.log2

/-- Trailing zeros of a double. -/
def ctz64 (a : Dword) : Nat := (findFrom (fun i => a.getLsbD i) 64 0).getD 64

/-- The result of INT minor `fn` on rs1 = `a`, rs2 = `b`, rd = `d` (R39); none where the minor is reserved. -/
def intVal (fn : Nat) (a b d : Dword) : Option Dword :=
  match fn with
  | 0x00 => some (a + b)
  | 0x01 => some (a - b)
  | 0x02 => some (a &&& b)
  | 0x03 => some (a ||| b)
  | 0x04 => some (a ^^^ b)
  | 0x05 => some (a &&& ~~~b)
  | 0x06 => some (a ||| ~~~b)
  | 0x07 => some (~~~(a ^^^ b))
  | 0x08 => some (a <<< (b.toNat % 64))
  | 0x09 => some (a >>> (b.toNat % 64))
  | 0x0A => some (a.sshiftRight (b.toNat % 64))
  | 0x0B => some (a.rotateRight (b.toNat % 64))
  | 0x0C => some (bit01 (a.slt b))
  | 0x0D => some (bit01 (a.ult b))
  | 0x0E => some (if a.slt b then a else b)
  | 0x0F => some (if a.slt b then b else a)
  | 0x10 => some (if a.ult b then a else b)
  | 0x11 => some (if a.ult b then b else a)
  | 0x12 => some (wres (a.truncate 32 + b.truncate 32))
  | 0x13 => some (wres (a.truncate 32 - b.truncate 32))
  | 0x14 => some (wres (a.truncate 32 <<< (b.toNat % 32)))
  | 0x15 => some (wres (a.truncate 32 >>> (b.toNat % 32)))
  | 0x16 => some (wres ((a.truncate 32).sshiftRight (b.toNat % 32)))
  | 0x17 => some (BitVec.ofNat 64 (clz64 a))
  | 0x18 => some (BitVec.ofNat 64 (ctz64 a))
  | 0x19 => some (BitVec.ofNat 64 (popCount a))
  | 0x1A => some ((a.truncate 8).signExtend 64)
  | 0x1B => some ((a.truncate 16).signExtend 64)
  | 0x1C => some (wres (a.truncate 32))
  | 0x1D => some ((a.truncate 32).zeroExtend 64)
  | 0x1E => some (if b ≠ 0 then a else d)
  | 0x1F => some (if b = 0 then a else d)
  | _ => none

/-- Bits [127:64] of a product. -/
def high64 (x : Int) : Dword := BitVec.ofInt 64 (x / 2 ^ 64)

/-- The multiply results (R66); none where the minor is not a multiply. -/
def mulVal (fn : Nat) (a b : Dword) : Option Dword :=
  match fn with
  | 0x00 => some (a * b)
  | 0x01 => some (high64 (a.toInt * b.toInt))
  | 0x02 => some (high64 (a.toNat * b.toNat))
  | 0x03 => some (high64 (a.toInt * b.toNat))
  | 0x04 => some (wres (a.truncate 32 * b.truncate 32))
  | _ => none

/-- The immediate operations of format B other than JALR by major and m2 (R39); `pc` is the instruction's address. -/
def immVal (major m2 : Nat) (a pc : Dword) (imm : BitVec 14) : Option Dword :=
  match major, m2 with
  | 0x08, _ => some (a + imm.signExtend 64)
  | 0x09, 0 => some (a &&& imm.signExtend 64)
  | 0x09, 1 => some (a ||| imm.signExtend 64)
  | 0x09, 2 => some (a ^^^ imm.signExtend 64)
  | 0x0A, 0 => some (a <<< (imm.toNat % 64))
  | 0x0A, 1 => some (a >>> (imm.toNat % 64))
  | 0x0A, 2 => some (a.sshiftRight (imm.toNat % 64))
  | 0x0A, 3 => some (a.rotateRight (imm.toNat % 64))
  | 0x0B, 0 => some (bit01 (a.slt (imm.signExtend 64)))
  | 0x0B, 1 => some (bit01 (a.ult (imm.signExtend 64)))
  | 0x0C, 0 => some ((a <<< 14) ||| imm.zeroExtend 64)
  | 0x0D, 0 => some (pc + (imm.signExtend 64 <<< 2))
  | 0x0D, 1 => some (pc + (imm.signExtend 64 <<< 16))
  | _, _ => none

/-! ### Packed decimal (R70-R72) -/

/-- Digit `i` of a packed-decimal operand: d0 in [7:4]. -/
def decDigit (x : Dword) (i : Nat) : Nat := fld x (4 * i + 7) (4 * i + 4)

/-- Every digit is 0-9 and the sign nibble is 0xC, 0xD or 0xF (R70). -/
def decValid (x : Dword) : Bool :=
  (List.range 15).all (fun i => decide (decDigit x i ≤ 9)) &&
    (fld x 3 0 = 0xC || fld x 3 0 = 0xD || fld x 3 0 = 0xF)

/-- The value of a valid operand. -/
def decValue (x : Dword) : Int :=
  let m : Nat := (List.range 15).foldl (fun acc i => acc + decDigit x i * 10 ^ i) 0
  if fld x 3 0 = 0xD then -m else m

/-- The fifteen low digits of a magnitude with a sign nibble. -/
def decPack (mag sign : Nat) : Dword :=
  BitVec.ofNat 64 ((List.range 15).foldl (fun acc i => acc + (mag / 10 ^ i % 10) * 16 ^ (i + 1)) sign)

/-- DADD and DSUB (R71, R72): the result, if one is written, and the flags DC, DV, DZI of `ASTAT`. -/
def decOp (sub : Bool) (a b : Dword) : Option Dword × BitVec 3 :=
  if decValid a && decValid b then
    let x := if sub then decValue a - decValue b else decValue a + decValue b
    (some (decPack x.natAbs (if x < 0 then 0xD else 0xC)), if 10 ^ 15 ≤ x.natAbs then 4 else 0)
  else (none, 2)

end Sys2Proof.Machine
end

