-- ==== Sys2Proof/Machine/Float.lean ====
section
/-! DEFINITION. IEEE 754-2019 arithmetic as R73-R87 give it: operands are taken apart, the exact result is formed, and
one function rounds it. Flags are NV DZ OF UF NX in bits 4 to 0, as in `FCSR`. -/

namespace Sys2Proof.Machine

/-- The five flags. -/
abbrev FFlags := BitVec 5
/-- Invalid operation. -/
def fNV : FFlags := 0x10
/-- Division by zero. -/
def fDZ : FFlags := 0x08
/-- Overflow, which also raises inexact. -/
def fOF : FFlags := 0x05
/-- Underflow with inexact. -/
def fUF : FFlags := 0x03
/-- Inexact. -/
def fNX : FFlags := 0x01

/-- A format: precision, width of the exponent field, total width. -/
structure Fmt where
  p : Nat
  ebits : Nat
  deriving DecidableEq, Repr

/-- binary64. -/
def f64 : Fmt := ⟨53, 11⟩
/-- binary32. -/
def f32 : Fmt := ⟨24, 8⟩
/-- The format of a .D (true) or .S instruction. -/
def fmtOf (dbl : Bool) : Fmt := if dbl then f64 else f32

/-- The exponent of the largest binade. -/
def Fmt.emax (f : Fmt) : Int := 2 ^ (f.ebits - 1) - 1
/-- The exponent of the smallest normal number. -/
def Fmt.emin (f : Fmt) : Int := 1 - f.emax
/-- The bits of infinity. -/
def Fmt.inf (f : Fmt) : Nat := (2 ^ f.ebits - 1) * 2 ^ (f.p - 1)
/-- The bits of the canonical quiet NaN (R78). -/
def Fmt.qnan (f : Fmt) : Nat := f.inf + 2 ^ (f.p - 2)
/-- The sign bit. -/
def Fmt.signBit (f : Fmt) : Nat := 2 ^ (f.p - 1 + f.ebits)
/-- A sign and a magnitude. -/
def Fmt.mk' (f : Fmt) (neg : Bool) (mag : Nat) : Nat := if neg then f.signBit + mag else mag

/-- A value: a NaN (signalling or quiet), an infinity, or ±m × 2^e. -/
inductive Fv where
  | nan (sig : Bool)
  | inf (neg : Bool)
  | fin (neg : Bool) (m : Nat) (e : Int)
  deriving DecidableEq, Repr

/-- The value that bits spell. -/
def Fmt.unpack (f : Fmt) (x : Nat) : Fv :=
  let neg := decide (x / f.signBit % 2 = 1)
  let ex := x / 2 ^ (f.p - 1) % 2 ^ f.ebits
  let fr := x % 2 ^ (f.p - 1)
  if ex = 2 ^ f.ebits - 1 then (if fr = 0 then .inf neg else .nan (decide (fr < 2 ^ (f.p - 2))))
  else if ex = 0 then .fin neg fr (f.emin - (f.p - 1))
  else .fin neg (fr + 2 ^ (f.p - 1)) (f.emin - (f.p - 1) + (ex - 1 : Nat))

/-- `m` ÷ 2^`sh` rounded in mode `rm` (R75) for a number of sign `neg`, and whether it is inexact. A reserved mode, which only a write
of `DIVST7` can bring to an operation, rounds as to nearest, ties away (DESIGN CHOICE, assumption 40). -/
def roundShift (rm : Nat) (neg : Bool) (m sh : Nat) : Nat × Bool :=
  let q := m >>> sh
  let r := m % 2 ^ sh
  if r = 0 then (q, false)
  else
    let half := 2 ^ (sh - 1)
    let up :=
      match rm with
      | 0 => decide (half < r) || (decide (r = half) && decide (q % 2 = 1))
      | 1 => false
      | 2 => neg
      | 3 => !neg
      | _ => decide (half ≤ r)
    (if up then q + 1 else q, true)

/-- `m` × 2^`e` in units of 2^`q`. -/
def quantise (rm : Nat) (neg : Bool) (m : Nat) (e q : Int) : Nat × Bool :=
  if q ≤ e then (m <<< (e - q).toNat, false) else roundShift rm neg m (q - e).toNat

/-- The overflowing result (R77). -/
def Fmt.overflow (f : Fmt) (rm : Nat) (neg : Bool) : Nat :=
  let toInf := match rm with
    | 1 => false
    | 2 => neg
    | 3 => !neg
    | _ => true
  f.mk' neg (if toInf then f.inf else f.inf - 1)

/-- The exact number ±m × 2^e rounded into the format, with its flags; tininess is detected after rounding (R76). -/
def Fmt.round (f : Fmt) (rm : Nat) (neg : Bool) (m : Nat) (e : Int) : Nat × FFlags :=
  if m = 0 then (f.mk' neg 0, 0)
  else
    let msb : Int := e + m.log2
    let u := quantise rm neg m e (msb - (f.p - 1))
    let expo := if u.1 = 2 ^ f.p then msb + 1 else msb
    if f.emax < expo then (f.overflow rm neg, fOF)
    else if f.emin ≤ msb then
      let sig := if u.1 = 2 ^ f.p then 2 ^ (f.p - 1) else u.1
      (f.mk' neg ((expo - f.emin).toNat * 2 ^ (f.p - 1) + sig), if u.2 then fNX else 0)
    else
      let d := quantise rm neg m e (f.emin - (f.p - 1))
      (f.mk' neg d.1, if d.2 then (if expo < f.emin then fUF else fNX) else 0)

/-- An exact zero result of a sum: +0, but −0 toward −∞ (R80). -/
def sumZeroNeg (rm : Nat) : Bool := rm = 2

/-- The sum of two finite values, rounded. -/
def Fmt.addFin (f : Fmt) (rm : Nat) (na : Bool) (ma : Nat) (ea : Int) (nb : Bool) (mb : Nat) (eb : Int) :
    Nat × FFlags :=
  let e := min ea eb
  let x : Int := (if na then -1 else 1) * ((ma <<< (ea - e).toNat : Nat) : Int)
  let y : Int := (if nb then -1 else 1) * ((mb <<< (eb - e).toNat : Nat) : Int)
  let z := x + y
  if z = 0 then
    (f.mk' (if ma = 0 ∧ mb = 0 ∧ na = nb then na else sumZeroNeg rm) 0, 0)
  else f.round rm (decide (z < 0)) z.natAbs e

/-- A NaN result: NV for a signalling operand (R78). -/
def nanFlags (l : List Fv) : FFlags := if l.any (fun v => v = .nan true) then fNV else 0

/-- Whether a value is a NaN. -/
def Fv.isNan : Fv → Bool
  | .nan _ => true
  | _ => false

/-- The value with the sign changed. -/
def Fv.negate : Fv → Fv
  | .nan s => .nan s
  | .inf n => .inf (!n)
  | .fin n m e => .fin (!n) m e

/-- Addition (R80). -/
def Fmt.add (f : Fmt) (rm : Nat) (a b : Fv) : Nat × FFlags :=
  match a, b with
  | .inf x, .inf y => if x = y then (f.mk' x f.inf, 0) else (f.qnan, fNV)
  | .inf x, .fin .. => (f.mk' x f.inf, 0)
  | .fin .., .inf y => (f.mk' y f.inf, 0)
  | .fin na ma ea, .fin nb mb eb => f.addFin rm na ma ea nb mb eb
  | a, b => (f.qnan, nanFlags [a, b])

/-- Multiplication (R81). -/
def Fmt.mul (f : Fmt) (rm : Nat) (a b : Fv) : Nat × FFlags :=
  match a, b with
  | .inf x, .inf y => (f.mk' (x ^^ y) f.inf, 0)
  | .inf x, .fin y m _ => if m = 0 then (f.qnan, fNV) else (f.mk' (x ^^ y) f.inf, 0)
  | .fin x m _, .inf y => if m = 0 then (f.qnan, fNV) else (f.mk' (x ^^ y) f.inf, 0)
  | .fin x m e, .fin y n d => f.round rm (x ^^ y) (m * n) (e + d)
  | a, b => (f.qnan, nanFlags [a, b])

/-- a × b + c rounded once (R81): 0 × ∞ is invalid for every c. -/
def Fmt.fma (f : Fmt) (rm : Nat) (a b c : Fv) : Nat × FFlags :=
  let invalid := match a, b with
    | .inf _, .fin _ m _ => decide (m = 0)
    | .fin _ m _, .inf _ => decide (m = 0)
    | _, _ => false
  if invalid then (f.qnan, fNV)
  else if a.isNan || b.isNan || c.isNan then (f.qnan, nanFlags [a, b, c])
  else
    let prod : Fv := match a, b with
      | .inf x, .inf y => .inf (x ^^ y)
      | .inf x, .fin y _ _ => .inf (x ^^ y)
      | .fin x _ _, .inf y => .inf (x ^^ y)
      | .fin x m e, .fin y n d => .fin (x ^^ y) (m * n) (e + d)
      | a, _ => a
    f.add rm prod c

/-- Division (R82): the quotient to enough digits, with a last digit that tells an inexact one. -/
def Fmt.div (f : Fmt) (rm : Nat) (a b : Fv) : Nat × FFlags :=
  match a, b with
  | .inf _, .inf _ => (f.qnan, fNV)
  | .inf x, .fin y _ _ => (f.mk' (x ^^ y) f.inf, 0)
  | .fin x _ _, .inf y => (f.mk' (x ^^ y) 0, 0)
  | .fin x m e, .fin y n d =>
    if n = 0 then (if m = 0 then (f.qnan, fNV) else (f.mk' (x ^^ y) f.inf, fDZ))
    else if m = 0 then (f.mk' (x ^^ y) 0, 0)
    else
      let k := f.p + 3 + n.log2
      let num := m <<< k
      let q := num / n
      f.round rm (x ^^ y) (2 * q + (if num % n = 0 then 0 else 1)) (e - d - k - 1)
  | a, b => (f.qnan, nanFlags [a, b])

/-- The integer square root, bit by bit from bit `k` − 1 down. -/
def isqrt (n : Nat) : Nat → Nat → Nat
  | 0, r => r
  | k + 1, r => isqrt n k (if (r + 2 ^ k) * (r + 2 ^ k) ≤ n then r + 2 ^ k else r)

/-- Square root (R82). -/
def Fmt.sqrt (f : Fmt) (rm : Nat) (a : Fv) : Nat × FFlags :=
  match a with
  | .nan s => (f.qnan, if s then fNV else 0)
  | .inf n => if n then (f.qnan, fNV) else (f.inf, 0)
  | .fin n m e =>
    if m = 0 then (f.mk' n 0, 0)
    else if n then (f.qnan, fNV)
    else
      let odd := decide (e % 2 = 1)
      let m1 := (if odd then 2 * m else m) <<< (2 * (f.p + 3))
      let e1 := ((if odd then e - 1 else e) - 2 * (f.p + 3)) / 2
      let r := isqrt m1 (m1.log2 / 2 + 1) 0
      f.round rm false (2 * r + (if r * r = m1 then 0 else 1)) (e1 - 1)

/-- An order on values that are no NaN: −0 and +0 are equal. -/
def Fv.lt (a b : Fv) : Bool :=
  match a, b with
  | .inf x, .inf y => x && !y
  | .inf x, .fin .. => x
  | .fin .., .inf y => !y
  | .fin x m e, .fin y n d =>
    let q := min e d
    let u : Int := (if x then -1 else 1) * ((m <<< (e - q).toNat : Nat) : Int)
    let v : Int := (if y then -1 else 1) * ((n <<< (d - q).toNat : Nat) : Int)
    decide (u < v)
  | _, _ => false

/-- Equality of values (R83). -/
def Fv.eq (a b : Fv) : Bool := !a.isNan && !b.isNan && !a.lt b && !b.lt a

/-- The sign of a value. -/
def Fv.neg : Fv → Bool
  | .nan _ => false
  | .inf n => n
  | .fin n _ _ => n

/-- minimumNumber and maximumNumber (R83): the chosen operand's bits unchanged. -/
def Fmt.minmax (f : Fmt) (mx : Bool) (x y : Nat) : Nat × FFlags :=
  let a := f.unpack x
  let b := f.unpack y
  let fl := nanFlags [a, b]
  if a.isNan && b.isNan then (f.qnan, fl)
  else if a.isNan then (y, fl)
  else if b.isNan then (x, fl)
  else
    let aFirst := a.lt b || (a.eq b && a.neg)
    (if aFirst != mx then x else y, fl)

/-- FEQ (0), FLT (1), FLE (2) (R83). FLT of −0 and +0, in this order, is 1, as the table's row states it. -/
def Fmt.compare (f : Fmt) (op : Nat) (x y : Nat) : Bool × FFlags :=
  let a := f.unpack x
  let b := f.unpack y
  if a.isNan || b.isNan then (false, if op = 0 then nanFlags [a, b] else fNV)
  else
    match op with
    | 0 => (a.eq b, 0)
    | 1 => (a.lt b || (a.eq b && a.neg && !b.neg), 0)
    | _ => (a.lt b || a.eq b, 0)

/-- FCLASS (R84): the number of the one bit set. -/
def Fmt.classBit (f : Fmt) (x : Nat) : Nat :=
  match f.unpack x with
  | .nan s => if s then 0 else 1
  | .inf n => if n then 9 else 2
  | .fin n m _ =>
    if m = 0 then (if n then 6 else 5)
    else if m < 2 ^ (f.p - 1) then (if n then 7 else 4)
    else if n then 8 else 3

/-- Conversion to a 64-bit integer, signed or unsigned (R86). -/
def Fmt.toInt64 (f : Fmt) (rm : Nat) (sgn : Bool) (x : Nat) : Dword × FFlags :=
  let hiV : Int := if sgn then 2 ^ 63 - 1 else 2 ^ 64 - 1
  let loV : Int := if sgn then -(2 ^ 63) else 0
  match f.unpack x with
  | .nan _ => (BitVec.ofInt 64 hiV, fNV)
  | .inf n => (BitVec.ofInt 64 (if n then loV else hiV), fNV)
  | .fin n m e =>
    let r := quantise rm n m e 0
    let v : Int := if n then -(r.1 : Int) else r.1
    if v < loV then (BitVec.ofInt 64 loV, fNV)
    else if hiV < v then (BitVec.ofInt 64 hiV, fNV)
    else (BitVec.ofInt 64 v, if r.2 then fNX else 0)

/-- Conversion from an integer (R87). -/
def Fmt.ofInt (f : Fmt) (rm : Nat) (v : Int) : Nat × FFlags := f.round rm (decide (v < 0)) v.natAbs 0

/-- Conversion between formats (R85). -/
def Fmt.convert (f g : Fmt) (rm : Nat) (x : Nat) : Nat × FFlags :=
  match f.unpack x with
  | .nan s => (g.qnan, if s then fNV else 0)
  | .inf n => (g.mk' n g.inf, 0)
  | .fin n m e => g.round rm n m e

/-- The operand bits of a format in an f register (R37). -/
def Fmt.bits (f : Fmt) (x : Dword) : Nat := if f.p = 24 then x.toNat % 2 ^ 32 else x.toNat

/-- FADD, FSUB, FMUL, FMIN, FMAX, FSGNJ, FSGNJN, FSGNJX by minor (R39); none for the starts and for reserved minors. -/
def fpVal (dbl : Bool) (fn rm : Nat) (a b : Dword) : Option (Dword × FFlags) :=
  let f := fmtOf dbl
  let x := f.bits a
  let y := f.bits b
  let mag := x % f.signBit
  let sx := decide (x / f.signBit = 1)
  let sy := decide (y / f.signBit = 1)
  let pack (r : Nat × FFlags) : Option (Dword × FFlags) := some (BitVec.ofNat 64 r.1, r.2)
  match fn with
  | 0x00 => pack (f.add rm (f.unpack x) (f.unpack y))
  | 0x01 => pack (f.add rm (f.unpack x) (f.unpack y).negate)
  | 0x02 => pack (f.mul rm (f.unpack x) (f.unpack y))
  | 0x05 => pack (f.minmax false x y)
  | 0x06 => pack (f.minmax true x y)
  | 0x07 => pack (f.mk' sy mag, 0)
  | 0x08 => pack (f.mk' (!sy) mag, 0)
  | 0x09 => pack (f.mk' (sx ^^ sy) mag, 0)
  | _ => none

/-- The fused operations by fn[2:0] (R39, R81): the negations act on operands, so the result is rounded once. -/
def fmaVal (op rm : Nat) (a b c : Dword) : Dword × FFlags :=
  let f := fmtOf (decide (op < 4))
  let x := f.unpack (f.bits a)
  let y := f.unpack (f.bits b)
  let z := f.unpack (f.bits c)
  let r := match op % 4 with
    | 0 => f.fma rm x y z
    | 1 => f.fma rm x y z.negate
    | 2 => f.fma rm x.negate y z.negate
    | _ => f.fma rm x.negate y z
  (BitVec.ofNat 64 r.1, r.2)

/-- FPX by minor (R39): whether the result goes to an integer register, the result and the flags. -/
def fpxVal (fn rm : Nat) (a b ga : Dword) : Option (Bool × Dword × FFlags) :=
  let flt (r : Nat × FFlags) : Option (Bool × Dword × FFlags) := some (false, BitVec.ofNat 64 r.1, r.2)
  let int (r : Dword × FFlags) : Option (Bool × Dword × FFlags) := some (true, r.1, r.2)
  let cmp (dbl : Bool) (op : Nat) : Option (Bool × Dword × FFlags) :=
    let f := fmtOf dbl
    let r := f.compare op (f.bits a) (f.bits b)
    some (true, bit01 r.1, r.2)
  match fn with
  | 0x00 => cmp true 0
  | 0x01 => cmp true 1
  | 0x02 => cmp true 2
  | 0x03 => cmp false 0
  | 0x04 => cmp false 1
  | 0x05 => cmp false 2
  | 0x08 => flt (f32.convert f64 rm (f32.bits a))
  | 0x09 => flt (f64.convert f32 rm (f64.bits a))
  | 0x0A => int (f64.toInt64 rm true (f64.bits a))
  | 0x0B => flt (f64.ofInt rm ga.toInt)
  | 0x0C => int (f32.toInt64 rm true (f32.bits a))
  | 0x0D => flt (f32.ofInt rm ga.toInt)
  | 0x0E => int (f64.toInt64 rm false (f64.bits a))
  | 0x0F => flt (f64.ofInt rm ga.toNat)
  | 0x10 => some (true, a, 0)
  | 0x11 => some (false, ga, 0)
  | 0x12 => some (true, BitVec.ofNat 64 (2 ^ f64.classBit (f64.bits a)), 0)
  | 0x13 => some (true, BitVec.ofNat 64 (2 ^ f32.classBit (f32.bits a)), 0)
  | _ => none

end Sys2Proof.Machine
end

