-- ==== Sys2Proof/Machine/Flags.lean ====
section
/-! DEFINITION. The results of computational instructions with their flags and their distances (R39, R42, R44, R47, R75): one
pure function of the sources, which an instruction and a custom micro-operation share (R63). -/

namespace Sys2Proof.Machine

/-- A computational operation: its major and its minor. -/
inductive Cop where
  | int (fn : Nat)
  | mul (fn : Nat)
  | dec (sub : Bool)
  | fp (dbl : Bool) (fn : Nat)
  | fma (op : Nat)
  | fpx (fn : Nat)
  | imm (major m2 : Nat)
  deriving DecidableEq, Repr

/-- The sources of a position, all read at the position (R46). -/
structure Srcs where
  g1 : Dword := 0
  g2 : Dword := 0
  gd : Dword := 0
  f1 : Dword := 0
  f2 : Dword := 0
  f3 : Dword := 0
  pc : Dword := 0
  imm : BitVec 14 := 0
  /-- The instruction's RM field and the mode in `FCSR`. -/
  rm : Nat := 0
  frm : Nat := 0
  deriving DecidableEq, Repr

/-- A result: its value, if one is written, the register file, the flags and the distance. -/
structure CopRes where
  val : Option Dword
  isF : Bool
  ff : BitVec 5
  af : BitVec 3
  dist : Nat
  deriving DecidableEq, Repr

/-- The operation rounds by RM (R42, R75). -/
def Cop.rounds : Cop → Bool
  | .fp _ fn => decide (fn ≤ 4)
  | .fma _ => true
  | .fpx fn => decide (8 ≤ fn ∧ fn ≤ 0xF)
  | _ => false

/-- The distance of the result (R44). -/
def Cop.dist : Cop → Nat
  | .int _ | .imm _ _ => 1
  | .mul _ | .dec _ => 2
  | .fp _ fn => if fn ≤ 2 then 4 else 2
  | .fma _ => 5
  | .fpx fn => if 8 ≤ fn ∧ fn ≤ 0xF then 4 else 2

/-- The rounding mode in force (R75). -/
def Srcs.mode (x : Srcs) : Nat := if x.rm = 7 then x.frm else x.rm

/-- The result of an operation; none where it is a reserved instruction (R40, R42). -/
def Cop.run (op : Cop) (x : Srcs) : Option CopRes :=
  if op.rounds && (x.rm = 5 || x.rm = 6) then none
  else
    match op with
    | .int fn => (intVal fn x.g1 x.g2 x.gd).map (fun v => ⟨some v, false, 0, 0, op.dist⟩)
    | .mul fn => (mulVal fn x.g1 x.g2).map (fun v => ⟨some v, false, 0, 0, op.dist⟩)
    | .dec sub => let r := decOp sub x.g1 x.g2; some ⟨r.1, false, 0, r.2, op.dist⟩
    | .fp dbl fn => (fpVal dbl fn x.mode x.f1 x.f2).map (fun r => ⟨some r.1, true, r.2, 0, op.dist⟩)
    | .fma k => let r := fmaVal k x.mode x.f1 x.f2 x.f3; some ⟨some r.1, true, r.2, 0, op.dist⟩
    | .fpx fn => (fpxVal fn x.mode x.f1 x.f2 x.g1).map (fun r => ⟨some r.2.1, !r.1, r.2.2, 0, op.dist⟩)
    | .imm major m2 => (immVal major m2 x.g1 x.pc x.imm).map (fun v => ⟨some v, false, 0, 0, op.dist⟩)

/-! ### The iterative units (R58, R67-R69, R82) -/

/-- The quotient or the remainder from the magnitudes and the fields of `DIVST3`. -/
def intIter (a b ctl : Dword) : Dword :=
  let op := fld ctl 3 2
  if op ≤ 1 then
    if b = 0 then BitVec.allOnes 64
    else
      let q : Dword := BitVec.ofNat 64 (a.toNat / b.toNat)
      if bit ctl 11 then -q else q
  else
    let r : Dword := if b = 0 then a else BitVec.ofNat 64 (a.toNat % b.toNat)
    if bit ctl 12 then -r else r

/-- The magnitude of a signed value. -/
def magnitude (signed : Bool) (a : Dword) : Dword := if signed && a.msb then -a else a

/-- `DIVST3` at a start: OP, the signs to apply, 64 cycles, BUSY; HELD is clear. -/
def intStart (op : Nat) (a b : Dword) : Dword :=
  let signed := op = 0 || op = 2
  BitVec.ofNat 64 (1 ||| op <<< 2 ||| 64 <<< 4 ||| (signed && (a.msb ^^ b.msb)).toNat <<< 11 |||
    (signed && a.msb).toNat <<< 12)

/-- The result and the flags of the floating-point unit from its operands and the fields of `DIVST7`. -/
def fpIter (a b ctl : Dword) : Dword × FFlags :=
  let f := fmtOf (bit ctl 3)
  let rm := fld ctl 6 4
  let r := if bit ctl 2 then f.sqrt rm (f.unpack (f.bits a)) else f.div rm (f.unpack (f.bits a)) (f.unpack (f.bits b))
  (BitVec.ofNat 64 r.1, r.2)

/-- `DIVST7` at a start: the format, the operation, the mode fixed (R75), 53 or 24 cycles, BUSY. -/
def fpStart (dbl sqrt : Bool) (rm : Nat) : Dword :=
  BitVec.ofNat 64 (1 ||| sqrt.toNat <<< 2 ||| dbl.toNat <<< 3 ||| rm <<< 4 ||| (if dbl then 53 else 24) <<< 7)

end Sys2Proof.Machine
end

