-- ==== Sys2Proof/Machine/Engine.lean ====
section
/-! DEFINITION. One position of a core: results that fall due, the delay slot, the fetch, the instruction's own part, and the
position's end (R43, R54-R56, R88, R89, R101, R102, R466). -/

namespace Sys2Proof.Machine

/-- What an instruction's own part comes to. -/
inductive PosRes where
  /-- The core is frozen: the position has not ended (R89). -/
  | stay
  /-- The position has not ended, and stands at a boundary that accepts interrupts (R127). -/
  | pause
  /-- The part has itself ended the position: an access answered at once has completed (R113). -/
  | ended (store : Bool)
  | trap (x : Trap)
  /-- The position ends; a branch names its delay slot. -/
  | next (h : Happened) (slot : Option SlotSt)
  /-- The part has itself set where the core goes on: a call's entry, a return, a context that leaves. -/
  | moved (h : Happened)
  deriving DecidableEq, Repr

/-- Core `c` issues instructions now: it runs, is not halted, waits for no device, and is its stream's core (R194). -/
def State.issuing (s : State) (c : Nat) : Bool :=
  let k := s.core c
  decide (k.run = .running) && !k.halted && k.dev.isNone && decide (s.leadOf c = c)

/-- A line enters an L1 (R120): the lowest invalid way, else ways in rotation per set. -/
def l1Put (ls : List L1Line) (rot : SMap Nat) (ways sets line : Nat) (w : Bool) : List L1Line × SMap Nat :=
  let set := line % sets
  let inSet := ls.filter (fun l => decide (l.line.toNat % sets = set))
  let new := fun way => (⟨BitVec.ofNat 40 line, way, w⟩ : L1Line)
  match (List.range ways).find? (fun v => !inSet.any (fun l => decide (l.way = v))) with
  | some v => (ls ++ [new v], rot)
  | none =>
    let v := SMap.get 0 rot set
    (ls.filter (fun l => !(decide (l.line.toNat % sets = set) && decide (l.way = v))) ++ [new v],
      SMap.put 0 rot set ((v + 1) % ways))

/-- A line is resident in an L1. -/
def l1Has (ls : List L1Line) (line : Nat) : Bool := ls.any (fun l => decide (l.line.toNat = line))

/-- `CORE_CACHE`. -/
def coreCacheR (c : Nat) : RegRef := ⟨.coreCache, trioOf c, coreIn c, 0⟩

/-- A line enters core `c`'s L1I. -/
def State.l1iPut (s : State) (c line : Nat) (w : Bool) : State :=
  s.modCore c (fun k =>
    let r := l1Put k.l1i k.l1iRot 4 128 line w
    { k with l1i := r.1, l1iRot := r.2 })

/-- A fetch made while an older branch is unresolved (R98): it refills the ITLB from the second level and the L1I from the L2,
whose ages it leaves alone, or is dropped and counted. A fetch of a UC or WC page, and of a region that the L1I does not hold, is
not made. Answers whether it has brought its instruction. -/
def State.specFetch (s : State) (c : Nat) (pc : Dword) : State × Bool :=
  if pc.toNat % 4 ≠ 0 then (s, false)
  else
    match s.specPage c pc with
    | (s, none) => ((s.countCore c 0x0C).countCore c 0x0B, false)
    | (s, some p) =>
      if p.region = .unpopulated ∨ p.ty = .devStrict ∨ p.ty = .devRelaxed then
        ((s.countCore c 0x0C).countCore c 0x0B, false)
      else if p.region ≠ .dram ∨ p.ty = .uc ∨ p.ty = .wc then (s, false)
      else
        let s := s.countCore c 0x0C
        let k := s.core c
        let line := p.pa / 64
        let en := bit (s.reg (coreCacheR c)) 0
        if (en && l1Has k.l1i line) || decide (k.fbuf = some (BitVec.ofNat 40 line)) then (s, true)
        else
          let s := s.countCore c 0x03
          match (if s.l2On (trioOf c) then ((s.trio (trioOf c)).l2.find line).filter (fun l => l.visible k.w) else none) with
          | none => (s, false)
          | some l =>
            if l.poison then (s.countCore c 0x0B, false)
            else if en then (s.l1iPut c line k.w, true)
            else (s, false)

/-- The fetches that follow a branch at the PC until it is resolved (R97, R98): the delay slot's, then, by `guess`, those at the
predicted target or the sequential ones. Those of a wrong path are made and leave what R97 lets them leave; the others come with
their positions. DESIGN CHOICE (assumption 45): three fetches follow the delay slot's before a branch is resolved. -/
def State.followed (s : State) (c : Nat) (guess : Option Dword) (next : Dword) : State :=
  let k := s.core c
  let path := (if k.pred then guess else none).getD (k.arch.pc + 8)
  if path = next then s.modCore c (fun k => { k with spec := (List.range 4).map (fun i => k.arch.posn + 1 + i) })
  else
    forN 3 (fun i s => (s.specFetch c (path + BitVec.ofNat 64 (4 * i))).1)
      (s.modCore c (fun k => { k with spec := [k.arch.posn + 1] }))

/-- The fetch of the instruction at the PC on the correct path (R466, R185). The command brings the instruction itself; the fetch
decides whether it may be executed and what it leaves in the caches. -/
def State.fetchNow (s : State) (c : Nat) : State × Got Unit :=
  let pc := (s.core c).arch.pc
  if pc.toNat % 4 ≠ 0 then (s, .trap { cause := 0x01, eva := pc })
  else
    let s := s.countCore c 0x0C
    match s.translate c .fetch pc with
    | (s, .trap x) => (s, .trap x)
    | (s, .stay) => (s, .stay)
    | (s, .ok p) =>
      let line := p.pa / 64
      let t := trioOf c
      let w := (s.core c).w
      let rq := s.rq c (s.tidOn c) w line false
      if p.region = .unpopulated then (s, .trap { cause := 0x0F, sub := 1, eva := pc })
      else if p.ty = .devStrict ∨ p.ty = .devRelaxed then (s, .trap { cause := 0x03, eva := pc })
      else if p.region ≠ .dram then (s.modCore c (fun k => { k with fbuf := some (BitVec.ofNat 40 line) }), .ok ())
      else if p.ty = .uc ∨ p.ty = .wc then
        if (s.core c).fbuf = some (BitVec.ofNat 40 line) then (s, .ok ())
        else
          match s.rdShared rq line true false with
          | (s, .error _) => (s, .trap { cause := 0x03, sub := 3, eva := pc })
          | (s, .ok (_, psn, _)) =>
            if psn then (s, .trap { cause := 0x0E, eva := pc })
            else (s.modCore c (fun k => { k with fbuf := some (BitVec.ofNat 40 line) }), .ok ())
      else
        let en := bit (s.reg (coreCacheR c)) 0
        if (en && l1Has (s.core c).l1i line) || decide ((s.core c).fbuf = some (BitVec.ofNat 40 line)) then (s, .ok ())
        else
          let s := s.countCore c 0x03
          match s.l2Demand t rq line with
          | (s, .error _) => (s, .trap { cause := 0x03, sub := 3, eva := pc })
          | (s, .ok (_, psn, held, _)) =>
            if psn then (s, .trap { cause := 0x0E, eva := pc })
            else if held && en then ((s.l1iPut c line w).modCore c (fun k => { k with fbuf := none }), .ok ())
            else (s.modCore c (fun k => { k with fbuf := some (BitVec.ofNat 40 line) }), .ok ())

/-- The fetch of the instruction at the PC: first as a speculative one where an older branch was unresolved, and again as an
ordinary one where that has not brought it (R98). -/
def State.fetch (s : State) (c : Nat) : State × Got Unit :=
  let k := s.core c
  if k.spec.contains k.arch.posn then
    match (s.modCore c (fun k => { k with spec := k.spec.erase k.arch.posn })).specFetch c k.arch.pc with
    | (s, true) => (s, .ok ())
    | (s, false) => s.fetchNow c
  else s.fetchNow c

/-- A position ends: the core is frozen no longer, and a single step has been taken, after which it halts again (R220). -/
def Core.endStep (k : Core) : Core :=
  { k with frozen := false, halted := k.halted || k.stepOne, stepOne := false }

/-- The position of core `c` has not ended: it is frozen (R89). -/
def State.freeze (s : State) (c : Nat) : State := s.modCore c (fun k => { k with frozen := true })

/-- A position that ends with what happened in it. -/
def State.endPos (s : State) (c : Nat) (pc : Dword) (h : Happened) : State := (s.afterPos c pc h).modCore c Core.endStep

/-- A position that ends in a trap of its instruction `w`. -/
def State.trapPos (s : State) (c : Nat) (w : Word) (x : Trap) : State :=
  let s := s.afterPos c (s.core c).arch.pc { trapped := true }
  (s.trap c { x with word := w }).modCore c Core.endStep

/-- What a position brings to the comparators as `s` becomes `t` (R197). A fetch from the L2 shows in a line of the L1I or a fetch
buffer that is new, a drain in an entry that has left the merging buffer, a writeback in a result on its way. -/
def State.brings (s t : State) (c : Nat) (w : Word) (h : Happened) : Items :=
  let k := s.core c
  let m := t.core c
  let asked := m.l1i.any (fun l => !l1Has k.l1i l.line.toNat) || (m.fbuf.isSome && decide (m.fbuf ≠ k.fbuf))
  let drained := k.merge.any (fun e => !m.merge.any (fun x => decide (x.line = e.line)))
  let far := h.acc.any (fun a => decide (3 ≤ a.served))
  let store := h.acc.any (fun a => decide (a.kind ≠ 0))
  { l1 := true, store := store, l2 := far || asked || drained, l2data := (far && store) || drained
    dispatch := h.dispatch, trap := h.trapped, step := true
    welt := decide (t.rf (weltStatR (trioOf c)) 47 0 ≠ s.rf (weltStatR (trioOf c)) 47 0)
    wrote := !h.trapped && (decide (wfld w 31 26 = 0x30 ∧ wfld w 15 12 = 1) ||
      m.arch.pend.any (fun r => r.reg.isSome && !k.arch.pend.contains r))
    retired := !h.trapped }

/-- Core `c` executes instruction `w` as its next position; `forbid`: it may not stand in a delay slot (R55). An annulled slot
takes its position and changes nothing. With what becomes of the core comes what the position brings to the comparators: nothing
while it is frozen, apart from an access that leaves for a device. -/
def State.positionRun (s : State) (c : Nat) (w : Word) (forbid : Bool) (body : State → State × PosRes) : State × Option Items :=
  let ends := fun (t : State) (h : Happened) => (t, some (s.brings t c w h))
  let traps := fun (t : State) (x : Trap) => ends (t.trapPos c w x) { trapped := true }
  let stays := fun (t : State) => (t.freeze c, (t.core c).dev.map (fun a =>
    ({ l1 := true, store := a.store, l2 := true, l2data := a.store } : Items)))
  let u := s.modCore c (fun k => k.settle k.arch.posn)
  let k := u.core c
  let pc := k.arch.pc
  let fin := fun (t : State) (h : Happened) (slot : Option SlotSt) =>
    ends ((t.modCore c (fun k => k.advance slot)).endPos c pc h) h
  if (k.arch.slot.map (·.annul)) = some true then
    if forbid then traps u { cause := 0x07 } else fin u {} none
  else
    match u.fetch c with
    | (t, .stay) => stays t
    | (t, .trap x) => traps t x
    | (t, .ok _) =>
      if forbid && k.arch.slot.isSome then traps t { cause := 0x07 }
      else
        match body t with
        | (t, .stay) => stays t
        | (t, .pause) => (t.modCore c (fun k => { k with frozen := false }), none)
        | (t, .ended st) => (t, some { l1 := true, store := st, l2 := true, l2data := st, step := true, retired := true })
        | (t, .trap x) => traps t x
        | (t, .next h slot) => fin t h slot
        | (t, .moved h) => ends (t.endPos c pc h) h

/-- One position of core `c`, compared where its stream is redundant. -/
def State.position (s : State) (c : Nat) (w : Word) (forbid : Bool) (body : State → State × PosRes) : State :=
  if !s.issuing c then s
  else
    match s.positionRun c w forbid body with
    | (t, none) => t
    | (t, some x) => s.compared t c x

/-! ### Computational instructions -/

/-- The rounding mode in `FCSR`. -/
def Core.frm (k : Core) : Nat := fld (k.csr 0x002) 7 5

/-- The sources that register fields and an immediate name. -/
def Core.srcs (k : Core) (rd r1 r2 r3 : BitVec 5) (rm : Nat) (imm : BitVec 14) : Srcs :=
  { g1 := k.g r1, g2 := k.g r2, gd := k.g rd, f1 := k.f r1, f2 := k.f r2, f3 := k.f r3
    pc := k.arch.pc, imm := imm, rm := rm, frm := k.frm }

/-- The key of a destination; none for g0, whose writes are discarded (R35). -/
def Core.dest (k : Core) (isF : Bool) (rd : BitVec 5) : Option Nat :=
  if isF then some (fKey rd) else if rd = 0 then none else some (gKey k.infast rd)

/-- A result on its way to its register (R43, R47). -/
def Core.resOf (k : Core) (r : CopRes) (rd : BitVec 5) : PendRes :=
  ⟨k.arch.posn + r.dist, r.val.bind (fun _ => k.dest r.isF rd), r.val.getD 0, r.ff, r.af, none⟩

/-- A value produced for a g or f register at a distance. -/
def Core.give (k : Core) (isF : Bool) (rd : BitVec 5) (v : Dword) (dist : Nat) : Core :=
  match k.dest isF rd with
  | none => k
  | some key => k.produce ⟨k.arch.posn + dist, some key, v, 0, 0, none⟩

/-- The part of a computational instruction: its result, or Reserved instruction (R40). -/
def State.doCop (s : State) (c : Nat) (op : Cop) (x : Srcs) (rd : BitVec 5) : State × PosRes :=
  match op.run x with
  | none => (s, .trap { cause := 0x04 })
  | some r => (s.modCore c (fun k => k.produce (k.resOf r rd)), .next {} none)

/-- A computational instruction of format A: RM in ext[4:2]. -/
def instrA (c : CoreId) (major fn : BitVec 6) (op : Cop) (o : OpsA) (s : State) : Host.Outcome State Fault Refusal :=
  done (s.position c.val (wordA major o fn) false (fun s =>
    s.doCop c.val op ((s.core c.val).srcs o.rd o.rs1 o.rs2 o.ext (fld o.ext 4 2) 0) o.rd))

/-- A fused multiply-add (R39, R81). -/
def instrFma (c : CoreId) (fn : BitVec 3) (o : OpsFma) (s : State) : Host.Outcome State Fault Refusal :=
  done (s.position c.val (wordFma o fn) false (fun s =>
    s.doCop c.val (.fma fn.toNat) ((s.core c.val).srcs o.rd o.rs1 o.rs2 o.rs3 o.rm.toNat 0) o.rd))

/-- A computational instruction of format B. -/
def instrB (c : CoreId) (major : BitVec 6) (m2 : BitVec 2) (o : OpsB) (s : State) : Host.Outcome State Fault Refusal :=
  done (s.position c.val (wordB major m2 o) false (fun s =>
    s.doCop c.val (.imm major.toNat m2.toNat) ((s.core c.val).srcs o.rd o.rs1 0 0 0 o.imm) o.rd))

end Sys2Proof.Machine
end

