-- ==== Sys2Proof/Machine/Call.lean ====
section
/-! DEFINITION. Calls, returns, interrupts and the forced return from a Sealed call (R100-R107, R209, R304-R308, R317, R323). -/

namespace Sys2Proof.Machine

/-- A call instruction of `fn4` from level `lvl` up: `take` makes its entry. -/
def callInstr (c : CoreId) (fn4 : BitVec 4) (lvl : Nat) (o : OpsF) (take : Word → State → State) (s : State) :
    Host.Outcome State Fault Refusal :=
  done (
    let w := wordF 0x31 fn4 o
    (s.position c.val w true (fun s =>
      if (s.core c.val).pl < lvl then (s, .trap { cause := 0x06 })
      else (take w (s.countCore c.val 0x01), .moved { trapped := true }))))

/-- `SEC_STAT`. -/
def secStatR : RegRef := ⟨.secStat, 0, 0, 0⟩
/-- `SEC_CTL`. -/
def secCtlR : RegRef := ⟨.secCtl, 0, 0, 0⟩

/-- MCALL (R100, R304, R305): without Sealed services the cause is Sealed service lost; an entry from W = 0 copies the call
frame and starts the watchdog. -/
def State.mcall (s : State) (c : Nat) (w : Word) (call : BitVec 12) : State :=
  let k := s.core c
  if s.rf secStatR 0 0 = 0 then s.callTrap c { cause := 0x17, sub := 1, word := w }
  else
    let s' := s.callTrap c { cause := 0x12, word := w }
    if k.w then s'
    else s'.modCore c (fun q =>
      { q with frame := some (q.mkFrame k.pl (q.csr 0x301) call), watch := 0, wdFrom := s.timebase })

/-- The request classes that come before `i` when several could be accepted (R102). -/
def ahead : IntClass → List IntClass
  | .fast => []
  | .pl2 => [.fast]
  | .normal => [.fast, .pl2]

/-- R105's conditions in a core's state. -/
def Core.acceptsNow (k : Core) (i : IntClass) : Bool :=
  !k.w && !k.infast && match i with
    | .fast => decide (k.pl ≤ 1) && k.fie
    | .pl2 => decide (k.pl ≤ 2) && k.pie
    | .normal => decide (k.pl ≤ 1) && k.nie

/-- An RFE that is abandoned for a PL1 normal interrupt (R323): the request has reached the core, the return is from the PL1
normal set, and the state restored accepts it and no interrupt that comes before it. -/
def Core.chains (k : Core) : Bool :=
  decide (k.rfeSet = .pl1) && k.intReq.contains .normal && k.rfeAccepts &&
    !(ahead .normal).any (fun i => k.intReq.contains i && (k.restore .pl1).acceptsNow i)

/-- SCALL (R100): cause 0x10. -/
def execScall (c : CoreId) (o : OpsF) (s : State) : Host.Outcome State Fault Refusal :=
  callInstr c 0 0 o (fun w s => s.callTrap c.val { cause := 0x10, word := w }) s

/-- PCALL (R100): cause 0x11, from PL1 up. -/
def execPcall (c : CoreId) (o : OpsF) (s : State) : Host.Outcome State Fault Refusal :=
  callInstr c 1 1 o (fun w s => s.callTrap c.val { cause := 0x11, word := w }) s

/-- MCALL (R100, R304): cause 0x12, from PL1 up. -/
def execMcall (c : CoreId) (o : OpsF) (s : State) : Host.Outcome State Fault Refusal :=
  callInstr c 2 1 o (fun w s => s.mcall c.val w o.sys) s

/-- RFE (R106, R107): Privileged instruction at PL0 and in R107's cases. -/
def execRfe (c : CoreId) (o : OpsF) (s : State) : Host.Outcome State Fault Refusal :=
  done (s.position c.val (wordF 0x31 3 o) true (fun s =>
    let k := s.core c.val
    if k.pl = 0 ∨ k.rfeRefused then (s, .trap { cause := 0x06 })
    else
      let s := s.countCore c.val 0x01
      if k.chains then
        (s.tailChain c.val |>.modCore c.val (fun k => { k with intReq := k.intReq.erase .normal }), .moved {})
      else (s.rfe c.val, .moved {})))

/-- BRK (R101): cause 0x13. -/
def execBrk (c : CoreId) (o : OpsF) (s : State) : Host.Outcome State Fault Refusal :=
  done (s.position c.val (wordF 0x31 4 o) false (fun s => (s, .trap { cause := 0x13 })))

/-! ### Interrupts -/

/-- The set that takes an interrupt. -/
def intSet : IntClass → TrapSet
  | .fast => .fast
  | .pl2 => .pl2
  | .normal => .pl1

/-- The cause of an interrupt. -/
def intCause : IntClass → Nat
  | .fast => 0x21
  | _ => 0x20

/-- Core `c` may take an interrupt at its boundary: it issues, or stands in WAIT, with a context on its stream (R317). -/
def State.atBoundary (s : State) (c : Nat) : Bool :=
  let k := s.core c
  decide (k.run = .running ∨ k.run = .waiting) && !k.halted && !k.frozen && k.dev.isNone && k.ctx.isSome && decide (s.leadOf c = c)

/-- An interrupt request of class `i` that has reached the core is accepted at the boundary (R102, R103, R105); the copies of a
redundant stream compare the entry (R209). -/
def State.acceptInt (s : State) (c : Nat) (i : IntClass) : State :=
  let k := s.core c
  if s.atBoundary c && k.intReq.contains i && k.acceptsNow i &&
      !(ahead i).any (fun j => k.intReq.contains j && k.acceptsNow j) then
    let t := s.modCore c (fun k => { k.settle k.arch.posn with run := .running, intReq := k.intReq.erase i })
    s.compared (t.enterTrap c (intSet i) { cause := intCause i } 0 0) c { trap := true }
  else s

/-- A raised interrupt request is accepted (R105). -/
def execInterruptAccept (c : CoreId) (k : IntClass) (s : State) : Host.Outcome State Fault Refusal :=
  done (s.acceptInt c.val k)

/-- A request reaches a core: it waits there for a boundary that accepts it, and ends a WAIT (R270, R317). -/
def State.requestAt (s : State) (c : Nat) (i : IntClass) : State :=
  if s.requested c i then
    s.modCore c (fun k => { k with
      intReq := if k.intReq.contains i then k.intReq else k.intReq ++ [i]
      run := if k.run = .waiting then .running else k.run })
  else s

/-- A request raised by the Event Gatherer reaches the core, or the Welt of a redundant stream (R209, R317). -/
def execInterruptRequest (c : CoreId) (k : IntClass) (s : State) : Host.Outcome State Fault Refusal :=
  done (
    let lead := s.leadOf c.val
    if s.throughWelt c.val then
      if s.requested lead k then
        (s.modTrio (trioOf c.val) (fun t => { t with welt := t.welt ++ [(0, .interrupt k)] }))
      else s
    else (s.requestAt lead k))

/-! ### The forced return -/

/-- The Sole record of a Sealed call that expires (R306, R418): the core, its tenant and the call number. -/
def State.lostRecord (s : State) (c : Nat) : State :=
  match (s.core c).frame with
  | some f =>
    s.sysEvent 0x17 [0, unitWord (unitDie (trioOf c)) ((s.logOf (trioOf c)).getD 7) (unitPhys (trioOf c)) (coreIn c)
      (some (s.tidOn c)) ||| BitVec.ofNat 64 (f.callNo.toNat <<< 32)]
  | none => s

/-- The watchdog of the call on a core expires (R306, R307): the core is forced back and Sealed services end. -/
def State.watchdog (s : State) (c : Nat) : State :=
  let lim := s.rf secCtlR 19 0
  if (s.core c).frame.isSome && (s.core c).w && decide ((s.core c).run = .running ∨ (s.core c).run = .waiting) &&
      decide (0 < lim) && decide (lim ≤ s.watchNow c) then
    let s := (s.lostRecord c).forceReturn c 0
    if s.rf secStatR 0 0 = 1 then (s.setRf secStatR 0 0 0).raise 15 else s
  else s

/-- A Sealed call runs `WDLIM` units (R306). -/
def execMcallWatchdogExpiry (c : CoreId) (s : State) : Host.Outcome State Fault Refusal := done (s.watchdog c.val)

/-- Another core at W = 1 in a call is forced out once Sealed services are lost (R307). -/
def execSealedForcedReturn (c : CoreId) (s : State) : Host.Outcome State Fault Refusal :=
  done (
    if s.rf secStatR 0 0 = 0 ∧ (s.core c.val).w ∧ ((s.core c.val).run = .running ∨ (s.core c.val).run = .waiting) then
      (s.forceReturn c.val 1)
    else s)

end Sys2Proof.Machine
end

