-- ==== Sys2Proof/Machine/Order.lean ====
section
/-! DEFINITION. Fences and translation invalidation (R153, R154, R191). -/

namespace Sys2Proof.Machine

/-- The posted writebacks of the core's maintenance are acknowledged (R128). -/
def State.wbsAcked (s : State) (c : Nat) : State :=
  ((s.core c).wbs.foldl (fun s l => s.calm l.toNat) s).modCore c (fun k => { k with wbs := [] })

/-- FENCE.W's work (R191): the merging buffer drains, posted writebacks are acknowledged, and later stores wait while an earlier one
has no completion. -/
def State.fenceW (s : State) (c : Nat) : State :=
  let s := (s.drainMerge c).wbsAcked c
  let held := !s.storesDone c
  s.modCore c (fun k => { k with wfence := held })

/-- A store position meets a FENCE.W whose earlier stores are not all performed: it waits (R191). -/
def State.fenced (s : State) (c : Nat) : Bool := (s.core c).wfence && !s.storesDone c

/-- FENCE (R191): .R adds nothing; .W closes and drains; .RW waits until every store is performed. -/
def execFence (c : CoreId) (o : OpsF) (s : State) : Host.Outcome State Fault Refusal :=
  done (s.position c.val (wordF 0x33 0 o) false (fun s =>
    match fld o.sys 1 0 with
    | 0 => (s, .trap { cause := 0x04 })
    | 1 => (s, .next {} none)
    | 2 => (s.fenceW c.val, .next {} none)
    | _ =>
      let s := (s.drainMerge c.val).wbsAcked c.val
      if s.storesDone c.val then (s.modCore c.val (fun k => { k with wfence := false }), .next {} none) else (s, .stay)))

/-! ### Invalidation -/

/-- Cores whose acknowledgement is awaited: those of powered trios, of dies neither Offline nor in Die-off (R154). -/
def State.awaited (s : State) (c : Nat) : Bool :=
  let t := trioOf c
  s.powered t && (t = svcTrio || !(s.dieState (t / 7) = 3 || s.dieState (t / 7) = 4))

/-- The selection that a TLBINV's operands spell; at PL1 the TID is the executing tenant's own. -/
def State.selOf (s : State) (c : Nat) (o : OpsF) : InvSel :=
  let k := s.core c
  let x := k.g o.rd
  let a := k.g o.rs1
  let own := decide (k.pl = 1)
  let tid (n : Nat) : BitVec 5 := BitVec.ofNat 5 (if own then s.tidOn c else n)
  match fld o.sys 1 0 with
  | 0 => .va a (BitVec.ofNat 12 (fld x 11 0)) (tid (fld x 20 16))
  | 1 => .asid (BitVec.ofNat 12 (fld x 11 0)) (tid (fld x 20 16))
  | 2 => .tid (BitVec.ofNat 5 (fld a 4 0))
  | _ => .all

/-- A selection leaves core `c` for every other core (R153, R154). -/
def State.broadcastInv (s : State) (c : Nat) (sel : InvSel) : State :=
  let others := (List.range 255).filter (fun d => decide (d ≠ c) && s.awaited d)
  s.modCore c (fun k =>
    { k with invs := if others.isEmpty then k.invs else k.invs ++ [⟨k.invSeq, sel, others, []⟩], invSeq := k.invSeq + 1 })

/-- An outstanding invalidation still awaits a core, those no longer awaited being dropped. -/
def State.stillAwaits (s : State) (v : InvOut) : Bool := (v.await ++ v.acks).any (fun d => s.awaited d)

/-- TLBINV (R153, R154): FENCE.W, the core's own TLBs, the broadcast; a ninth one outstanding freezes. -/
def execTlbinv (c : CoreId) (o : OpsF) (s : State) : Host.Outcome State Fault Refusal :=
  done (s.position c.val (wordF 0x33 1 o) false (fun s =>
    let k := s.core c.val
    if k.pl < (if fld o.sys 1 0 < 2 then 1 else 2) then (s, .trap { cause := 0x06 })
    else if 8 ≤ (k.invs.filter (fun v => s.stillAwaits v)).length then (s, .stay)
    else
      let s := s.modCore c.val (fun k => { k with invs := k.invs.filter (fun v => s.stillAwaits v) })
      let sel := s.selOf c.val o
      let s := (s.fenceW c.val).modCore c.val (fun k => k.tlbInv sel)
      (s.broadcastInv c.val sel, .next {} none)))

/-- TLBSYNC (R154): complete when every core has acknowledged every earlier TLBINV of this core. -/
def execTlbsync (c : CoreId) (o : OpsF) (s : State) : Host.Outcome State Fault Refusal :=
  done (s.position c.val (wordF 0x33 2 o) false (fun s =>
    if (s.core c.val).pl < 1 then (s, .trap { cause := 0x06 })
    else if (s.core c.val).invs.any (fun v => s.stillAwaits v) then (s, .stay)
    else (s.modCore c.val (fun k => { k with invs := [] }), .next {} none)))

/-- An invalidation reaches core `c` (R154): it is applied, or noted by a core asleep, which empties its TLBs when it wakes; the
acknowledgement sets out. -/
def execTlbinvBroadcast (c issuer : CoreId) (seq : Nat) (s : State) : Host.Outcome State Fault Refusal :=
  done (
    match (s.core issuer.val).invs.find? (fun v => decide (v.seq = seq) && v.await.contains c.val) with
    | none => s
    | some v =>
      let s := s.modCore issuer.val (fun k => { k with invs := k.invs.map (fun w =>
        if w.seq = seq then { w with await := w.await.erase c.val, acks := w.acks ++ [c.val] } else w) })
      (s.modCore c.val (fun k =>
        if k.run = .nap ∨ k.run = .off then { k with wakeFlush := true } else k.tlbInv v.sel)))

/-- An acknowledgement reaches the issuing core (R154). -/
def execTlbinvAck (issuer : CoreId) (seq : Nat) (c : CoreId) (s : State) : Host.Outcome State Fault Refusal :=
  done (s.modCore issuer.val (fun k => { k with invs := (k.invs.map (fun w =>
    if w.seq = seq then { w with acks := w.acks.erase c.val } else w)).filter (fun w => !(w.await.isEmpty && w.acks.isEmpty)) }))

end Sys2Proof.Machine
end

