-- ==== Sys2Proof/Machine/Channel.lean ====
section
/-! DEFINITION. The memory controllers: training, requests and the scheduler, ECC, refresh, scrub, and the loss of a channel
(R325-R345). -/

namespace Sys2Proof.Machine

/-- `MC_CFG`. -/
def mcCfgR (m : Nat) : RegRef := ⟨.mcCfg, 0, m, 0⟩
/-- `MC_STATUS`. -/
def mcStatusR (m : Nat) : RegRef := ⟨.mcStatus, 0, m, 0⟩
/-- The other channel of a pair. -/
def pairOf (m : Nat) : Nat := m / 2 * 2 + (1 - m % 2)

/-- A transition of R336: recorded in Sole, raised at source 5, traced. -/
def State.setChan (s : State) (m st : Nat) : State :=
  let s := s.setRf (mcStatusR m) 2 0 st
  ((s.sysEvent 0x15 [BitVec.ofNat 64 m, s.reg (mcStatusR m)]).raise (chanSrc m 5)).emitEvent (368 + m) 0x21 st

/-- The subchannel of a line (R329). -/
def subOf (line : Nat) : Bool := granule line / 12 % 2 = 1

/-- The write queue of a subchannel. -/
def Mc.queued (k : Mc) (sub : Bool) : Nat := (k.writeQ.filter (fun e => decide (e.1 = sub))).length

/-- Source 6 follows the write queues (R350). -/
def State.writeLine (s : State) (m : Nat) : State :=
  s.setLine (chanSrc m 6) (decide (48 ≤ (s.mc m).queued false ∨ 48 ≤ (s.mc m).queued true))

/-- A write enters the queue of its subchannel, unless it is full (R344). -/
def State.queueWrite (s : State) (m line : Nat) : State :=
  if 64 ≤ (s.mc m).queued (subOf line) then s
  else (s.modMc m (fun k => { k with writeQ := k.writeQ ++ [(subOf line, BitVec.ofNat 40 line)] })).writeLine m

/-! ### Loss of a channel (R336-R338) -/

/-- Dirty lines of a slice of the Memory-Side Cache are discarded (R337). -/
def State.dropSlice (s : State) (m : Nat) : State :=
  { s with msc := { s.msc with lines := s.msc.lines.filter (fun l => !(l.dirty && decide (chanOf l.line.toNat = m))) } }

/-- What the controller held of a lost channel ends: reserved reads in service complete with PSN = 1, a write batch is abandoned
(R337, R345). -/
def State.dropRequestsAt (s : State) (m : Nat) : State :=
  (s.modMc m (fun k => { k with writeQ := [], resWait := [], owed := [], actives := [], openReqs := [] })).writeLine m

/-- Channel `m` is lost with a cause of `MC_STATUS.CAUSE` (R336-R338): its partner covers it when the pair is mirrored, and R243
resolves the loss while a season runs. -/
def State.chanGone (s : State) (m cause : Nat) : State :=
  let st := s.chanState m
  let p := pairOf m
  if st = 3 then s
  else
    let covered := s.mirrored m && decide (s.chanState p = 2)
    let s := (s.setRf (mcStatusR m) 31 24 cause).setChan m 3
    let s := s.dropRequestsAt m
    if covered then
      let s := s.setChan p 4
      if s.gce.live then s.coverChannel m p 1 s.nextTick else s
    else
      let s := s.dropSlice m
      let s := if st = 4 then s.dropSlice p else s
      if s.gce.live ∧ (st = 2 ∨ st = 4) then s.loseChannel m 1 s.nextTick else s

/-- CHANNEL_LOST (R336): an error of the last row of R331, or a removal command, at a channel in service. -/
def execChannelLost (m : Chan) (cause : LostCause) (s : State) : Host.Outcome State Fault Refusal :=
  done (
    if s.chanState m.val = 2 ∨ s.chanState m.val = 4 then
      (s.chanGone m.val (match cause with
        | .parity => 2
        | .crc => 3
        | .uelim => 4
        | .command => 5
        | .training => 1))
    else s)

/-! ### Training (R325, R326, R328) -/

/-- The channel's configuration is one that R325 supports beside those already trained. -/
def State.chanRefused (s : State) (m gib : Nat) : Bool :=
  let c := s.reg (mcCfgR m)
  let same := fun (p : Nat) =>
    let d := s.reg (mcCfgR p)
    decide (fld d 11 10 = fld c 11 10 ∧ fld d 9 8 = fld c 9 8 ∧ fld d 7 7 = fld c 7 7)
  decide (64 < gib) || decide (gib = 0) || (!bit c 7 && bit c 6 && decide (fld c 9 8 = 2)) ||
    (List.range 12).any (fun p => decide (p ≠ m) && (s.mc p).trained.isSome && !same p)

/-- U (R326): the smallest usable capacity of the channels that have passed training. -/
def State.smallestU (s : State) : Nat :=
  ((List.range 12).filterMap (fun m => (s.mc m).trained)).foldl (fun (a : Nat) u => if a = 0 then u else min a u) 0

/-- `MC_STATUS.USABLE` of every trained channel reads U. -/
def State.spreadU (s : State) : State :=
  let u := s.smallestU
  forN 12 (fun m s => if (s.mc m).trained.isSome then s.setRf (mcStatusR m) 23 16 u else s) s

/-- A trained channel that is enabled goes into service (R336): Active, or Covering when its mirrored partner is Lost. -/
def State.chanStart (s : State) (m : Nat) : State :=
  if s.chanState m = 1 ∧ (s.mc m).trained.isSome ∧ bit (s.reg (mcCfgR m)) 12 then
    s.setChan m (if s.mirrored m ∧ s.chanState (pairOf m) = 3 then 4 else 2)
  else s

/-- Training writes channel-local lines 0-63 (R412): what it leaves in them the spec does not state (free values, assumption 6). -/
def State.trainLines (s : State) (m : Nat) : State :=
  forN 64 (fun l s =>
    let n := s.free
    let d := (List.range 8).foldl (fun (d : LineData) i => d ||| (Config.freeValue (n + i)).zeroExtend 512 <<< (64 * i)) 0
    ({ s with free := n + 8 }.setBytes (lineOf m l * 64) ((List.range 64).map (lineByte d))).setPoison (lineOf m l) false) s

/-- CHANNEL_TRAINING (R328, R412): from Off, through Training; `gib` is the installed capacity the training found. -/
def execChannelTraining (m : Chan) (pass : Bool) (gib : Nat) (s : State) : Host.Outcome State Fault Refusal :=
  done (
    if s.chanState m.val ≠ 0 then s
    else
      let s := (s.setChan m.val 1).raise (chanSrc m.val 4)
      if pass && !s.chanRefused m.val gib then
        let u := if s.rf (mcCfgR m.val) 13 13 = 1 then gib / 2 else gib
        ((((s.modMc m.val (fun k => { k with trained := some u })).trainLines m.val).spreadU).chanStart m.val)
      else (s.chanGone m.val 1))

/-- A write to `MC_CFG`: a SPEED or DENS of 3 leaves that field as it is; EN puts a trained channel into service. -/
def State.writeMcCfg (s : State) (m : Nat) (v : Dword) : State :=
  let old := s.reg (mcCfgR m)
  let v := if fld v 11 10 = 3 then setFld v 11 10 (fld old 11 10) else v
  let v := if fld v 9 8 = 3 then setFld v 9 8 (fld old 9 8) else v
  (s.writeReg (mcCfgR m) v).chanStart m

/-! ### Errors (R330, R331) -/

/-- An error is logged if the log is empty. -/
def State.eccLog (s : State) (m line : Nat) (ue : Bool) (dev : BitVec 4) (syn : BitVec 16) : State :=
  let r : RegRef := ⟨.mcEcclog, 0, m, 0⟩
  if bit (s.reg r) 63 then s
  else s.setReg r (BitVec.ofNat 64 (1 <<< 63 ||| ue.toNat <<< 62 ||| dev.toNat <<< 58 ||| localOf line <<< 16 ||| syn.toNat))

/-- A line is marked poisoned in the Memory-Side Cache and written to DRAM with the poison pattern. -/
def State.poisonInMem (s : State) (line : Nat) : State :=
  { s.setPoison line true with msc := s.msc.update line (fun l => { l with poison := true }) }

/-- What the ECC check of a burst of a line finds (R331). -/
def State.eccResult (s : State) (m line : Nat) (e : Ecc) : State :=
  match e with
  | .ok => s
  | .corrected dev syn =>
    let s := (((s.incRf (mcStatusR m) 63 48).countMc m 0x0B).eccLog m line false dev syn).queueWrite m line
    let n := s.rf (mcStatusR m) 63 48
    let step := s.rf (mcCfgR m) 23 16
    if step ≠ 0 ∧ n % step = 0 then s.raise (chanSrc m 0) else s
  | .uncorrectable dev syn =>
    let s := ((s.poisonInMem line).incRf (mcStatusR m) 47 40).eccLog m line true dev syn
    let s := ((s.raise (chanSrc m 1)).sysEvent 0x16 [BitVec.ofNat 64 (line * 64)]).emitEvent (368 + m) 0x22 (localOf line)
    let now := s.timebase
    let s := s.modMc m (fun k => { k with
      ueTimes := k.ueTimes.filter (fun t => decide ((now - t).toNat < 100000000)) ++ [now] })
    let lim := s.rf (mcCfgR m) 31 24
    if lim ≠ 0 ∧ lim ≤ (s.mc m).ueTimes.length then s.chanGone m 4 else s

/-- DRAM_ALERT (R331): the command is retried, up to three times. -/
def execDramAlert (m : Chan) (k : DramAlert) (s : State) : Host.Outcome State Fault Refusal :=
  done (
    if s.chanState m.val ≠ 2 ∧ s.chanState m.val ≠ 4 then s
    else if 3 ≤ (s.mc m.val).retries then
      ((s.modMc m.val (fun q => { q with retries := 0 })).chanGone m.val (match k with
        | .parity => 2
        | .crc => 3))
    else (s.modMc m.val (fun q => { q with retries := q.retries + 1 })))

/-! ### Requests and the scheduler (R340-R344) -/

/-- The channel serves requests. -/
def State.chanServes (s : State) (m : Nat) : Bool := s.chanState m = 2 || s.chanState m = 4

/-- A port is at a limit of R341 for a line. -/
def Mc.atLimit (k : Mc) (port : Fin 13) (line : Nat) : Bool :=
  let mine := k.openReqs.filter (fun e => decide (e.1 = port) && e.2.2)
  decide (8 ≤ mine.length) || decide (4 ≤ (mine.filter (fun e => decide (subOf e.2.1.toNat = subOf line))).length)

/-- MC_REQUEST (R340): a request enters the controller. A reserved one of a port at its limit waits (R341), and so does a write
that finds its queue full. -/
def execMcRequest (m : Chan) (r : MemReq) (s : State) : Host.Outcome State Fault Refusal :=
  done (
    let line := r.line.toNat
    let k := s.mc m.val
    if !s.chanServes m.val || decide (s.servChan (chanOf line) ≠ m.val) then s
    else if r.res && k.atLimit r.port line then s
    else if r.write && decide (64 ≤ k.queued (subOf line)) then s
    else
      let agent := if r.port.val < 12 then 7 * r.port.val else 84
      let q := s.mcCharge { agent := agent, tid := r.tid.val, w := false, res := r.res } line
      let s := q.1
      let read := s.countMc m.val (if q.2 then 0x01 else 0x02)
      if r.write then (((s.countMc m.val 0x03).mcCount m.val r.port.val q.2).queueWrite m.val line)
      else if s.mscOn && (s.msc.find line).isSome then ((read.countMc m.val 0x08).mcCount m.val r.port.val q.2)
      else
        ((if s.mscOn then read.countMc m.val 0x09 else read).modMc m.val (fun k => { k with
          openReqs := k.openReqs ++ [(r.port, r.line, q.2)]
          resWait := if q.2 then k.resWait ++ [r.line] else k.resWait })))

/-- DRAM_ACTIVATE (R343): the oldest waiting reserved read whose bank no other one holds receives its activate. -/
def execDramActivate (m : Chan) (s : State) : Host.Outcome State Fault Refusal :=
  done (
    let k := s.mc m.val
    match k.resWait.find? (fun l => !k.actives.any (fun a => decide (s.colour a.toNat = s.colour l.toNat))) with
    | none => s
    | some l =>
      ((s.modMc m.val (fun k => { k with
        resWait := k.resWait.erase l, owed := k.owed.erase l, actives := k.actives ++ [l] })).countMc m.val 0x04))

/-- DRAM_READ_COMPLETE (R331): a burst returns; the request it answers leaves the controller. -/
def execDramReadComplete (m : Chan) (line : LineAddr) (e : Ecc) (s : State) : Host.Outcome State Fault Refusal :=
  done (
    if !s.chanServes m.val || decide (s.servChan (chanOf line.toNat) ≠ m.val) then s
    else
      let k := s.mc m.val
      let s := match k.openReqs.find? (fun x => decide (x.2.1 = line)) with
        | some x =>
          (s.mcCount m.val x.1.val x.2.2).modMc m.val (fun k => { k with
            openReqs := k.openReqs.erase x, actives := if x.2.2 then k.actives.erase line else k.actives
            resWait := if x.2.2 then k.resWait.erase line else k.resWait, owed := k.owed.erase line })
        | none => s
      ((s.modMc m.val (fun k => { k with retries := 0 })).eccResult m.val line.toNat e))

/-- A subchannel has a reserved read waiting. -/
def Mc.waits (k : Mc) (sub : Bool) : List LineAddr := k.resWait.filter (fun l => decide (subOf l.toNat = sub))

/-- WRITE_BATCH (R344): up to four writes of a subchannel drain, when no reserved read waits there or 48 or more writes do; reads
that waited through the last batch go first. -/
def execWriteBatch (m : Chan) (sub : Bool) (s : State) : Host.Outcome State Fault Refusal :=
  done (
    let k := s.mc m.val
    let waiting := k.waits sub
    let owed := k.owed.any (fun l => decide (subOf l.toNat = sub))
    if k.queued sub = 0 ∨ owed ∨ (!waiting.isEmpty ∧ k.queued sub < 48) then s
    else
      let batch := (k.writeQ.filter (fun e => decide (e.1 = sub))).take 4
      ((s.modMc m.val (fun k => { k with
        writeQ := batch.foldl (fun (q : List (Bool × LineAddr)) e => q.erase e) k.writeQ, owed := k.owed ++ waiting
        retries := 0 })).writeLine m.val))

/-- REFRESH_DUE (R332): a same-bank refresh is postponed while a reserved read waits for its bank, at most four times; else it is
issued with those postponed. -/
def execRefreshDue (m : Chan) (bank : BitVec 7) (s : State) : Host.Outcome State Fault Refusal :=
  done (
    if !s.chanServes m.val then s
    else
      let k := s.mc m.val
      let owed := SMap.get 0 k.refreshPost bank.toNat
      let waits := k.resWait.any (fun l => decide (s.colour l.toNat = bank.toNat))
      let set := fun (s : State) (n : Nat) => s.modMc m.val (fun k => { k with refreshPost := SMap.put 0 k.refreshPost bank.toNat n })
      if waits ∧ owed < 4 then (set s (owed + 1))
      else if waits then (s.countMc m.val 0x05)
      else (forN (owed + 1) (fun _ s => s.countMc m.val 0x05) (set s 0)))

/-- PATROL_SCRUB (R333): the next line of the channel is read; the last line of a pass raises source 2. -/
def execPatrolScrub (m : Chan) (e : Ecc) (s : State) : Host.Outcome State Fault Refusal :=
  done (
    if !s.chanServes m.val ∨ s.rf (mcCfgR m.val) 63 48 = 0 then s
    else
      let at' := (s.mc m.val).scrubAt
      let last := decide (s.usable * 2 ^ 24 ≤ at' + 1)
      let s := s.modMc m.val (fun k => { k with scrubAt := if last then 0 else at' + 1 })
      let s := s.eccResult m.val (lineOf m.val at') e
      (if last then s.raise (chanSrc m.val 2) else s))

/-- SPD_TEMPERATURE_ALERT (R327): source 8 follows the hub's alert. -/
def execSpdTemperatureAlert (m : Chan) (asserted : Bool) (s : State) : Host.Outcome State Fault Refusal :=
  done (s.setLine (chanSrc m.val 8) asserted)

/-! ### The tick at a controller (R229, R340, R349) -/

/-- The credits that a controller takes at this tick: those of a season that activates at it, those that take effect at it, or
those in force (R240, R245). -/
def State.creditsNow (s : State) : SMap Dword :=
  if s.ftu.ticks = s.gce.actTick then s.gce.shadowCredits.getD s.gce.credits
  else s.gce.creditPend.getD s.gce.credits

/-- A tick reaches controller `m`: the port counts are latched, and every tenant's credit is reloaded. -/
def State.mcTick (s : State) (m : Nat) : State :=
  let n := (s.mc m).counts
  let s := forN 13 (fun p s => s.setReg ⟨.mcPortbw, 0, m, p⟩
    (BitVec.ofNat 64 (SMap.get 0 n (2 * p + 1) % 2 ^ 32 ||| (SMap.get 0 n (2 * p) % 2 ^ 32) <<< 32))) s
  let s := s.modMc m (fun k => { k with counts := [], demoted := false })
  let cr := s.creditsNow
  forN 32 (fun t s => s.setRf ⟨.mcTstat, 0, m, t⟩ 31 0 (SMap.get 0 cr (12 * t + m)).toNat) s

end Sys2Proof.Machine
end

