-- ==== Sys2Proof/Machine/Dma.lean ====
section
/-! DEFINITION. Memory accesses of the units of the I/O die on a tenant's behalf, translated as Queue DMA translates (R297-R299),
and their rings (R297, R358). -/

namespace Sys2Proof.Machine

/-- A unit that makes accesses for a tenant: its agent, the tenant and address space that translate, and whether its requests
carry the tenant's reservation (R169, R298). -/
structure Eng where
  agent : Nat
  tid : Nat
  asid : Nat
  res : Bool
  deriving DecidableEq, Repr

/-- The unit as a memory requester. -/
def Eng.rq (e : Eng) : Rq := { agent := e.agent, tid := e.tid, w := false, res := e.res }

/-- The status of R298 that a failed translation gives; a walk error is an error response (DEDUCED, assumption 14). -/
def dmaStatus (x : Trap) : Nat :=
  if x.cause = 0x0A then 2 else if x.cause = 0x0B then 3 else if x.cause = 0x0D then 4 else 6

/-- A unit's translation (R298): U is ignored, and pages of a Device type are refused, but for the boot ROM, which is WB whatever the
entry gives (R30). The Module Configuration Space stays open to TID 0 through pages of another type (R31; DEDUCED,
assumption 35). Answers the address, or the status; no answer while a frame is being filled for the page. -/
def State.engXlate (s : State) (e : Eng) (k : Acc') (va : Dword) : State × Got Page :=
  let r := fld va 47 44
  let key : Key := ⟨e.tid, e.asid, s.rf ⟨.xltTcfg, 0, e.tid, 0⟩ (2 * r + 1) (2 * r), true⟩
  if va ≠ simm (va.truncate 48 : BitVec 48) then (s, .trap (missTrap k va))
  else if s.rf hitCfgR 0 0 = 0 then (s, .trap (missTrap k va))
  else
    match s.walk (.unit e.rq) key k 1 va 3 with
    | (s, .ok (_, d1)) =>
      let t := mtOf (fld d1 25 23)
      let p := s.usePage key d1 va
      if (t = .devStrict ∨ t = .devRelaxed) ∧ p.region ≠ .rom then (s, .trap (deniedTrap k 0 va)) else (s, .ok p)
    | (s, .trap x) => (s, .trap x)
    | (s, .stay) => (s, .stay)

/-- What a unit's access comes to: done, a status of R298, or nothing yet. -/
inductive EngRes (α : Type) where
  | ok (a : α)
  | fail (status : Nat)
  | stay
  deriving DecidableEq, Repr

/-- A line of physical memory as a unit reads it: poison is status 0x05, and what is not DRAM or the boot ROM answers with an
error (R29, R298). -/
def State.engLine (s : State) (r : Rq) (pa : Nat) : State × EngRes LineData :=
  match s.region pa with
  | .dram =>
    match s.rdShared r (pa / 64) true false with
    | (s, .ok (d, psn, _)) => (s, if psn then .fail 5 else .ok d)
    | (s, .error _) => (s, .fail 6)
  | .rom => (s, .ok (lineFrom (fun i => Config.bootRom (pa / 64 * 64 + i - 0x3FFFFFF00000))))
  | _ => (s, .fail 6)

/-- Bytes of one line written to physical memory by a unit. -/
def State.engPut (s : State) (r : Rq) (pa : Nat) (bs : List Byte) : State × EngRes Unit :=
  match s.region pa with
  | .dram =>
    let p := linePatch (pa % 64) bs.length (ofBytes bs)
    match s.ncWrite r (pa / 64) p.1 p.2 with
    | (s, .ok _) => (s, .ok ())
    | (s, .error _) => (s, .fail 6)
  | _ => (s, .fail 6)

/-- `n` bytes within one line read at a virtual address. -/
def State.engRead (s : State) (e : Eng) (va : Dword) (n : Nat) : State × EngRes (List Byte) :=
  match s.engXlate e .load va with
  | (s, .trap x) => (s, .fail (dmaStatus x))
  | (s, .stay) => (s, .stay)
  | (s, .ok p) =>
    match s.engLine e.rq p.pa with
    | (s, .ok d) => (s, .ok ((List.range n).map (fun i => lineByte d (p.pa % 64 + i))))
    | (s, .fail x) => (s, .fail x)
    | (s, .stay) => (s, .stay)

/-- Bytes within one line written at a virtual address. -/
def State.engWrite (s : State) (e : Eng) (va : Dword) (bs : List Byte) : State × EngRes Unit :=
  match s.engXlate e .store va with
  | (s, .trap x) => (s, .fail (dmaStatus x))
  | (s, .stay) => (s, .stay)
  | (s, .ok p) => s.engPut e.rq p.pa bs

/-- Bytes written at a virtual address in ascending order, line by line: the status, and how many were written. -/
def State.engStore (s : State) (e : Eng) (va : Dword) (bs : List Byte) : Nat → State × EngRes Unit × Nat
  | 0 => (s, .ok (), 0)
  | fuel + 1 =>
    if bs.isEmpty then (s, .ok (), 0)
    else
      let n := min bs.length (64 - va.toNat % 64)
      match s.engWrite e va (bs.take n) with
      | (s, .ok _) =>
        let r := s.engStore e (va + BitVec.ofNat 64 n) (bs.drop n) fuel
        (r.1, r.2.1, r.2.2 + n)
      | (s, x) => (s, x, 0)

/-- Bytes read at a virtual address in ascending order, line by line. -/
def State.engLoad (s : State) (e : Eng) (va : Dword) (n : Nat) : Nat → State × EngRes (List Byte)
  | 0 => (s, .ok [])
  | fuel + 1 =>
    if n = 0 then (s, .ok [])
    else
      let m := min n (64 - va.toNat % 64)
      match s.engRead e va m with
      | (s, .ok bs) =>
        match s.engLoad e (va + BitVec.ofNat 64 m) (n - m) fuel with
        | (s, .ok cs) => (s, .ok (bs ++ cs))
        | (s, x) => (s, x)
      | (s, x) => (s, x)

/-! ### Rings of 32-byte descriptors -/

/-- A ring: its configuration and index registers, with the layouts of `QDMA_CFG` and `QDMA_IDX`. -/
structure Ring where
  cfg : RegRef
  idx : RegRef
  deriving DecidableEq, Repr

/-- The ring's address, its size and whether it is in use. -/
def State.ringPa (s : State) (r : Ring) : Nat := s.rf r.cfg 45 10 * 1024
/-- Entries in the ring. -/
def State.ringSize (s : State) (r : Ring) : Nat := 2 ^ s.rf r.cfg 4 0
/-- EN of the ring. -/
def State.ringOn (s : State) (r : Ring) : Bool := bit (s.reg r.cfg) 8

/-- A unit's read of four doublewords of a ring entry; none when the line cannot be read. -/
def State.ringEntry (s : State) (rq : Rq) (r : Ring) (n : Nat) : State × Option (List Dword) :=
  let pa := s.ringPa r + 32 * (n % s.ringSize r)
  match s.engLine rq pa with
  | (s, .ok d) => (s, some ((List.range 4).map (fun i => lineDw d (pa / 8 % 8 + i))))
  | (s, _) => (s, none)

/-- Doublewords 0 and 1 of a ring entry at completion (R297): STATUS, DONE and DONELEN. -/
def State.ringComplete (s : State) (rq : Rq) (r : Ring) (n : Nat) (d : List Dword) (status done : Nat) : State :=
  let pa := s.ringPa r + 32 * (n % s.ringSize r)
  let d0 := setFld (setFld (d.getD 0 0) 15 8 status) 16 16 1
  let d1 := setFld (d.getD 1 0) 63 32 done
  (s.engPut rq pa (toBytes d0.toNat 8 ++ toBytes d1.toNat 8)).1

/-- The checks of a ring's size and place (R281's `CXQ_CFG`): LOGK within its range, aligned, wholly in installed DRAM. `lo` is
log2 of an entry's size. -/
def State.ringOk (s : State) (v : Dword) (kMin kMax lo : Nat) : Bool :=
  let k := fld v 4 0
  let pa := fld v 45 10 * 1024
  decide (kMin ≤ k ∧ k ≤ kMax) && decide (pa % 2 ^ (k + lo) = 0) && s.rangeInstalled pa (2 ^ (k + lo))

end Sys2Proof.Machine
end

