-- ==== Sys2Proof/Machine/Recorder.lean ====
section
/-! DEFINITION. Sole at work: snapshots, commits, the configuration image, refresh, and the read engines (R419-R428). -/

namespace Sys2Proof.Machine

/-- `SOLE_CTL`. -/
def soleCtlR : RegRef := ⟨.soleCtl, 0, 0, 0⟩
/-- `LIFE_MOD`. -/
def lifeModR : RegRef := ⟨.lifeMod, 0, 0, 0⟩
/-- `LIFE_EM[d]`. -/
def lifeEmR (d : Nat) : RegRef := ⟨.lifeEm, 0, d, 0⟩
/-- `LIFE_TRIO[t]` of die `d`. -/
def lifeTrioR (d t : Nat) : RegRef := ⟨.lifeTrio, d, t, 0⟩
/-- `RST_CAUSE`. -/
def rstCauseR : RegRef := ⟨.rstCause, 0, 0, 0⟩

/-! ### Snapshots (R422) -/

/-- `n` registers from a start index, as runs of at most five at consecutive offsets. -/
def runsOf (f : Nat → RegRef) (n : Nat) : List (List RegRef) :=
  (List.range ((n + 4) / 5)).map (fun k => (List.range (min 5 (n - 5 * k))).map (fun i => f (5 * k + i)))

/-- The registers of a snapshot, in runs (DESIGN CHOICE, assumption 19): those R422 names, the trios' statuses last, as far as 126
records hold them. -/
def snapList : List (List RegRef) :=
  let one := fun (r : Reg) => [(⟨r, 0, 0, 0⟩ : RegRef)]
  let each := fun (n : Nat) (f : Nat → List RegRef) => (List.range n).map f
  let all := [one .modIdent] ++ runsOf dieStatR 12 ++ runsOf (fun d => ⟨.trioMap, 0, d, 0⟩) 12 ++
    [[⟨.supStat, 0, 0, 0⟩, ⟨.pwrGov, 0, 0, 0⟩], one .pwrReq, [⟨.rstCtl, 0, 0, 0⟩, ⟨.rstCause, 0, 0, 0⟩], one .pwrIdle] ++
    runsOf lifeEmR 13 ++ [[lifeModR], one .ftuStatus, [⟨.seasonStat, 0, 0, 0⟩, ⟨.seasonCtl, 0, 0, 0⟩]] ++
    each 12 (fun h => [⟨.haStatus, 0, h, 0⟩]) ++ each 12 (fun m => [⟨.mcStatus, 0, m, 0⟩, ⟨.mcEcclog, 0, m, 0⟩]) ++
    each 12 (fun d => [⟨.plinkStatus, d, 0, 0⟩]) ++ each 3 (fun k => [⟨.xlStatus, 0, k, 0⟩]) ++ [one .secStat, one .laceStat] ++
    [[⟨.trioRstat, svcTrio, 0, 0⟩]] ++ each 84 (fun t => [⟨.trioRstat, t, 0, 0⟩])
  all.take 126

/-- The block of a register answers: it is powered and its die is not offline. -/
def State.regPowered (s : State) (r : RegRef) : Bool :=
  match r.reg.place.zone with
  | .glob => true
  | .trio => s.powered r.z && (r.z = svcTrio || decide (s.dieState (r.z / 7) ≠ 3))
  | .die => decide (s.dieState r.z = 1 ∨ s.dieState r.z = 2)

/-- A register as a snapshot captures it: 0 where its block is unpowered or offline. -/
def State.snapValue (s : State) (r : RegRef) : Dword := if s.regPowered r then s.reg r else 0

/-- One record of a snapshot (R417). -/
def State.snapRec (s : State) (reason : Nat) (run : List RegRef) : List Dword :=
  let off := (run.head?.map (·.off)).getD 0
  mkRec (recHdr 0 reason 10 0 0x1FFF 0xFFF 0 false) s.timebase
    (BitVec.ofNat 64 (off ||| run.length <<< 32) :: run.map s.snapValue)

/-- The slot that the next snapshot takes. -/
def State.snapSlot (s : State) : Nat := (s.area 32).next / 128

/-- The snapshot is captured and written to the next slot as two links of 63 records (R422). -/
def State.snapWrite (s : State) : State :=
  match s.power.snapBuf with
  | none => s
  | some reason =>
    let recs := snapList.map (s.snapRec reason.toNat)
    let s := { s with power := { s.power with snapBuf := none } }
    if s.rf soleStatR 3 3 = 1 then s else recs.foldl (fun s r => s.soleWrite 32 r) s

/-- SNAPSHOT_CAPTURE_COMPLETE (R422). -/
def execSnapshotCaptureComplete (s : State) : Host.Outcome State Fault Refusal := done s.snapWrite

/-! ### Staging and links -/

/-- SOLE_STAGING_DRAIN (R420, R425). -/
def execSoleStagingDrain (good : Bool) (s : State) : Host.Outcome State Fault Refusal :=
  done (
    if s.rf soleStatR 3 3 = 1 then s else (s.drainOne good))

/-- LINK_CLOSE_TIMEOUT (R419): one second after its first record an open link closes. -/
def execLinkCloseTimeout (area : Fin 35) (s : State) : Host.Outcome State Fault Refusal := done (s.soleClose area.val)

/-- SOLE_DEAD (R425). -/
def execSoleDead (s : State) : Host.Outcome State Fault Refusal := done (s.setRf soleStatR 3 3 1)

/-! ### Commits (R423, R424) -/

/-- The registers of the configuration image that a commit saves; the trio maps are recorded as they change (R33). -/
def cfgRegs : List RegRef :=
  (List.range 13).map lifeEmR ++ [lifeModR, rstCauseR] ++ (List.range 84).map (fun t => lifeTrioR (t / 7) (t % 7))

/-- The image's entries: the registers as last saved, the maps, the spare lanes, the sealing counter, the hour of the last refresh
and the bad-line map. -/
def State.cfgImage (s : State) : List (Nat × Dword) :=
  cfgRegs.map (fun (r : RegRef) => (r.off, SMap.get 0 s.sole.cfg r.off)) ++
    ((List.range 12).map (fun d => (⟨.trioMap, 0, d, 0⟩ : RegRef)) ++
      (List.range 12).map (fun d => (⟨.plinkStatus, d, 0, 0⟩ : RegRef))).map (fun (r : RegRef) => (r.off, s.reg r)) ++
    [(0, s.sec.sealCounter), (1, BitVec.ofNat 64 s.sole.lastRefresh)] ++ s.sole.badMap.map (fun k => (2, BitVec.ofNat 64 k))

/-- Life data is saved into the image. -/
def State.cfgSave (s : State) : State :=
  { s with sole := { s.sole with cfg := cfgRegs.foldl (fun m r => SMap.put 0 m r.off (s.reg r)) s.sole.cfg } }

/-- The image is written into the older of its two copies, closed by a tag record; a copy holds 512 records. -/
def State.cfgPut (s : State) : State :=
  let start := if (s.area 34).next < 512 then 0 else 512
  let s := s.modArea 34 (fun k => { k with next := start })
  let recs := (s.cfgImage.take 511).map (fun e =>
    mkRec (recHdr 0 0 11 0 0x1FFF 0xFFF 0 false) s.timebase (Config.cfgEntry e.1 e.2))
  let s := recs.foldl (fun s r => (s.solePut 34 r).modArea 34 (fun k => { k with link := k.link ++ [r] })) s
  (s.soleClose 34).modArea 34 (fun k => { k with next := if start = 0 then 512 else 0 })

/-- Life data is saved and the image is written. -/
def State.cfgWrite (s : State) : State := s.cfgSave.cfgPut

/-- A commit ends (R423): the snapshot buffer is written if it is full, every open link closes, the configuration image is
written. -/
def State.commitEnd (s : State) : State :=
  let s := s.snapWrite
  let s := forN 34 (fun a s => s.soleClose a) s
  (s.cfgWrite).setRf soleStatR 0 0 0

/-- COMMIT_COMPLETE (R423). -/
def execCommitComplete (s : State) : Host.Outcome State Fault Refusal :=
  done (
    if s.rf soleStatR 0 0 = 1 then s.commitEnd else s)

/-- A refresh pass begins (R426); ignored while one runs. -/
def State.refreshStart (s : State) : State :=
  if s.rf soleStatR 3 3 = 1 then s else s.setRf soleStatR 1 1 1

/-- HOURLY_COMMIT (R423, R426): a powered hour has passed; a refresh pass begins every 7,300 hours. -/
def execHourlyCommit (s : State) : Host.Outcome State Fault Refusal :=
  done (
    let s := (s.incRf lifeModR 63 32).commitStart
    (if s.sole.lastRefresh + 7300 ≤ s.rf lifeModR 63 32 then s.refreshStart else s))

/-- A write of `SOLE_CTL`: COMMIT, SNAP with reason 0x03, REFRESH. -/
def State.writeSoleCtl (s : State) (v : Dword) : State :=
  let s := if bit v 1 then s.snapshot 3 else s
  let s := if bit v 0 then s.commitStart else s
  if bit v 2 then s.refreshStart else s

/-- A line of Sole by its key: an area and a record of it. -/
def lineOk (key : Nat) : Bool := decide (key / 2 ^ 20 ≤ 34) && decide (key % 2 ^ 20 < areaCap (key / 2 ^ 20))

/-- REFRESH_PASS_COMPLETE (R426): the lines that it could not correct are entered in the bad-line map. -/
def execRefreshPassComplete (bad : List Nat) (s : State) : Host.Outcome State Fault Refusal :=
  done (
    if s.rf soleStatR 1 1 = 0 then s
    else
      let s := (bad.filter lineOk).foldl (fun (s : State) k => if s.sole.badMap.contains k then s else (s.badLine k).1) s
      let s := { s with sole := { s.sole with lastRefresh := s.rf lifeModR 63 32 } }.setRf soleStatR 1 1 0
      (s.sysEvent 0x1B [BitVec.ofNat 64 (s.rf soleStatR 31 16)]))

/-! ### Reading Sole (R427) -/

/-- The area and count register, the destination and the control register of an engine: 0 the system engine, else the
tenant's. -/
def soleA (t : Nat) : RegRef := if t = 0 then ⟨.soleSrdA, 0, 0, 0⟩ else ⟨.soleTrdA, 0, t, 0⟩
/-- The destination register of an engine. -/
def soleDst (t : Nat) : RegRef := if t = 0 then ⟨.soleSrdDst, 0, 0, 0⟩ else ⟨.soleTrdDst, 0, t, 0⟩
/-- The control register of an engine. -/
def soleCtl (t : Nat) : RegRef := if t = 0 then ⟨.soleSrdCtl, 0, 0, 0⟩ else ⟨.soleTrdCtl, 0, t, 0⟩
/-- The area that an engine copies from. -/
def State.soleArea (s : State) (t : Nat) : Nat := if t = 0 then s.rf (soleA 0) 57 52 else t

/-- NEXT and WRAP of an engine's area (R428). -/
def State.readSolePos (s : State) (t : Nat) : Dword :=
  let k := s.area (s.soleArea t)
  setBit (BitVec.ofNat 64 k.next) 63 k.wrap

/-- A copy ends with a status. -/
def State.soleStatus (s : State) (t st : Nat) : State := (s.setRf (soleCtl t) 11 8 st).setRf (soleCtl t) 1 1 0

/-- A write of GO starts an engine's copy in the writer's world (R427); ignored while BUSY = 1. -/
def State.writeSoleGo (s : State) (t : Nat) (v : Dword) (w : Bool) : State :=
  let n := s.rf (soleA t) 46 32
  let a := s.soleArea t
  if !bit v 0 ∨ s.rf (soleCtl t) 1 1 = 1 then s
  else if n = 0 ∨ 16384 < n ∨ 35 ≤ a then s.soleStatus t 1
  else if a = 34 ∧ !w then s.soleStatus t 3
  else { s with sole := { s.sole with reads := s.sole.reads ++ [(t, w)] } }.setRf (soleCtl t) 1 1 1

/-- Record `i` of an area as eight doublewords of bytes; one never written reads 0 (assumption 3). -/
def State.soleBytes (s : State) (a i : Nat) : List Byte :=
  let r := SMap.get [] s.sole.recs (recKey a (i % areaCap a))
  ((r ++ List.replicate 8 0).take 8).flatMap (fun (d : Dword) => toBytes d.toNat 8)

/-- Bytes written to physical memory line by line: the status of R298. -/
def State.physStore (s : State) (r : Rq) (pa : Nat) (bs : List Byte) : Nat → State × EngRes Unit
  | 0 => (s, .ok ())
  | fuel + 1 =>
    if bs.isEmpty then (s, .ok ())
    else
      let n := min bs.length (64 - pa % 64)
      match s.engPut r pa (bs.take n) with
      | (s, .ok _) => s.physStore r (pa + n) (bs.drop n) fuel
      | (s, x) => (s, x)

/-- One record copied to its place; after a failure nothing more is written. -/
def State.soleCopy1 (s : State) (t : Nat) (w : Bool) (i : Nat) : State × EngRes Unit :=
  let a := s.soleArea t
  let bs := s.soleBytes a (s.rf (soleA t) 17 0 + i)
  let dst := s.reg (soleDst t) + BitVec.ofNat 64 (64 * i)
  if t = 0 then s.physStore { agent := 0x55, tid := 0, w := w } dst.toNat bs 2
  else
    let r := s.engStore ⟨0x55, t, s.rf (soleA t) 63 52, false⟩ dst bs 3
    (r.1, r.2.1)

/-- A copy of `n` records from the `i`th on: its status, or none while a page is being filled. -/
def State.soleCopy (s : State) (t : Nat) (w : Bool) (i : Nat) : Nat → State × Option Nat
  | 0 => (s, some 0)
  | n + 1 =>
    match s.soleCopy1 t w i with
    | (s, .ok _) => s.soleCopy t w (i + 1) n
    | (s, .fail st) => (s, some st)
    | (s, .stay) => (s, none)

/-- SOLE_READ_COMPLETE (R427). -/
def execSoleReadComplete (t : Tid) (s : State) : Host.Outcome State Fault Refusal :=
  done (
    match s.sole.reads.find? (fun x => decide (x.1 = t.val)) with
    | none => s
    | some x =>
      match s.soleCopy t.val x.2 0 (s.rf (soleA t.val) 46 32) with
      | (s, some st) =>
        ({ s with sole := { s.sole with reads := s.sole.reads.filter (fun y => decide (y.1 ≠ t.val)) } }.soleStatus t.val st)
      | (_, none) => s)

end Sys2Proof.Machine
end

