-- ==== Sys2Proof/Machine/Spare.lean ====
section
/-! DEFINITION. Spare substitution, the loss of a trio with no spare left, and the trio that leaves service (R20, R33, R192,
R212, R213, R243, R287, R288, R468). -/

namespace Sys2Proof.Machine

/-- `TRIO_MAP[d]`. -/
def mapR (d : Nat) : RegRef := ⟨.trioMap, 0, d, 0⟩
/-- The spare of a die. -/
def spareOf (d : Nat) : Nat := 7 * d + 6

/-- A change of the trio map (R33, R418): logical trio `k` of die `d` is served by `new` (7: by none) in place of physical trio
`old`, which is retired; Sole's configuration area records it. -/
def State.remap (s : State) (d k old new : Nat) : State :=
  let s := (s.setRf (mapR d) (3 * k + 2) (3 * k) new).setRf (mapR d) (24 + old % 7) (24 + old % 7) 1
  let s := s.setRf (dieStatR d) (16 + old % 7) (16 + old % 7) 0
  let s := if new < 7 then s.setRf (dieStatR d) (16 + new) (16 + new) 1 else s
  let s := s.sysEvent 0x12 [unitWord d k new 3 none ||| BitVec.ofNat 64 (old % 7 <<< 12)]
  (s.sysEvent 0x13 [unitWord d 7 (old % 7) 3 none, BitVec.ofNat 64 (s.rf ⟨.lifeTrio, d, old % 7, 0⟩ 63 48)]).cfgPut

/-- A substitution begins (R287): the spare is powered, its arrays are cleared and its self-test runs. -/
def State.substitute (s : State) (d : DieId) (k : Fin 6) (old : TrioId) (cause : SubstCause) : State :=
  let t6 := spareOf d.val
  let s := (s.trioOn t6).setRf (rstat t6) 9 8 1
  { s with gce := { s.gce with subst := s.gce.subst ++ [⟨d, k, old, cause, false⟩] } }

/-- SPARE_SUBSTITUTION (R287): for a trio whose redundancy is withdrawn (R192, R215), for one that a block-level error has
stopped, or on a retirement, while the die's spare is ready. -/
def execSpareSubstitution (d : DieId) (k : Fin 6) (cause : SubstCause) (s : State) : Host.Outcome State Fault Refusal :=
  done (
    match s.physOf d.val k.val with
    | none => s
    | some old =>
      let due : Bool := match cause with
        | .checker => decide (s.rf (rstat old) 10 10 = 1)
        | .block => s.failed old
        | .retire => true
      if h : old < 85 then
        if due && s.spareReady d.val (decide (cause = .checker)) then (s.substitute d k ⟨old, h⟩ cause) else s
      else s)

/-- The substitution's last step (R287): what ran is switched out, the slots and the record move to the spare, the map changes,
and the spare takes the season's mode. -/
def State.spareFinal (s : State) (x : Subst) : State :=
  let old := x.old.val
  let d := x.die.val
  let t6 := spareOf d
  let s := { s with gce := { s.gce with subst := s.gce.subst.filter (fun y => decide (y ≠ x)) } }
  let s := (s.streams old).foldl (fun s st => s.leave old st .ready) s
  let s := s.l2Clean old
  let k := s.trio old
  let s := s.modTrio t6 (fun q => { q with
    slots := k.slots, rcd := k.rcd, shadow := k.shadow, parked := k.parked, tickAt := k.tickAt, window := k.window })
  let s := s.modTrio old (fun q => { q with slots := [], rcd := {}, shadow := none, parked := false, window := .none })
  let s := (s.remap d x.log.val old 6).holdTrio old
  let s := (s.changeMode t6).withdrawNow t6
  s.redispatch t6

/-- Substitutions whose copy has ended take their last step. -/
def State.spareSteps (s : State) : State := (s.gce.subst.filter (·.copied)).foldl State.spareFinal s

/-- SPARE_COPY_COMPLETE (R287): the background copy follows the spare's self-test; with no ticks the last step follows at
once. -/
def execSpareCopyComplete (d : DieId) (s : State) : Host.Outcome State Fault Refusal :=
  done (
    match s.gce.subst.find? (fun x => decide (x.die = d) && !x.copied) with
    | none => s
    | some x =>
      if s.rf (rstat (spareOf d.val)) 9 8 = 1 then s
      else
        let y := { x with copied := true }
        let s := { s with gce := { s.gce with subst := s.gce.subst.map (fun z => if z = x then y else z) } }
        (if s.running then s else s.spareFinal y))

/-- SELF_TEST_COMPLETE (R212, R213): a pass lets a mode change that waited take place; a spare that fails is not used where the
cause is redundancy, and the loss of redundancy is resolved (R192, R287). -/
def execSelfTestComplete (t : TrioId) (fail : Option (Fin 32 × Fin 3)) (s : State) : Host.Outcome State Fault Refusal :=
  done (
    if s.rf (rstat t.val) 9 8 ≠ 1 then s
    else
      match fail with
      | none =>
        let s := s.setRf (rstat t.val) 9 8 2
        (if (s.trio t.val).modePend then s.finishMode t.val else s)
      | some (g, l) =>
        let s := (s.selfTestFailed t.val g.val l.val).modTrio t.val (fun k => { k with modePend := false })
        match s.gce.subst.find? (fun x => decide (spareOf x.die.val = t.val)) with
        | some x =>
          if x.cause = .checker then
            let s := { s with gce := { s.gce with subst := s.gce.subst.filter (fun y => decide (y ≠ x)) } }
            ((s.trioOff t.val).withdrawNow x.old.val)
          else s
        | none => (s.withdrawNow t.val))

/-- A logical trio loses its physical trio with no spare left (R20, R33, R243): the map shows none behind it, unless the whole
die is offline, which a die reset can bring back (R405). -/
def State.trioLost (s : State) (d k : Nat) : State :=
  match s.physOf d k with
  | none => s
  | some t =>
    let s := if s.dieState d = 2 then
        ((s.remap d k t 7).modTrio t (fun q => { q with wasLog := some (Fin.ofNat 6 k) })).holdTrio t
      else s
    if s.gce.live then s.loseTrio (6 * d + k) 0 0 s.nextTick else s

/-- TRIO_LOST (R243): the trio has failed or its die is offline, and no spare can take its place or is about to. -/
def execTrioLost (d : DieId) (k : Fin 6) (s : State) : Host.Outcome State Fault Refusal :=
  done (
    match s.physOf d.val k.val with
    | none => s
    | some t =>
      if (s.failed t || decide (s.dieState d.val ≠ 2)) && !s.spareReady d.val false &&
          !s.gce.subst.any (fun x => decide (x.die = d ∧ x.log = k)) then
        (s.trioLost d.val k.val)
      else s)

/-- TRIO_POWER_OFF_RETIRED (R468): a retired trio whose context store is empty is powered off. -/
def execTrioPowerOffRetired (t : TrioId) (s : State) : Host.Outcome State Fault Refusal :=
  done (
    if t.val < 84 ∧ bit (s.reg (mapR (t.val / 7))) (24 + t.val % 7) ∧ (s.trio t.val).live = [] ∧ s.powered t.val then
      (s.trioOff t.val)
    else s)


end Sys2Proof.Machine
end

