-- ==== Sys2Proof/Machine/Plink.lean ====
section
/-! DEFINITION. Flits and the package links (R161-R164, R370). -/

namespace Sys2Proof.Machine

/-! ### Flits -/

/-- One bit of the CRC of R161, the most significant bit of each byte first (PRESUMED, assumption 15). -/
def crc16Bits : Nat → BitVec 16 → BitVec 16
  | 0, c => c
  | n + 1, c => crc16Bits n (if bit c 15 then (c <<< 1) ^^^ 0x1021 else c <<< 1)

/-- One byte of the CRC. -/
def crc16Byte (c : BitVec 16) (b : Byte) : BitVec 16 := crc16Bits 8 (c ^^^ (b.setWidth 16 <<< 8))

/-- The CRC of a flit: its bytes 8-63, then bytes 2-7 of its control word (R161). -/
def flitCrc (f : Flit) : BitVec 16 :=
  ((toBytes f.payload.toNat 56) ++ (toBytes (f.ctl.toNat / 65536) 6)).foldl crc16Byte 0xFFFF

/-- What a receiver makes of a flit: a good one in order, with or without NAK, or the retransmitted one that its own NAK asked for; a
CRC mismatch; a gap in the sequence; or a later flit that it discards while its NAK stands (R163). -/
inductive FlitEv where
  | good | nak | again | crc | gap | discarded
  deriving DecidableEq, Repr

/-- An ACK covers a flit: its SEQ is the ACK's or one of the 2,047 before it. -/
def covers (ack : BitVec 12) (f : Flit) : Bool := decide ((ack - BitVec.ofNat 12 (fld f.ctl 63 52)).toNat < 2048)

/-- An end sends a flit (R163): a new one enters its replay buffer of 256, one that it has kept is sent again, and a full buffer sends
no new one (none). -/
def Plink.sends (p : Plink) (f : Flit) : Option Plink :=
  let seq := BitVec.ofNat 12 (fld f.ctl 63 52)
  if seq ≠ p.next then some (if p.resend = some seq then { p with resend := none } else p)
  else if 256 ≤ p.unacked.length then none
  else some { p with unacked := p.unacked ++ [f], next := p.next + 1 }

/-- What a good flit's control word tells the end's transmitter (R161, R163): ACK frees the replay buffer, NAK asks for the flits from
the one after ACK on, and credits come back. -/
def Plink.told (p : Plink) (f : Flit) : Plink :=
  let ack := BitVec.ofNat 12 (fld f.ctl 51 40)
  let cls := fld f.ctl 38 36
  { p with unacked := p.unacked.filter (fun g => !covers ack g)
           resend := if bit f.ctl 39 then some (ack + 1) else p.resend
           credits := if cls < 4 then SMap.put 0 p.credits cls (SMap.get 0 p.credits cls + fld f.ctl 35 32) else p.credits }

/-- A receiver takes a flit (R163). -/
def Plink.take (p : Plink) (f : Flit) (flipped : Bool) : Plink × FlitEv :=
  if flipped || decide (fld f.ctl 15 0 ≠ (flitCrc f).toNat) then ({ p with nakSent := true, naks := p.naks + 1 }, .crc)
  else if fld f.ctl 63 52 ≠ p.expect.toNat then
    if p.nakSent then (p, .discarded) else ({ p with nakSent := true, naks := p.naks + 1 }, .gap)
  else
    let nak := bit f.ctl 39
    let ack := BitVec.ofNat 12 (fld f.ctl 51 40)
    ({ p.told f with
       expect := p.expect + 1, acked := ack, nakSent := false, naks := 0
       nakIn := if nak then (if ack = p.acked then p.nakIn + 1 else 1) else 0 },
     if nak then .nak else if p.nakSent then .again else .good)

/-! ### Package links -/

/-- `PLINK_STATUS[d]`. -/
def plinkR (d : Nat) : RegRef := ⟨.plinkStatus, d, 0, 0⟩
/-- The state of a package link: 0 Off, 1 Train, 2 Active, 3 Replay, 4 Retrain, 5 Failed. -/
def State.plinkState (s : State) (d : Nat) : Nat := s.rf (plinkR d) 2 0
/-- Its Sole record: a retrain or a spare lane (R418). -/
def State.notePlink (s : State) (d : Nat) : State := s.sysEvent 0x14 [BitVec.ofNat 64 d, s.reg (plinkR d)]

/-- A package link enters Retrain (R164). -/
def State.plinkRetrain (s : State) (d : Nat) : State :=
  let s := (s.incRf (plinkR d) 31 24).setRf (plinkR d) 2 0 4
  (s.emitEvent (352 + d) 0x11 4).notePlink d

/-- A package link enters Replay. -/
def State.plinkReplay (s : State) (d : Nat) : State := (s.setRf (plinkR d) 2 0 3).emitEvent (352 + d) 0x10 3

/-- A package link has failed (R164): the die goes offline. -/
def State.plinkFail (s : State) (d : Nat) : State := (s.setRf (plinkR d) 2 0 5).dieOffline d 1 none

/-- What a flit does to the state of a package link (R164). Each NAK received is one replay, which ends at the end that awaits the
retransmitted flit. -/
def State.plinkFlit (s : State) (d : Nat) (p : Plink) (e : FlitEv) : State :=
  let s := match e with
    | .crc => s.incRf (plinkR d) 47 32
    | .nak => (s.incRf (plinkR d) 63 48).countDie d 0x06
    | _ => s
  if s.plinkState d = 2 then
    match e with
    | .crc | .nak | .gap => s.plinkReplay d
    | _ => s
  else if s.plinkState d = 3 then
    if 8 ≤ p.naks ∨ 8 ≤ p.nakIn then s.plinkRetrain d
    else match e with
      | .again => s.setRf (plinkR d) 2 0 2
      | _ => s
  else s

/-- An end of a package link. -/
def State.plinkEnd (s : State) (d : Nat) (io : Bool) : Plink := SMap.get {} (if io then s.links.plinkIo else s.links.plinkDie) d
/-- An end of a package link set. -/
def State.setPlinkEnd (s : State) (d : Nat) (io : Bool) (p : Plink) : State :=
  if io then { s with links := { s.links with plinkIo := SMap.put {} s.links.plinkIo d p } }
  else { s with links := { s.links with plinkDie := SMap.put {} s.links.plinkDie d p } }

/-- A flit reaches the I/O-die end or the compute-die end of a package link, from the other end: the die's fabric has sent or received
it (R390). Off, Retrain and Failed carry none. The sender of a NAK awaits the flit that it asks for. -/
def State.plinkReceive (s : State) (d : Nat) (io : Bool) (f : Flit) (flipped : Bool) : State :=
  let st := s.plinkState d
  if st = 1 ∨ st = 2 ∨ st = 3 then
    match (s.plinkEnd d (!io)).sends f with
    | none => s
    | some q =>
      let (p, e) := (s.plinkEnd d io).take f flipped
      let s := (s.setPlinkEnd d (!io) (if e = .nak then { q with nakSent := true } else q)).setPlinkEnd d io p
      (s.countDie d (if io then 0x04 else 0x05)).plinkFlit d p e
  else s

/-- A flit on its way to a compute die passes the injector of the I/O die's transmit side (R370): a dropped one does not
arrive, and a corrupted one fails its CRC. A swap of two messages within the stream does not change the flits' order. -/
def State.plinkToDie (s : State) (d : Nat) (f : Flit) : State :=
  match Config.flitUnit f.payload with
  | none => s.plinkReceive d false f false
  | some (cls, head) =>
    match s.inject d cls.val head with
    | (s, some 0) => s
    | (s, some 1) => s.plinkReceive d false f true
    | (s, _) => s.plinkReceive d false f false

/-- The trios that serve the die's logical trios are powered and enter service (R17, R33). -/
def State.dieServes (s : State) (d : Nat) : State :=
  forN 6 (fun k s => match s.physOf d k with
    | some t => (s.trioOn t).setRf (dieStatR d) (16 + t % 7) (16 + t % 7) 1
    | none => s) s

/-- A compute die that was Starting is Online (R34's DIE_STATUS, R164, R405). -/
def State.dieOnline (s : State) (d : Nat) : State :=
  if s.dieState d = 1 ∧ !s.safe then (s.setRf (dieStatR d) 2 0 2).dieServes d else s

/-- A lane named by a training: 0-15, or 0x1F for none. -/
def laneOk (l : BitVec 5) : Bool := decide (l.toNat < 16) || decide (l = 0x1F)

/-- The lane that a training names; a number that no lane has names none (assumption 33). -/
def laneNamed (l : BitVec 5) : BitVec 5 := if l.toNat < 16 then l else 0x1F

/-- The spare lane of a direction after a lane has failed (0x1F: none has); none when a second lane fails (R164). -/
def spareLane (old : Nat) (bad : BitVec 5) : Option Nat :=
  if bad = 0x1F ∨ bad.toNat = old then some old else if old = 0x1F then some bad.toNat else none

/-- The failed lanes of both directions are replaced, or the link fails (R164); `ok` follows. -/
def State.spareLanes (s : State) (d : Nat) (tx rx : BitVec 5) (ok : State → State) : State :=
  match spareLane (s.rf (plinkR d) 21 17) tx, spareLane (s.rf (plinkR d) 16 12) rx with
  | some t, some r =>
    let s' := (s.setRf (plinkR d) 21 17 t).setRf (plinkR d) 16 12 r
    ok (if s'.reg (plinkR d) = s.reg (plinkR d) then s else s'.notePlink d)
  | _, _ => s.plinkFail d

/-- PLINK_TRAIN_COMPLETE (R164): Train becomes Active, with the lanes replaced that have failed. -/
def execPlinkTrainComplete (d : DieId) (spareTx spareRx : BitVec 5) (s : State) : Host.Outcome State Fault Refusal :=
  done (
    if s.plinkState d.val ≠ 1 then s
    else (s.spareLanes d.val (laneNamed spareTx) (laneNamed spareRx) (fun s => (s.setRf (plinkR d.val) 2 0 2).dieOnline d.val)))

/-- PLINK_TRAIN_TIMEOUT (R164): Train or Retrain was not achieved in time. -/
def execPlinkTrainTimeout (d : DieId) (s : State) : Host.Outcome State Fault Refusal :=
  done (
    if s.plinkState d.val = 1 ∨ s.plinkState d.val = 4 then (s.plinkFail d.val) else s)

/-- The counts of consecutive NAKs start anew; the flits that no ACK covers are sent again (R164). -/
def State.plinkResume (s : State) (d : Nat) : State :=
  let again := fun (p : Plink) =>
    { p with naks := 0, nakIn := 0, resend := (p.unacked.head?).map (fun f => BitVec.ofNat 12 (fld f.ctl 63 52)) }
  (s.setPlinkEnd d true (again (s.plinkEnd d true))).setPlinkEnd d false (again (s.plinkEnd d false))

/-- PLINK_RETRAIN_COMPLETE (R164): Retrain becomes Active; no flit is lost. -/
def execPlinkRetrainComplete (d : DieId) (badTx badRx : Option (BitVec 5)) (s : State) : Host.Outcome State Fault Refusal :=
  done (
    let tx := laneNamed (badTx.getD 0x1F)
    let rx := laneNamed (badRx.getD 0x1F)
    if s.plinkState d.val ≠ 4 then s
    else (s.spareLanes d.val tx rx (fun s => (s.plinkResume d.val).setRf (plinkR d.val) 2 0 2)))

/-- A write of `PLINK_CTL` (R164): CLRCNT clears the counters; RETRAIN acts in Active. -/
def State.writePlinkCtl (s : State) (d : Nat) (v : Dword) : State :=
  let s := if bit v 1 then ((s.setRf (plinkR d) 63 48 0).setRf (plinkR d) 47 32 0).setRf (plinkR d) 31 24 0 else s
  if bit v 0 ∧ s.plinkState d = 2 then s.plinkRetrain d else s

end Sys2Proof.Machine
end

