-- ==== Sys2Proof/Machine/Csr.lean ====
section
/-! DEFINITION. Control and status registers as instructions read and write them (R42, R58, R61, R79, R103, R318, R319). -/

namespace Sys2Proof.Machine

/-- The bits of a CSR that a CSRWR changes; none where no CSR has the number (R42). -/
def csrMask (n : Nat) : Option Dword :=
  let all := BitVec.allOnes 64
  let setReg (i : Nat) (pl1 : Bool) : Option Dword :=
    match i with
    | 2 => some (if pl1 then 0x2FFFFFF else 0x3FFFFFF)
    | 6 => some 0xFFFFFFFFF000
    | 8 => some 0xF03FF03FF03FF03F
    | _ => some all
  if n = 0x001 then some 7
  else if n = 0x002 then some 0xFF
  else if n = 0x010 ∨ n = 0x011 then some 0
  else if n = 0x020 ∨ n = 0x029 then some 0
  else if n = 0x024 then some 0x1FFF
  else if n = 0x028 then some 0x3FFFF
  else if 0x021 ≤ n ∧ n ≤ 0x027 then some all
  else if n = 0x100 then some 3
  else if 0x101 ≤ n ∧ n ≤ 0x10C then setReg (n - 0x100) true
  else if (0x111 ≤ n ∧ n ≤ 0x113) ∨ (0x116 ≤ n ∧ n ≤ 0x11C) then setReg (n - 0x110) true
  else if 0x120 ≤ n ∧ n ≤ 0x123 then some 0
  else if n = 0x200 then some 1
  else if 0x201 ≤ n ∧ n ≤ 0x20C then setReg (n - 0x200) false
  else if n = 0x210 then some 0x8FFFE
  else if n = 0x220 ∨ n = 0x221 then some 0
  else if n = 0x222 then some 0xFF
  else if 0x301 ≤ n ∧ n ≤ 0x30C then setReg (n - 0x300) false
  else none

/-- The least privileged level of a CSR number (R61). -/
def csrLevel (n : Nat) : Nat := n / 0x100

/-- `DIVSTi` set (R58): ignored while the unit is busy and not held. -/
def Core.setDivst (k : Core) (i : Nat) (v : Dword) : Core :=
  let iu := k.arch.iu
  let fu := k.arch.fu
  let busy (ctl : Dword) : Bool := bit ctl 0 && !bit ctl 1
  if i ≤ 3 then
    if busy iu.ctl then k
    else
      let u : IntUnit := match i with
        | 0 => { iu with a := v }
        | 1 => { iu with b := v }
        | 2 => { iu with x := v }
        | _ => { iu with ctl := v }
      { k with arch := { k.arch with iu := u } }
  else if busy fu.ctl then k
  else
    let u : FpUnit := match i with
      | 4 => { fu with a := v }
      | 5 => { fu with b := v }
      | 6 => { fu with x := v }
      | _ => { fu with ctl := v }
    { k with arch := { k.arch with fu := u } }

/-- HELD of both units set (DIVSAVE) or cleared (DIVRESTORE) (R58). -/
def Core.hold (k : Core) (b : Bool) : Core :=
  { k with arch := { k.arch with iu := { k.arch.iu with ctl := setBit k.arch.iu.ctl 1 b }
                                 fu := { k.arch.fu with ctl := setBit k.arch.fu.ctl 1 b } } }

/-- The working values of a unit that is idle with last result 0: they are read as zero (R255). -/
def divIdle (i : Nat) : Dword := if i = 1 then 1 else if i = 5 then 0x3F800000 else 0

/-- What `DIVSTi` reads as: the six working values are opaque (R58, assumption 6), but for those of an idle unit with last result 0,
which are zero. -/
def divMasked (i : Nat) (v : Dword) : Dword :=
  let m := Config.divMask i
  if i = 3 ∨ i = 7 then v
  else if v = divIdle i then 0
  else if v = m then divIdle i ^^^ m
  else v ^^^ m

/-- The working value that a write of `DIVSTi` restores: what was read gives back the value it was read from (R58). -/
def divUnmasked (i : Nat) (v : Dword) : Dword :=
  let m := Config.divMask i
  if i = 3 ∨ i = 7 then v
  else if v = 0 then divIdle i
  else if v = divIdle i ^^^ m then m
  else v ^^^ m

/-- The class of a claim or complete register. -/
def claimClass (n : Nat) : IntClass := if n < 0x122 then .normal else if n < 0x200 then .fast else .pl2

/-- A CSR as CSRRD reads it. A claim register's read claims, and the Welt delivers its
result to the copies of a redundant stream (R208, R318); a write-only one reads 0. -/
def State.csrRead (s : State) (c n : Nat) : State × Dword :=
  let k := s.core c
  if n = 0x011 then (s.sampled c, s.timebase)
  else if 0x021 ≤ n ∧ n ≤ 0x028 then (s, divMasked (n - 0x021) (k.divst (n - 0x021)))
  else if n = 0x120 ∨ n = 0x122 ∨ n = 0x220 then
    let r := (s.sampled c).claim c (claimClass n)
    (r.1, BitVec.ofNat 64 r.2)
  else if csrMask n = some 0 ∧ n ≠ 0x010 then (s, 0)
  else (s, k.csr n)

/-- A CSR written by CSRWR: the bits of its mask; `FCSR` keeps RM on a reserved mode. -/
def State.csrWrite (s : State) (c n : Nat) (v : Dword) : State :=
  if n = 0x020 ∨ n = 0x029 then s.modCore c (fun k => k.hold (decide (n = 0x020)))
  else if n = 0x121 ∨ n = 0x123 ∨ n = 0x221 then s.complete c (claimClass n) (fld v 11 0)
  else
    match csrMask n with
    | none => s
    | some m =>
      if 0x021 ≤ n ∧ n ≤ 0x028 then s.modCore c (fun k => k.setDivst (n - 0x021) (divUnmasked (n - 0x021) v &&& m))
      else if m = 0 then s
      else if n = 0x002 ∧ 5 ≤ fld v 7 5 then
        s.modCore c (fun k => k.setCsr n (setFld (k.csr n) 4 0 (fld v 4 0)))
      else s.modCore c (fun k => k.setCsr n ((k.csr n &&& ~~~m) ||| (v &&& m)))

/-- The traps of an access to a CSR: Reserved instruction for an unassigned number, Privileged instruction below its level. -/
def Core.csrTrap (k : Core) (n : Nat) : Option Trap :=
  if csrMask n = none then some { cause := 0x04 }
  else if k.pl < csrLevel n then some { cause := 0x06 }
  else none

/-- CSRRD at distance 3. -/
def csrrdInstr (c : CoreId) (o : OpsF) (s : State) : Host.Outcome State Fault Refusal :=
  done (s.position c.val (wordF 0x30 0 o) false (fun s =>
    match (s.core c.val).csrTrap o.sys.toNat with
    | some x => (s, .trap x)
    | none =>
      let r := s.csrRead c.val o.sys.toNat
      (r.1.modCore c.val (fun k => k.give false o.rd r.2 3), .next {} none)))

/-- CSRWR: effective at the next position, before that position's flags are ORed in (R79). -/
def csrwrInstr (c : CoreId) (o : OpsF) (s : State) : Host.Outcome State Fault Refusal :=
  done (s.position c.val (wordF 0x30 1 o) false (fun s =>
    match (s.core c.val).csrTrap o.sys.toNat with
    | some x => (s, .trap x)
    | none => (s.csrWrite c.val o.sys.toNat ((s.core c.val).g o.rs1), .next {} none)))

/-- CSRRD (R61). -/
def execCsrrd (c : CoreId) (o : OpsF) (s : State) : Host.Outcome State Fault Refusal := csrrdInstr c o s
/-- CSRWR (R61). -/
def execCsrwr (c : CoreId) (o : OpsF) (s : State) : Host.Outcome State Fault Refusal := csrwrInstr c o s
/-- CSRWR to `DIVSAVE` (R58). -/
def execDivsave (c : CoreId) (o : OpsF) (s : State) : Host.Outcome State Fault Refusal := csrwrInstr c { o with sys := 0x020 } s
/-- CSRWR to `DIVRESTORE` (R58). -/
def execDivrestore (c : CoreId) (o : OpsF) (s : State) : Host.Outcome State Fault Refusal := csrwrInstr c { o with sys := 0x029 } s

/-- The claim register of a class; its complete register is the next. -/
def claimReg : IntClass → BitVec 12
  | .normal => 0x120
  | .fast => 0x122
  | .pl2 => 0x220

/-- CSRRD of a claim register (R318). -/
def execEclaim (c : CoreId) (k : IntClass) (o : OpsF) (s : State) : Host.Outcome State Fault Refusal :=
  csrrdInstr c { o with sys := claimReg k } s
/-- CSRWR of a complete register (R319). -/
def execEcomp (c : CoreId) (k : IntClass) (o : OpsF) (s : State) : Host.Outcome State Fault Refusal :=
  csrwrInstr c { o with sys := claimReg k + 1 } s

end Sys2Proof.Machine
end

