-- ==== Sys2Proof/Machine/Cxe.lean ====
section
/-! DEFINITION. WAIT, WAITE, YIELD, FDONE and SIGNAL (R270-R276). -/

namespace Sys2Proof.Machine

/-- A Budget overrun record of a slot (R269, R284): its budget, the units consumed in the period, the PC at the leave. -/
def State.budgetRecord (s : State) (t n : Nat) : State :=
  let k := s.slot t n
  let s := s.ctxRecord t n 0x14 0 0 [BitVec.ofNat 64 k.budget, BitVec.ofNat 64 k.used, k.arch.pc]
  (s.incRf ⟨.cxeTstat, 0, k.tid.val, 0⟩ 31 16).emitEvent (256 + t) 0x04 (s.cidOf t n)

/-- An instruction of the major 0x32 below which level it traps; `forbid` in a delay slot. -/
def ctxInstr (c : CoreId) (fn4 : BitVec 4) (lvl : Nat) (forbid : Bool) (o : OpsF) (body : State → State × PosRes) (s : State) :
    Host.Outcome State Fault Refusal :=
  done (s.position c.val (wordF 0x32 fn4 o) forbid (fun s =>
    if (s.core c.val).pl < lvl then (s, .trap { cause := 0x06 }) else body s))

/-- What a departure leaves in the trace and the counters. -/
def gone : PosRes := .moved { dispatch := true }

/-- An interrupt for the core is pending in the Event Gatherer (R270). -/
def State.anyPending (s : State) (c : Nat) : Bool :=
  [IntClass.normal, IntClass.fast, IntClass.pl2].any (fun k => s.candidates.any (fun n => s.eligible c k n))

/-- WAIT (R270): issue stops at the next position until an interrupt for the core is pending. -/
def execWait (c : CoreId) (o : OpsF) (s : State) : Host.Outcome State Fault Refusal :=
  ctxInstr c 0 1 true o (fun s =>
    if s.anyPending c.val then (s, .next {} none)
    else ((s.countCore c.val 0x01).modCore c.val (fun k => { k.advance none with run := .waiting }), .moved {})) s

/-- WAITE's block (R271, R276): the context is Waiting on the mask, its PC after the WAITE. A budget spent as it blocks is
recorded. -/
def State.block (s : State) (c n : Nat) (m : Word) (rd : BitVec 5) : State :=
  let t := trioOf c
  let key := ((s.core c).dest false rd).getD 0
  let spent := decide (s.remain t n = 0)
  let s := s.modCore c (fun k => k.advance none)
  let s := s.leave t (coreIn c) .waiting
  let s := s.modSlot t n (fun b => { b with waitMask := m, waitReg := key })
  (if spent then s.budgetRecord t n else s).redispatch t

/-- WAITE (R271). On the service trio, which holds no context (R18), it returns 0 and runs on (DEDUCED, assumption 12). -/
def execWaite (c : CoreId) (o : OpsF) (s : State) : Host.Outcome State Fault Refusal :=
  ctxInstr c 1 0 true o (fun s =>
    let k := s.core c.val
    let m : Word := (k.g o.rs1).truncate 32
    match k.ctx with
    | none => (s.modCore c.val (fun k => k.give false o.rd 0 3), .next { dispatch := true } none)
    | some n =>
      let ev := (s.slot (trioOf c.val) n.val).events &&& m
      if ev ≠ 0 ∨ m = 0 then
        let s := (s.sampled c.val).modSlot (trioOf c.val) n.val (fun b => { b with events := b.events &&& ~~~m })
        (s.modCore c.val (fun k => k.give false o.rd (ev.zeroExtend 64) 3), .next { dispatch := true } none)
      else ((s.countCore c.val 0x01).block c.val n.val m o.rd, gone)) s

/-- YIELD (R273, R276): with its budget spent the context becomes Dormant and is recorded. -/
def execYield (c : CoreId) (o : OpsF) (s : State) : Host.Outcome State Fault Refusal :=
  ctxInstr c 2 0 true o (fun s =>
    match (s.core c.val).ctx with
    | none => (s, .next { dispatch := true } none)
    | some n =>
      let t := trioOf c.val
      let s := (s.countCore c.val 0x01).modCore c.val (fun k => k.advance none)
      if s.remain t n.val = 0 then
        (((s.leave t (coreIn c.val) .dormant).budgetRecord t n.val).redispatch t, gone)
      else (s.yieldOn t (s.streamOf c.val) n.val, gone)) s

/-- FDONE (R274): the context's work for the period ends. -/
def execFdone (c : CoreId) (o : OpsF) (s : State) : Host.Outcome State Fault Refusal :=
  ctxInstr c 3 0 true o (fun s =>
    match (s.core c.val).ctx with
    | none => (s, .next { dispatch := true } none)
    | some n =>
      let t := trioOf c.val
      let s := (s.countCore c.val 0x01).modCore c.val (fun k => k.advance none)
      let s := s.modSlot t n.val (fun b => { b with fdone := true })
      (s.depart c.val .dormant, gone)) s

/-- SIGNAL (R272): an invalid context ID is discarded at once, the rest when the event arrives. -/
def execSignal (c : CoreId) (o : OpsF) (s : State) : Host.Outcome State Fault Refusal :=
  ctxInstr c 4 0 false o (fun s =>
    let cid := fld ((s.core c.val).g o.rs1) 12 0
    let tid := s.tidOn c.val
    let high := decide (2 ≤ (s.core c.val).pl)
    if 12 ≤ cid / 512 ∨ 6 ≤ cid / 64 % 8 then
      (s.incRf ⟨.cxeTstat, 0, tid, 0⟩ 63 48, .next { dispatch := true } none)
    else (s.post cid (fld o.sys 4 0) (.signal tid high), .next { dispatch := true } none)) s

end Sys2Proof.Machine
end

