-- ==== Sys2Proof/Machine/Device.lean ====
section
/-! DEFINITION. The completion of an access for which a core stands frozen in M1 (R113), and of posted stores (R465). -/

namespace Sys2Proof.Machine

/-- A loaded value of `n` bytes as its register takes it. -/
def loadVal (n : Nat) (signed : Bool) (v : Dword) : Dword :=
  match n with
  | 1 => if signed then (v.truncate 8 : BitVec 8).signExtend 64 else (v.truncate 8 : BitVec 8).zeroExtend 64
  | 2 => if signed then (v.truncate 16 : BitVec 16).signExtend 64 else (v.truncate 16 : BitVec 16).zeroExtend 64
  | 4 => if signed then (v.truncate 32 : BitVec 32).signExtend 64 else (v.truncate 32 : BitVec 32).zeroExtend 64
  | _ => v

/-- A value loaded with the bytes that the merging buffer supplies in their places (R115). -/
def DevAcc.seen (a : DevAcc) (v : Dword) : Dword :=
  BitVec.ofNat 64 (ofBytes ((List.range 8).map (fun i =>
    ((a.held[i]?).join).getD ((v >>> (8 * i)).truncate 8))))

/-- The flags of a sequence reach `FCSR` and `ASTAT` at their own distances from the custom instruction's position (DEDUCED,
assumption 26). -/
def Core.seqFlags (k : Core) (l : List (Nat × BitVec 5 × BitVec 3)) : Core :=
  l.foldl (fun k f => if f.2.1 = 0 ∧ f.2.2 = 0 then k else k.produce ⟨k.arch.posn + f.1, none, 0, f.2.1, f.2.2, none⟩) k

/-- The access for which core `c` is frozen completes: its position ends with the load's value at distance 3, or it traps. With
the state comes what that brings to the comparators. -/
def State.finishRun (s : State) (c : Nat) (ok : Bool) (v : Dword) (sub : Nat) : State × Items :=
  match (s.core c).dev with
  | none => (s, {})
  | some a =>
    let s := s.modCore c (fun k => { k with dev := none })
    let k := s.core c
    let pc := k.arch.pc
    if ok then
      let x := loadVal a.size a.signed (a.seen v)
      let s := s.modCore c (fun k => k.seqFlags a.flags)
      let s := if a.store ∨ a.reg = 0 then s
        else s.modCore c (fun k => k.produce ⟨k.arch.posn + 3, some a.reg, x, 0, 0, none⟩)
      let h : Happened := { acc := some { va := a.va, val := x, kind := a.store.toNat, size := a.size, served := 6 } }
      ((s.modCore c (fun k => k.advance none)).endPos c pc h,
        { step := true, wrote := !a.store && decide (a.reg ≠ 0), retired := true })
    else (s.trapPos c a.word { cause := 0x0F, sub := sub, eva := a.va }, { trap := true, step := true })

/-- The access for which core `c` is frozen completes, compared where its stream is redundant. -/
def State.finishDev (s : State) (c : Nat) (ok : Bool) (v : Dword) (sub : Nat) : State :=
  let r := s.finishRun c ok v sub
  s.compared r.1 c r.2

/-- Every core frozen for a write to the register at physical address `pa` goes on (R113). -/
def State.finishAt (s : State) (pa : Nat) : State :=
  s.cores.foldl (fun s e => match e.2.dev with
    | some a => if a.pa.toNat = pa ∧ a.store then s.finishDev e.1 true 0 0 else s
    | none => s) s

/-- The physical address of a register. -/
def RegRef.pa (r : RegRef) : Nat := 0x3F0000000000 + r.off

/-- A response for the access on which core `c` stands frozen; that of a redundant stream passes the Welt (R208). -/
def State.respond (s : State) (c : Nat) (ok : Bool) (v : Dword) : State :=
  if s.throughWelt c then s.modTrio (trioOf c) (fun t => { t with welt := t.welt ++ [(0, .response v ok)] })
  else s.finishDev c ok v 0

/-- A response from a device (R113, R465): it ends the core's freeze, or the oldest posted store. -/
def execDeviceCompletion (c : CoreId) (ok : Bool) (v : Dword) (s : State) : Host.Outcome State Fault Refusal :=
  done (
    match (s.core c.val).dev with
    | some a =>
      match s.region a.pa.toNat with
      | .pcie | .xspi => (s.respond c.val ok v)
      | _ => s
    | none =>
      match (s.core c.val).posted with
      | [] => s
      | p :: rest =>
        let s := s.modCore c.val (fun k => { k with posted := rest })
        (if ok then s else s.postedFail p.2.val p.1.toNat 0x0F 0))

end Sys2Proof.Machine
end

