-- ==== Sys2Proof/Machine/Gce.lean ====
section
/-! DEFINITION. The commands of the Global Context Engine and its command queues (R254, R255, R276-R281, R286, R290). -/

namespace Sys2Proof.Machine

/-! ### Descriptors (R253-R255) -/

/-- The tenant's class demands at least this REDUN (R193). -/
def State.demands (s : State) (tid : Nat) : Nat := if s.classOf tid = 0 then 2 else if s.classOf tid = 1 then 1 else 0

/-- A descriptor in memory: none where it lies outside installed DRAM or cannot be read. -/
def State.readDesc (s : State) (tid h : Nat) : State × Option (List Dword) :=
  let pa := s.descPa tid h
  if !bit (s.reg (ctBaseR tid)) 0 || !s.rangeInstalled pa 128 then (s, none)
  else
    match s.unitLines (gceRq tid) (pa / 64) 2 with
    | (s, some ls) => (s, some (ls.flatMap (fun d => (List.range 8).map (lineDw d))))
    | (s, none) => (s, none)

/-- The descriptor checks of R254, in the order of R280: the status, or 0 when the descriptor is accepted. -/
def State.checkDesc (s : State) (tid : Nat) (d : List Dword) : Nat :=
  let redun := dfld d 0 28 27
  let budget := dfld d 2 20 0
  let pmul := dfld d 2 26 21
  if !bit (d.getD 0 0) 63 ∨ dfld d 0 62 58 ≠ tid then 0x0B
  else if redun = 3 ∨ budget = 0 ∨ 1048576 < budget ∨ s.frames % (pmul + 1) ≠ 0 ∨ pmul < dfld d 2 32 27 ∨
      s.period ≤ dfld d 2 52 33 ∨ dfld d 4 1 0 ≠ 0 ∨ dfld d 7 11 0 ≠ 0 ∨ dfld d 8 11 0 ≠ 0 ∨
      (tid = 0 ∧ dfld d 0 57 46 = 0xFFF) then 0x07
  else if redun < s.demands tid then 0x06
  else 0

/-- BASE of an `EVEC` (R103). -/
def evecBase (d : Dword) : Dword := setFld 0 47 12 (fld d 47 12)

/-- The register image of a new context (R255). -/
def newArch (d : List Dword) : Arch :=
  let ctl : Dword := setFld (setFld (setFld 0 4 3 (dfld d 0 22 22)) 0 0 (dfld d 0 21 21)) 1 1 (dfld d 0 20 20)
  { pc := canonPc (d.getD 4 0)
    regs := SMap.put 0 (SMap.put 0 [] 30 (d.getD 5 0)) 10 (d.getD 6 0)
    csr := SMap.put 0 (SMap.put 0 (SMap.put 0 [] 0x100 ctl) 0x106 (evecBase (d.getD 7 0))) 0x116 (evecBase (d.getD 8 0)) }

/-! ### The commands (R279, R280) -/

/-- How a command ends: its status, the context ID at completion and ENDED; or, for a KILL of a detached context, later. -/
inductive CmdEnd where
  | done (status : Nat) (cid : Option Nat) (ended : Bool)
  | held

/-- A refusal. -/
def refuse (s : State) (st : Nat) : State × CmdEnd := (s, .done st none false)

/-- A target field's die and logical trio name none (R251). -/
def badTarget (cid : Nat) : Bool := decide (12 ≤ cid / 512) || decide (6 ≤ cid / 64 % 8)

/-- The target's physical trio, on a die that is Online. -/
def State.target (s : State) (cid : Nat) : Option Nat :=
  if s.rf ⟨.dieStatus, 0, cid / 512, 0⟩ 2 0 = 2 then s.physOf (cid / 512) (cid / 64 % 8) else none

/-- CREATE (R254, R255, R279). -/
def State.cmdCreate (s : State) (tid h cid : Nat) (any : Bool) : State × CmdEnd :=
  if (s.findHandle tid h).isSome then refuse s 0x08
  else if badTarget cid then refuse s 0x02
  else
    match s.target cid with
    | none => refuse s 0x09
    | some t =>
      let n := if any then s.lowFree t else if (s.slot t (cid % 64)).state = .free then some (cid % 64) else none
      match n with
      | none => refuse s 0x05
      | some n =>
        match s.readDesc tid h with
        | (s, none) => refuse s 0x0A
        | (s, some d) =>
          let st := s.checkDesc tid d
          if st ≠ 0 then refuse s st
          else
            let id := s.cidOf t n
            let d := withCid d id
            let s := s.setSlot t n { state := .suspended, desc := d, eff := d, arch := newArch d, fdone := true
                                     handle := BitVec.ofNat 12 h, tid := BitVec.ofNat 5 tid |>.toFin }
            let s := (s.resolve tid h id).writeCid tid h id
            (s, .done 0 (some id) false)

/-- START (R252, R279). -/
def State.cmdStart (s : State) (t n : Nat) : State × CmdEnd :=
  if (s.slot t n).state ≠ .suspended then refuse s 0x04
  else (s.modSlot t n (fun b => { b with state := .dormant, fdone := true, late := true }), .done 0 (some (s.cidOf t n)) false)

/-- A context becomes Suspended (R252): a Running one leaves its stream; a Waiting one will execute its WAITE again; at W = 1 its
call frame is discarded and its watchdog stops (R308). -/
def State.suspend (s : State) (t n : Nat) : State :=
  let s := match s.coreOf t n with
    | some c => s.leave t (coreIn c) .suspended
    | none => s
  let wait := decide ((s.slot t n).state = .waiting)
  (s.modSlot t n (fun b => { b with
    state := .suspended, frame := none, watch := 0, waitMask := 0
    arch := if wait then { b.arch with pc := b.arch.pc - 4 } else b.arch })).redispatch t

/-- STOP. -/
def State.cmdStop (s : State) (t n : Nat) : State × CmdEnd :=
  if (s.slot t n).state = .suspended then refuse s 0x04
  else (s.suspend t n, .done 0 (some (s.cidOf t n)) false)

/-- KILL (R276, R279): with an access detached the slot is freed when the response arrives. -/
def State.cmdKill (s : State) (t n : Nat) (q : Fin 35) : State × CmdEnd :=
  let id := s.cidOf t n
  let s := match s.coreOf t n with
    | some c => s.leave t (coreIn c) .suspended
    | none => s
  if (s.slot t n).outstanding then ((s.modSlot t n (fun b => { b with killQ := some q, frame := none, watch := 0 })).redispatch t, .held)
  else ((s.freeSlot t n).redispatch t, .done 0 (some id) false)

/-- The fields that a MODIFY changes at once: PRIO, REDUN, AFFIN, WINMASK and SLK (R290). -/
def atDecision (eff d : List Dword) : List Dword :=
  (eff.set 0 (setFld (eff.getD 0 0) 32 24 (dfld d 0 32 24))).set 3 (setFld (eff.getD 3 0) 16 0 (dfld d 3 16 0))

/-- A context's new descriptor (R290): in the period that runs, what the new BUDGET leaves of it bounds REMAIN, and a context that
it leaves nothing becomes Dormant with no record. Answers whether that ended its running. -/
def State.modify (s : State) (t n : Nat) (d : List Dword) : State × Bool :=
  let b := s.slot t n
  let live := if b.state = .running then s.charged t n else 0
  let used := b.used + live
  let remain := min (b.remain - live) (dfld d 2 20 0 - used)
  let ended := decide (remain = 0) && decide (0 < b.remain - live) && (b.state = .running || b.state = .ready)
  let d := withCid d (s.cidOf t n)
  let s := s.modSlot t n (fun b => { b with
    desc := d, eff := atDecision b.eff d, remain := remain, used := used, since := s.timebase })
  if ended then (s.toState t n .dormant, true) else (s.redispatch t, false)

/-- MODIFY. -/
def State.cmdModify (s : State) (tid t n h : Nat) : State × CmdEnd :=
  match s.readDesc tid h with
  | (s, none) => refuse s 0x0A
  | (s, some d) =>
    let st := s.checkDesc tid d
    if st ≠ 0 then refuse s st
    else
      let id := s.cidOf t n
      let r := s.modify t n d
      (r.1, .done 0 (some id) r.2)

/-- MIGRATE (R286): marked for the next tick; at once while no ticks are generated. -/
def State.cmdMigrate (s : State) (tid t n h cid : Nat) : State × CmdEnd :=
  if (s.slot t n).mig.isSome then refuse s 0x0C
  else if badTarget cid then refuse s 0x02
  else
    match s.target cid with
    | none => refuse s 0x09
    | some _ =>
      let s := s.modSlot t n (fun b => { b with mig := some (Fin.ofNat 12 (cid / 512), Fin.ofNat 6 (cid / 64 % 8)) })
      let s := if s.running then s
        else
          let s := match s.coreOf t n with
            | some c => s.leave t (coreIn c) .ready
            | none => s
          (s.migrateAll t).redispatch t
      let id := (s.findHandle tid h).map (fun p => s.cidOf p.1 p.2)
      (s, .done 0 id false)

/-- A command from queue `q` for tenant `tid`, by doubleword 0 of its entry (R278-R280). -/
def State.command (s : State) (q : Fin 35) (tid : Nat) (e : Dword) : State × CmdEnd :=
  let op := fld e 7 0
  let h := fld e 31 20
  let cid := fld e 44 32
  if op = 0 ∨ 6 < op then refuse s 0x01
  else if op = 1 then s.cmdCreate tid h cid (bit e 45)
  else
    match s.findHandle tid h with
    | none => refuse s 0x03
    | some (t, n) =>
      if (s.slot t n).killQ.isSome then refuse s 0x04
      else if op = 2 then s.cmdStart t n
      else if op = 3 then s.cmdStop t n
      else if op = 4 then s.cmdKill t n q
      else if op = 5 then s.cmdModify tid t n h
      else s.cmdMigrate tid t n h cid

/-! ### The queues (R277, R278, R281) -/

/-- `CXQ_CFG` of a queue. -/
def cxqCfgR (q : Nat) : RegRef := ⟨.cxqCfg, 0, q, 0⟩
/-- `CXQ_IDX` of a queue. -/
def cxqIdxR (q : Nat) : RegRef := ⟨.cxqIdx, 0, q, 0⟩
/-- 2^k entries. -/
def State.cxqSize (s : State) (q : Nat) : Nat := 2 ^ s.rf (cxqCfgR q) 4 0
/-- Entries wait in a queue. -/
def State.cxqWaits (s : State) (q : Nat) : Bool :=
  let n := s.cxqSize q
  decide (s.rf (cxqIdxR q) 11 0 % n ≠ s.rf (cxqIdxR q) 43 32 % n)
/-- The line of the entry at HEAD. -/
def State.cxqLine (s : State) (q : Nat) : Nat := s.rf (cxqCfgR q) 45 10 * 16 + s.rf (cxqIdxR q) 11 0 % s.cxqSize q

/-- The tenant whose memory a queue lies in: queue 32 is the partition manager's, TID 0. -/
def queueTid (q : Nat) : Nat := if q < 32 then q else 0

/-- Doubleword 0 of the entry at HEAD, as the Global Context Engine reads it. -/
def State.cxqHead (s : State) (q : Nat) : State × Option Dword :=
  match s.rdShared (gceRq (queueTid q)) (s.cxqLine q) true false with
  | (s, .ok (d, _, _)) => (s, some (lineDw d 0))
  | (s, .error _) => (s, none)

/-- Doubleword 0 of a context command at its completion (R278). -/
def cmdWord (e : Dword) (st : Nat) (cid : Option Nat) (ended : Bool) : Dword :=
  let e' := setFld (setFld (setFld e 15 8 st) 16 16 1) 17 17 (if ended then 1 else fld e 17 17)
  match cid with
  | some c => setFld e' 44 32 c
  | none => e'

/-- A queue's entry completes (R277, R278): STATUS, DONE, ENDED and the context ID are written, HEAD moves on, and the completion
is notified. -/
def State.cxqComplete (s : State) (q : Nat) (e : Dword) (st : Nat) (cid : Option Nat) (ended : Bool) : State :=
  let p := linePatch 0 8 (cmdWord e st cid ended).toNat
  let s := s.unitWrite (gceRq (queueTid q)) (s.cxqLine q) p.1 p.2
  let s := s.setRf (cxqIdxR q) 11 0 ((s.rf (cxqIdxR q) 11 0 + 1) % s.cxqSize q)
  let s := s.emitEvent 384 0x30 (q ||| fld e 7 0 <<< 6 ||| st <<< 14)
  if q = 32 then s.raise 8
  else
    let nt := s.reg ⟨.cxeNote, 0, q, 0⟩
    if bit nt 8 then s.notify q (fld nt 31 20) (fld nt 13 9) else s

/-- A tenant's reset is in progress (R293). A command for the tenant waits for its end (R296). -/
def State.resetting (s : State) (t : Nat) : Bool := s.rf ⟨.tntCfg, 0, t, 0⟩ 4 4 = 1

/-- A queue takes no entry while a KILL it took waits, or while its tenant is being reset (R281, R293). -/
def State.cxqStopped (s : State) (q : Nat) : Bool :=
  (decide (q < 32) && s.resetting q) ||
    s.trios.any (fun e => e.2.slots.any (fun x => decide ((x.2.killQ).map (·.val) = some q)))

/-- The entry at HEAD of a queue, doubleword 0 of which is `e`, is taken and served. -/
def State.serve (s : State) (q : Fin 33) (e : Dword) : State :=
  let tid := if q.val = 32 then fld e 50 46 else q.val
  match s.command (q.castLE (by decide)) tid e with
  | (s, .done st cid ended) => s.cxqComplete q.val e st cid ended
  | (s, .held) => s

/-- Entries of an unassigned OP at HEAD complete with status 0x01 (R280). -/
def State.skipBad (s : State) (q : Fin 33) : Nat → State
  | 0 => s
  | n + 1 =>
    if !s.cxqWaits q.val || s.cxqStopped q.val then s
    else
      match s.cxqHead q.val with
      | (s, some e) => if fld e 7 0 = 0 ∨ 6 < fld e 7 0 then (s.serve q e).skipBad q n else s
      | (s, none) => s

/-- A queue whose entry at HEAD the Global Context Engine can take. -/
def State.cxqReady (s : State) (q : Nat) : Bool := s.cxqWaits q && !s.cxqStopped q

/-- The queue has its turn (R281): it is the first from the rotation's position on that has a command to be taken. While a tenant
reset goes on, which may hold the command at HEAD of queue 32 up, that queue makes none wait. -/
def State.cxqTurn (s : State) (q : Nat) : Bool :=
  let held := (List.range 32).any s.resetting
  s.cxqReady q && ((List.range 33).map (fun i => (s.gce.turn + i) % 33)).find?
    (fun p => decide (p = q) || (s.cxqReady p && !(decide (p = 32) && held))) = some q

/-- A command row: the Global Context Engine takes the entry at HEAD of queue `q`, doubleword 0 of which reads `e`, in the queue's turn,
and carries out the OP that stands there. Nothing happens while no such entry is at HEAD, or while it is another queue's turn. -/
def gceRow (q : Fin 33) (e : Dword) (s : State) : Host.Outcome State Fault Refusal :=
  done (
    if !s.cxqTurn q.val || (q.val = 32 && s.resetting (fld e 50 46)) then s
    else
      match s.cxqHead q.val with
      | (s, some e') =>
        if e' = e then ((({ s with gce := { s.gce with turn := (q.val + 1) % 33 } }).serve q e).skipBad q 4096) else s
      | (s, none) => s)

/-- CREATE (R255). -/
def execCreate (q : Fin 33) (e : Dword) (s : State) : Host.Outcome State Fault Refusal := gceRow q e s
/-- START (R279). -/
def execStart (q : Fin 33) (e : Dword) (s : State) : Host.Outcome State Fault Refusal := gceRow q e s
/-- STOP (R279). -/
def execStop (q : Fin 33) (e : Dword) (s : State) : Host.Outcome State Fault Refusal := gceRow q e s
/-- KILL (R276). -/
def execKill (q : Fin 33) (e : Dword) (s : State) : Host.Outcome State Fault Refusal := gceRow q e s
/-- MODIFY (R290). -/
def execModify (q : Fin 33) (e : Dword) (s : State) : Host.Outcome State Fault Refusal := gceRow q e s
/-- MIGRATE (R286). -/
def execMigrate (q : Fin 33) (e : Dword) (s : State) : Host.Outcome State Fault Refusal := gceRow q e s

/-- A write to `CXQ_IDX` (R277): TAIL is the doorbell; entries that the engine refuses outright complete. -/
def State.writeCxqIdx (s : State) (q : Nat) (v : Dword) : Wr :=
  .ok ((s.writeReg (cxqIdxR q) v).skipBad (Fin.ofNat 33 q) 4096)

end Sys2Proof.Machine
end

