-- ==== Sys2Proof/Machine/Msix.lean ====
section
/-! DEFINITION. The MSI-X vectors and the doorbells of the command port's virtual functions (R354). -/

namespace Sys2Proof.Machine

/-- Vector `v` of VF `t` is sent, or pends while the host masks it (R354). A table entry is masked until the host unmasks it
(PRESUMED, assumption 18). -/
def State.sendVector (s : State) (t v : Nat) : State :=
  if !bit (SMap.get 0 s.links.msix (8 * t + 2 * v + 1)) 32 then
    let b := SMap.get 0 s.links.msixPba t
    { s with links := { s.links with msixPba := SMap.put 0 s.links.msixPba t (setBit b v true) } }
  else { s with links := { s.links with msixSent := s.links.msixSent ++ [(t, v)] } }

/-- The form in which the table's second doublewords are kept: bit 32 reads 1 when the vector is not masked. -/
def msixFlip (i : Nat) (x : Dword) : Dword := if i % 2 = 1 then x ^^^ (1 <<< 32) else x

/-- The host reads a doubleword of a VF's MSI-X table: address, or data and mask. -/
def State.readMsix (s : State) (t i : Nat) : Dword := msixFlip i (SMap.get 0 s.links.msix (8 * t + i))

/-- The host writes a doubleword of the table: a vector that pends is sent when it is unmasked (R354). -/
def State.writeMsix (s : State) (t i : Nat) (x : Dword) : State :=
  let x := if i % 2 = 1 then x &&& 0x1FFFFFFFF else x
  let s := { s with links := { s.links with msix := SMap.put 0 s.links.msix (8 * t + i) (msixFlip i x) } }
  let b := SMap.get 0 s.links.msixPba t
  if i % 2 = 1 ∧ bit b (i / 2) ∧ !bit x 32 then
    { s with links := { s.links with
      msixPba := SMap.put 0 s.links.msixPba t (setBit b (i / 2) false), msixSent := s.links.msixSent ++ [(t, i / 2)] } }
  else s

/-- A write of `CP_VFDB` (R354): each bit written 1 sends its vector. -/
def State.writeVfdb (s : State) (t : Nat) (v : Dword) : State :=
  forN 4 (fun i s => if bit v i then s.sendVector t i else s) s

/-- A function level reset of VF `t` (R354). -/
def State.flrVf (s : State) (t : Nat) : State :=
  let s := s.setRf ⟨.cpVfdb, 0, t, 0⟩ 63 32 0
  let s := { s with links := { s.links with
    msix := s.links.msix.filter (fun e => decide (e.1 / 8 ≠ t)), msixPba := SMap.put 0 s.links.msixPba t 0 } }
  s.raise (23 * 32 + t)

end Sys2Proof.Machine
end

