-- ==== Sys2Proof/Machine/Sources.lean ====
section
/-! DEFINITION. The Event Gatherer's inputs and registers: sources, triggers, pending bits, group control, routes, hold-off and
copy errors (R312-R316, R320-R322, R324). -/

namespace Sys2Proof.Machine

/-- Sources that no unit ever drives (R312, R313): they pend through software alone. -/
def neverPends (n : Nat) : Bool :=
  n = 6 || n = 7 || decide (21 ≤ n ∧ n < 64) || decide (1792 ≤ n)

/-- A source of a compute die that is not Online: its inputs no longer arrive (R324). -/
def State.cutOff (s : State) (n : Nat) : Bool := decide (1024 ≤ n ∧ n < 1792) && decide (s.dieState ((n - 1024) / 64) ≠ 2)

/-- SOURCE_INPUT (R314): a level source's line changes, or an edge source's input rises. -/
def execSourceInput (n : BitVec 11) (level : Bool) (s : State) : Host.Outcome State Fault Refusal :=
  done (
    let n := n.toNat
    if neverPends n || s.cutOff n then s
    else if levelSource n then (s.setLine n level)
    else if level then (s.raise n)
    else s)

/-- A write of `EVG_TRIG` (R314): each bit written 1 acts as a hardware edge. -/
def State.writeEvgTrig (s : State) (g : Nat) (v : Dword) : State :=
  ((List.range 32).filter (fun i => bit v i)).foldl (fun s i => s.edge (32 * g + i)) s

/-- A write of `EVG_PEND` (R314's registers, R320): every pending bit takes the value written; a broadcast source's copies are set
at the subscribed cores, or all cleared. -/
def State.writeEvgPend (s : State) (g : Nat) (v : Dword) : State :=
  let s := s.setRf (pendR g) 31 0 (if g = 0 then fld v 31 8 <<< 8 else fld v 31 0)
  if g = 0 then
    (List.range 8).foldl (fun s n =>
      if bit v n then
        (s.subscribers n).foldl (fun s c => s.modCore c (fun k => { k with bcastP := setBit k.bcastP n true })) s
      else s.cores.foldl (fun s e => s.modCore e.1 (fun k => { k with bcastP := setBit k.bcastP n false })) s) s
  else s

/-- What `EVG_PEND` reads: for a broadcast source the OR of the copies. -/
def State.readEvgPend (s : State) (g : Nat) : Dword :=
  if g = 0 then s.cores.foldl (fun (v : Dword) e => v ||| e.2.bcastP.zeroExtend 64) (s.reg (pendR 0)) else s.reg (pendR g)

/-- What `EVG_ACT` reads. -/
def State.readEvgAct (s : State) (g : Nat) : Dword :=
  if g = 0 then s.cores.foldl (fun (v : Dword) e => v ||| e.2.bcastA.zeroExtend 64) (s.reg (actR 0)) else s.reg (actR g)

/-- A write of `EVG_GCTL` (R314, R321): GEN returning to 1 ORs the capture latches into P. -/
def State.writeEvgGctl (s : State) (g : Nat) (v : Dword) : State :=
  let was := bit (s.reg (gctlR g)) 0
  let s := s.writeReg (gctlR g) v
  if !was && bit v 0 then s.openGroup g else s

/-- A write of `EVG_ROUTE` (R315): a core route that names no logical trio is refused; a context's handle is resolved to its
ID. -/
def State.writeEvgRoute (s : State) (n : Nat) (v : Dword) : Wr :=
  if fld v 63 62 = 1 ∧ (12 ≤ fld v 47 44 ∨ 6 ≤ fld v 43 41) then .err 0
  else
    let v := if fld v 63 62 = 3 then setFld v 63 62 0 else v
    let v := if fld v 40 39 = 3 then setFld v 40 39 0 else v
    let s := s.writeReg (routeR n) v
    let cid := if fld v 63 62 = 2 then
        match s.findHandle (fld v 60 56) (fld v 38 27) with
        | some (t, sl) => s.cidOf t sl
        | none => 0x1FFF
      else 0x1FFF
    .ok (s.setRf (routeR n) 12 0 cid)

/-- The routes of a reset tenant return to their reset value (R11): unrouted, with the E, P, A and C bits of their sources 0
(R316). -/
def State.releaseRoutes (s : State) (t : Nat) : State :=
  (s.routes.filter (fun r => decide (s.rf r 60 56 = t))).foldl (fun s r =>
    let n := 32 * r.i + r.j
    let s := (s.setReg r (r.afterReset keptN (s.reg r))).setRf (enR r.i) r.j r.j 0
    let s := (s.setRf (pendR r.i) r.j r.j 0).setRf (actR r.i) r.j r.j 0
    let s := if isBcast n then
        s.cores.foldl (fun s e => s.modCore e.1 (fun k =>
          { k with bcastP := setBit k.bcastP n false, bcastA := setBit k.bcastA n false })) s
      else s
    { s with evg := { s.evg with latch := setGrpBit s.evg.latch n false } }) s

/-- HOLD_OFF_EXPIRY (R321): the counter, at its last unit, reaches 0, and requests may be raised (assumption 68). -/
def execHoldOffExpiry (g : Fin 64) (s : State) : Host.Outcome State Fault Refusal :=
  done (if s.rf (gctlR g.val) 31 16 = 1 then s.setRf (gctlR g.val) 31 16 0 else s)

/-- EVG_COPY_ERROR (R324): an error in one copy is corrected and counted; in both it is a chip-level error. -/
def execEvgCopyError (both : Bool) (s : State) : Host.Outcome State Fault Refusal :=
  done (
    if both then (s.safeState 0x1F 0 false) else (s.incRf ⟨.evgStat, 0, 0, 0⟩ 31 16))

end Sys2Proof.Machine
end

