-- ==== Sys2Proof/Machine/Tenant.lean ====
section
/-! DEFINITION. Tenant classes and tenant reset (R292-R296), and the completion of Policy Mailbox entries (R437, R439). -/

namespace Sys2Proof.Machine

/-! ### Completing a Policy Mailbox entry -/

/-- `PMB_IDX` of a ring. -/
def pmbIdxR (r : Nat) : RegRef := ⟨.pmbIdx, 0, r, 0⟩
/-- Doubleword `i` of entry `n` of a ring: 64 entries of 128 bytes (R437). -/
def pmbDwR (r n i : Nat) : RegRef := ⟨.pmbRing, 0, 1024 * r + 16 * (n % 64) + i, 0⟩
/-- The entry at HEAD of a ring. -/
def State.pmbHead (s : State) (r : Nat) : Nat := s.rf (pmbIdxR r) 11 0 % 64
/-- A ring holds entries that have not been taken. -/
def State.pmbWaits (s : State) (r : Nat) : Bool := decide (s.pmbHead r ≠ s.rf (pmbIdxR r) 43 32 % 64)

/-- The entry at HEAD completes (R437): results, then STATUS and SUB, then DONE; HEAD moves on. -/
def State.pmbEnd (s : State) (r status sub : Nat) (res : List Dword) : State :=
  let n := s.pmbHead r
  let s := forN (min res.length 8) (fun i s => s.setReg (pmbDwR r n (8 + i)) (res.getD i 0)) s
  let d := s.reg (pmbDwR r n 0)
  let s := s.setReg (pmbDwR r n 0) (setFld (setFld (setFld d 15 8 status) 31 24 sub) 16 16 1)
  let s := s.setRf (pmbIdxR r) 11 0 ((n + 1) % 64)
  s.setRf ⟨.pmbStat, 0, 0, 0⟩ 63 32 (s.rf ⟨.pmbStat, 0, 0, 0⟩ 63 32 + 1)

/-- A KILL that waited for a detached context's response completes (R276, R281). -/
def State.killDone (s : State) (q : Fin 35) (cid : Nat) : State :=
  if q.val < 33 then
    match s.cxqHead q.val with
    | (s, some e) => s.cxqComplete q.val e 0 (some cid) false
    | (s, none) => s.cxqComplete q.val 0 0 (some cid) false
  else
    let r := q.val - 33
    s.pmbEnd r 0 0 [cmdWord (s.reg (pmbDwR r (s.pmbHead r) 1)) 0 (some cid) false]

/-! ### Tenants -/

/-- `TNT_CFG[t]`. -/
def tntR (t : Nat) : RegRef := ⟨.tntCfg, 0, t, 0⟩

/-- A write of `TNT_CFG[t]` (R292): the class stands while a valid season holds the tenant; that of TID 0 is always A. -/
def State.writeTntCfg (s : State) (t : Nat) (v : Dword) : Wr :=
  if t = 0 then .ok s
  else if fld v 2 1 ≠ s.classOf t ∧ (List.range 4).any (fun sl => s.valid sl && bit (s.tenantRec sl t) 0) then .err 0
  else .ok (s.writeReg (tntR t) v)

/-- Contexts of the tenant remain, each waiting for the response of a detached access (R293 step 2). -/
def State.tenantBusy (s : State) (t : Nat) : Bool :=
  s.trios.any (fun e => e.2.slots.any (fun x => decide (x.2.tid.val = t) && decide (x.2.state ≠ .free)))

/-- Steps 4 to 7 of a tenant reset (R293). -/
def State.resetFinish (s : State) (t : Nat) : State :=
  let s := s.cores.foldl (fun s e => s.modCore e.1 (fun k =>
    if k.run = .nap ∨ k.run = .off then { k with wakeFlush := true } else k.tlbInv (.tid (BitVec.ofNat 5 t)))) s
  let used := s.rf ⟨.tqStatus, 0, t, 0⟩ 31 0
  let s := s.setRf (tntR t) 63 32 used
  let s := ([.fpoolIdx, .tqStatus, .cxqIdx, .fqIdx, .cxeTstat, .qdmaIdx, .xlMbidx] : List Reg).foldl (fun (s : State) r => s.setReg ⟨r, 0, t, 0⟩ 0) s
  let s := { s with
    gce := { s.gce with fqSeq := SMap.put 0 s.gce.fqSeq t 0, fqPh := SMap.put false s.gce.fqPh t false }
    links := { s.links with mbPh := SMap.put false s.links.mbPh t false } }
  let s := s.trios.foldl (fun s e => s.modL2 e.1 (fun k =>
    { k with streams := k.streams.filter (fun x => decide (x.key % 32 ≠ t)) })) s
  let s := s.flrVf t
  let s := forN 16 (fun n s => (s.setReg ⟨.ethRqidx, 0, n, t⟩ 0).setReg ⟨.ethTqidx, 0, n, t⟩ 0) s
  let s := s.releaseRoutes t
  let s := s.setRf (tntR t) 4 4 0
  let s := s.sysEvent 0x19 [BitVec.ofNat 64 t, BitVec.ofNat 64 used]
  (s.noteContained 5 (unitWord 0xF 7 7 3 (some t))).raise 10

/-- A slot of the reset tenant (R293 step 2, R296): its context leaves its stream and the slot becomes Free; with an access
detached it waits for the response. -/
def State.resetSlot (s : State) (t n : Nat) : State :=
  let s := match s.coreOf t n with
    | some c => s.leave t (coreIn c) .suspended
    | none => s
  let s := if (s.slot t n).outstanding then s.modSlot t n (fun b => { b with mig := none, frame := none, watch := 0 }) else s.freeSlot t n
  s.redispatch t

/-- A tenant reset (R293), with its steps whole as far as no detached access holds them up; ignored for TID 0 and while one of the
tenant is in progress. -/
def State.tenantReset (s : State) (t : Nat) : State :=
  if t = 0 ∨ 31 < t ∨ s.resetting t then s
  else
    let s := s.setRf (tntR t) 4 4 1
    let s := s.trios.foldl (fun s e => e.2.slots.foldl (fun (s : State) x =>
      if x.2.tid.val = t ∧ x.2.state ≠ .free then s.resetSlot e.1 x.1 else s) s) s
    if s.tenantBusy t then s else s.resetFinish t

/-- A write of `TNT_RST` (R293). -/
def State.writeTntRst (s : State) (v : Dword) : State :=
  let s := s.writeReg ⟨.tntRst, 0, 0, 0⟩ v
  if bit v 0 then s.tenantReset (fld v 36 32) else s

/-- The response of a detached access of a context that is to go: it is discarded, and the slot becomes Free (R276, R293). -/
def State.dropSlot (s : State) (t n : Nat) : State :=
  let b := s.slot t n
  let cid := s.cidOf t n
  let s := (s.freeSlot t n).redispatch t
  let s := match b.killQ with
    | some q => s.killDone q cid
    | none => s
  if s.resetting b.tid.val && !s.tenantBusy b.tid.val then s.resetFinish b.tid.val else s

end Sys2Proof.Machine
end

