-- ==== Sys2Proof/Machine/Window.lean ====
section
/-! DEFINITION. What happens on a trio within a frame: window boundaries, deadlines, budgets, events that arrive, responses of
detached accesses, and the images of the slots (R234, R241, R252, R256, R259, R260, R263, R269, R271, R272, R275, R276). -/

namespace Sys2Proof.Machine

/-! ### Windows -/

/-- The window in force on a trio now (R234): none while no season runs or the trio is not scheduled. On the service trio it is
Cobbler's housekeeping window, 10 µs from the tick (R229). -/
def State.windowAt (s : State) (t : Nat) : WinSt :=
  let k := s.trio t
  let x := (s.timebase - k.tickAt).toNat
  if t = svcTrio then (if s.running ∧ 0 < s.ftu.ticks ∧ x < 1000 then .housekeeping else .none)
  else if !s.gce.live ∨ !k.rcd.act ∨ k.parked then .none
  else if x < k.rcd.hk then .housekeeping
  else
    match (List.range 16).find? (fun n =>
      let w := k.rcd.win.getD n 0
      wOccurs w s.frame && decide (wStart w ≤ x ∧ x < wStart w + wLen w)) with
    | some n => .entry (Fin.ofNat 16 n)
    | none => .outside

/-- The window packet of R378. -/
def State.windowEvent (s : State) (t : Nat) (w : WinSt) : State :=
  if t = svcTrio then s
  else
    match w with
    | .entry n => s.emitEvent (256 + t) 0x02 n.val
    | .housekeeping => s.emitEvent (256 + t) 0x02 16
    | _ => s

/-- The window in force changes, and the trio decides (R263). -/
def State.setWindow (s : State) (t : Nat) (w : WinSt) : State :=
  if (s.trio t).window = w then s
  else ((s.modTrio t (fun k => { k with window := w })).windowEvent t w).redispatch t

/-- Maintenance by way or by set that still runs at a window boundary delays it: a Sole record names the slot and the delay in
nanoseconds (R266). -/
def State.noteDelays (s : State) (t : Nat) : State :=
  forN 3 (fun i s =>
    let k := s.core (coreNo t i)
    match k.maint, k.ctx with
    | some (from', ns), some n =>
      let past := 10 * (s.timebase - from').toNat
      let s := s.modCore (coreNo t i) (fun k => { k with maint := none })
      if past < ns then s.sysEvent 0x1E [BitVec.ofNat 64 n.val, BitVec.ofNat 64 (ns - past)] else s
    | _, _ => s) s

/-- An uncorrectable error in a slot's images (R289): its context is Faulted, with a core error record, SUB 0x03. -/
def State.slotError (s : State) (t n : Nat) : State :=
  if (s.slot t n).state = .free then s
  else
    let core := ((s.slot t n).stream.map (·.val)).getD 3
    let s := match s.coreOf t n with
      | some c => s.leave t (coreIn c) .faulted
      | none => s.modSlot t n (fun b => { b with state := .faulted })
    (s.coreErrRecord t n 3 core (s.slot t n).arch.pc).redispatch t

/-- The context store of a trio is found in error (R289); an error of the control state is a trio error. -/
def State.storeError (s : State) (t : Nat) (e : StoreErr) : State :=
  match e with
  | .image n => s.slotError t n.val
  | .control => s.blockError t

/-- WINDOW_BOUNDARY (R263, R266), at which the Trio Dispatcher may find its context store in error (R289). -/
def execWindowBoundary (b : BoundaryAt) (s : State) : Host.Outcome State Fault Refusal :=
  done (
    let t := b.trio.val
    let s := match b.err with
      | some e => s.storeError t e
      | none => s
    let w := s.windowAt t
    ((if (s.trio t).window = w then s else s.noteDelays t).setWindow t w))

/-! ### Deadlines and budgets -/

/-- Units consumed in the period, up to now. -/
def State.consumed (s : State) (t n : Nat) : Nat :=
  let b := s.slot t n
  if b.state = .running then b.used + s.charged t n else b.used

/-- A Frame overrun record (R241, R284): the deadline, the units consumed, REMAIN. It is written once for each deadline. -/
def State.overrun (s : State) (t n : Nat) (deadline : Dword) : State :=
  let b := s.slot t n
  let s := s.ctxRecord t n 0x16 0 0 [deadline, BitVec.ofNat 64 (s.consumed t n), BitVec.ofNat 64 (s.remain t n)]
  (s.modSlot t n (fun b => { b with late := true })).incRf ⟨.cxeTstat, 0, b.tid.val, 0⟩ 15 0

/-- A slot is released at the tick of frame `f` of the major frame (R252). -/
def Slot.releasedAt (b : Slot) (f : Nat) : Bool := decide (f % (b.pmul + 1) = b.pphase)

/-- A deadline is missed now (R241): it is checked, FDONE has not been executed, and no record has been written for it. -/
def Slot.misses (b : Slot) : Bool := decide (b.state ≠ .free) && b.dlen && !b.fdone && !b.late

/-- FRAME_DEADLINE (R241): D units after the tick of the period's last frame. -/
def execFrameDeadline (t : TrioId) (slot : Fin 64) (s : State) : Host.Outcome State Fault Refusal :=
  done (
    let b := s.slot t.val slot.val
    let k := s.trio t.val
    if b.misses && decide (b.deadline ≠ 0) && b.releasedAt ((s.frame + 1) % s.frames) &&
        decide ((s.timebase - k.tickAt).toNat = b.deadline) then
      (s.overrun t.val slot.val s.timebase)
    else s)

/-- A Running context whose budget is spent leaves as Dormant, and is recorded (R269). -/
def State.exhaust (s : State) (t n : Nat) : State :=
  match s.coreOf t n with
  | some c => ((s.leave t (coreIn c) .dormant).budgetRecord t n).redispatch t
  | none => s

/-- BUDGET_EXHAUSTED (R269). -/
def execBudgetExhausted (t : TrioId) (slot : Fin 64) (s : State) : Host.Outcome State Fault Refusal :=
  done (
    if (s.slot t.val slot.val).state = .running ∧ s.remain t.val slot.val = 0 then (s.exhaust t.val slot.val) else s)

/-! ### Events -/

/-- The slot that a context ID names, also in the context store of a trio lost with no spare left. -/
def State.holderOf (s : State) (cid : Nat) : Option (Nat × Nat) :=
  if cid / 512 % 16 < 12 ∧ cid / 64 % 8 < 6 then
    (s.trioFor (6 * (cid / 512 % 16) + cid / 64 % 8)).map (fun t => (t, cid % 64))
  else none

/-- A discarded event is counted for its issuer or its target (R272, R282, R322). -/
def State.dropEvent (s : State) (o : Origin) (masked : Bool) (tid : Nat) : State :=
  match o with
  | .signal t _ => s.incRf ⟨.cxeTstat, 0, t, 0⟩ 63 48
  | .route _ => if masked then s.incRf ⟨.cxeTstat, 0, tid, 0⟩ 47 32 else s.incRf ⟨.evgStat, 0, 0, 0⟩ 47 32
  | .note t => s.incRf ⟨.cxeTstat, 0, t, 0⟩ 47 32

/-- A Waiting context that a matching event reaches (R271): the matching bits are cleared and wait for rd in a record with
REM = 2; with budget left it is Ready, else Dormant. -/
def State.awake (s : State) (t n : Nat) : State :=
  let b := s.slot t n
  let m := b.events &&& b.waitMask
  if b.state ≠ .waiting ∨ m = 0 then s
  else
    let res : PendRes := ⟨b.arch.posn + 2, if b.waitReg = 0 then none else some b.waitReg, m.zeroExtend 64, 0, 0, none⟩
    let s := s.modSlot t n (fun b => { b with
      events := b.events &&& ~~~m, waitMask := 0, state := .dormant
      arch := { b.arch with pend := b.arch.pend ++ [res] } })
    if 0 < s.remain t n then s.makeReady t n else s

/-- An event reaches its slot (R272). -/
def State.deliverEvent (s : State) (f : Flight) : State :=
  match s.holderOf f.cid with
  | none => s.dropEvent f.org false 0
  | some (t, n) =>
    let b := s.slot t n
    let other : Bool := match f.org with
      | .signal tid high => decide (tid ≠ b.tid.val) && !high
      | _ => false
    if b.state = .free then s.dropEvent f.org false 0
    else if other || !b.evmask f.ev then s.dropEvent f.org true b.tid.val
    else (s.modSlot t n (fun b => { b with events := setBit b.events f.ev true })).awake t n

/-- EVENT_SET (R275): the oldest event on its way to the context, of this number, arrives. -/
def execEventSet (cid : BitVec 13) (ev : BitVec 5) (s : State) : Host.Outcome State Fault Refusal :=
  done (
    match s.evg.flight.find? (fun f => decide (f.cid = cid.toNat) && decide (f.ev = ev.toNat)) with
    | none => s
    | some f => (({ s with evg := { s.evg with flight := s.evg.flight.erase f } }).deliverEvent f))

/-! ### Detached accesses -/

/-- The position of a detached access ends in the slot (R260): the PC moves on, results of distance REM = 1 take effect, and a
load's response has REM = 2. -/
def detachedDone (a : Arch) (d : DevAcc) (v : Dword) : Arch :=
  let k : Core := ((({ arch := a } : Core).unpark).seqFlags d.flags).advance none
  let p := k.arch.posn
  let k := if d.store ∨ d.reg = 0 then k
    else k.produce ⟨p + 2, some d.reg, loadVal d.size d.signed (d.seen v), 0, 0, none⟩
  ((k.settle p).park).arch

/-- A good or an error response reaches a slot whose access is detached (R260); the context then competes again. A context that
a KILL or a tenant reset has ended goes instead (R276, R293). -/
def State.detachedAnswer (s : State) (t n : Nat) (d : DetAcc) (ok : Bool) (v : Dword) : State :=
  let s := s.dropRemote (s.slot t n).tid d.acc.pa d.acc.store
  if (s.slot t n).killQ.isSome || s.resetting (s.slot t n).tid.val then s.dropSlot t n
  else
  let s := s.modSlot t n (fun b =>
    if ok then { b with det := none, arch := detachedDone b.arch d.acc v } else { b with det := some { d with failed := true } })
  let s := if s.running then s else s.migrateAll t
  s.redispatch t

/-- DETACHED_RESPONSE (R260, R276, R293). -/
def execDetachedResponse (t : TrioId) (slot : Fin 64) (ok : Bool) (v : Dword) (s : State) : Host.Outcome State Fault Refusal :=
  done (
    match (s.slot t.val slot.val).det with
    | some d => if d.failed then s else (s.detachedAnswer t.val slot.val d ok v)
    | none => s)

/-! ### The images of a slot (R256, R259) -/

/-- What a doubleword of a slot's page holds. -/
inductive ImgItem where
  | reg (key : Nat)
  | pc
  | csr (n : Nat)
  | nest (n : Nat)
  | events
  | divst (i : Nat)
  | watch
  | desc (i : Nat)
  | stat
  | nothing
  deriving DecidableEq, Repr

/-- The CSRs of the nested frame in order (R256). -/
def nestOrder : List Nat :=
  (List.range 12).map (fun i => 0x201 + i) ++ [0x200] ++ (List.range 12).map (fun i => 0x301 + i)

/-- The item at doubleword index `i` of the page (R256). -/
def imgItem (i : Nat) : ImgItem :=
  if i < 31 then .reg (i + 1)
  else if i < 63 then .reg (32 + (i - 31))
  else if i = 63 then .pc
  else if i = 64 then .csr 0x001
  else if i = 65 then .csr 0x002
  else if i = 66 then .csr 0x100
  else if i = 67 then .events
  else if i < 128 then .nothing
  else if i < 136 then .divst (i - 128)
  else if i < 141 then .csr (0x108 + (i - 136))
  else if i < 146 then .csr (0x118 + (i - 141))
  else if i < 153 then .csr (0x101 + (i - 146))
  else if i < 156 then .csr (0x111 + (i - 153))
  else if i < 158 then .csr (0x116 + (i - 156))
  else if i < 183 then .nest (nestOrder.getD (i - 158) 0x200)
  else if i = 183 then .watch
  else if i < 192 then .reg (64 + (i - 184))
  else if i < 256 then .nothing
  else if i < 272 then .desc (i - 256)
  else if i = 480 then .stat
  else .nothing

/-- `SLOT_STAT.STATE`. -/
def CtxState.code : CtxState → Nat
  | .free => 0
  | .dormant => 1
  | .ready => 2
  | .running => 3
  | .waiting => 4
  | .suspended => 5
  | .faulted => 6

/-- `SLOT_STAT` (R259). -/
def State.slotStat (s : State) (t n : Nat) : Dword :=
  let b := s.slot t n
  BitVec.ofNat 64 (b.handle.toNat <<< 52 ||| b.tid.val <<< 47 ||| b.state.code <<< 44 ||| b.ws.toNat <<< 43 |||
    b.outstanding.toNat <<< 42 ||| b.mig.isSome.toNat <<< 41 ||| ((b.stream.map (·.val)).getD 3) <<< 39 ||| s.remain t n % 2 ^ 21)

/-- A doubleword of a slot's page as a read returns it. -/
def State.imgRead (s : State) (t n i : Nat) : Dword :=
  let b := s.slot t n
  match imgItem i with
  | .reg key => b.arch.rd key
  | .pc => b.arch.pc
  | .csr c => SMap.get 0 b.arch.csr c
  | .nest c => SMap.get 0 b.nested c
  | .events => BitVec.ofNat 64 (b.events.toNat ||| b.waitMask.toNat <<< 32)
  | .divst d => divMasked d (({ arch := b.arch } : Core).divst d)
  | .watch => BitVec.ofNat 64 b.watch
  | .desc d => b.desc.getD d 0
  | .stat => s.slotStat t n
  | .nothing => 0

/-- The bits of a CSR in an image that a write changes: those that the register has. -/
def imgMask (c : Nat) : Dword :=
  if c = 0x100 then 0xFF else (csrMask c).getD 0

/-- `DIVSTi` of a saved context set. -/
def Arch.putDivst (a : Arch) (i : Nat) (v : Dword) : Arch :=
  match i with
  | 0 => { a with iu := { a.iu with a := v } }
  | 1 => { a with iu := { a.iu with b := v } }
  | 2 => { a with iu := { a.iu with x := v } }
  | 3 => { a with iu := { a.iu with ctl := v } }
  | 4 => { a with fu := { a.fu with a := v } }
  | 5 => { a with fu := { a.fu with b := v } }
  | 6 => { a with fu := { a.fu with x := v } }
  | _ => { a with fu := { a.fu with ctl := v } }

/-- A slot with a doubleword of its images written (R256, R259). -/
def Slot.imgWrite (b : Slot) (i : Nat) (v : Dword) : Slot :=
  match imgItem i with
  | .reg key => { b with arch := b.arch.wr key v }
  | .pc => { b with arch := { b.arch with pc := canonPc v, slot := none } }
  | .csr c =>
    -- RM of FCSR takes no reserved value (the map of FCSR)
    let v := if c = 0x002 ∧ 5 ≤ fld v 7 5 then setFld v 7 5 (fld (SMap.get 0 b.arch.csr c) 7 5) else v
    { b with arch := { b.arch with csr := SMap.put 0 b.arch.csr c (v &&& imgMask c) } }
  | .nest c => { b with nested := SMap.put 0 b.nested c (v &&& imgMask c) }
  | .events => { b with events := v.truncate 32, waitMask := (v >>> 32).truncate 32 }
  | .divst d => { b with arch := b.arch.putDivst d (divUnmasked d v &&& imgMask (0x021 + d)) }
  | .watch => { b with watch := v.toNat }
  | .desc _ | .stat | .nothing => b

/-- The item is withheld from W = 0 while WS = 1 (R259). -/
def imgSealed (i : Nat) : Bool :=
  match imgItem i with
  | .stat | .nothing => false
  | _ => true

end Sys2Proof.Machine
end

