-- ==== Sys2Proof/Machine/Xlink.lean ====
section
/-! DEFINITION. The Xamo external links: their states, the Partner Identity Block, remote windows, mailboxes, votes and ticks
(R360-R369). -/

namespace Sys2Proof.Machine

/-! ### Ends and answers -/

/-- The access that waits at a physical address for its answer ends (R113): a core goes on, a detached access completes. -/
def State.writeDone (s : State) (pa : Nat) : State :=
  let s := s.finishAt pa
  s.trios.foldl (fun s e => e.2.slots.foldl (fun (s : State) x => match x.2.det with
    | some d => if d.acc.store && decide (d.acc.pa.toNat = pa) then s.detachedAnswer e.1 x.1 d true 0 else s
    | none => s) s) s

/-- What the loss of a partner does to what waits for it (R364). -/
def Ended.now (e : Ended) (s : State) : State :=
  match e with
  | .load c => s.finishDev c false 0 0
  | .slot t n => match (s.slot t n).det with
    | some d => s.detachedAnswer t n d false 0
    | none => s
  | .write pa => s.writeDone pa

/-- The quad whose lanes carry link `k`. -/
def State.quadOfXl (s : State) (k : Nat) : Option Nat :=
  (List.range 8).find? (fun q => let v := s.reg ⟨.quadCfg, 0, q, 0⟩; decide (fld v 2 0 = 3) && decide (fld v 15 14 = k))

/-- A link enters Retrain (R361, R371). -/
def State.xlRetrain (s : State) (k : Nat) : State :=
  ((s.incRf (xlStatusR k) 23 16).xlGo k 6).raise (31 * 32 + 4 * k + 3)

/-- A flit reaches this module on external link `k` (R163, R361). Replay ends with the retransmitted flit: where the partner asked for
it, once the partner's ACK moves past the last flit that it had (DEDUCED, assumption 15). -/
def State.xlReceive (s : State) (k : Nat) (f : Flit) : State :=
  let st := s.xlState k
  if st < 2 ∨ 5 < st then s
  else
    let was := (s.xl k).flits.acked
    let (p, e) := (s.xl k).flits.take f false
    let s := (s.modXl k (fun x => { x with flits := p })).countLink k 0x02
    let s := if e = .nak then (s.incRf (xlStatusR k) 63 48).countLink k 0x03 else s
    if st = 4 then
      match e with
      | .crc | .nak | .gap => s.xlGo k 5
      | _ => s
    else if st = 5 then
      if 8 ≤ p.naks ∨ 8 ≤ p.nakIn then s.xlRetrain k
      else match e with
        | .good => if p.acked = was then s else s.xlGo k 4
        | .again => s.xlGo k 4
        | _ => s
    else s

/-- FLIT_RECEIVE (R163, R164, R360): a flit that an injector drops or corrupts on its way to a compute die does not arrive
well (R370). -/
def execFlitReceive (l : LinkEnd) (f : Flit) (s : State) : Host.Outcome State Fault Refusal :=
  done (
    match l with
    | .pkgIo d => (s.plinkReceive d.val true f false)
    | .pkgDie d => (s.plinkToDie d.val f)
    | .ext k => (s.xlReceive k.val f))

/-- LANE_LOCK_LOST (R164, R361): Active becomes Retrain; a refused link returns to Detect. -/
def execLaneLockLost (l : LinkEnd) (s : State) : Host.Outcome State Fault Refusal :=
  done (
    match l with
    | .pkgIo d | .pkgDie d => (if s.plinkState d.val = 2 then s.plinkRetrain d.val else s)
    | .ext k =>
      let s := match s.quadOfXl k.val with
        | some q => if s.xlState k.val < 2 then s else s.raise (32 * (14 + q))
        | none => s
      if s.xlState k.val = 4 then (s.xlRetrain k.val)
      else if s.xlState k.val = 7 then (s.xlGo k.val 1)
      else s)

/-! ### Identification -/

/-- This module's Partner Identity Block for link `k`, but for its CRC (R362). -/
def State.identity (s : State) (k : Nat) : List Byte :=
  let cfg := s.reg ftuCfgR
  let seg := (List.range 16).foldl (fun n i => if bit (s.reg ⟨.xlSeg, 0, i, 0⟩) 63 then n + 2 ^ i else n) 0
  toBytes 0x7A300001 4 ++ toBytes 1 2 ++ toBytes s.modId 1 ++ toBytes k 1 ++ toBytes (s.reg ⟨.xlSys, 0, 0, 0⟩).toNat 8 ++
    ((Config.serial ++ List.replicate 16 0).take 16) ++ toBytes 0x00D8 2 ++ toBytes 0x21 1 ++
    toBytes (s.rf ⟨.modIdent, 0, 0, 0⟩ 0 0 + (if s.tickSrc = 3 then 0 else 2)) 1 ++
    toBytes (fld cfg 27 8 + fld cfg 33 28 * 2 ^ 20) 4 ++ toBytes seg 2 ++ List.replicate 18 0

/-- The block with its CRC-32 (R204, R362), as a line. -/
def State.identityBlock (s : State) (k : Nat) : LineData :=
  let b := s.identity k
  BitVec.ofNat 512 (ofBytes (b ++ toBytes (crc32 b).toNat 4))

/-- A link enters Identify: the identity block and the first ECHO leave (R361). -/
def State.xlIdentify (s : State) (k : Nat) : State :=
  let s := s.xlGo k 3
  (s.sendXl k .identity ((List.range 8).map (lineDw (s.identityBlock k)))).sendXl k .echo []

/-- XL_RECEIVERS_DETECTED (R361). -/
def execXlReceiversDetected (k : XLink) (s : State) : Host.Outcome State Fault Refusal :=
  done (if s.xlState k.val = 1 then s.xlGo k.val 2 else s)

/-- XL_LANES_LOCKED (R361): Train becomes Identify, Retrain becomes Active. -/
def execXlLanesLocked (k : XLink) (s : State) : Host.Outcome State Fault Refusal :=
  done (
    if s.xlState k.val = 2 then (s.xlIdentify k.val)
    else if s.xlState k.val = 6 then (s.xlGo k.val 4)
    else s)

/-- XL_LINK_TIMEOUT (R361): Train, Identify without a block, and Retrain return to Detect. -/
def execXlLinkTimeout (k : XLink) (s : State) : Host.Outcome State Fault Refusal :=
  done (
    let st := s.xlState k.val
    if st = 2 ∨ (st = 3 ∧ (s.xl k.val).partner = 0) ∨ st = 6 then (s.xlDrop k.val 1 Ended.now) else s)

/-- Byte range [lo, lo + n) of a block as a number. -/
def blkNum (b : LineData) (lo n : Nat) : Nat := fld b (8 * (lo + n) - 1) (8 * lo)

/-- The first code of R363 for which a block is refused. -/
def State.refuseCode (s : State) (k : Nat) (b : LineData) : Option Nat :=
  let crc := (crc32 ((List.range 60).map (lineByte b))).toNat
  if blkNum b 0 4 ≠ 0x7A300001 ∨ blkNum b 4 2 ≠ 1 ∨ blkNum b 60 4 ≠ crc then some 1
  else if blkNum b 8 8 ≠ (s.reg ⟨.xlSys, 0, 0, 0⟩).toNat then some 2
  else if blkNum b 6 1 % 4 = s.modId then some 3
  else if (s.linkTo (blkNum b 6 1 % 4)).isSome then some 4
  else if (s.xl k).gotRefuse then some 5
  else if blkNum b 32 2 ≠ 0x00D8 then some 6
  else none

/-- REFUSE sent or received (R361, R371). -/
def State.xlRefused (s : State) (k code : Nat) : State :=
  ((s.setRf (xlStatusR k) 35 32 code).raise (31 * 32 + 4 * k + 2)).xlGo k 7

/-- Both ends have sent ACCEPT: the link is Active, and the partner has arrived (R361). -/
def State.xlAccepted (s : State) (k : Nat) : State :=
  if (s.xl k).sentAccept && (s.xl k).gotAccept then (s.xlGo k 4).raise (31 * 32 + 4 * k) else s

/-- PARTNER_IDENTITY_BLOCK (R362, R363): the block is refused, or accepted with FTUMIS set where PERIOD or MF differ. In Refused,
after the partner's refusal, a block is answered with code 5. -/
def execPartnerIdentityBlock (k : XLink) (blk : LineData) (s : State) : Host.Outcome State Fault Refusal :=
  done (
    let n := k.val
    if s.xlState n = 7 ∧ (s.xl n).gotRefuse then
      let code := (s.refuseCode n blk).getD 5
      ((s.sendXl n .refuse [BitVec.ofNat 64 code]).setRf (xlStatusR n) 35 32 code)
    else if s.xlState n ≠ 3 then s
    else
      match s.refuseCode n blk with
      | some code => ((s.sendXl n .refuse [BitVec.ofNat 64 code]).xlRefused n code)
      | none =>
        let cfg := s.reg ftuCfgR
        let mis := decide (blkNum blk 36 4 % 2 ^ 26 ≠ fld cfg 27 8 + fld cfg 33 28 * 2 ^ 20)
        let s := (s.setRf (xlStatusR n) 31 30 (blkNum blk 6 1)).setRf (xlStatusR n) 29 29 mis.toNat
        let s := s.modXl n (fun x => { x with partner := blk, sentAccept := true })
        let s := s.sendXl n .accept []
        let s := if mis ∧ s.tickSrc = 3 ∧ s.rf ftuCfgR 39 36 = n then s.sourceLost else s
        (s.xlAccepted n))

/-- ACCEPT (R361). -/
def execAccept (k : XLink) (s : State) : Host.Outcome State Fault Refusal :=
  done (
    if s.xlState k.val ≠ 3 then s
    else ((s.modXl k.val (fun x => { x with gotAccept := true })).xlAccepted k.val))

/-- REFUSE (R361): the codes 1 to 6 occur. -/
def execRefuse (k : XLink) (code : BitVec 4) (s : State) : Host.Outcome State Fault Refusal :=
  done (
    if s.xlState k.val ≠ 3 ∨ code = 0 ∨ 6 < code.toNat then s
    else ((s.xlRefused k.val code.toNat).modXl k.val (fun x => { x with gotRefuse := true })))

/-- DEPART (R361, R364). -/
def execDepart (k : XLink) (s : State) : Host.Outcome State Fault Refusal :=
  done (
    if s.xlUp k.val then (s.xlDrop k.val 1 Ended.now) else s)

/-- ECHO (R361): the sixteenth round trip gives FLY, the mean less the partner's turnaround, halved; beyond the field's range the
spec states no value (assumption 6). -/
def execEcho (k : XLink) (rtt turn : Nat) (s : State) : Host.Outcome State Fault Refusal :=
  done (
    let n := k.val
    if s.xlState n ≠ 3 ∨ 16 ≤ (s.xl n).echoes then s
    else
      let s := s.modXl n (fun x => { x with echoes := x.echoes + 1, echoSum := x.echoSum + (rtt - turn) })
      if (s.xl n).echoes < 16 then (s.sendXl n .echo [])
      else
        let fly := (s.xl n).echoSum / 32
        if fly < 4096 then (s.setRf (xlStatusR n) 47 36 fly)
        else ({ s with free := s.free + 1 }.setRf (xlStatusR n) 47 36 (Config.freeValue s.free).toNat))

/-! ### Remote windows -/

/-- Agent 0x56 as a requester for tenant `tid` (R365). -/
def portRq (tid : Nat) : Rq := { agent := 0x56, tid := tid, w := false }

/-- The physical address that an offset of this module's remote window reaches for a tenant's access (R365). -/
def State.segPa (s : State) (tid : Nat) (off : Nat) (wr : Bool) : Option Nat :=
  let v := s.reg ⟨.xlSeg, 0, off / 2 ^ 30, 0⟩
  let pa := fld v 45 30 * 2 ^ 30 + off % 2 ^ 30
  if bit v 63 && decide (fld v 61 57 = tid) && (!wr || bit v 62) && decide (s.region pa = .dram) then some pa else none

/-- REMOTE_READ (R365): the data, or an error, leave as the response. A misaligned access is answered with an error
(DESIGN CHOICE, assumption 33). -/
def execRemoteRead (k : XLink) (tid : Tid) (off : BitVec 34) (size : Fin 4) (s : State) : Host.Outcome State Fault Refusal :=
  done (
    let n := 2 ^ size.val
    if !s.xlUp k.val then s
    else if off.toNat % n ≠ 0 then (s.sendXl k.val .completion [0])
    else
      match s.segPa tid.val off.toNat false with
      | none => (s.sendXl k.val .completion [0])
      | some pa =>
        match s.engLine (portRq tid.val) pa with
        | (s, .ok d) =>
          let v := BitVec.ofNat 64 (ofBytes ((List.range n).map (fun i => lineByte d (pa % 64 + i))))
          (s.sendXl k.val .readData [1, v])
        | (s, _) => (s.sendXl k.val .completion [0]))

/-- REMOTE_WRITE (R365): the bytes reach this module's DRAM, or the completion carries an error. -/
def execRemoteWrite (k : XLink) (tid : Tid) (off : BitVec 34) (size : Fin 4) (v : Dword) (s : State) :
    Host.Outcome State Fault Refusal :=
  done (
    let n := 2 ^ size.val
    if !s.xlUp k.val then s
    else if off.toNat % n ≠ 0 then (s.sendXl k.val .completion [0])
    else
      match s.segPa tid.val off.toNat true with
      | none => (s.sendXl k.val .completion [0])
      | some pa =>
        match s.engPut (portRq tid.val) pa (toBytes v.toNat n) with
        | (s, .ok _) => (s.sendXl k.val .completion [1])
        | (s, _) => (s.sendXl k.val .completion [0]))

/-- The completion of a remote access reaches the core or the slot that awaits it. -/
def State.remoteDone (s : State) (r : Remote) (ok : Bool) (v : Dword) : State :=
  match s.waiter r with
  | some (.load c) => s.respond c ok v
  | some (.slot t n) => match (s.slot t n).det with
    | some d => s.detachedAnswer t n d ok v
    | none => s
  | _ => if ok then s else s.remoteFail r Ended.now

/-- REMOTE_COMPLETION (R366, R367): a remote access is performed or fails; a mailbox send has its answer, coded in `v`. -/
def execRemoteCompletion (k : XLink) (tag : Nat) (ok : Bool) (v : Dword) (s : State) : Host.Outcome State Fault Refusal :=
  done (
    let x := s.xl k.val
    match x.remote.find? (fun r => decide (r.tag = tag)) with
    | some r =>
      let s := s.modXl k.val (fun x => { x with remote := x.remote.filter (fun r => decide (r.tag ≠ tag)) })
      (s.remoteDone r ok v)
    | none =>
      match x.mbox.find? (fun m => decide (m.1 = tag)) with
      | some m =>
        let t := m.2.val
        let s := s.modXl k.val (fun x => { x with mbox := x.mbox.filter (fun m => decide (m.1 ≠ tag)) })
        let s := s.setRf (mbStatR t) 1 0 (fld v 1 0)
        let s := if fld v 1 0 = 0 then s.setRf (mbStatR t) 63 32 (s.rf (mbStatR t) 63 32 + 1) else s
        (s.writeDone (mbGoPa t))
      | none => s)

/-! ### Mailboxes -/

/-- A write of GO in tenant `t`'s send page (R367): the payload leaves for the module named, and the write completes when that
module answers; a module that no link reaches is unreachable. -/
def State.writeMbGo (s : State) (t : Nat) (v : Dword) : Wr :=
  match s.linkTo (fld v 1 0) with
  | none => .ok (s.setRf (mbStatR t) 1 0 2)
  | some k =>
    let tag := (s.xl k).nextTag
    let pay := (List.range 7).map (fun i => s.reg ⟨.mbPayload, 0, t, i⟩)
    let s := s.modXl k (fun x => { x with nextTag := tag + 1, mbox := x.mbox ++ [(tag, Fin.ofNat 32 t)] })
    .wait (s.sendXl k .mailbox (BitVec.ofNat 64 tag :: BitVec.ofNat 64 t :: pay))

/-- MAILBOX_MESSAGE (R367): the message fills an entry of tenant `t`'s receive ring, or the answer says why not. -/
def execMailboxMessage (k : XLink) (t : Tid) (payload : List Dword) (s : State) : Host.Outcome State Fault Refusal :=
  done (
    if !s.xlUp k.val then s
    else
      let cfg := s.reg ⟨.xlMbcfg, 0, t.val, 0⟩
      let idx : RegRef := ⟨.xlMbidx, 0, t.val, 0⟩
      let size := 2 ^ fld cfg 4 0
      let tail := s.rf idx 15 0
      let answer := fun (s : State) (n : Nat) => s.sendXl k.val .completion [BitVec.ofNat 64 n]
      if !bit cfg 8 then (answer s 3)
      else if (tail + 1) % size = s.rf idx 47 32 % size then (answer (s.incRf idx 63 48) 1)
      else
        let ph := !SMap.get false s.links.mbPh t.val
        let dw0 := BitVec.ofNat 64 (s.rf (xlStatusR k.val) 31 30 + ph.toNat * 2 ^ 63)
        let line := fld cfg 45 10 * 16 + tail
        let s := s.unitWrite (portRq t.val) line (lineOfDws (dw0 :: payload.take 7)) (BitVec.allOnes 64)
        let next := (tail + 1) % size
        let s := s.setRf idx 15 0 next
        let s := if next = 0 then { s with links := { s.links with mbPh := SMap.put false s.links.mbPh t.val ph } } else s
        (answer (s.raise (30 * 32 + t.val)) 0))

/-! ### Votes -/

/-- The round that a contribution belongs to is older than the channel's current round (R368). -/
def Vote.older (v : Vote) (r : Word) : Bool := match v.round with
  | some c => decide (r.toNat < c.toNat)
  | none => false

/-- A write of ROUND (R368): VALUE is this module's contribution for the round. A module contributes once to a round, and only
where PART names it (DEDUCED, assumption 16). -/
def State.writeVoteRound (s : State) (c : Nat) (v : Dword) : State :=
  let r : Word := v.truncate 32
  if !bit (s.reg (vcfgR c)) 63 || !s.votes c s.modId || (s.vote c).older r || decide ((s.vote c).round = some r) then s
  else
    let dws := (List.range 4).map (fun i => s.reg ⟨.voteValue, 0, c, i⟩)
    let value : BitVec 256 := (lineOfDws dws).truncate 256
    let s := s.modVote c (fun q => { q with
      round := some r, undecided := true
      contrib := q.contrib.filter (fun x => decide (r.toNat ≤ x.2.1.toNat)) ++ [(BitVec.ofNat 2 s.modId, r, value)] })
    let s := forN 4 (fun m s => if m ≠ s.modId ∧ s.votes c m then
      (match s.linkTo m with
        | some k => s.sendXl k .vote (BitVec.ofNat 64 c :: r.setWidth 64 :: dws)
        | none => s) else s) s
    s.voteCheck c

/-- VOTE_CONTRIBUTION (R368). -/
def execVoteContribution (k : XLink) (ch : Fin 64) (round : Word) (value : BitVec 256) (s : State) :
    Host.Outcome State Fault Refusal :=
  done (
    let m := s.rf (xlStatusR k.val) 31 30
    let v := s.vote ch.val
    let dup := v.contrib.any (fun x => decide (x.1.toNat = m) && decide (x.2.1 = round))
    if !s.xlUp k.val || !bit (s.reg (vcfgR ch.val)) 63 || !s.votes ch.val m || v.older round || dup then s
    else ((s.modVote ch.val (fun q => { q with contrib := q.contrib ++ [(BitVec.ofNat 2 m, round, value)] })).voteCheck ch.val))

/-- VOTE_TIMEOUT (R368): a TIMEOUT of 0 waits without limit. -/
def execVoteTimeout (ch : Fin 64) (s : State) : Host.Outcome State Fault Refusal :=
  done (
    if (s.vote ch.val).undecided ∧ s.rf (vcfgR ch.val) 19 0 ≠ 0 then (s.voteDecide ch.val) else s)

/-! ### Ticks -/

/-- TICK (R369): one measurement, carried time + FLY - local time at arrival, on the link that is the tick source. -/
def execTick (k : XLink) (ns arrival : Int) (_frame : BitVec 6) (s : State) : Host.Outcome State Fault Refusal :=
  done (
    let n := k.val
    if s.tickSrc = 3 ∧ s.rf ftuCfgR 39 36 = n ∧ s.xlUp n ∧ s.rf (xlStatusR n) 29 29 = 0 then
      (s.measure (ns + s.rf (xlStatusR n) 47 36 - arrival))
    else s)

end Sys2Proof.Machine
end

