-- ==== Sys2Proof/Machine/Caches.lean ====
section
/-! DEFINITION. Enabling and cleaning the caches, the arrival of way masks, the merging buffer's own events, and the table,
pool and quota registers of translation with the home's updates of an entry (R114, R122, R130-R133, R138, R149, R156-R159). -/

namespace Sys2Proof.Machine

/-! ### The merging buffer -/

/-- A merging-buffer entry closes 16 core cycles after its last merge, and every older one with it (R114). -/
def execMergeEntryTimeout (c : CoreId) (line : LineAddr) (s : State) : Host.Outcome State Fault Refusal :=
  done (
    let m := (s.core c.val).merge
    match (List.range m.length).reverse.find? (fun i => (m[i]?.map (fun e => e.isOpen && decide (e.line = line))).getD false) with
    | some i => (s.modCore c.val (fun k => { k with merge := closeUpTo k.merge i }))
    | none => s)

/-- The oldest entry, once closed, drains (R114): an L2 request with data, which a redundant stream's copies bring to their
comparators (R197). -/
def execMergeEntryDrain (c : CoreId) (s : State) : Host.Outcome State Fault Refusal :=
  done (
    let t := s.drainFirst c.val
    if (t.core c.val).merge.length < (s.core c.val).merge.length then
      (s.compared t c.val { l2 := true, l2data := true })
    else t)

/-! ### The L2 -/

/-- `L2_CTL`. -/
def l2CtlR (t : Nat) : RegRef := ⟨.l2Ctl, t, 0, 0⟩

/-- A write of `L2_CTL` (R130, R131): EN := 0 while it is 1 starts a clean, EN := 1 waits for INIT, and a write that arrives
during a clean completes after it. -/
def State.writeL2Ctl (s : State) (t : Nat) (v : Dword) : Wr :=
  let r := l2CtlR t
  let old := s.reg r
  let put := fun (s : State) (en : Bool) => s.writeReg r (setBit v 0 en)
  let hold := if (s.trio t).l2.cleanNext.isSome then Wr.stay
    else Wr.wait (s.modL2 t (fun k => { k with cleanNext := some v }))
  if bit old 1 then hold
  else if bit old 0 && !bit v 0 then .wait ((put s true).setRf r 1 1 1)
  else if bit old 2 && bit v 0 && !bit old 0 then hold
  else .ok (put s (bit v 0))

/-- The write that waited takes effect, and every write that waited for it completes (R113). -/
def State.l2Resume (s : State) (t : Nat) : State :=
  let s := match (s.trio t).l2.cleanNext with
    | some v =>
      match (s.modL2 t (fun k => { k with cleanNext := none })).writeL2Ctl t v with
      | .ok s => s
      | .wait s => s
      | _ => s
    | none => s
  s.writeDone (l2CtlR t).pa

/-- The last WbAck of a clean returns (R130): every line, every L1 line and every reservation leaves; EN reads 0. -/
def execL2CleanComplete (t : TrioId) (s : State) : Host.Outcome State Fault Refusal :=
  done (
    if s.rf (l2CtlR t.val) 1 1 = 1 then
      (((s.l2Clean t.val).setRf (l2CtlR t.val) 1 0 0).l2Resume t.val)
    else s)

/-- The array clear that follows a reset ends (R131). -/
def execL2InitComplete (t : TrioId) (s : State) : Host.Outcome State Fault Refusal :=
  done (
    if s.powered t.val ∧ s.rf (l2CtlR t.val) 2 2 = 1 then
      let s := s.setRf (l2CtlR t.val) 2 2 0
      (if s.rf (l2CtlR t.val) 1 1 = 1 then s else s.l2Resume t.val)
    else s)

/-- A write of `CORE_CACHE`: L1D_EN := 0 closes and drains the merging buffer and does nothing else (R132). -/
def State.writeCoreCache (s : State) (c : Nat) (v : Dword) : State :=
  let s := if bit v 1 then s else s.drainMerge c
  s.writeReg (coreCacheR c) v

/-! ### The Memory-Side Cache -/

/-- `MSC_CTL`. -/
def mscCtlR : RegRef := ⟨.mscCtl, 0, 0, 0⟩

/-- A write of `MSC_CTL` (R133). -/
def State.writeMscCtl (s : State) (v : Dword) : Wr :=
  let old := s.reg mscCtlR
  if bit old 1 then
    if s.msc.cleanNext.isSome then .stay else .wait { s with msc := { s.msc with cleanNext := some v } }
  else if bit old 0 && !bit v 0 then .wait (s.setRf mscCtlR 1 1 1)
  else .ok (s.writeReg mscCtlR v)

/-- A clean visits a line (R133): a dirty one is a best-effort write that waits in its channel's write queue. A slice pauses its visits
while that queue holds 48 writes or more. -/
def State.mscVisit (s : State) (l : MscLine) : State :=
  let line := l.line.toNat
  let m := s.servChan (chanOf line)
  if !l.dirty then s.mscEvict l
  else if 48 ≤ (s.mc m).queued (subOf line) then s
  else ((s.mscEvict l).countMc m 0x03).queueWrite m line

/-- The slices visit their lines, in the order in which they hold them, as far as the write queues let them. -/
def State.mscClean (s : State) : State := s.msc.lines.foldl State.mscVisit s

/-- The visits of a clean end (R133). With every slice clean and invalid the write completes, and one that waited takes effect as
written; a slice that has paused goes on when the row is given again, its channel's writes having drained. -/
def execMscCleanComplete (s : State) : Host.Outcome State Fault Refusal :=
  done (
    if s.rf mscCtlR 1 1 = 1 then
      let s := s.mscClean
      if !s.msc.lines.isEmpty then s
      else
      let s := s.setRf mscCtlR 1 0 0
      let s := match s.msc.cleanNext with
        | some v => { s with msc := { s.msc with cleanNext := none } }.writeReg mscCtlR v
        | none => s
      (s.writeDone mscCtlR.pa)
    else s)

/-- The way masks as the registers hold them reach a cache (R122). -/
def execMaskChangeArrives (u : CacheUnit) (s : State) : Host.Outcome State Fault Refusal :=
  done (
    match u with
    | .l2 t => (s.masksToL2 t.val)
    | .msc => s.masksToMsc)

/-! ### The table, the pools and the quotas -/

/-- A write of `HIT_CFG` (R138). -/
def State.writeHitCfg (s : State) (v : Dword) : Wr :=
  let n := fld v 8 4
  let base := fld v 45 21 * 2 ^ 21
  if !bit v 0 || (decide (14 ≤ n ∧ n ≤ 27) && decide (base % 2 ^ (n + 7) = 0) && s.rangeInstalled base (2 ^ (n + 7))) then
    .ok (s.writeReg hitCfgR v)
  else .err 0

/-- A write of `FPOOL_BASE`: the ring has 2^4 to 2^20 doublewords, aligned, in installed DRAM. -/
def State.writeFpoolBase (s : State) (t : Nat) (v : Dword) : Wr :=
  let k := fld v 4 0
  let base := fld v 45 7 * 128
  if 4 ≤ k ∧ k ≤ 20 ∧ base % 2 ^ (k + 3) = 0 ∧ s.rangeInstalled base (2 ^ (k + 3)) then .ok (s.writeReg (fpoolBaseR t) v)
  else .err 0

/-- A write of `TQ_QUOTA` (R159): one below USED sets OVER, with one record at the write that sets it; OVER returns to 0 when
the quota covers USED again. -/
def State.writeQuota (s : State) (t : Nat) (v : Dword) : State :=
  let old := s.reg (tqQuotaR t)
  let used := s.rf (tqStatusR t) 31 0
  let was := s.rf (tqStatusR t) 63 63
  let s := s.writeReg (tqQuotaR t) v
  let new := s.reg (tqQuotaR t)
  if new.toNat < used then
    let s := s.setRf (tqStatusR t) 63 63 1
    if was = 1 then s else s.tidRecord t 0x0D 0 0 [old, new, BitVec.ofNat 64 used]
  else s.setRf (tqStatusR t) 63 63 0

/-- A write of `TQ_RELEASE`: USED falls by COUNT, not below 0; OVER clears once the quota covers USED (R159). -/
def State.writeRelease (s : State) (t : Nat) (v : Dword) : State :=
  let used := s.rf (tqStatusR t) 31 0 - fld v 31 0
  let s := s.setRf (tqStatusR t) 31 0 used
  if used ≤ s.rf (tqQuotaR t) 31 0 then s.setRf (tqStatusR t) 63 63 0 else s

/-- An entry of the table at the home, in installed DRAM. An entry is 16 bytes, aligned: the low four bits of its address name
nothing (assumption 33). -/
def State.entryOk (s : State) (ea : Nat) : Bool := s.inInstalled ea

/-- The home's update of A, and D for a store, applied only if doubleword 0 is unchanged with V = 1 (R149). -/
def execAdUpdate (entry : BitVec 46) (dw0 : Dword) (setD : Bool) (s : State) : Host.Outcome State Fault Refusal :=
  done (
    let ea := entry.toNat / 16 * 16
    if !s.entryOk ea then s
    else
      match s.markEntry (fld dw0 60 56) ea dw0 setD with
      | (s, some d1) => (s.answer (.data [dw0, d1]))
      | (s, none) => (s.answer (.data [])))

/-- An allocation reaches the home of the entry's line (R156, R158): it answers the installed entry, nothing where doubleword 0
has changed, or a Quota fault's sub-cause; or a frame has been popped and its zero-fill begins. One that meets a fill of the same
entry waits in the line's chain until that has returned its entry. -/
def execDemandAllocation (entry : BitVec 46) (dw0 : Dword) (store : Bool) (s : State) : Host.Outcome State Fault Refusal :=
  done (
    let ea := entry.toNat / 16 * 16
    if !s.entryOk ea then s
    else
      match s.fills.find? (fun z => decide (z.ea = ea)) with
      | some z => { s with fills := s.fills.map (fun y => if y = z then { z with chained := z.chained ++ [dw0] } else y) }
      | none =>
        match s.allocStart (fld dw0 60 56) ea dw0 store with
        | (s, .changed) => (s.answer (.data []))
        | (s, .installed d1) => (s.answer (.data [dw0, d1]))
        | (s, .quota sub) => (s.answer (.err (BitVec.ofNat 8 sub)))
        | (s, .frame _) => s)

/-- The zero-fill of a frame completes, and its entry is installed and returned (R156-R158); the requests chained to the entry's line
are next. -/
def execZeroFillComplete (frame : BitVec 34) (s : State) : Host.Outcome State Fault Refusal :=
  done (
    match s.fills.find? (fun z => decide (z.frame = frame)) with
    | none => s
    | some z => (s.fillEnds z))

end Sys2Proof.Machine
end

