-- ==== Sys2Proof/Machine/Cdt.lean ====
section
/-! DEFINITION. The Custom Decode Table: what its micro-operations are, and its validation and lock (R62-R65). -/

namespace Sys2Proof.Machine

/-- `CDT_CTL`. -/
def cdtCtlR : RegRef := ⟨.cdtCtl, 0, 0, 0⟩
/-- `CDT_SLOT[n]`. -/
def cdtSlotR (n : Nat) : RegRef := ⟨.cdtSlot, 0, n, 0⟩
/-- `CDT_UOP[i]`. -/
def cdtUopR (i : Nat) : RegRef := ⟨.cdtUop, 0, i, 0⟩

/-- What a micro-operation does: it computes, loads, or stores (sizes in bytes). -/
inductive Uop where
  | cop (op : Cop)
  | load (size : Nat) (signed isF : Bool)
  | store (size : Nat) (isF : Bool)
  deriving DecidableEq, Repr

/-- The loads and stores of format C by major (R39). -/
def memUop (major : Nat) : Option Uop :=
  match major with
  | 0x10 => some (.load 1 true false)
  | 0x11 => some (.load 1 false false)
  | 0x12 => some (.load 2 true false)
  | 0x13 => some (.load 2 false false)
  | 0x14 => some (.load 4 true false)
  | 0x15 => some (.load 4 false false)
  | 0x16 => some (.load 8 false false)
  | 0x18 => some (.store 1 false)
  | 0x19 => some (.store 2 false)
  | 0x1A => some (.store 4 false)
  | 0x1B => some (.store 8 false)
  | 0x1C => some (.load 4 false true)
  | 0x1D => some (.load 8 false true)
  | 0x1E => some (.store 4 true)
  | 0x1F => some (.store 8 true)
  | _ => none

/-- The micro-operation that a base word is, where it is an assigned instruction of a major that R65 admits: a word whose rounding
mode is a reserved value is a reserved instruction (R42) and is not. -/
def uopOf (w : Word) : Option Uop :=
  let major := wfld w 31 26
  let fn := wfld w 5 0
  let m2 := wfld w 15 14
  let rmOk (rm : Nat) : Bool := rm ≠ 5 && rm ≠ 6
  let when (b : Bool) (op : Cop) : Option Uop := if b then some (.cop op) else none
  match major with
  | 0x00 => when (fn ≤ 0x1F) (.int fn)
  | 0x01 => when (fn ≤ 0x04) (.mul fn)
  | 0x02 => when (fn ≤ 1) (.dec (fn = 1))
  | 0x04 | 0x05 => when (fn ≤ 9 && fn ≠ 3 && fn ≠ 4 && (3 ≤ fn || rmOk (wfld w 10 8))) (.fp (major = 0x04) fn)
  | 0x06 => when (rmOk (wfld w 5 3)) (.fma (wfld w 2 0))
  | 0x07 => when (fn ≤ 5 || decide (0x10 ≤ fn ∧ fn ≤ 0x13) || (decide (8 ≤ fn ∧ fn ≤ 0xF) && rmOk (wfld w 10 8))) (.fpx fn)
  | 0x08 | 0x0A => when true (.imm major m2)
  | 0x09 => when (m2 ≤ 2) (.imm major m2)
  | 0x0B | 0x0D => when (m2 ≤ 1) (.imm major m2)
  | 0x0C => when (m2 = 0) (.imm major m2)
  | m => memUop m

/-- The operation writes an f register (R39). -/
def Cop.writesF : Cop → Bool
  | .fp .. | .fma _ => true
  | .fpx fn => fn = 0x08 || fn = 0x09 || fn = 0x0B || fn = 0x0D || fn = 0x0F || fn = 0x11
  | _ => false

/-- A micro-operation that R65 admits before the last: no load or store, and its field [25:21] selects a temporary or g0. -/
def earlyUop (u : Dword) (k : Uop) : Bool :=
  match k with
  | .cop op => decide (4 ≤ fld u 34 32) || (fld u 34 32 = 0 && fld u 25 21 = 0 && !op.writesF)
  | _ => false

/-- Format B and C base words have no field [15:11] to substitute. -/
def formatBC (w : Word) : Bool := 0x08 ≤ wfld w 31 26

/-- Slot `n` passes validation (R65). -/
def State.cdtPasses (s : State) (n : Nat) : Bool :=
  let v := s.reg (cdtSlotR n)
  let start := fld v 8 1
  let len := fld v 12 9
  decide (start + len ≤ 255) && (List.range (len + 1)).all (fun i =>
    let u := s.reg (cdtUopR (start + i))
    let w : Word := u.truncate 32
    match uopOf w with
    | none => false
    | some k =>
      (bit u 42 == decide (i = len)) && (decide (i = len) || earlyUop u k) && (!formatBC w || fld u 40 38 = 0))

/-- A slot that failed is unbound, marked in BAD and told to Sole (R65). -/
def State.cdtFail (s : State) (n : Nat) : State :=
  ((s.setRf (cdtSlotR n) 0 0 0).setReg cdtCtlR (setBit (s.reg cdtCtlR) (32 + n) true)).sysEvent 0x1A [BitVec.ofNat 64 n]

/-- A write to `CDT_CTL` (R65): LOCK = 1 validates every bound slot and locks the table. -/
def State.writeCdtCtl (s : State) (v : Dword) : State :=
  if bit (s.reg cdtCtlR) 0 || !bit v 0 then s
  else
    let bad := (List.range 32).filter (fun n => bit (s.reg (cdtSlotR n)) 0 && !s.cdtPasses n)
    (bad.foldl State.cdtFail s).setRf cdtCtlR 0 0 1

end Sys2Proof.Machine
end

