-- ==== Sys2Proof/Machine/Quads.lean ====
section
/-! DEFINITION. SerDes quads (R309, R355) and Ethernet: MACs, rings and filters (R356-R358, R370, R371). -/

namespace Sys2Proof.Machine

/-! ### Quads -/

/-- `QUAD_CFG[q]`. -/
def quadR (q : Nat) : RegRef := ⟨.quadCfg, 0, q, 0⟩

/-- The lanes at which the MACs of a quad begin, by its configuration (R355, R356): four of one lane, or two of two lanes. -/
def macLanes (v : Dword) : List Nat := if fld v 2 0 ≠ 1 then [] else if fld v 10 8 = 4 then [0, 2] else [0, 1, 2, 3]
/-- The ports of a quad (R359). -/
def portsOf (v : Dword) : Nat := if fld v 2 0 ≠ 2 then 0 else 2 ^ fld v 10 8
/-- The MACs in number order, each with its quad and lane (R355). -/
def State.macs (s : State) : List (Nat × Nat) := (List.range 8).flatMap (fun q => (macLanes (s.reg (quadR q))).map (fun l => (q, l)))
/-- The bit of a lane in `Links.ethUp`. -/
def laneBit (p : Nat × Nat) : Nat := 4 * p.1 + p.2
/-- The event source of a quad (R371). -/
def quadSource (q i : Nat) : Nat := 32 * (14 + q) + i

/-- A configuration that a write would give is refused (R355). -/
def State.quadRefused (s : State) (q : Nat) (v : Dword) : Bool :=
  let cfg := fun (i : Nat) => if i = q then v else s.reg (quadR i)
  let all := List.range 8
  let xls := all.filter (fun i => decide (fld (cfg i) 2 0 = 3))
  decide (3 < fld v 2 0) || (fld v 2 0 = 1 && decide (4 < fld v 10 8)) || (fld v 2 0 = 2 && decide (2 < fld v 10 8)) ||
    decide (16 < (all.map (fun i => (macLanes (cfg i)).length)).foldl (· + ·) 0) ||
    decide (3 < xls.length) || xls.any (fun i => fld (cfg i) 15 14 = 3 || xls.any (fun j => decide (i ≠ j) &&
      decide (fld (cfg i) 15 14 = fld (cfg j) 15 14)))

/-- An Ethernet lane's link goes up or down (R371); a port that serves as the tick source is lost with its link (R224). In the safe
state no transmitter is enabled, so none comes up (R25). -/
def State.ethLink (s : State) (p : Nat × Nat) (up : Bool) : State :=
  if bit s.links.ethUp (laneBit p) = up ∨ (up ∧ s.safe) then s
  else
    let src := !up && decide (s.tickSrc = 1) && decide (s.macs[s.rf ftuCfgR 39 36]? = some p)
    let s := { s with links := { s.links with ethUp := setBit s.links.ethUp (laneBit p) up } }
    (if src then s.sourceLost else s).raise (quadSource p.1 (8 * p.2))

/-- A root port's link goes up or down (R371); in the safe state it is held in reset (R25). -/
def State.rpLink (s : State) (q p : Nat) (up : Bool) : State :=
  if bit s.links.rpUp (4 * q + p) = up ∨ (up ∧ s.safe) then s
  else { s with links := { s.links with rpUp := setBit s.links.rpUp (4 * q + p) up } }.raise (quadSource q (8 * p))

/-- A quad drops its links, which report as the link changes of their kind (R355). -/
def State.quadDrop (s : State) (q : Nat) : State :=
  let v := s.reg (quadR q)
  let s := (macLanes v).foldl (fun s l => s.ethLink (q, l) false) s
  let s := forN (portsOf v) (fun p s => s.rpLink q p false) s
  if fld v 2 0 = 3 then s.xlDrop (fld v 15 14) 0 Ended.now else s

/-- A configuration of a quad takes effect (R355). -/
def State.setQuad (s : State) (q : Nat) (v : Dword) : State :=
  let old := fld (s.reg (quadR q)) 2 0
  let new := fld v 2 0
  let s := if new = 0 ∧ old ≠ 0 then s.quadDrop q else s
  let s := (s.writeReg (quadR q) v).setRf (quadR q) 12 12 0
  let s := { s with power := { s.power with domReq := SMap.put 0 s.power.domReq (108 + q) 0 } }
  let s := s.setRf ⟨.pwrDomstat, 0, 108 + q, 0⟩ 1 0 (if new = 0 then (if old = 0 then s.rf ⟨.pwrDomstat, 0, 108 + q, 0⟩ 1 0 else 2) else 0)
  if new = 3 ∧ old ≠ 3 then s.xlGo (fld v 15 14) 1 else s

/-- A write of `QUAD_CFG` in the world `w` (R355); MODE 0 on a held quad is deferred for the Open world (R309). -/
def State.writeQuadCfg (s : State) (q : Nat) (v : Dword) (w : Bool) : Wr :=
  let old := s.reg (quadR q)
  let moves := decide (fld v 2 0 ≠ fld old 2 0) || decide (fld v 10 8 ≠ fld old 10 8) || decide (fld v 15 14 ≠ fld old 15 14)
  if (moves && decide (fld old 2 0 ≠ 0) && decide (fld v 2 0 ≠ 0)) || s.quadRefused q v then .err 0
  else if fld v 2 0 = 0 ∧ fld old 2 0 ≠ 0 ∧ s.held (108 + q) ∧ !w then
    .ok ({ s with power := { s.power with domReq := SMap.put 0 s.power.domReq (108 + q) (setBit v 63 true) } }.setRf (quadR q) 12 12 1)
  else .ok (s.setQuad q v)

/-! ### Ethernet -/

/-- ETH_LINK_CHANGE (R356, R371). -/
def execEthLinkChange (n : Fin 16) (up : Bool) (s : State) : Host.Outcome State Fault Refusal :=
  done (
    match s.macs[n.val]? with
    | some p => (s.ethLink p up)
    | none => s)

/-- The rings of tenant `t` at MAC `n` (R358). -/
def rxRing (n t : Nat) : Ring := ⟨⟨.ethRqcfg, 0, n, t⟩, ⟨.ethRqidx, 0, n, t⟩⟩
/-- The transmit ring. -/
def txRing (n t : Nat) : Ring := ⟨⟨.ethTqcfg, 0, n, t⟩, ⟨.ethTqidx, 0, n, t⟩⟩

/-- The unit that serves a MAC's ring: best-effort, with the ring's address space (R358). -/
def State.ethEng (s : State) (r : Ring) (t : Nat) : Eng := ⟨0x56, t, s.rf r.cfg 63 52, false⟩

/-- A MAC address, the first byte of the frame most significant (PRESUMED, assumption 17). -/
def macAddr (f : List Byte) (at' : Nat) : Nat := ((f.drop at').take 6).foldl (fun n b => 256 * n + b.toNat) 0

/-- `ETH_FILT[n][e]` entries of a MAC that are valid. -/
def State.filters (s : State) (n : Nat) : List Dword :=
  ((List.range 256).map (fun e => s.reg ⟨.ethFilt, 0, n, e⟩)).filter (fun v => bit v 63)

/-- A descriptor of an Ethernet ring ends (R297, R358): the timestamp, STATUS and DONE are written, and EVT posts its event. -/
def State.ethDone (s : State) (e : Eng) (r : Ring) (i : Nat) (d : List Dword) (status len : Nat) (ns : Dword) : State :=
  let pa := s.ringPa r + 32 * (i % s.ringSize r)
  let s := (s.engPut e.rq (pa + 24) (toBytes ns.toNat 8)).1
  let s := s.ringComplete e.rq r i d status len
  if bit (d.getD 0 0) 17 then s.notify e.tid (fld (d.getD 0 0) 34 23) (fld (d.getD 0 0) 22 18) else s

/-- A frame goes to tenant `t`'s receive ring (R358): a frame longer than the buffer is cut at its size; a full ring drops it and
counts in LOST. -/
def State.ethDeliver (s : State) (n t : Nat) (frame : List Byte) (ns : Dword) : State :=
  let r := rxRing n t
  let tail := s.rf r.idx 15 0
  let size := s.ringSize r
  if !s.ringOn r then s
  else if (tail + 1) % size = s.rf r.idx 47 32 % size then s.incRf r.idx 63 48
  else
    let e := s.ethEng r t
    match s.ringEntry e.rq r tail with
    | (s, none) => s.incRf r.idx 63 48
    | (s, some d) =>
      let len := min frame.length (fld (d.getD 1 0) 23 0)
      let s' := if fld (d.getD 0 0) 7 0 ≠ 0x11 ∨ len = 0 then s.ethDone e r tail d 1 0 ns
        else
          match s.engStore e (d.getD 2 0) (frame.take len) (len / 64 + 2) with
          | (s, .ok _, k) => s.ethDone e r tail d 0 k ns
          | (s, .fail x, k) => s.ethDone e r tail d x k ns
          | (s, .stay, k) => s.ethDone e r tail d 6 k ns
      s'.setRf r.idx 15 0 ((tail + 1) % size)

/-- ETH_FRAME_RECEIVE (R356, R358): the frame goes to the tenant of every valid entry with its destination address, once each;
a frame that matches none, or that no MAC carries, is dropped and counted. -/
def execEthFrameReceive (n : Fin 16) (frame : List Byte) (ns : Dword) (s : State) : Host.Outcome State Fault Refusal :=
  done (
    match s.macs[n.val]? with
    | none => s
    | some p =>
      if !bit s.links.ethUp (laneBit p) then s
      else
        let s := s.countLink (3 + n.val) 0x02
        let ts := (((s.filters n.val).filter (fun v => decide (fld v 47 0 = macAddr frame 0))).map (fun v => fld v 62 58)).eraseDups
        if ts.isEmpty || decide (frame.length < 64) || decide (9216 < frame.length) then
          { s with links := { s.links with ethDrop := SMap.put 0 s.links.ethDrop n.val (SMap.get 0 s.links.ethDrop n.val + 1) } }
        else (ts.foldl (fun s t => s.ethDeliver n.val t frame ns) s))

/-- A frame leaves on a MAC past its injector, and is counted as sent even where that withholds it (R370). -/
def State.ethSend (s : State) (n : Fin 16) (cls : Nat) (frame : List Byte) : State :=
  let put := fun (s : State) (fs : List (List Byte)) =>
    { s with links := { s.links with ethSent := s.links.ethSent ++ fs.map (fun f => (n, f)) } }
  let key := 8 * n.val + cls
  let s := s.countLink (3 + n.val) 0x01
  let (s, act) := s.inject (16 + n.val) cls (BitVec.ofNat 32 (ofBytes (frame.take 4)))
  let held := SMap.get [] s.links.ethHeld key
  if held ≠ [] then
    put { s with links := { s.links with ethHeld := SMap.put [] s.links.ethHeld key [] } } [frame, held]
  else match act with
    | some 0 => s
    | some 1 =>
      -- one bit is flipped; the spec does not say which (assumption 6)
      let i := (Config.freeValue s.free).toNat % (8 * frame.length)
      put { s with free := s.free + 1 } [frame.modify (i / 8) (fun b => b ^^^ (1 <<< (i % 8)))]
    | some 2 => { s with links := { s.links with ethHeld := SMap.put [] s.links.ethHeld key frame } }
    | _ => put s [frame]

/-- ETH_TRANSMIT (R358): the descriptor at the head of tenant `t`'s transmit ring is served. -/
def execEthTransmit (n : Fin 16) (t : Tid) (s : State) : Host.Outcome State Fault Refusal :=
  done (
    let r := txRing n.val t.val
    let size := s.ringSize r
    let head := s.rf r.idx 11 0
    match s.macs[n.val]? with
    | none => s
    | some p =>
      if !bit s.links.ethUp (laneBit p) || !s.ringOn r || decide (head % size = s.rf r.idx 43 32 % size) then s
      else
        let e := s.ethEng r t.val
        let now := s.timebase * 10
        let ends := fun (s : State) (d : List Dword) (status len : Nat) =>
          let s := s.ethDone e r head d status len now
          let s := if status = 0 then s else s.incRf r.idx 63 48
          (s.setRf r.idx 11 0 ((head + 1) % size))
        match s.ringEntry e.rq r head with
        | (s, none) => ((s.incRf r.idx 63 48).setRf r.idx 11 0 ((head + 1) % size))
        | (s, some d) =>
          let len := fld (d.getD 1 0) 23 0
          let cls := fld (d.getD 0 0) 37 35
          if fld (d.getD 0 0) 7 0 ≠ 0x10 ∨ len < 64 ∨ 9216 < len then ends s d 1 0
          else
            match s.engLoad e (d.getD 2 0) len (len / 64 + 2) with
            | (_, .stay) => s
            | (s, .fail x) => ends s d x 0
            | (s, .ok f) =>
              let own := (s.filters n.val).any (fun v =>
                decide (fld v 62 58 = t.val) && decide (fld v 47 0 = macAddr f 6) && bit v (50 + cls))
              if own then ends (s.ethSend n cls f) d 0 len else ends s d 3 0)

end Sys2Proof.Machine
end

