-- ==== Sys2Proof/Machine/Sink.lean ====
section
/-! DEFINITION. The Lace funnel, the sink and the Performance Counter Reader (R379-R384, R387, R392, R393). -/

namespace Sys2Proof.Machine

/-! ### The funnel (R380-R382) -/

/-- The number of a funnel node: the compute dies, and 12 for the root. -/
def nodeNo : FunnelNode → Nat
  | .die d => d.val
  | .root => 12

/-- The node at which a source's packets enter the funnel. -/
def homeNode (src : Nat) : Nat :=
  if src < 252 then src / 21
  else if 256 ≤ src ∧ src < 340 then (src - 256) / 7
  else if 352 ≤ src ∧ src < 364 then src - 352
  else 12

/-- A packet's source, type and the LOST count it carries. -/
def pktSrc (p : Packet) : Nat := fld p.hdr 63 55
/-- TYPE. -/
def pktType (p : Packet) : Nat := fld p.hdr 54 50

/-- The queue of a node. -/
def State.nodeQ (s : State) (n : Nat) : List Packet := SMap.get [] s.lace.queues n
/-- The LOST packets that a node keeps. -/
def State.nodeKept (s : State) (n : Nat) : List Packet := SMap.get [] s.lace.kept n
/-- The state with a node's queue set. -/
def State.setNodeQ (s : State) (n : Nat) (l : List Packet) : State :=
  { s with lace := { s.lace with queues := SMap.put [] s.lace.queues n l } }
/-- The state with a node's kept entries set. -/
def State.setNodeKept (s : State) (n : Nat) (l : List Packet) : State :=
  { s with lace := { s.lace with kept := SMap.put [] s.lace.kept n l } }

/-- A packet's drop priority. -/
def State.pktPrio (s : State) (p : Packet) : Nat := if (pktType p) = 0x0D then 3 else s.rf (lsrc (pktSrc p)) 23 22

/-- A packet is discarded at a node (R380, R381): counted for its source, in `LACE_STAT.LOST`, and at the first loss since the
register was read raised. -/
def State.losePacket (s : State) (n : Nat) (p : Packet) : State :=
  let hit := s.lace.lost.any (fun e => decide (e.1 = n ∧ e.2.1 = (pktSrc p)))
  let l := if hit then s.lace.lost.map (fun e => if e.1 = n ∧ e.2.1 = (pktSrc p) then (e.1, e.2.1, satAdd e.2.2 1 32) else e)
    else s.lace.lost ++ [(n, (pktSrc p), 1)]
  let first := !s.lace.lossSeen
  let s := { s with lace := { s.lace with lost := l, lossSeen := true } }
  let s := s.incRf ⟨.laceStat, 0, 0, 0⟩ 31 0
  if first then s.raise (32 * 26 + 3) else s

/-- The packet that a full node discards: the lowest PRIO, of equals the youngest. -/
def State.dropPick (s : State) (q : List Packet) : Nat :=
  let low := q.foldl (fun m p => min m (s.pktPrio p)) 3
  ((List.range q.length).reverse.find? (fun i => match q[i]? with
    | some p => decide (s.pktPrio p = low)
    | none => false)).getD 0

/-- LOST packets for one source merge (R381). -/
def mergeLost (l : List Packet) (p : Packet) : List Packet :=
  if l.any (fun q => decide ((pktSrc q) = (pktSrc p))) then
    l.map (fun q => if (pktSrc q) = (pktSrc p) then { q with hdr := setFld q.hdr 31 0 (satAdd (fld q.hdr 31 0) (fld p.hdr 31 0) 32) } else q)
  else l ++ [p]

/-- The queue of a node with a packet more at its end (R380): of more than 120, the lowest priority gives way. -/
def State.nodeFit (s : State) (n : Nat) (q : List Packet) : State :=
  if q.length ≤ 120 then s.setNodeQ n q
  else
    let i := s.dropPick q
    match q[i]? with
    | some d => (s.setNodeQ n (q.eraseIdx i)).losePacket n d
    | none => s

/-- A packet enters a node (R380): a LOST packet one of its kept entries, another the queue; the root discards everything while the
sink is off. -/
def State.nodeEnter (s : State) (n : Nat) (p : Packet) : State :=
  if (pktType p) = 0x0E then s.setNodeKept n (mergeLost (s.nodeKept n) p)
  else if n = 12 ∧ s.rf ⟨.laceSink, 0, 0, 0⟩ 0 0 = 0 then s.losePacket n p
  else s.nodeFit n (s.nodeQ n ++ [p])

/-- A tick marker enters the root funnel (R382): it goes ahead of what the root has not yet passed to the sink. -/
def State.tickEnter (s : State) (p : Packet) : State :=
  let s := s.nodeEnter 12 p
  let q := s.nodeQ 12
  if q.getLast? = some p then s.setNodeQ 12 (p :: q.dropLast) else s

/-- The root funnel discards what it holds when the sink is turned off (R387). -/
def State.rootDiscard (s : State) : State := (s.nodeQ 12).foldl (fun s p => s.losePacket 12 p) (s.setNodeQ 12 [])

/-- A packet leaves a node: a LOST packet at any time, the head of the queue once no loss of its source waits (R381). None when
the packet is not the next to leave. -/
def State.nodeLeave (s : State) (n : Nat) (p : Packet) : Option State :=
  if (pktType p) = 0x0E then
    if (s.nodeKept n).contains p then some (s.setNodeKept n ((s.nodeKept n).erase p)) else none
  else
    match s.nodeQ n with
    | q :: rest =>
      let waits := (s.nodeKept n).any (fun x => decide ((pktSrc x) = (pktSrc p))) ||
        s.lace.lost.any (fun e => decide (e.1 = n ∧ e.2.1 = (pktSrc p)))
      if q = p ∧ !waits then some (s.setNodeQ n rest) else none
    | [] => none

/-- The kept entries of a node have room for a LOST packet. -/
def State.keptRoom (s : State) (n : Nat) (p : Packet) : Bool :=
  decide ((pktType p) ≠ 0x0E) || decide ((s.nodeKept n).length < 8) || (s.nodeKept n).any (fun q => decide ((pktSrc q) = (pktSrc p)))

/-- FUNNEL_PACKET (R380): a packet on its way from its source, or the next of a die funnel, arrives at a node. -/
def execFunnelPacket (n : FunnelNode) (p : Packet) (s : State) : Host.Outcome State Fault Refusal :=
  done (
    let n := nodeNo n
    if !s.keptRoom n p then s
    else if s.lace.out.contains p && decide (homeNode (pktSrc p) = n) && decide ((pktType p) ≠ 0x0E) then
      (({ s with lace := { s.lace with out := s.lace.out.erase p } }).nodeEnter n p)
    else if n = 12 then
      match (List.range 12).findSome? (fun d => s.nodeLeave d p) with
      | some s => (s.nodeEnter 12 p)
      | none => s
    else s)

/-- LOST_PACKET_EMIT (R381): the node's oldest loss becomes a LOST packet, when a kept entry is free or it merges. -/
def execLostPacketEmit (n : FunnelNode) (s : State) : Host.Outcome State Fault Refusal :=
  done (
    let n := nodeNo n
    match s.lace.lost.find? (fun e => decide (e.1 = n)) with
    | none => s
    | some e =>
      let p := mkPkt e.2.1 0x0E e.2.2 []
      if s.keptRoom n p then
        (({ s with lace := { s.lace with lost := s.lace.lost.erase e } }).setNodeKept n (mergeLost (s.nodeKept n) p))
      else s)

/-! ### The sink (R387) -/

/-- `LACE_SINK`. -/
def laceSinkR : RegRef := ⟨.laceSink, 0, 0, 0⟩
/-- `LACE_WPTR`. -/
def laceWptrR : RegRef := ⟨.laceWptr, 0, 0, 0⟩

/-- The buffer's size in bytes. -/
def State.sinkSize (s : State) : Nat := if s.rf laceSinkR 2 2 = 1 then 2 ^ s.rf laceSinkR 11 7 else 2 ^ 23

/-- The unit that writes for Lace and the counter reader: Queue DMA, TID 0 (R372). -/
def laceRq : Rq := { agent := 0x55, tid := 0, w := false }

/-- A line of the sink is written at OFFSET (R387): to DRAM or the trace SRAM; OFFSET moves on, and the buffer's end wraps or
fills it. -/
def State.sinkLine (s : State) (dws : List Dword) : State :=
  let o := s.rf laceWptrR 34 0
  let size := s.sinkSize
  let s := if s.rf laceSinkR 2 2 = 1 then
      s.unitWrite laceRq (s.rf laceSinkR 45 12 * 64 + o / 64) (lineOfDws dws) (BitVec.allOnes 64)
    else forN 8 (fun i s => s.setReg ⟨.traceSram, 0, o / 8 + i, 0⟩ (dws.getD i 0)) s
  let next := o + 64
  let s := if next = size / 2 then s.raise (32 * 26 + 2) else s
  if next < size then s.setRf laceWptrR 34 0 next
  else if s.rf laceSinkR 3 3 = 1 then
    (({ s with lace := { s.lace with full := true } }).setRf laceWptrR 34 0 next).raise (32 * 26 + 1)
  else ((s.setRf laceWptrR 34 0 0).setRf laceWptrR 63 63 1).raise (32 * 26)

/-- A PAD packet. -/
def padPkt : Dword := pktHdr 511 0 0 0

/-- One doubleword enters the line being packed. -/
def State.sinkDw (s : State) (d : Dword) : State :=
  let l := s.lace.partialLine ++ [d]
  if l.length < 8 then { s with lace := { s.lace with partialLine := l } }
  else ({ s with lace := { s.lace with partialLine := [] } }).sinkLine l

/-- The line being packed is filled with PAD and written. -/
def State.sinkPad (s : State) : State :=
  let k := s.lace.partialLine.length
  if k = 0 then s else (List.range (8 - k)).foldl (fun s _ => s.sinkDw padPkt) s

/-- The sink takes a packet (R387): it does not cross the buffer's end; a full stop-when-full sink discards it. -/
def State.sinkTake (s : State) (p : Packet) : State :=
  let dws := p.hdr :: p.dws
  let left := (s.sinkSize - s.rf laceWptrR 34 0) / 8 - s.lace.partialLine.length
  let s := if !s.lace.full ∧ left < dws.length then s.sinkPad else s
  if s.lace.full then s.incRf ⟨.laceStat, 0, 0, 0⟩ 63 32
  else dws.foldl State.sinkDw s

/-- SINK_PACKET (R387): the next packet of the root funnel reaches the sink. -/
def execSinkPacket (p : Packet) (s : State) : Host.Outcome State Fault Refusal :=
  done (
    if s.rf laceSinkR 0 0 = 0 then s
    else
      match s.nodeLeave 12 p with
      | some s => (s.sinkTake p)
      | none => s)

/-- A write to `LACE_SINK` (R387): the buffer stays as it is while EN = 1; a DRAM buffer must lie in installed DRAM, aligned to its
size; EN := 0 pads and writes the partial line, and the root discards from then on. -/
def State.writeLaceSink (s : State) (v : Dword) : Wr :=
  let old := s.reg laceSinkR
  let new := writeFields Reg.laceSink.fields false old v
  let on := bit old 0
  let size := 2 ^ fld new 11 7
  let base := fld new 45 12 * 4096
  let moved := decide (setFld old 0 0 0 ≠ setFld new 0 0 0)
  if on ∧ moved then .err 0
  else if bit new 0 && bit new 2 &&
      (decide (fld new 11 7 < 16 ∨ 34 < fld new 11 7) || decide (base % size ≠ 0) || !s.rangeInstalled base size) then .err 0
  else if on ∧ !bit new 0 then .ok (s.sinkPad.setReg laceSinkR new).rootDiscard
  else if !on ∧ bit new 0 then
    .ok (({ s with lace := { s.lace with full := false, partialLine := [] } }.setReg laceSinkR new).setRf laceWptrR 34 0 0)
  else .ok (s.setReg laceSinkR new)

/-! ### Sources and comparators (R383, R384) -/

/-- A write to `LSRC_CTL` (R373, R384). -/
def State.writeLsrc (s : State) (id : Nat) (v : Dword) : State :=
  if !srcUsed id then s
  else
    let r := lsrc id
    let was := bit (s.reg r) 21
    let s := s.writeReg r v
    let n := s.reg r
    if !bit n 21 then s.setTrig id 0 0xF
    else if fld n 25 24 = 3 then s.setTrig id 1 0xF
    else if !was ∧ fld n 25 24 = 0 then
      if fld n 63 48 = 0 then (s.setTrig id 2 0xF).syncSource id
      else s.setTrig id 1 0xF
    else s

/-- The comparators of kind 5 meet a tick of frame `f` (R383). -/
def State.fireTick (s : State) (f : Nat) : State :=
  let hits := (List.range 16).filter (fun n =>
    decide ((s.cmp n).1 = 5) && (bit (s.cmp n).2.1 6 || decide (fld (s.cmp n).2.1 5 0 = f)))
  if hits.isEmpty then s else s.fireAll s.liveSrcs hits

/-- A software trace store (R379): SWT with its channel, its value and the context ID that stores. -/
def State.swt (s : State) (t ch cid : Nat) (v : Dword) : State :=
  if s.tracing (416 + t) then s.emit (mkPkt (416 + t) 0x0B (ch <<< 39 ||| cid) [v]) else s

/-! ### The Performance Counter Reader (R392, R393) -/

/-- `PCR_CFG`, `PCR_IDX`, `PCR_STAT`, `PCR_RING`. -/
def pcrCfgR : RegRef := ⟨.pcrCfg, 0, 0, 0⟩
/-- `PCR_IDX`. -/
def pcrIdxR : RegRef := ⟨.pcrIdx, 0, 0, 0⟩
/-- `PCR_STAT`. -/
def pcrStatR : RegRef := ⟨.pcrStat, 0, 0, 0⟩
/-- `PCR_RING`. -/
def pcrRingR : RegRef := ⟨.pcrRing, 0, 0, 0⟩

/-- An offset holds a counter, its selector or a bandwidth count. -/
def latched (off : Nat) : Bool :=
  match regAt off with
  | some r => match r.reg with
    | .pmcSelCore | .pmcCntCore | .pmcSelTrio | .pmcCntTrio | .pmcSelDie | .pmcCntDie | .pmcSelMc | .pmcCntMc | .pmcSelLink
    | .pmcCntLink | .fabBww | .mcPortbw => true
    | _ => false
  | none => false

/-- The bandwidth counts of the link stops are latched and restart (R391). -/
def State.latchBww (s : State) : State :=
  s.trios.foldl (fun s e =>
    if e.1 < 84 then
      let n := (s.trio e.1).bww
      let s := forN 17 (fun w s => s.setReg ⟨.fabBww, e.1 / 7, e.1 % 7, w⟩
        (BitVec.ofNat 64 (SMap.get 0 n (2 * w + 1) % 2 ^ 32 ||| (SMap.get 0 n (2 * w) % 2 ^ 32) <<< 32))) s
      s.modTrio e.1 (fun k => { k with bww := [] })
    else s) s

/-- A latched register's value. -/
def State.banked (s : State) (r : RegRef) : Dword := SMap.get r.dflt s.lace.bank r.off

/-- The values of a counter block's record: OVF, EN and COUNT. -/
def State.blockVals (s : State) (b : PmcBlock) : List Dword :=
  (List.range b.size).map (fun n =>
    setFld (s.banked (b.cnt n)) 62 62 (fld (s.banked (b.sel n)) 40 40))

/-- The unit is powered and its die answers. -/
def State.dumpable (s : State) (t : Nat) : Bool :=
  t = svcTrio || (bit (s.reg ⟨.dieStatus, 0, t / 7, 0⟩) (8 + t % 7) && decide (s.rf ⟨.dieStatus, 0, t / 7, 0⟩ 2 0 ≠ 3) &&
    decide (s.rf ⟨.dieStatus, 0, t / 7, 0⟩ 2 0 ≠ 4))

/-- A die is neither Off, Offline nor in Die-off. -/
def State.dieUp (s : State) (d : Nat) : Bool :=
  let st := s.rf ⟨.dieStatus, 0, d, 0⟩ 2 0
  decide (st ≠ 0 ∧ st ≠ 3 ∧ st ≠ 4)

/-- The records of a dump, in order: kind, index and values (R392, R393). -/
def State.dumpRecords (s : State) : List (Nat × Nat × List Dword) :=
  let sel := s.rf pcrCfgR 14 8
  let on (k : Nat) : Bool := sel.testBit (k - 1)
  let trios := (List.range 85).filter s.dumpable
  let dies := (List.range 12).filter s.dieUp
  let low := trios.filter (fun t => decide (t < 84))
  (if on 1 then trios.flatMap (fun t => (List.range 3).map (fun i => (1, coreNo t i, s.blockVals (.core (coreNo t i))))) else []) ++
  (if on 2 then trios.map (fun t => (2, t, s.blockVals (.trio t))) else []) ++
  (if on 3 then dies.map (fun d => (3, d, s.blockVals (.die d))) else []) ++
  (if on 4 then low.map (fun t => (4, t, (List.range 17).map (fun w => s.banked ⟨.fabBww, t / 7, t % 7, w⟩))) else []) ++
  (if on 5 then (List.range 12).map (fun m => (5, m, s.blockVals (.mc m))) else []) ++
  (if on 6 then (List.range 12).map (fun m => (6, m, (List.range 13).map (fun p => s.banked ⟨.mcPortbw, 0, m, p⟩))) else []) ++
  (if on 7 then (List.range 52).map (fun j => (7, j, s.blockVals (.link j))) else [])

/-- A record in the dump ring (R393): one that does not fit is dropped and counted. -/
def State.dumpOne (s : State) (r : Nat × Nat × List Dword) : State :=
  let k := s.rf pcrRingR 4 0
  let size := 2 ^ k
  let tail := s.rf pcrIdxR 19 0
  let head := s.rf pcrIdxR 51 32 % size
  let need := (2 + r.2.2.length + 7) / 8
  let free := (head + size - tail - 1) % size
  if k = 0 ∨ free < need then (s.incRf pcrIdxR 63 52).raise (32 * 27 + 2)
  else
    let hdr := BitVec.ofNat 64 (r.1 <<< 56 ||| r.2.1 <<< 40 ||| r.2.2.length <<< 32 ||| s.lace.dumpSeq % 2 ^ 31 <<< 1 |||
      s.lace.pcrPh.toNat)
    let dws := hdr :: s.ftu.tickAt :: r.2.2
    let s := forN need (fun i s => s.unitWrite laceRq (s.rf pcrRingR 45 10 * 16 + (tail + i) % size)
      (lineOfDws ((dws.drop (8 * i)).take 8)) (BitVec.allOnes 64)) s
    let s := s.setRf pcrIdxR 19 0 ((tail + need) % size)
    if size ≤ tail + need then { s with lace := { s.lace with pcrPh := !s.lace.pcrPh } } else s

/-- The tick at the Performance Counter Reader and Lace (R229 step 1 and 5, R382, R383, R391, R392). -/
def State.pcrTick (s : State) : State :=
  let s := s.latchBww
  let s := { s with lace := { s.lace with bank := s.mcs.filter (fun e => latched e.1) } }
  let s := s.tickEnter (mkPkt 510 0x0D s.frame [s.ftu.tickAt])
  let s := s.fireTick s.frame
  if s.rf pcrCfgR 6 6 = 0 then s
  else
    let n := s.lace.pcrTicks + 1
    let s := { s with lace := { s.lace with pcrTicks := n } }
    if n % (s.rf pcrCfgR 5 0 + 1) ≠ 0 then s
    else if s.lace.dumping then (s.incRf pcrStatR 15 0).raise (32 * 27 + 1)
    else
      let s := s.dumpRecords.foldl State.dumpOne s
      { s with lace := { s.lace with dumping := true, dumpSeq := s.lace.dumpSeq + 1 } }

/-- PCR_DUMP_COMPLETE (R392). -/
def execPcrDumpComplete (s : State) : Host.Outcome State Fault Refusal :=
  done (
    if s.lace.dumping then
      (((({ s with lace := { s.lace with dumping := false } }).incRf pcrStatR 63 32)).raise (32 * 27))
    else s)

/-- A write to `PCR_CFG`: setting EN starts the count of ticks. -/
def State.writePcrCfg (s : State) (v : Dword) : State :=
  let was := bit (s.reg pcrCfgR) 6
  let s := s.writeReg pcrCfgR v
  if !was ∧ bit (s.reg pcrCfgR) 6 then { s with lace := { s.lace with pcrTicks := 0 } } else s

end Sys2Proof.Machine
end

