-- ==== Sys2Proof/Machine/Tick.lean ====
section
/-! DEFINITION. The tick at each unit, in the order of R229: season activation, release, budgets, housekeeping, migration, the
checks of tick arrival (R204, R205, R211, R228-R230, R233, R240, R241, R245, R252, R268, R286, R287, R290). -/

namespace Sys2Proof.Machine

/-- `PWR_GOV`. -/
def govR : RegRef := ⟨.pwrGov, 0, 0, 0⟩
/-- A cause forces Lean (R402). -/
def State.leanForced (s : State) : Bool := decide (s.rf govR 7 5 ≠ 0)

/-! ### The Global Context Engine -/

/-- POINT and LEANPT of the table in a season slot (R232). -/
def State.seasonPoint (s : State) (sl : Nat) : Nat := fld (s.seasonDw sl 1) 27 26
/-- LEANPT of the table in a season slot. -/
def State.seasonLeanPoint (s : State) (sl : Nat) : Nat := fld (s.seasonDw sl 1) 29 28

/-- The operating point in force changes (R401, R418): recorded when it differs. -/
def State.setPoint (s : State) (p : Nat) : State :=
  if s.rf govR 3 2 = p then s
  else
    let s := s.setRf govR 3 2 p
    s.sysEvent 0x05 [BitVec.ofNat 64 (p ||| s.rf govR 7 5 <<< 2)]

/-- The credits of the table in a season slot (R233). -/
def State.seasonCredits (s : State) (sl : Nat) : SMap Dword :=
  let t := SMap.get [] s.gce.store sl
  (List.range 32).foldl (fun (m : SMap Dword) n => if bit (tenDw t n 0) 0 then
    (List.range 12).foldl (fun (m : SMap Dword) c => SMap.put 0 m (12 * n + c) (BitVec.ofNat 64 (tenCredit t n c))) m
    else m) []

/-- The new records and credits are sent out; each unit holds them in shadow until the tick of the major-frame boundary
(R240). -/
def State.sendShadows (s : State) (sl : Nat) : State :=
  let t := SMap.get [] s.gce.store sl
  let s := { s with gce := { s.gce with
    shadowCredits := some (s.seasonCredits sl), actTick := s.ftu.ticks + (s.frames - s.frame) } }
  (List.range 72).foldl (fun s r => match s.physOf (r / 6) (r % 6) with
    | some p => s.modTrio p (fun k => { k with shadow := some (trioRec t r) })
    | none => s) s

/-- The records and credits held in shadow are dropped: the change they were sent for does not take place (R245). -/
def State.dropShadows (s : State) : State :=
  let s := { s with gce := { s.gce with shadowCredits := none } }
  s.trios.foldl (fun s e => s.modTrio e.1 (fun k => { k with shadow := none })) s

/-- The season in force ends, with its cuts; what the losses cost the new one is worked out anew (R245). -/
def Gce.begin (g : Gce) (eff : SMap TrioRec) (credits : SMap Dword) : Gce :=
  { g with
    live := true, pendFrames := 0, lalt := none, credits := credits, shadowCredits := none, creditPend := none, eff := eff
    dirty := [], parked := [], gone := [], waiting := [], hosts := [], lean := false, leanOff := false, slackOff := 0
    cuts := [] }

/-- A trio is lost to a record: none serves it, or its die is offline. -/
def State.lostRec (s : State) (r : Nat) : Bool :=
  (s.physOf (r / 6) (r % 6)).isNone || decide (s.dieState (r / 6) = 3)

/-- R243 is applied again to the new season against every loss still present, with reason 3 (R245). -/
def State.reapply (s : State) (eff : Dword) : State :=
  let s := (List.range 72).foldl (fun s r =>
    if s.lostRec r ∧ (s.effRec r).act then s.loseTrio r 0 3 eff else s) s
  let s := (List.range 72).foldl (fun s r => if s.withdrawn r ∧ (s.effRec r).act then s.loseTrio r 4 3 eff else s) s
  let s := (List.range 12).foldl (fun s m =>
    if s.chanState m ≠ 3 then s
    else if s.mirrored m && decide (s.chanState (pairOf m) = 4) then s.coverChannel m (pairOf m) 3 eff
    else s.loseChannel m 3 eff) s
  if s.leanForced then s.leanPark 3 eff else s

/-- A season becomes active at a major-frame boundary (R240). -/
def State.activate (s : State) (sl : Nat) : State :=
  let t := SMap.get [] s.gce.store sl
  let s := s.gce.parked.foldl (fun s r => s.park r false) s
  let recs := (List.range 72).foldl (fun (m : SMap TrioRec) r => SMap.put {} m r (trioRec t r)) []
  let s := (s.setRf seasonCtlR 1 0 sl).setRf seasonCtlR 5 5 0
  let s := { s with
    gce := s.gce.begin recs (s.gce.shadowCredits.getD (s.seasonCredits sl))
    power := { s.power with alarm := false } }
  let s := forN 32 (fun n s => if bit (tenDw t n 0) 0 then s.setReg ⟨.ways, 0, n, 0⟩ ((tenDw t n 0) >>> 16 &&& 0xFFFFFFFF) else s) s
  let s := s.setPoint (if s.leanForced then s.seasonLeanPoint sl else s.seasonPoint sl)
  let s := ((s.sysEvent 0x11 [BitVec.ofNat 64 sl, s.reg seasonStatR]).emitEvent 384 0x31 sl).raise 11
  s.reapply s.ftu.tickAt

/-- The records held in shadow are in force at once. -/
def State.swapAll (s : State) : State :=
  s.trios.foldl (fun s e => s.modTrio e.1 (fun k => match k.shadow with
    | some r => { k with rcd := r, shadow := none }
    | none => k)) s

/-- The season that the first major-frame boundary after a forced Lean activates (R245): LALT of the active season when bit 2 is set,
that slot is valid and its POINT is not 0. -/
def State.leanSeason (s : State) : Option Nat :=
  let h := s.seasonDw s.active 1
  let sl := fld h 31 30
  if s.gce.live ∧ bit h 32 ∧ bit (s.reg seasonCtlR) (8 + sl) ∧ s.seasonPoint sl ≠ 0 then some sl else none

/-- The boundary after a forced Lean (R245): the season is activated, its records being sent out now where they were not before. A change
that was requested meanwhile is still pending, and is sent out in the frame that begins (R240). -/
def State.leanBoundary (s : State) : State :=
  match s.leanSeason with
  | none => ({ s with gce := { s.gce with lalt := none } }).dropShadows
  | some sl =>
    let pend := s.changePending
    let late := s.gce.shadowCredits.isNone
    let s := if late then s.sendShadows sl else s
    let s := ((if late || pend then s.swapAll else s).activate sl).cutsTakeEffect
    if pend then ({ s.setRf seasonCtlR 5 5 1 with gce := { s.gce with pendFrames := 1 } }).sendShadows s.nextSeason else s

/-- The tick at the Global Context Engine (R229): what a loss or a return to Run left pending takes effect, substitutions take
their last step, and a pending season becomes active or is sent out (R240), unless the boot has failed (R432) or the module is in
its safe state (R25). -/
def State.gceTick (s : State) : State :=
  let s := { s with gce := { s.gce with tick := s.ftu.tickAt } }
  let s := if s.gce.leanOff then s.leanWithdraw s.ftu.tickAt else s
  let s := (s.cutsTakeEffect).spareSteps
  if s.rf ⟨.bootStat, 0, 0, 0⟩ 39 32 ≠ 0 ∨ s.safe then s
  else if s.gce.lalt.isSome ∧ s.frame = 0 then s.leanBoundary
  else if s.ftu.ticks = s.gce.actTick ∧ s.gce.shadowCredits.isSome then (s.activate s.nextSeason).cutsTakeEffect
  else if s.changePending ∧ s.gce.pendFrames = 0 then
    ({ s with gce := { s.gce with pendFrames := 1, lalt := none } }).sendShadows s.nextSeason
  else s

/-! ### A trio -/

/-- The deadlines that the tick itself checks, D = 0, and budgets spent at the tick (R230, R241). -/
def State.tickDeadlines (s : State) (t : Nat) : State :=
  (s.trio t).live.foldl (fun s e =>
    let b := s.slot t e.1
    let s := if b.misses && decide (b.deadline = 0) && b.releasedAt s.frame then s.overrun t e.1 s.ftu.tickAt else s
    match s.coreOf t e.1 with
    | some c => if s.remain t e.1 = 0 then (s.leave t (coreIn c) .dormant).budgetRecord t e.1 else s
    | none => s) s

/-- The trio's new record is swapped in (R240). -/
def State.swapRecord (s : State) (t : Nat) : State :=
  if s.ftu.ticks = s.gce.actTick then
    match (s.trio t).shadow with
    | some r => s.modTrio t (fun k => { k with rcd := r, shadow := none })
    | none => s
  else s

/-- The release of a slot at the tick of frame `f` (R252, R268): the fields of doubleword 2 of the descriptor take effect
(R290), as far as the cuts in force leave the budget (R245). -/
def State.release (s : State) (t n : Nat) : State :=
  let b := s.slot t n
  if !b.releasedAt s.frame ∨ b.state = .free ∨ b.state = .suspended ∨ b.state = .faulted then s
  else
    let d := b.desc.getD 2 0
    let budget := min (fld d 20 0) ((s.budgetCap b.tid.val b.handle.toNat false).getD (fld d 20 0))
    s.modSlot t n (fun b => { b with
      eff := b.eff.set 2 (setFld d 20 0 budget), remain := budget, used := 0, since := s.timebase
      fdone := false, late := false
      state := if b.state = .dormant then .ready else b.state
      readyAt := if b.state = .dormant then s.timebase else b.readyAt })

/-- The tick at a Trio Dispatcher (R229): deadlines, the swap of the record, releases, then the housekeeping window, in which
what ran is switched out, migrations take place, the copies' digests are compared, a dissenter is restored and the mode
changes. -/
def State.trioTick (s : State) (t : Nat) : State :=
  if !s.dumpable t then s
  else
    let s := s.modTrio t (fun k => { k with tickAt := s.ftu.tickAt })
    let s := (s.tickDeadlines t).swapRecord t
    let s := (s.trio t).live.foldl (fun s e => s.release t e.1) s
    let w := s.windowAt t
    let s := ((s.modTrio t (fun k => { k with window := w })).windowEvent t w).digest t
    let s := (((s.redispatch t).migrateAll t).resync t).changeMode t
    let s := if s.gce.live && !(s.trio t).rcd.act then s.retain t
      else if (s.trio t).rcd.act && s.rf (domR t) 3 2 ≠ 1 then s.unretain t
      else s
    s.redispatch t

/-- The tick at the service trio (R217, R229): Cobbler's housekeeping window opens; the digest and the resynchronisation. -/
def State.svcTick (s : State) : State :=
  ((s.modTrio svcTrio (fun k => { k with tickAt := s.ftu.tickAt, window := .housekeeping })).digest svcTrio).resync svcTrio

/-- The service trio goes by one name. -/
def tickUnit (u : TickUnit) : TickUnit :=
  match u with
  | .trio t => if t.val = svcTrio then .svc else u
  | _ => u

/-- A tick reaches a unit a second time (R228): at a Trio Dispatcher it is a trio error; the others make no such check. -/
def State.extraTick (s : State) (u : TickUnit) : State :=
  match u with
  | .trio t => if s.dumpable t.val then s.blockError t.val else s
  | .svc => s.svcTrioError
  | _ => s

/-- FRAME_TICK (R222), while RUN = 1. Copies of the tick counter that disagree are a chip-level error (R228). -/
def execFrameTick (s : State) : Host.Outcome State Fault Refusal :=
  done (
    if !s.running || !s.fresh then s
    else if s.ftu.ticks ≠ s.ftu.ticksB then (s.safeState 0x1F 0 false)
    else s.frameTick)

/-- TICK_ARRIVAL (R229): the last tick reaches a unit; one that it has reached already sees an extra tick (R228). -/
def execTickArrival (u : TickUnit) (s : State) : Host.Outcome State Fault Refusal :=
  done (
    let u := tickUnit u
    if s.ftu.ticks = 0 then s
    else if s.ftu.arrived.contains u then (s.extraTick u)
    else
      let s := { s with ftu := { s.ftu with arrived := s.ftu.arrived ++ [u] } }
      match u with
      | .trio t => (s.trioTick t.val)
      | .mc m => (s.mcTick m.val)
      | .pcr => s.pcrTick
      | .gce => s.gceTick
      | .svc => s.svcTick)

/-- TICK_MISSING (R228): no tick has come within 1 µs of its expected time. A trio is reset as a block; a missed tick at a memory
controller is a chip-level error. The other units make no such check. -/
def execTickMissing (u : TickUnit) (s : State) : Host.Outcome State Fault Refusal :=
  done (
    if !s.running then s
    else
      match u with
      | .trio t => (if s.dumpable t.val then s.blockError t.val else s)
      | .svc => s.svcTrioError
      | .mc _ => (s.safeState 0x1F 0 false)
      | .pcr => s
      | .gce => s)

end Sys2Proof.Machine
end

