-- ==== Sys2Proof/Machine/Supply.lean ====
section
/-! DEFINITION. The supply monitor and the dip sequence, the governor, temperatures and service life, the reference clocks, and
what power-on and module resets leave (R9, R27, R396-R403, R405, R410-R415, R456). -/

namespace Sys2Proof.Machine

/-! ### The governor (R401, R402) -/

/-- The supply monitor's register. -/
def supStatR : RegRef := ⟨.supStat, 0, 0, 0⟩
/-- STATE of the supply monitor: 0 Normal, 1 Warning, 2 Recovering, 3 Over-voltage warning. -/
def State.supState (s : State) : Nat := s.rf supStatR 2 0

/-- The causes that force Lean now, as FORCED codes them (R402). -/
def State.leanCauses (s : State) : Nat :=
  let supply := decide (s.supState = 1 ∨ s.supState = 2)
  let thermal := s.power.therm && bit (s.reg govR) 11
  supply.toNat ||| thermal.toNat <<< 1 ||| (bit (s.reg govR) 10).toNat <<< 2

/-- The governor meets its causes (R402): the first begins the entry to Lean, the end of the last the return to Run. -/
def State.govern (s : State) : State :=
  let f := s.leanCauses
  let s := s.setRf govR 7 5 f
  if f ≠ 0 then { s with power := { s.power with leanPend := !s.power.lean, runPend := false } }
  else { s with power := { s.power with runPend := s.power.lean || s.power.leanPend } }

/-- The hottest sensor reading of any die. -/
def State.hottest (s : State) : Option Int :=
  s.power.hotDies.foldl (fun m e => match m with
    | none => some e.2
    | some x => some (max x e.2)) none

/-- The thermal warning follows the hottest sensor: asserted from TWARN, deasserted 5 °C below it. -/
def State.thermNow (s : State) (hot : Int) : State :=
  let w : Int := s.rf govR 23 16
  let on := if s.power.therm then decide (w - 5 < hot) else decide (w ≤ hot)
  if on = s.power.therm then s
  else (({ s with power := { s.power with therm := on } }).setLine 3 on).govern

/-- A write of `PWR_GOV`: a TWARN above 115 stores 115; the thermal warning and the causes are met anew (R402, R403). -/
def State.writeGov (s : State) (v : Dword) : State :=
  let s := s.writeReg govR v
  let s := if 115 < s.rf govR 23 16 then s.setRf govR 23 16 115 else s
  match s.hottest with
  | some h => (s.thermNow h).govern
  | none => s.govern

/-- LEAN_IN_FORCE (R399, R402): the core clock is at LEANPT, trios are parked, source 4 pends. A change of season that is already
pending stands (DESIGN CHOICE, assumption 20). -/
def execLeanInForce (s : State) : Host.Outcome State Fault Refusal :=
  done (
    if !s.power.leanPend then s
    else
      let s := { s with power := { s.power with lean := true, leanPend := false } }
      let s := if s.gce.live then (s.setPoint s.leanPoint).leanPark 2 s.timebase else s
      let h := s.seasonDw s.active 1
      let armed := s.gce.live && bit h 32 && !s.changePending
      let s := if armed then { s with gce := { s.gce with lalt := some (fld h 31 30) } } else s
      let s := if armed then (match s.leanSeason with
        | some sl => s.sendShadows sl
        | none => s) else s
      (s.raise 4))

/-- RUN_RESTORED (R402): the core clock is at POINT again, the cuts made for Lean are withdrawn at the next frame boundary, or at
once where no ticks come, and source 5 pends. -/
def execRunRestored (s : State) : Host.Outcome State Fault Refusal :=
  done (
    if !s.power.runPend ∨ s.power.leanPend then s
    else
      let s := { s with power := { s.power with lean := false, runPend := false } }
      let s := if s.gce.live then s.setPoint (s.seasonPoint s.active) else s
      let s := if s.gce.lalt.isSome then ({ s with gce := { s.gce with lalt := none } }).dropShadows else s
      let s := if s.running then { s with gce := { s.gce with leanOff := s.gce.lean } }
               else s.leanWithdraw s.timebase
      (s.raise 5))

/-! ### What power-on and module resets leave (R9, R410) -/

/-- The fields that R9 loads from Sole. -/
def soleBits (r : Reg) : Dword :=
  match r with
  | .trioMap | .rstCause | .lifeMod => BitVec.allOnes 64
  | .plinkStatus => fldMask 64 21 12
  | .lifeEm => fldMask 64 63 24 ||| 1
  | .lifeTrio => fldMask 64 47 32
  | .soleStat => fldMask 64 31 16 ||| 4
  | _ => 0

/-- What Sole holds for a register: its life data as last saved, the others as they stand (R33, R164, R424). -/
def State.soleHolds (s : State) (r : RegRef) (old : Dword) : Dword :=
  if cfgRegs.contains r then SMap.get 0 s.sole.cfg r.off else old

/-- A register after a reset of the kind `k` that reaches the whole module: its fields are kept, loaded from Sole, or reset. -/
def State.reloaded (s : State) (r : RegRef) (k : Nat) (old : Dword) : Dword :=
  let sole := s.soleHolds r old
  r.reg.fields.foldl (fun (v : Dword) f =>
    if f.kept &&& k ≠ 0 then setFld v f.hi f.lo (fld old f.hi f.lo)
    else if bit (soleBits r.reg) f.lo then setFld v f.hi f.lo (fld sole f.hi f.lo)
    else v) r.dflt

/-- The registers after a reset of the whole module. -/
def State.mcsAfter (s : State) (k : Nat) : SMap Dword :=
  s.mcs.foldl (fun m e => match regAt e.1 with
    | some r => SMap.put r.dflt m e.1 (s.reloaded r k e.2)
    | none => m) []

/-- `TRIO_RSTAT` of the service trio, which runs Voted from its first instruction (R18). -/
def State.svcVoted (s : State) : State := s.setRf (rstat svcTrio) 1 0 2

/-- The module after a reset of everything: `k` is 0 for a power-on reset, which loses DRAM and the always-on island's state too, and
the Kept bit of a module reset otherwise. The service trio's cores do not run yet. -/
def State.blank (s : State) (k : Nat) : State :=
  let m := decide (k ≠ 0)
  let refreshing := s.rf soleStatR 1 1
  let b : State := {
    pending := s.pending, mcs := s.mcsAfter k
    mem := if m then s.mem else [], poison := if m then s.poison else []
    sec := { nonces := s.sec.nonces, arb := s.sec.arb, sealCounter := s.sec.sealCounter }
    sole := { s.sole with staging := if m then s.sole.staging else [], failed := 0, reads := [] }
    power := if m then { s.power with leanPend := false, runPend := false, lean := false, standbyAsk := false, domReq := [] }
             else { supplyReset := s.power.supplyReset, overVolt := s.power.overVolt, everUp := s.power.everUp }
    boot := { flash := s.boot.flash }
    free := s.free }
  (b.svcVoted).setRf soleStatR 1 1 refreshing

/-- The straps are sampled (R32, R456). -/
def State.strapped (s : State) (x : Straps) : State :=
  let s := { s with power := { s.power with straps := x } }
  (s.setRf ⟨.modIdent, 0, 0, 0⟩ 9 8 x.modId.toNat).setRf ⟨.bootStat, 0, 0, 0⟩ 1 0 x.bootSrc.toNat

/-- The service trio is about to execute the boot ROM's first instruction; the cause of the reset is recorded (R405, R418), and
ALARM_N is asserted (R456). `kind`: 0 power-on, 1 module. -/
def State.bootFrom (s : State) (kind cause : Nat) (x : Straps) : State :=
  let s := forN 3 (fun i s => s.setCore (coreNo svcTrio i) Core.svcReset) (s.strapped x)
  let s := (s.incRf rstCauseR 63 32).setRf rstCauseR 15 8 cause
  let s := s.setRf rstCauseR 0 0 kind
  let s := { s with
    sole := { s.sole with cfg := SMap.put 0 s.sole.cfg rstCauseR.off (s.reg rstCauseR) }
    power := { s.power with supplyReset := false, standby := false, pwrGood := true, everUp := true, alarm := true } }
  s.noteReset kind 0 (BitVec.ofNat 64 cause)

/-- What a reset of the whole module stops: the Frame Tick Unit (R225), the channels (R336) and the external links (R361) go to
Stopped and Off, which Sole records. -/
def State.noteOff (s : State) : State :=
  let s := forN 12 (fun m s => if s.chanState m = 0 then s
    else
      let s := s.setRf (mcStatusR m) 2 0 0
      s.sysEvent 0x15 [BitVec.ofNat 64 m, s.reg (mcStatusR m)]) s.noteStopped
  forN 3 (fun k s => if s.xlState k = 0 then s else (s.setRf (xlStatusR k) 3 0 0).noteUnit) s

/-- A module reset (R405, R406, R411): the always-on island, Sole and DRAM are kept; the levels that the island drives are met anew
by the Event Gatherer and the governor. -/
def State.moduleReset (s : State) (cause : Nat) (x : Straps) : State :=
  let s := (s.noteOff.blank keptM).bootFrom 1 cause x
  let s := if s.supState = 1 then s.setLine 0 true else s
  let s := if s.supState = 3 then s.setLine 2 true else s
  let s := if s.power.therm then s.setLine 3 true else s
  s.govern

/-- MOD_RESET_N_LOW (R456): a low level shorter than 800 ns is ignored, and one in a supply reset only delays the release; in
Standby it ends Standby (R407). -/
def execModResetNLow (ns : Nat) (straps : Straps) (s : State) : Host.Outcome State Fault Refusal :=
  done (
    if ns < 800 ∨ s.power.supplyReset then s
    else (s.moduleReset (if s.power.standby then 6 else 4) straps))

/-! ### The supply monitor (R398, R399) -/

/-- A level's count of consecutive samples beyond it. -/
def State.beyondNow (s : State) (lvl : Nat) (on : Bool) : State :=
  let n := SMap.get 0 s.power.beyond lvl
  { s with power := { s.power with beyond := SMap.put 0 s.power.beyond lvl (if on then min 2 (n + 1) else 0) } }

/-- A level is crossed: two consecutive samples lie beyond it. -/
def State.crossed (s : State) (lvl : Nat) : Bool := decide (2 ≤ SMap.get 0 s.power.beyond lvl)

/-- A supply reset (R399, R400): the snapshot is captured first, the module is shut down and Sole commits; the module is then held
in power-on reset. -/
def State.supplyLost (s : State) (high : Bool) : State :=
  let s := s.snapWrite.sysEvent 0x03 [BitVec.ofNat 64 (s.rf supStatR 63 48), BitVec.ofNat 64 high.toNat]
  let s := (((s.shutDown).noteOff).drainAll 512).commitEnd
  let s := { s with power := { s.power with supplyReset := true, standby := false, overVolt := high, pwrGood := false } }
  let vin := s.rf supStatR 63 48
  (s.blank 0).setRf supStatR 63 48 vin

/-- The monitor's transitions at a sample that follows one of `last` (R398). -/
def State.supplyStep (s : State) (last : Nat) : State :=
  let vin := BitVec.ofNat 64 (s.rf supStatR 63 48)
  let st := s.supState
  if s.crossed 5 then s.supplyLost true
  else if s.crossed 4 then s.supplyLost false
  else if st = 0 ∧ s.crossed 0 then
    let s := ((s.setRf supStatR 2 0 1).setRf supStatR 47 32 (min vin.toNat last)).snapshot 1
    let s := { s with power := { s.power with dipStart := s.timebase, warnings := 1 } }
    ((s.sysEvent 0x01 [vin, BitVec.ofNat 64 s.snapSlot]).setLine 0 true).govern
  else if st = 0 ∧ s.crossed 2 then (((s.setRf supStatR 2 0 3).sysEvent 0x04 [vin]).setLine 2 true)
  else if st = 3 ∧ s.crossed 3 then (s.setRf supStatR 2 0 0).setLine 2 false
  else if st = 1 ∧ s.crossed 1 then (s.setRf supStatR 2 0 2).setLine 0 false
  else if st = 2 ∧ s.crossed 0 then
    let s := { s with power := { s.power with warnings := s.power.warnings + 1 } }
    (s.setRf supStatR 2 0 1).setLine 0 true
  else s

/-- SUPPLY_SAMPLE (R398): one sample of VIN in units of 10 mV. VMIN follows the lowest sample of a dip. -/
def execSupplySample (cv : BitVec 16) (s : State) : Host.Outcome State Fault Refusal :=
  done (
    let v := cv.toNat
    let last := s.rf supStatR 63 48
    let s := s.setRf supStatR 63 48 v
    if s.power.supplyReset then s
    else
      let s := ((s.beyondNow 0 (decide (v < 3300))).beyondNow 1 (decide (3500 < v))).beyondNow 2 (decide (7800 < v))
      let s := ((s.beyondNow 3 (decide (v < 7600))).beyondNow 4 (decide (v ≤ 2800))).beyondNow 5 (decide (9000 ≤ v))
      let s := if s.supState = 1 ∨ s.supState = 2 then s.setRf supStatR 47 32 (min v (s.rf supStatR 47 32)) else s
      (s.supplyStep last))

/-- RECOVERY_TIMER (R398, R399): VIN has stayed above 35.0 V for 1 ms. -/
def execRecoveryTimer (s : State) : Host.Outcome State Fault Refusal :=
  done (
    if s.supState ≠ 2 ∨ s.rf supStatR 63 48 ≤ 3500 then s
    else
      let s := (s.setRf supStatR 2 0 0).incRf supStatR 31 16
      let ns := (s.timebase - s.power.dipStart).toNat * 10
      let s := s.sysEvent 0x02 [BitVec.ofNat 64 (s.rf supStatR 47 32), BitVec.ofNat 64 ns, BitVec.ofNat 64 s.power.warnings]
      ((s.raise 1).govern))

/-- POWER_ON_RESET_RELEASE (R397, R456): the hold-up store is charged and the input has been above 35.0 V for 1 ms. -/
def execPowerOnResetRelease (straps : Straps) (s : State) : Host.Outcome State Fault Refusal :=
  done (
    if !s.power.supplyReset ∨ s.rf supStatR 63 48 ≤ 3500 then s
    else (s.bootFrom 0 (if !s.power.everUp then 1 else if s.power.overVolt then 3 else 2) straps))

/-! ### Temperatures (R403) and service life (R413-R415) -/

/-- A descent of the hottest reading by 40 °C from a peak is a thermal cycle (`LIFE_MOD.CYC`). -/
def State.cycleNow (s : State) (hot : Int) : State :=
  let peak := max s.power.tjPeak hot
  if 40 ≤ peak - hot then { (s.incRf lifeModR 31 16) with power := { s.power with tjPeak := hot } }
  else { s with power := { s.power with tjPeak := peak } }

/-- THERMAL_SAMPLE (R403): the hottest sensor of a die. At 125 °C a compute die goes offline, and the I/O die's reading is a
chip-level error. -/
def execThermalSample (d : Fin 13) (tj : Int) (s : State) : Host.Outcome State Fault Refusal :=
  done (
    if s.down then s
    else
      let s := { s with power := { s.power with hotDies := SMap.put (-274) s.power.hotDies d.val tj } }
      let s := s.setRf (lifeEmR d.val) 23 16 (min 255 (tj + 64).toNat)
      let s := match s.hottest with
        | some h => (s.thermNow h).cycleNow h
        | none => s
      if tj < 125 then s
      else if d.val < 12 then (s.dieOffline d.val 5 none)
      else (s.safeState 0x1F 0 false))

/-- The largest `n` below 2^bits whose tenth power is at most `x`. -/
def root10 (x : Nat) : Nat → Nat → Nat
  | 0, acc => acc
  | b + 1, acc => root10 x b (if (acc + 2 ^ b) ^ 10 ≤ x then acc + 2 ^ b else acc)

/-- 2^((Tj - 80) ÷ 10) seconds in units of 2⁻³² s, rounded down (DESIGN CHOICE, assumption 21), for TJ as `LIFE_EM` holds it. -/
def emWeight (tj : Nat) : Nat := root10 (2 ^ (tj + 176)) 50 0

/-- A die is powered: the I/O die always, a compute die while Starting or Online. -/
def State.diePowered (s : State) (d : Nat) : Bool := decide (12 ≤ d) || decide (s.dieState d = 1 ∨ s.dieState d = 2)

/-- EM_ACCUMULATE (R414): one second of a powered die's accumulator; 225 seconds are a sixteenth of an hour. -/
def execEmAccumulate (d : Fin 13) (s : State) : Host.Outcome State Fault Refusal :=
  done (
    if s.down ∨ !s.diePowered d.val then s
    else
      let r := lifeEmR d.val
      let unit := 225 * 2 ^ 32
      let x := SMap.get 0 s.power.eqFrac d.val + emWeight (s.rf r 23 16)
      let s := { s with power := { s.power with eqFrac := SMap.put 0 s.power.eqFrac d.val (x % unit) } }
      let h := min (2 ^ 40 - 1) (s.rf r 63 24 + x / unit)
      let s := s.setRf r 63 24 h
      if 4672000 ≤ h ∧ s.rf r 0 0 = 0 then
        ((s.setRf r 0 0 1).raise (if d.val = 12 then 20 else 32 * (33 + 2 * d.val) + 17))
      else s)

/-- LOW follows MARGIN and LIMIT; when the margin comes to lie below the limit the trio's source pends (R415). -/
def State.marginNow (s : State) (d p : Nat) : State :=
  let r := lifeTrioR d p
  let low := decide (s.rf r 63 48 < s.rf r 31 16)
  let was := bit (s.reg r) 0
  let s := s.setRf r 0 0 low.toNat
  if low && !was then s.raise (32 * (33 + 2 * d) + p) else s

/-- MARGIN_MEASURE (R415): the first measurement in service is kept. -/
def execMarginMeasure (t : Fin 84) (ps : BitVec 16) (s : State) : Host.Outcome State Fault Refusal :=
  done (
    if !s.powered t.val then s
    else
      let r := lifeTrioR (t.val / 7) (t.val % 7)
      let s := s.setRf r 63 48 ps.toNat
      let s := if s.rf r 47 32 = 0 then s.setRf r 47 32 ps.toNat else s
      (s.marginNow (t.val / 7) (t.val % 7)))

/-! ### The reference clocks (R27) -/

/-- REFCLK_LOST: the PLLs hold frequency without REFCLK_100; without REFCLK_156 every MAC goes link-down. -/
def execRefclkLost (r : RefClk) (s : State) : Host.Outcome State Fault Refusal :=
  done (
    if s.down then s
    else
      match r with
      | .clk100 => { s with power := { s.power with refLost := true } }
      | .clk156 =>
        let s := (List.range 32).foldl (fun (s : State) i => s.ethLink (i / 4, i % 4) false) s
        (s.sysEvent 0x1D [1]))

/-- REFCLK_RESTORED: REFCLK_100 returns within the hold. -/
def execRefclkRestored (s : State) : Host.Outcome State Fault Refusal :=
  done (
    if s.power.refLost then
      ({ s with power := { s.power with refLost := false } }.sysEvent 0x1D [0])
    else s)

/-- REFCLK_HOLD_EXPIRY: REFCLK_100 has not returned within 100 µs, a chip-level error. -/
def execRefclkHoldExpiry (s : State) : Host.Outcome State Fault Refusal :=
  done (
    if s.power.refLost then (s.safeState 0x1D 0 false) else s)

end Sys2Proof.Machine
end

