-- ==== Sys2Proof/Machine/Domains.lean ====
section
/-! DEFINITION. Power domains, resets through `RST_CTL`, Sealed holds and low-power states (R164, R309, R404-R409). -/

namespace Sys2Proof.Machine

/-! ### Resets of units (R405, R406) -/

/-- The contexts of a die's slots are freed (R406): each gets a context-moved record with SUB 0x02. -/
def State.freeDie (s : State) (d : Nat) : State :=
  forN 7 (fun p s =>
    let t := 7 * d + p
    let s := s.faultTrio t true
    (s.trio t).slots.foldl (fun s e =>
      if (s.slot t e.1).state = .free then s
      else (s.ctxRecord t e.1 0 2 2 [BitVec.ofNat 64 (s.cidOf t e.1)]).freeSlot t e.1) s) s

/-- A compute die is reset (R405, R406, R410): a die that is Online cleans its L2s first; its slots are freed; its trios, registers
and link start anew. -/
def State.dieReset (s : State) (d : Nat) : State :=
  let s := if s.dieState d = 2 then
      forN 7 (fun p s => if s.powered (7 * d + p) then s.l2Clean (7 * d + p) else s) s
    else s
  let s := s.freeDie d
  let s := forN 7 (fun p s =>
    let t := 7 * d + p
    (s.trioOff t).modTrio t (fun k => ({ wasLog := k.wasLog } : Trio))) s
  let s := s.resetRegs keptD (inDie d)
  let v := s.reg (dieStatR d)
  let s := s.setReg (dieStatR d) ((dieStatR d).afterReset keptD v)
  let s := { s with
    links := { s.links with plinkIo := SMap.erase s.links.plinkIo d, plinkDie := SMap.erase s.links.plinkDie d }
    gce := { s.gce with subst := s.gce.subst.filter (fun x => decide (x.die.val ≠ d)) } }
  ((s.setRf (dieStatR d) 2 0 1).setRf (plinkR d) 2 0 1).setRf (domR (84 + d)) 1 0 0

/-- A copy of a redundant stream loses its state to a reset: the comparators meet it (R199, R201). -/
def State.copyReset (s : State) (c : Nat) : State := s.mismatch (trioOf c) (coreIn c) 17

/-- A core reset through `RST_CTL` (R406): the merging buffer drains, and the context is Faulted, its unit state discarded (R53). That
it is Faulted and not, say, Ready is a DESIGN CHOICE (assumption 34): R252 names core errors only. -/
def State.orderCore (s : State) (c : Nat) : State :=
  let s := s.noteReset 4 (s.coreWord c) 5
  if s.throughWelt c then s.copyReset c
  else
    let s := ((s.drainMerge c).loseUnits c).faultOn c false
    (s.coreReset c).redispatch (trioOf c)

/-- A trio reset through `RST_CTL` (R406): the L2 is cleaned first, and the contexts on it are Faulted as after a core reset
(assumption 34). -/
def State.orderTrio (s : State) (t : Nat) : State :=
  if !s.powered t then s
  else
    let s := ((s.noteReset 3 (s.trioWord t) 5).loseTrioUnits t).faultTrio t false
    ((s.l2Clean t).trioReset t).redispatch t

/-- `RST_CTL`. -/
def rstCtlR : RegRef := ⟨.rstCtl, 0, 0, 0⟩

/-- The service trio, or Awl, orders the access. -/
def svcOrAwl : Requester → Bool
  | .core c => decide (252 ≤ c.val)
  | .awl => true
  | _ => false

/-- A write of `RST_CTL` (R405, R406): a unit that does not exist, or a module reset by any other than the service trio or Awl,
changes nothing. -/
def State.writeRstCtl (s : State) (who : Requester) (v : Dword) : Wr :=
  let d := fld v 47 44
  let p := fld v 43 41
  let c := fld v 40 39
  let kind := fld v 2 0
  if kind = 1 && !svcOrAwl who then .err 9
  else if (decide (2 ≤ kind ∧ kind ≤ 4) && decide (12 ≤ d)) || (decide (3 ≤ kind ∧ kind ≤ 4) && decide (7 ≤ p)) ||
      (decide (kind = 4) && decide (3 ≤ c)) then .err 0
  else
    let s := s.writeReg rstCtlR v
    match kind with
    | 1 => .ok (s.moduleReset 5 s.power.straps)
    | 2 => .ok ((s.noteReset 2 (unitWord d 7 7 3 none) 5).dieReset d)
    | 3 => .ok (s.orderTrio (7 * d + p))
    | 4 => if s.powered (7 * d + p) then .ok (s.orderCore (coreNo (7 * d + p) c)) else .ok s
    | _ => .ok s

/-! ### Domain requests (R404) -/

/-- `PWR_REQ`. -/
def pwrReqR : RegRef := ⟨.pwrReq, 0, 0, 0⟩

/-- A trio is active in a season's table. -/
def State.activeIn (s : State) (sl t : Nat) : Bool :=
  match s.logOf t with
  | some k => (trioRec (SMap.get [] s.gce.store sl) (6 * (t / 7) + k)).act
  | none => false

/-- A trio is active in the active or the pending season. -/
def State.trioInUse (s : State) (t : Nat) : Bool :=
  (s.gce.live && s.activeIn s.active t) || (s.changePending && s.activeIn s.nextSeason t)

/-- A slot of a trio is not Free. -/
def State.slotsUsed (s : State) (t : Nat) : Bool := decide ((s.trio t).live ≠ [])

/-- A domain request is refused (R404). -/
def State.domRefused (s : State) (n act : Nat) : Bool :=
  if n < 84 then
    (decide (act ≠ 0) && s.trioInUse n) || (decide (act = 2) && s.slotsUsed n) ||
      (decide (act = 0) && bit (s.reg (mapR (n / 7))) (24 + n % 7))
  else if n < 96 then
    let ts := (List.range 7).map (fun p => 7 * (n - 84) + p)
    decide (act = 1) || (decide (act = 2) && (ts.any s.trioInUse || ts.any s.slotsUsed))
  else if n < 108 then
    decide (act = 2) || (decide (act = 1) && s.gce.live &&
      (List.range 32).any (fun t => decide (SMap.get 0 (s.seasonCredits s.active) (12 * t + (n - 96)) ≠ 0)))
  else if n < 116 then true
  else decide (act = 1) || (decide (act = 2) &&
    bit (s.reg (if n = 116 then ⟨.mscCtl, 0, 0, 0⟩ else ⟨.laceSink, 0, 0, 0⟩)) 0)

/-- A request that is not deferred: refused, or in progress. To turn on a die that is not Online starts its reset. -/
def State.domSubmit (s : State) (n act : Nat) : State :=
  let s := s.setRf (domR n) 3 2 act
  if s.domRefused n act then s.setRf (domR n) 7 4 4
  else
    let s := s.setRf (domR n) 7 4 1
    if 84 ≤ n ∧ n < 96 ∧ act = 0 ∧ s.dieState (n - 84) ≠ 2 then
      (s.noteContained 2 (unitWord (n - 84) 7 7 3 none)).dieReset (n - 84)
    else s

/-- A write of `PWR_REQ` (R404): an Open request to a held domain is deferred and replaces one that is (R309). -/
def State.writePwrReq (s : State) (v : Dword) (w : Bool) : Wr :=
  let n := fld v 38 32
  let act := fld v 2 1
  if bit v 0 && (decide (118 ≤ n) || decide (act = 3)) then .err 0
  else
    let s := s.writeReg pwrReqR v
    if !bit v 0 then .ok s
    else if !w && s.held n then
      let s := { s with power := { s.power with domReq := SMap.put 0 s.power.domReq n (BitVec.ofNat 64 (2 ^ 62 + act)) } }
      let s := if 108 ≤ n ∧ n < 116 then s.setRf (quadR (n - 108)) 12 12 0 else s
      .ok ((s.setRf (domR n) 3 2 act).setRf (domR n) 7 4 3)
    else .ok (s.domSubmit n act)

/-- A compute die goes to Die-off (R404, R407): every trio is cleaned and powered down, and its link is off. -/
def State.dieOff (s : State) (d : Nat) : State :=
  let s := forN 7 (fun p s =>
    let t := 7 * d + p
    if s.powered t then (s.l2Clean t).trioOff t else s) s
  ((s.setRf (dieStatR d) 2 0 4).setRf (plinkR d) 2 0 0).setRf (domR (84 + d)) 1 0 2

/-- POWER_REQUEST_COMPLETE (R404): the action that is in progress on a domain ends; a die that starts is done when it is Online. -/
def execPowerRequestComplete (n : Fin 118) (s : State) : Host.Outcome State Fault Refusal :=
  done (
    let n := n.val
    let act := s.rf (domR n) 3 2
    if s.rf (domR n) 7 4 ≠ 1 then s
    else
      let fin := fun (s : State) => s.setRf (domR n) 7 4 2
      if n < 84 then
        match act with
        | 0 => (fin (if !s.powered n then s.trioOn n else s.unretain n))
        | 1 => (fin (if s.powered n then s.retain n else s))
        | _ => (fin (if s.powered n then (s.l2Clean n).trioOff n else s))
      else if n < 96 then
        if act = 0 then (if s.dieState (n - 84) = 2 then (fin s) else s)
        else (fin (s.dieOff (n - 84)))
      else (fin (s.setRf (domR n) 1 0 act)))

/-- The requests deferred for a domain are carried out as its hold clears (R309). -/
def State.holdCleared (s : State) (n : Nat) : State :=
  let r := SMap.get 0 s.power.domReq n
  let s := { s with power := { s.power with domReq := SMap.put 0 s.power.domReq n 0 } }
  if bit r 63 then s.setQuad (n - 108) (setBit r 63 false)
  else if bit r 62 then s.domSubmit n (fld r 1 0)
  else s

/-- A write of `SEAL_HOLD`'s low or high register (R309): domains whose bit clears are released. -/
def State.writeSealHold (s : State) (hi : Bool) (v : Dword) : State :=
  let r : RegRef := if hi then ⟨.sealHoldHi, 0, 0, 0⟩ else ⟨.sealHoldLo, 0, 0, 0⟩
  let old := s.reg r
  let s := s.writeReg r v
  let new := s.reg r
  forN 64 (fun i s => if bit old i && !bit new i then s.holdCleared ((if hi then 64 else 0) + i) else s) s

/-! ### Low power (R407-R409) -/

/-- `PWR_IDLE`. -/
def pwrIdleR : RegRef := ⟨.pwrIdle, 0, 0, 0⟩

/-- The starts of a trio's windows in the frame with index `f`, from its tick: the housekeeping window is the first. -/
def State.windowStarts (s : State) (t f : Nat) : List Nat :=
  let k := (s.trio t).rcd
  (if 0 < k.hk then [0] else []) ++ (k.win.filter (fun w => wOccurs w f)).map wStart

/-- No window of a trio is in force, and none starts within `n` timebase units (R407). -/
def State.quietFor (s : State) (t n : Nat) : Bool :=
  let k := s.trio t
  let x := (s.timebase - k.tickAt).toNat
  match s.windowAt t with
  | .none => !k.rcd.act || !s.gce.live || k.parked
  | .outside =>
    (s.windowStarts t s.frame).all (fun a => decide (a ≤ x ∨ x + n ≤ a)) &&
      (s.windowStarts t ((s.frame + 1) % s.frames)).all (fun a => decide (x + n ≤ s.period + a)) &&
      decide (x + n ≤ 2 * s.period)
  | _ => false

/-- NAP_ENTRY (R407): an idle stream's core, outside every window, enters Nap or Off. Off loses the L1s, the TLBs, the predictor and
the return stack. -/
def execNapEntry (c : CoreId) (off : Bool) (s : State) : Host.Outcome State Fault Refusal :=
  done (
    let t := trioOf c.val
    let k := s.core c.val
    if c.val < 252 ∧ k.run = .idle ∧ s.leadOf c.val = c.val ∧ bit (s.reg pwrIdleR) (if off then 1 else 0) ∧
        s.quietFor t (if off then 10000 else 500) then
      let s := (s.drainMerge c.val).traceSleep c.val off
      if off then (s.modCore c.val (fun (k : Core) =>
        { (k.fresh .off) with own := k.own, intReq := k.intReq, lfsr := k.lfsr, invs := k.invs, invSeq := k.invSeq,
                              halted := k.halted }))
      else (s.modCore c.val (fun (k : Core) => { k with run := .nap }))
    else s)

/-- NAP_EXIT (R407): the core is ready for the next window. -/
def execNapExit (c : CoreId) (s : State) : Host.Outcome State Fault Refusal :=
  done (
    let k := s.core c.val
    if k.run = .nap ∨ k.run = .off then
      ((((s.modCore c.val (fun (k : Core) => { k with run := s.restRun (trioOf c.val) })).traceWake c.val).redispatch (trioOf c.val)))
    else s)

/-- STANDBY_ENTRY (R409): contexts stop, the caches are cleaned, the channels enter self-refresh, Sole commits, and everything but the
always-on island powers down. -/
def execStandbyEntry (s : State) : Host.Outcome State Fault Refusal :=
  done (
    if !s.power.standbyAsk ∨ s.down then s
    else
      let s := s.stopAll
      let s := forN 85 (fun t s => if s.powered t then s.l2Clean t else s) s
      let s := s.msc.lines.foldl (fun s l => s.mscEvict l) s
      let s := (s.noteOff.drainAll 512).commitEnd
      let s := s.blank keptM
      { s with power := { s.power with standby := true, standbyAsk := false, pwrGood := false } })

end Sys2Proof.Machine
end

