-- ==== Sys2Proof/Machine/Ports.lean ====
section
/-! DEFINITION. PCIe root ports, and the command port's links, doorbells, function level resets and MSI-X vectors (R351-R354,
R359, R371). -/

namespace Sys2Proof.Machine

/-! ### Root ports -/

/-- Port `p` of quad `q` exists. -/
def State.portThere (s : State) (q p : Nat) : Bool := decide (p < portsOf (s.reg (quadR q)))

/-- The first address of a port's share of its quad's window, and the share's size (R359). -/
def State.portShare (s : State) (q p : Nat) : Nat × Nat :=
  let n := 2 ^ 37 / portsOf (s.reg (quadR q))
  (0x3C0000000000 + 0x2000000000 * q + n * p, n)

/-- `RP_CFG[q][p]`. -/
def rpCfgR (q p : Nat) : RegRef := ⟨.rpCfg, 0, q, p⟩

/-- A write of `RP_CFG`: EN = 0 holds the port in reset, so its link drops. -/
def State.writeRpCfg (s : State) (q p : Nat) (v : Dword) : State :=
  let s := s.writeReg (rpCfgR q p) v
  if bit v 0 then s else s.rpLink q p false

/-- ROOT_PORT_LINK_CHANGE (R359, R371): a port trains only while EN = 1. -/
def execRootPortLinkChange (q : QuadId) (p : Fin 4) (ch : RpChange) (s : State) : Host.Outcome State Fault Refusal :=
  done (
    if !s.portThere q.val p.val then s
    else
      match ch with
      | .link up => if up && !bit (s.reg (rpCfgR q.val p.val)) 0 then s else (s.rpLink q.val p.val up)
      | .presence there =>
        let i := 4 * q.val + p.val
        if bit s.links.rpThere i = there then s
        else ({ s with links := { s.links with rpThere := setBit s.links.rpThere i there } }.raise (quadSource q.val (8 * p.val + 1)))
      | .aer => (s.raise (quadSource q.val (8 * p.val + 3))))

/-- The record of a failed access of a unit for a tenant (R353). -/
def State.accessRecord (s : State) (tid : Nat) (addr : Dword) : State := s.tidRecord tid 0x0F 0 0 [addr, 0]

/-- ROOT_PORT_INBOUND (R359): a device's write to its port's doorbell raises its MSI source; other requests are translated for
the port's tenant; a failed one receives Completer Abort. -/
def execRootPortInbound (q : QuadId) (p : Fin 4) (addr : Dword) (size : Fin 4) (wr : Option Dword) (s : State) :
    Host.Outcome State Fault Refusal :=
  done (
    if !s.portThere q.val p.val then s
    else
      let cfg := s.reg (rpCfgR q.val p.val)
      let tid := fld cfg 36 32
      let e : Eng := ⟨0x56, tid, fld cfg 63 52, false⟩
      let n := 2 ^ size.val
      let share := s.portShare q.val p.val
      let bell := share.1 + share.2 - 4096
      let abort := fun (s : State) => ((s.accessRecord tid addr).answer (.err 0))
      if !bit cfg 1 then abort s
      else if bell ≤ addr.toNat ∧ addr.toNat < bell + 4096 then
        match wr with
        | some v => ((s.raise (quadSource q.val (8 * p.val + 4 + fld v 1 0))).answer (.ok 0))
        | none => abort s
      else
        match wr with
        | some v =>
          match s.engStore e addr (toBytes v.toNat n) 2 with
          | (s, .ok _, _) => (s.answer (.ok 0))
          | (s, .fail _, _) => abort s
          | (_, .stay, _) => s
        | none =>
          match s.engLoad e addr n 2 with
          | (s, .ok bs) => (s.answer (.ok (BitVec.ofNat 64 (ofBytes bs))))
          | (s, .fail _) => abort s
          | (_, .stay) => s)

/-- DPC_TRIGGER (R359): what waits on the port fails, posted stores to it are dropped with a record each, and source 8p + 2
rises. -/
def execDpcTrigger (q : QuadId) (p : Fin 4) (s : State) : Host.Outcome State Fault Refusal :=
  done (
    if !s.portThere q.val p.val then s
    else
      let share := s.portShare q.val p.val
      let here := fun (pa : BitVec 46) => decide (share.1 ≤ pa.toNat ∧ pa.toNat < share.1 + share.2)
      let s := s.cores.foldl (fun (s : State) e =>
        let s := match e.2.dev with
          | some a => if here a.pa then s.respond e.1 false 0 else s
          | none => s
        let lost := e.2.posted.filter (fun x => here x.1)
        let s := s.modCore e.1 (fun k => { k with posted := k.posted.filter (fun x => !here x.1) })
        lost.foldl (fun s x => s.postedFail x.2.val x.1.toNat 0x0F 0) s) s
      let s := s.trios.foldl (fun s e => e.2.slots.foldl (fun (s : State) x => match x.2.det with
        | some d => if here d.acc.pa && !d.failed then s.detachedAnswer e.1 x.1 d false 0 else s
        | none => s) s) s
      (s.raise (quadSource q.val (8 * p.val + 2))))

/-! ### The command port -/

/-- FUNCTION_LEVEL_RESET (R354, R371): number 0 is PF0. -/
def execFunctionLevelReset (t : Tid) (s : State) : Host.Outcome State Fault Refusal :=
  done (
    if t.val = 0 then (s.raise (22 * 32)) else (s.flrVf t.val))

/-- A host write to HVAL of VF `t` (R354). -/
def State.hostBell (s : State) (t : Nat) (v : Nat) : State := (s.setRf ⟨.cpVfdb, 0, t, 0⟩ 63 32 v).raise (22 * 32 + t)

/-- HOST_DOORBELL (R354): VFs are numbered from 1. -/
def execHostDoorbell (t : Tid) (v : Word) (s : State) : Host.Outcome State Fault Refusal :=
  done (
    if t.val = 0 then s else ((s.hostBell t.val v.toNat).answer (.ok 0)))

/-- The sizes of the VFs' windows, sampled when the host enables them (R353): the enable follows the link's training (assumption
18). -/
def State.sampleBars (s : State) : State :=
  (List.range 32).foldl (fun s t => { s with links := { s.links with
    vfBar := SMap.put 20 s.links.vfBar t (s.rf ⟨.cpVfcfg, 0, t, 0⟩ 5 0) } }) s

/-- COMMAND_PORT_LINK_CHANGE (R351, R371): CP_PERST_N asserted takes the link down. -/
def execCommandPortLinkChange (ch : CpChange) (s : State) : Host.Outcome State Fault Refusal :=
  done (
    match ch with
    | .link up =>
      if s.links.cpUp = up ∨ (up ∧ s.links.cpPerst) then s
      else
        let s := { s with links := { s.links with cpUp := up } }
        ((if up then s.sampleBars else s).raise (23 * 32))
    | .perst on =>
      if s.links.cpPerst = on then s
      else ({ s with links := { s.links with cpPerst := on, cpUp := s.links.cpUp && !on } }.raise (23 * 32))
    | .hotReset => (s.raise (22 * 32)))

end Sys2Proof.Machine
end

