-- ==== Sys2Proof/Machine/Qring.lean ====
section
/-! DEFINITION. The Queue DMA rings: their descriptors and completions (R297-R299). -/

namespace Sys2Proof.Machine

/-- Queue `t`'s ring. -/
def qRing (t : Nat) : Ring := ⟨⟨.qdmaCfg, 0, t, 0⟩, ⟨.qdmaIdx, 0, t, 0⟩⟩

/-- The engine as it works for queue `t` (R169, R298). -/
def State.qEng (s : State) (t : Nat) : Eng :=
  let c := s.reg (qRing t).cfg
  { agent := 0x55, tid := t, asid := fld c 63 52, res := bit c 9 }

/-- The descriptor at HEAD, while the queue is in use, holds one, and its tenant is not being reset (R293, R297). -/
def State.qHead (s : State) (t : Nat) : State × Option (List Dword) :=
  let r := qRing t
  let n := s.ringSize r
  if !s.ringOn r ∨ s.resetting t ∨ s.rf r.idx 43 32 % n = s.rf r.idx 11 0 % n then (s, none)
  else s.ringEntry (s.qEng t).rq r (s.rf r.idx 11 0)

/-- A descriptor completes with a status (R297, R298): STATUS, DONE and DONELEN are written, ERR counts, HEAD moves on, the
queue's sources are raised, and EVT posts its event. -/
def State.qDone (s : State) (t : Nat) (d : List Dword) (status done : Nat) : State :=
  let r := qRing t
  let n := s.ringSize r
  let head := s.rf r.idx 11 0
  let s := s.ringComplete (s.qEng t).rq r head d status done
  let s := if status = 0 then s else (s.incRf r.idx 63 48).raise (768 + t)
  let s := s.setRf r.idx 11 0 ((head + 1) % n)
  let s := if s.rf r.idx 43 32 % n = s.rf r.idx 11 0 then s.raise (800 + t) else s
  let h := d.getD 0 0
  if bit h 17 then s.notify t (fld h 34 23) (fld h 22 18) else s

/-- A descriptor that moves nothing: OP unassigned, or LEN = 0. -/
def qEmpty (d : List Dword) : Bool :=
  let op := fld (d.getD 0 0) 7 0
  op = 0 || decide (3 < op) || fld (d.getD 1 0) 23 0 = 0

/-- Descriptors at HEAD that move nothing complete with status 0x01 (R298). -/
def State.qSkip (s : State) (t : Nat) : Nat → State
  | 0 => s
  | fuel + 1 =>
    match s.qHead t with
    | (s, some d) => if qEmpty d then (s.qDone t d 1 0).qSkip t fuel else s
    | (s, none) => s

/-- The engine looks at queue `t`. -/
def State.qLook (s : State) (t : Nat) : State := s.qSkip t (s.ringSize (qRing t))

/-- The doorbell of queue `t` (R299). -/
def State.writeQdmaIdx (s : State) (t : Nat) (v : Dword) : State := (s.writeReg (qRing t).idx v).qLook t

end Sys2Proof.Machine
end

