-- ==== Sys2Proof/Machine/Security.lean ====
section
/-! DEFINITION. Sealed services and their restart, and the exchange that grants debug enables (R306, R307, R310, R311). -/

namespace Sys2Proof.Machine

/-- `SEC_STAT`: SVC, RESTARTING. -/
def secStatReg : RegRef := ⟨.secStat, 0, 0, 0⟩
/-- `DBG_AUTH`. -/
def dbgAuthR : RegRef := ⟨.dbgAuth, 0, 0, 0⟩
/-- `DBG_EN`. -/
def dbgEnR : RegRef := ⟨.dbgEn, 0, 0, 0⟩

/-- The service trio's cores make the access. -/
def isSvc : Requester → Bool
  | .core c => decide (252 ≤ c.val)
  | _ => false

/-- A Sealed restart begins while services are unavailable (R307). -/
def State.sealedRestart (s : State) : State :=
  if s.rf secStatReg 0 0 = 0 then s.setRf secStatReg 1 1 1 else s

/-- SEALED_RESTART_COMPLETE (R307): the Sealed monitor has completed its start; also its first start after a reset. -/
def execSealedRestartComplete (s : State) : Host.Outcome State Fault Refusal :=
  done (
    if s.down ∨ s.rf secStatReg 0 0 = 1 then s
    else if s.rf secStatReg 1 1 = 1 then
      ((((s.setRf secStatReg 1 1 0).setRf secStatReg 0 0 1).sysEvent 0x17 [1, 0]).raise 16)
    else if !s.sec.started then ({ s with sec := { s.sec with started := true } }.setRf secStatReg 0 0 1)
    else s)

/-! ### Debug authentication -/

/-- A debug enable: 0 OI, 1 ON, 2 SI, 3 SN. -/
def State.dbgEn (s : State) (i : Nat) : Bool := bit (s.reg dbgEnR) i

/-- Bytes as doublewords, little-endian. -/
def dwAt (bs : List Byte) (i : Nat) : Dword := BitVec.ofNat 64 (ofBytes ((bs.drop (8 * i)).take 8))

/-- `n` bytes that a run of registers holds. -/
def State.regBytes (s : State) (r : Reg) (n : Nat) : List Byte :=
  ((List.range ((n + 7) / 8)).flatMap (fun i => toBytes (s.reg ⟨r, 0, i, 0⟩).toNat 8)).take n

/-- A list cut or filled to `n` bytes. -/
def fitBytes (bs : List Byte) (n : Nat) : List Byte := (bs ++ List.replicate n 0).take n

/-- A fresh challenge (R311): a 32-byte nonce and the module serial. -/
def State.challenge (s : State) : State :=
  let bs := fitBytes (Config.nonce s.sec.nonces) 32 ++ fitBytes Config.serial 16
  let s := forN 6 (fun i s => s.setReg ⟨.dbgChal, 0, i, 0⟩ (dwAt bs i)) s
  { s with sec := { s.sec with nonces := s.sec.nonces + 1 } }.setRf dbgAuthR 7 4 1

/-- A write of `DBG_AUTH`: CHAL is ignored while STATUS is 2 or 6, GO unless it is 1. -/
def State.writeDbgAuth (s : State) (v : Dword) : State :=
  let st := s.rf dbgAuthR 7 4
  let s := if bit v 0 ∧ st ≠ 2 ∧ st ≠ 6 then s.challenge else s
  if bit v 1 ∧ s.rf dbgAuthR 7 4 = 1 then
    { s with sec := { s.sec with dbgResp := s.regBytes .dbgResp 200 } }.setRf dbgAuthR 7 4 2
  else s

/-- What the verification of a response finds (R311): the bits granted, or STATUS 4 or 5. A response without the layout of
R311, and the Open key asking for a Sealed bit, are refused (DEDUCED, assumption 22). -/
def verdict (chal resp : List Byte) : Except Nat Nat :=
  let grant := ofBytes (resp.take 4)
  let key := (resp.drop 4).take 97
  let sig := (resp.drop 104).take 96
  let zeros := (resp.drop 101).take 3
  let h := Config.sha384 key
  let full := decide (h = Config.sdbgHash)
  let open_ := decide (h = Config.dbgHash)
  if !full && !(open_ && decide (grant % 16 < 4)) then .error 5
  else if 16 ≤ grant ∨ key.head? ≠ some 4 ∨ zeros ≠ [0, 0, 0] ∨ !Config.ecdsaOk key (chal ++ resp.take 4) sig then .error 4
  else .ok grant

/-- DEBUG_VERIFY_COMPLETE (R311): a grant sets the bits asked for; the eighth refusal locks the exchange. Each is recorded. -/
def execDebugVerifyComplete (s : State) : Host.Outcome State Fault Refusal :=
  done (
    if s.rf dbgAuthR 7 4 ≠ 2 then s
    else
      let s' := match verdict (s.regBytes .dbgChal 48) s.sec.dbgResp with
        | .ok g => (s.setReg dbgEnR (s.reg dbgEnR ||| BitVec.ofNat 64 g)).setRf dbgAuthR 7 4 3
        | .error st =>
          let n := min 8 (s.rf dbgAuthR 15 12 + 1)
          (s.setRf dbgAuthR 15 12 n).setRf dbgAuthR 7 4 (if n = 8 then 6 else st)
      let s' := { s' with sec := { s'.sec with dbgResp := [] } }
      (s'.sysEvent 0x18 [s'.reg dbgAuthR]))

end Sys2Proof.Machine
end

