-- ==== Sys2Proof/Machine/Welt.lean ====
section
/-! DEFINITION. The Welt: asynchronous inputs of redundant streams, agreed and delivered (R208-R210). The commands that bring
an interrupt request or a response to a redundant stream leave it at the Welt; WELT_INPUT brings any input with its lanes. -/

namespace Sys2Proof.Machine

/-- A halt reaches core `c` (R220, R221). -/
def State.haltCore (s : State) (c : Nat) : State := s.modCore c (fun k => { k with halted := true })

/-- An agreed input reaches its stream: a request waits at the core for its boundary, a response ends the core's freeze, a halt
stops the copies. The event bits and the timebase are taken by the WAITE and the CSRRD themselves (`State.sampled`). -/
def State.weltTake (s : State) (t st : Nat) (i : WeltIn) : State :=
  let c := s.streamCore t st
  match i with
  | .interrupt k => s.requestAt c k
  | .response v ok => if (s.core c).dev.isSome then s.finishDev c ok v 0 else s
  | .halt => s.haltCore c
  | .event _ | .time _ => s

/-- An input is delivered (R209); the copies compare the count of inputs that they have taken (R197). -/
def State.weltGive (s : State) (t st : Nat) (i : WeltIn) : State :=
  s.compared ((s.weltCount t).weltTake t st i) (s.streamCore t st) { welt := true }

/-- An input that a unit could bring now: a request that is raised, a response that a core awaits. The event bits and the timebase
reach the Welt with the instruction that takes them, so that of such an input only the lanes are told here. -/
def State.weltReal (s : State) (c : Nat) (i : WeltIn) : Bool :=
  match i with
  | .interrupt k => s.requested c k
  | .response _ _ => (s.core c).dev.isSome
  | .halt => true
  | .event _ | .time _ => s.throughWelt c

/-- The input waits in the Welt for its delivery. -/
def weltWaits : WeltIn → Bool
  | .event _ | .time _ => false
  | _ => true

/-- An input reaches the Welt (R209, R210). An Independent stream's passes straight to its core; another waits for its
delivery. One lane outvoted is counted; no majority is a Checker fault. -/
def execWeltInput (t : TrioId) (stream : Fin 3) (i : WeltIn) (lanes : WeltLanes) (s : State) :
    Host.Outcome State Fault Refusal :=
  done (
    let c := s.streamCore t.val stream.val
    if !s.weltReal c i then s
    else if !s.throughWelt c then (s.weltGive t.val stream.val i)
    else
      let queue := fun (s : State) => if weltWaits i then s.modTrio t.val (fun k => { k with welt := k.welt ++ [(stream, i)] }) else s
      match lanes with
      | .agree => (queue s)
      | .oneOut => (queue (s.incRf (weltStatR t.val) 63 48))
      | .none => (s.checkerFault t.val 5 none))

/-- The oldest agreed input is delivered at its position (R209). -/
def execWeltDelivery (t : TrioId) (s : State) : Host.Outcome State Fault Refusal :=
  done (
    match (s.trio t.val).welt with
    | [] => s
    | (st, i) :: rest => ((s.modTrio t.val (fun k => { k with welt := rest })).weltGive t.val st.val i))

end Sys2Proof.Machine
end

