-- ==== Sys2Proof/Machine/RegWrite.lean ====
section
/-! DEFINITION. Reads and writes of the Module Configuration Space: the checks in their order (R4, R14, R31, R259, R437, R463,
R464), what each register does when it is written (R5 and the register's own rules), and the register-write commands. -/

namespace Sys2Proof.Machine

/-! ### The requester -/

/-- The world of a request ("The two worlds" of 11_tenants_and_worlds.md). -/
def State.reqW (s : State) : Requester → Bool
  | .core c => (s.core c.val).w
  | .dap w => w
  | _ => false

/-- The tenant of a request. Awl is a program of the service trio and so of TID 0 (DEDUCED, assumption 23); the physical function
and the debug access port act for no tenant. -/
def State.reqTid (s : State) : Requester → Option Nat
  | .core c => some (if 252 ≤ c.val then 0 else (s.core c.val).tid)
  | .qdma t => some t.val
  | .vf t => some t.val
  | .awl => some 0
  | _ => none

/-! ### What an offset holds -/

/-- What stands at an offset of the space: a register, a doubleword of a slot's page (R259), or nothing. -/
inductive McsUnit where
  | reg (r : RegRef)
  | slot (t n i : Nat)
  | none
  deriving DecidableEq, Repr

/-- The physical trio whose block holds an offset, with the offset in the block. -/
def trioAt (off : Nat) : Option (Nat × Nat) :=
  if off < 0x30000000 then
    if off % 0x04000000 < 0x00700000 then some (7 * (off / 0x04000000) + off % 0x04000000 / 0x00100000, off % 0x00100000)
    else none
  else if off / 0x00100000 = 0x3D0 then some (svcTrio, off % 0x00100000)
  else none

/-- The unit at an offset. The service trio has no contexts and so no slots. -/
def mcsUnit (off : Nat) : McsUnit :=
  match trioAt off with
  | some (t, rel) =>
    if t < svcTrio ∧ 0x80000 ≤ rel ∧ rel < 0xC0000 then .slot t (rel / 0x1000 % 64) (rel % 0x1000 / 8)
    else match regAt off with
      | some r => .reg r
      | none => .none
  | none =>
    match regAt off with
    | some r => .reg r
    | none => .none

/-! ### The checks -/

/-- The pages of VF `t`'s BAR0 (R352): what a virtual function reaches. -/
def vfReaches (t : Nat) : McsUnit → Bool
  | .reg r =>
    decide (r.i = t) && (r.reg = .cxqIdx || r.reg = .fqIdx || r.reg = .cxeTstat || r.reg = .qdmaIdx || r.reg = .cpVfdb)
  | _ => false

/-- A requester that the space does not answer (R31): code at PL0, Queue DMA of another TID than 0, a virtual function outside its
pages. -/
def State.mcsPriv (s : State) (who : Requester) (u : McsUnit) : Bool :=
  match who with
  | .core c => decide ((s.core c.val).pl = 0)
  | .qdma t => decide (t.val ≠ 0)
  | .vf t => !vfReaches t.val u
  | _ => false

/-- The die whose block holds an offset. -/
def dieBlock (off : Nat) : Option Nat := if off < 0x30000000 then some (off / 0x04000000) else none

/-- An offset in the debug block of a core that is a copy other than core 0 (R31, R219). -/
def State.copyDebug (s : State) (off : Nat) : Bool :=
  match trioAt off with
  | some (t, o) => decide (o < 0x30000 ∧ o % 0x10000 / 0x4000 = 1) && s.isCopy (coreNo t (o / 0x10000))
  | none => false

/-- The table of R31, in the order of its rows: the sub-cause of the first check that fails. -/
def State.mcsAnswers (s : State) (who : Requester) (off : Nat) (u : McsUnit) : Option Nat :=
  let w := s.reqW who
  if s.mcsPriv who u then some 3
  else if off / 0x01000000 = 0x39 ∧ !w then some 4
  else if off / 0x00100000 = 0x3D0 ∧ !w ∧ s.reqTid who ≠ some 0 then some 4
  else if u = .none then some (if s.copyDebug off then 0 else 5)
  else if (trioAt off).any (fun x => !s.powered x.1) then some 6
  else if (dieBlock off).any (fun d => s.dieState d = 3 || s.dieState d = 4) then some 7
  else none

/-- The ring of the Policy Mailbox that a register belongs to: 0 with the staging buffer, or 1 (R437). -/
def pmbPart (r : RegRef) : Option Nat :=
  match r.reg with
  | .pmbIdx => some r.i
  | .pmbRing => some (r.i / 1024)
  | .pmbStage => some 0
  | _ => none

/-- A requester that may write a part of the Policy Mailbox (R437). -/
def State.pmbWriter (s : State) (who : Requester) (ring : Nat) : Bool :=
  if ring = 0 then
    match who with
    | .pf0 | .awl => true
    | _ => isSvc who
  else
    match who with
    | .core c => decide ((s.core c.val).pl = 2) || (s.core c.val).w
    | _ => false

/-- A register's own requester checks of a write (R464): those written only with W = 1, those written only by the service trio,
the Policy Mailbox. -/
def State.writerRefused (s : State) (who : Requester) (r : RegRef) (v : Dword) : Option Nat :=
  let sealedOnly := if s.reqW who then none else some 4
  let svcOnly := if isSvc who then none else some 9
  match r.reg with
  | .waysWorld | .limClassaMin | .limCap | .expertCtl => sealedOnly
  | .cdtCtl | .cdtSlot | .cdtUop => svcOnly
  | .secStat => if bit v 2 then svcOnly else none
  | .rstCtl => if fld v 2 0 = 1 ∧ !svcOrAwl who then some 9 else none
  | _ =>
    match pmbPart r with
    | some n => if s.pmbWriter who n then none else some 3
    | none => none

/-- The debug enable that an access of the debug access port needs (R463): set, or another requester. -/
def State.dapRefused (s : State) (who : Requester) (write : Bool) : Bool :=
  match who with
  | .dap w => !s.dbgEn (match w, write with
    | false, false => 1
    | false, true => 0
    | true, false => 3
    | true, true => 2)
  | _ => false

/-- An image or a descriptor copy withheld from W = 0 (R259). -/
def State.slotSealed (s : State) (who : Requester) (t n i : Nat) : Bool :=
  (s.slot t n).ws && !s.reqW who && imgSealed i

/-- The access has the register's width and is aligned (R4); `size` is log2 of the bytes. -/
def sizeOk (off : Nat) (size : Fin 4) : Bool := size = 3 && decide (off % 8 = 0)

/-! ### Reads -/

/-- A register's value as a read returns it, and what the read does. -/
def State.readReg (s : State) (r : RegRef) : State × Dword :=
  match r.reg with
  | .evgPend => (s, s.readEvgPend r.i)
  | .evgAct => (s, s.readEvgAct r.i)
  | .soleTrdPos => (s, s.readSolePos r.i)
  | .soleSrdPos => (s, s.readSolePos 0)
  | .laceStat => ({ s with lace := { s.lace with lossSeen := false } }, s.reg r)
  | _ => (s, s.reg r)

/-- A read of the space: its value, or the sub-cause of the error (R464). -/
def State.mcsRead (s : State) (who : Requester) (off : Nat) (size : Fin 4) : State × Except Nat Dword :=
  let u := mcsUnit off
  match s.mcsAnswers who off u with
  | some e => (s, .error e)
  | none =>
    if s.dapRefused who false then (s, .error 4)
    else
      match u with
      | .none => (s, .error 5)
      | .slot t n i =>
        if s.slotSealed who t n i then (s, .error 4)
        else if !sizeOk off size then (s, .error 0x0A)
        else (s, .ok (s.imgRead t n i))
      | .reg r =>
        if !sizeOk off size then (s, .error 0x0A)
        else
          let x := s.readReg r
          (x.1, .ok x.2)

/-! ### Writes -/

/-- A ring's configuration register: written when the ring passes its checks (R276, R297). -/
def State.writeRing (s : State) (r : RegRef) (v : Dword) (kMin kMax lo : Nat) : Wr :=
  if s.ringOk v kMin kMax lo then .ok (s.writeReg r v) else .err 0

/-- A write of `FQ_CFG`: the queue's SEQ and PH start again (R283). -/
def State.writeFqCfg (s : State) (r : RegRef) (v : Dword) : Wr :=
  match s.writeRing r v 4 16 6 with
  | .ok s => .ok { s with gce := { s.gce with fqSeq := SMap.put 0 s.gce.fqSeq r.i 0
                                              fqPh := SMap.put false s.gce.fqPh r.i false } }
  | x => x

/-- Writing 1 to BSTORE ends the boot store (R430): its lines are written to DRAM and leave it. -/
def State.writeBootStat (s : State) (v : Dword) : State :=
  if !s.bootStore || !bit v 2 then s
  else
    let bs := s.boot.store
    let s := { s with boot := { s.boot with store := [] } }.setRf ⟨.bootStat, 0, 0, 0⟩ 2 2 0
    let here := bs.filter (fun e => s.inInstalled e.1)
    let s := here.foldl (fun (s : State) e => s.setByte e.1 e.2) s
    { s with poison := s.poison.filter (fun l => !here.any (fun e => decide (e.1 / 64 = l))) }

/-- `FI_CTL` (R370): SEED 0 stores 1; TRIG and ACT 3 store 0; ARM stores 0 while TEN = 0. -/
def State.writeFiCtl (s : State) (r : RegRef) (v : Dword) : State :=
  let v := if fld v 47 32 = 0 then setFld v 47 32 1 else v
  let v := if fld v 13 12 = 3 then setFld v 13 12 0 else v
  let v := if fld v 11 10 = 3 then setFld v 11 10 0 else v
  s.writeReg r (if bit (s.reg ⟨.linkTest, 0, 0, 0⟩) 0 then v else setBit v 0 false)

/-- A store to tenant `t`'s software trace page (R373, R379): the CID is that of the context which stores; a write that no context
makes carries the CID of none (DEDUCED, assumption 31). -/
def State.writeSwt (s : State) (who : Requester) (t k : Nat) (v : Dword) : State :=
  s.swt t k (match who with
    | .core c => s.cidOn (s.leadOf c.val)
    | _ => 0x1FFF) v

/-- A value with a field replaced when it is out of range. -/
def fixFld (v : Dword) (hi lo : Nat) (bad : Nat → Bool) (to' : Nat) : Dword :=
  if bad (fld v hi lo) then setFld v hi lo to' else v

/-- A write of `SEC_CTL`: the Sealed world's prediction switch holds at once for every core at W = 1 (R91). -/
def State.writeSecCtl (s : State) (v : Dword) : State :=
  let s := s.writeReg ⟨.secCtl, 0, 0, 0⟩ v
  (s.cores.filter (fun e => e.2.w)).foldl (fun s e => s.setPred e.1) s

/-- A register written by a requester that its checks let pass (R5 and the register's own rules). -/
def State.regWrite (s : State) (who : Requester) (r : RegRef) (v : Dword) : Wr :=
  match r.reg with
  | .cdtCtl => .ok (s.writeCdtCtl v)
  | .coreCache => .ok (s.writeCoreCache (coreNo r.z r.i) v)
  | .l2Ctl => s.writeL2Ctl r.z v
  | .mscCtl => if s.bootStore && bit v 0 then .err 0 else s.writeMscCtl v
  | .hitCfg => s.writeHitCfg v
  | .fpoolBase => s.writeFpoolBase r.i v
  | .tqQuota => .ok (s.writeQuota r.i v)
  | .tqRelease => .ok (s.writeRelease r.i v)
  | .plinkCtl => .ok (s.writePlinkCtl r.z v)
  | .trioRctl => .ok (s.writeRctl r.z v)
  | .trioInj => .ok (s.writeInj r.z v)
  | .ftuCfg => s.writeFtuCfg v
  | .ftuAlign => s.writeFtuAlign v
  | .seasonLoad => s.writeSeasonLoad v
  | .seasonCtl => s.writeSeasonCtl v
  | .cxqCfg => s.writeRing r v 4 12 6
  | .fqCfg => s.writeFqCfg r v
  | .cxqIdx => s.writeCxqIdx r.i v
  | .tntCfg => s.writeTntCfg r.i v
  | .tntRst => .ok (s.writeTntRst v)
  | .qdmaCfg =>
    match s.writeRing r v 5 12 5 with
    | .ok s => .ok (s.qLook r.i)
    | x => x
  | .qdmaIdx => .ok (s.writeQdmaIdx r.i v)
  | .ethRqcfg | .ethTqcfg => s.writeRing r v 5 12 5
  | .secStat => .ok (if bit v 2 then s.sealedRestart else s)
  | .secCtl => .ok (s.writeSecCtl v)
  | .sealHoldLo => .ok (s.writeSealHold false v)
  | .sealHoldHi => .ok (s.writeSealHold true v)
  | .dbgAuth => .ok (s.writeDbgAuth v)
  | .evgRoute => s.writeEvgRoute (32 * r.i + r.j) v
  | .evgGctl => .ok (s.writeEvgGctl r.i v)
  | .evgPend => .ok (s.writeEvgPend r.i v)
  | .evgTrig => .ok (s.writeEvgTrig r.i v)
  | .mcCfg => .ok (s.writeMcCfg r.i v)
  | .cpVfcfg => .ok (s.writeReg r (fixFld v 5 0 (fun x => decide (x < 20 ∨ 36 < x)) 20))
  | .cpVfdb => .ok (s.writeVfdb r.i v)
  | .quadCfg => s.writeQuadCfg r.i v (s.reqW who)
  | .rpCfg => .ok (s.writeRpCfg r.i r.j v)
  | .xlMbcfg => s.writeRing r v 5 12 6
  | .mbGo => s.writeMbGo r.i v
  | .voteRound => .ok (s.writeVoteRound r.i v)
  | .linkTest => .ok (if bit v 0 && !s.power.straps.testEn then s else s.writeReg r v)
  | .fiCtl => .ok (s.writeFiCtl r v)
  | .lsrcCtl => .ok (s.writeLsrc r.i v)
  | .laceCmp => .ok (s.writeReg r (fixFld v 2 0 (fun x => decide (6 ≤ x)) 0))
  | .ltCore => .ok (s.writeReg r (fixFld v 12 8 (fun x => decide (16 < x)) 16))
  | .laceSink => s.writeLaceSink v
  | .pcrCfg => .ok (s.writePcrCfg v)
  | .pcrRing => s.writeRing r v 6 20 6
  | .swtPage => .ok (s.writeSwt who r.i r.j v)
  | .pwrGov => .ok (s.writeGov v)
  | .pwrReq => s.writePwrReq v (s.reqW who)
  | .rstCtl => s.writeRstCtl who v
  | .lifeTrio => .ok ((s.writeReg r v).marginNow r.z r.i)
  | .soleRate => .ok (s.writeReg r (fixFld v 31 16 (fun x => decide (x = 0)) 1))
  | .soleCtl => .ok (s.writeSoleCtl v)
  | .soleTrdCtl => .ok (s.writeSoleGo r.i v (s.reqW who))
  | .soleSrdCtl => .ok (s.writeSoleGo 0 v (s.reqW who))
  | .bootStat => .ok (s.writeBootStat v)
  | _ => .ok (s.writeReg r v)

/-- A register written within the limit registers (R15): a speed or a period under which a validated season would exceed them is
refused, with the sub-cause of an error response (DESIGN CHOICE, assumption 47: the spec gives none). -/
def State.regWriteLimited (s : State) (who : Requester) (r : RegRef) (v : Dword) : Wr :=
  match s.regWrite who r v with
  | .ok s' => if (r.reg = .mcCfg ∨ r.reg = .ftuCfg) ∧ s.overCommits s' then .err 0 else .ok s'
  | x => x

/-- The limit registers alone refuse a write of a register (R15, R441). -/
def State.overLimit (s : State) (who : Requester) (off : Nat) (v : Dword) : Bool :=
  match mcsUnit off with
  | .reg r =>
    match s.regWrite who r v with
    | .ok s' => decide (r.reg = .mcCfg ∨ r.reg = .ftuCfg) && s.overCommits s'
    | _ => false
  | _ => false

/-- A write of a doubleword of a slot's page (R259). -/
def State.slotWrite (s : State) (t n i : Nat) (v : Dword) : Wr :=
  let b := s.slot t n
  match imgItem i with
  | .nothing => .ok s
  | .desc _ | .stat => .ok s
  | _ => if b.state = .suspended ∨ b.state = .faulted then .ok (s.setSlot t n (b.imgWrite i v)) else .err 0

/-- A write of the space (R464). -/
def State.mcsWrite (s : State) (who : Requester) (off : Nat) (size : Fin 4) (v : Dword) : Wr :=
  let u := mcsUnit off
  match s.mcsAnswers who off u with
  | some e => .err e
  | none =>
    match u with
    | .none => .err 5
    | .slot t n i =>
      if s.dapRefused who true ∨ s.slotSealed who t n i then .err 4
      else if !sizeOk off size then .err 0x0A
      else s.slotWrite t n i v
    | .reg r =>
      match s.writerRefused who r v with
      | some e => .err e
      | none =>
        if s.dapRefused who true then .err 4
        else if !sizeOk off size then .err 0x0A
        else if r.reg.expert && s.rf ⟨.expertCtl, 0, 0, 0⟩ 0 0 = 0 then .err 8
        else s.regWriteLimited who r v

/-! ### The commands -/

/-- The debug access port has not been selected at the TAP (R446). -/
def State.dapAbsent (s : State) (who : Requester) : Bool :=
  match who with
  | .dap _ => decide (s.boot.tap ≠ .debugPort)
  | _ => false

/-- A write that a requester makes: it completes, is refused with a sub-cause, or completes later (R113). A write that is held
back whole changes nothing and is given again; a module that is down answers nothing (assumption 1). -/
def State.write (s : State) (who : Requester) (off : Nat) (size : Fin 4) (v : Dword) : State :=
  if s.down || s.dapAbsent who then s
  else
    match s.mcsWrite who off size v with
    | .ok s => s.answer (.ok 0)
    | .err e => s.answer (.err (BitVec.ofNat 8 e))
    | .wait s => s.answer .none
    | .stay => s

/-- A register-write command: the write of the register it names. A value that does not spell the command's own row is written as
any other write of the register (assumption 33). -/
def State.rowWrite (s : State) (who : Requester) (r : RegRef) (v : Dword) : Host.Outcome State Fault Refusal :=
  done (s.write who r.off 3 v)

/-- A write of any register (R5, R464). -/
def execRegisterWrite (who : Requester) (off : Word) (size : Fin 4) (v : Dword) (s : State) :
    Host.Outcome State Fault Refusal := done (s.write who off.toNat size v)

/-- L2_CLEAN_START (R130): EN = 0. -/
def execL2CleanStart (who : Requester) (t : TrioId) (v : Dword) (s : State) : Host.Outcome State Fault Refusal :=
  s.rowWrite who (l2CtlR t.val) v
/-- L2_ENABLE (R131): EN = 1. -/
def execL2Enable (who : Requester) (t : TrioId) (v : Dword) (s : State) : Host.Outcome State Fault Refusal :=
  s.rowWrite who (l2CtlR t.val) v
/-- L1D_DISABLE (R132): L1D_EN = 0. -/
def execL1dDisable (who : Requester) (c : CoreId) (v : Dword) (s : State) : Host.Outcome State Fault Refusal :=
  s.rowWrite who (coreCacheR c.val) v
/-- MSC_CLEAN_START (R133): EN = 0. -/
def execMscCleanStart (who : Requester) (v : Dword) (s : State) : Host.Outcome State Fault Refusal :=
  s.rowWrite who mscCtlR v
/-- HIT_CFG_WRITE (R138). -/
def execHitCfgWrite (who : Requester) (v : Dword) (s : State) : Host.Outcome State Fault Refusal :=
  s.rowWrite who ⟨.hitCfg, 0, 0, 0⟩ v
/-- TQ_QUOTA_WRITE (R159). -/
def execTqQuotaWrite (who : Requester) (t : Tid) (v : Dword) (s : State) : Host.Outcome State Fault Refusal :=
  s.rowWrite who ⟨.tqQuota, 0, t.val, 0⟩ v
/-- TQ_RELEASE (R159). -/
def execTqRelease (who : Requester) (t : Tid) (v : Dword) (s : State) : Host.Outcome State Fault Refusal :=
  s.rowWrite who ⟨.tqRelease, 0, t.val, 0⟩ v
/-- PLINK_RETRAIN (R164): RETRAIN = 1. -/
def execPlinkRetrain (who : Requester) (d : DieId) (v : Dword) (s : State) : Host.Outcome State Fault Refusal :=
  s.rowWrite who ⟨.plinkCtl, d.val, 0, 0⟩ v
/-- PLINK_CLRCNT (R164): CLRCNT = 1. -/
def execPlinkClrcnt (who : Requester) (d : DieId) (v : Dword) (s : State) : Host.Outcome State Fault Refusal :=
  s.rowWrite who ⟨.plinkCtl, d.val, 0, 0⟩ v
/-- STGO (R212): STGO = 1. -/
def execStgo (who : Requester) (t : TrioId) (v : Dword) (s : State) : Host.Outcome State Fault Refusal :=
  s.rowWrite who ⟨.trioRctl, t.val, 0, 0⟩ v
/-- TRIO_INJ_GO: GO = 1. -/
def execTrioInjGo (who : Requester) (t : TrioId) (v : Dword) (s : State) : Host.Outcome State Fault Refusal :=
  s.rowWrite who ⟨.trioInj, t.val, 0, 0⟩ v
/-- FTU_CFG_WRITE (R223). -/
def execFtuCfgWrite (who : Requester) (v : Dword) (s : State) : Host.Outcome State Fault Refusal :=
  s.rowWrite who ftuCfgR v
/-- FTU_ALIGN_WRITE (R223, R226). -/
def execFtuAlignWrite (who : Requester) (v : Dword) (s : State) : Host.Outcome State Fault Refusal :=
  s.rowWrite who ftuAlignR v
/-- SEASON_LOAD_GO (R238): GO = 1. -/
def execSeasonLoadGo (who : Requester) (v : Dword) (s : State) : Host.Outcome State Fault Refusal :=
  s.rowWrite who ⟨.seasonLoad, 0, 0, 0⟩ v
/-- SEASON_REQUEST (R240): REQ = 1. -/
def execSeasonRequest (who : Requester) (v : Dword) (s : State) : Host.Outcome State Fault Refusal :=
  s.rowWrite who seasonCtlR v
/-- SEASON_ENABLE (R240): EN = 1. -/
def execSeasonEnable (who : Requester) (v : Dword) (s : State) : Host.Outcome State Fault Refusal :=
  s.rowWrite who seasonCtlR v
/-- CXQ_DOORBELL (R277). -/
def execCxqDoorbell (who : Requester) (q : Fin 33) (v : Dword) (s : State) : Host.Outcome State Fault Refusal :=
  s.rowWrite who ⟨.cxqIdx, 0, q.val, 0⟩ v
/-- SLOT_IMAGE_WRITE (R259): a doubleword of a slot's page. -/
def execSlotImageWrite (who : Requester) (t : TrioId) (slot : Fin 64) (off : BitVec 12) (v : Dword) (s : State) :
    Host.Outcome State Fault Refusal :=
  done (s.write who (trioBase t.val + 0x80000 + 0x1000 * slot.val + off.toNat) 3 v)
/-- TNT_RST_GO (R293): GO = 1. -/
def execTntRstGo (who : Requester) (v : Dword) (s : State) : Host.Outcome State Fault Refusal :=
  s.rowWrite who ⟨.tntRst, 0, 0, 0⟩ v
/-- TNT_CFG_WRITE (R292). -/
def execTntCfgWrite (who : Requester) (t : Tid) (v : Dword) (s : State) : Host.Outcome State Fault Refusal :=
  s.rowWrite who ⟨.tntCfg, 0, t.val, 0⟩ v
/-- QDMA_DOORBELL (R299): a queue's TAIL. -/
def execQdmaDoorbell (who : Requester) (t : Tid) (v : Dword) (s : State) : Host.Outcome State Fault Refusal :=
  s.rowWrite who ⟨.qdmaIdx, 0, t.val, 0⟩ v
/-- SEC_STAT_RESTART (R307): RESTART = 1. -/
def execSecStatRestart (who : Requester) (v : Dword) (s : State) : Host.Outcome State Fault Refusal :=
  s.rowWrite who secStatReg v
/-- SEAL_HOLD_WRITE (R309). -/
def execSealHoldWrite (who : Requester) (hi : Bool) (v : Dword) (s : State) : Host.Outcome State Fault Refusal :=
  s.rowWrite who ⟨if hi then .sealHoldHi else .sealHoldLo, 0, 0, 0⟩ v
/-- DEBUG_CHALLENGE (R311): CHAL = 1. -/
def execDebugChallenge (who : Requester) (v : Dword) (s : State) : Host.Outcome State Fault Refusal :=
  s.rowWrite who dbgAuthR v
/-- DEBUG_VERIFY (R311): GO = 1. -/
def execDebugVerify (who : Requester) (v : Dword) (s : State) : Host.Outcome State Fault Refusal :=
  s.rowWrite who dbgAuthR v
/-- EVG_TRIG (R320). -/
def execEvgTrig (who : Requester) (g : Fin 64) (v : Dword) (s : State) : Host.Outcome State Fault Refusal :=
  s.rowWrite who ⟨.evgTrig, 0, g.val, 0⟩ v
/-- EVG_PEND_WRITE (R313, R320). -/
def execEvgPendWrite (who : Requester) (g : Fin 64) (v : Dword) (s : State) : Host.Outcome State Fault Refusal :=
  s.rowWrite who ⟨.evgPend, 0, g.val, 0⟩ v
/-- EVG_GCTL_WRITE (R321). -/
def execEvgGctlWrite (who : Requester) (g : Fin 64) (v : Dword) (s : State) : Host.Outcome State Fault Refusal :=
  s.rowWrite who ⟨.evgGctl, 0, g.val, 0⟩ v
/-- EVG_ROUTE_WRITE (R314, R315). -/
def execEvgRouteWrite (who : Requester) (n : BitVec 11) (v : Dword) (s : State) : Host.Outcome State Fault Refusal :=
  s.rowWrite who ⟨.evgRoute, 0, n.toNat / 32, n.toNat % 32⟩ v
/-- CP_VFDB_MSI: some bit of MSI is 1. VF 0 does not exist. -/
def execCpVfdbMsi (who : Requester) (t : Tid) (v : Dword) (s : State) : Host.Outcome State Fault Refusal :=
  s.rowWrite who ⟨.cpVfdb, 0, t.val, 0⟩ v
/-- QUAD_CFG_WRITE (R355). -/
def execQuadCfgWrite (who : Requester) (q : QuadId) (v : Dword) (s : State) : Host.Outcome State Fault Refusal :=
  s.rowWrite who ⟨.quadCfg, 0, q.val, 0⟩ v
/-- MAILBOX_GO (R367). -/
def execMailboxGo (who : Requester) (t : Tid) (v : Dword) (s : State) : Host.Outcome State Fault Refusal :=
  s.rowWrite who ⟨.mbGo, 0, t.val, 0⟩ v
/-- VOTE_ROUND (R368). -/
def execVoteRound (who : Requester) (ch : Fin 64) (v : Dword) (s : State) : Host.Outcome State Fault Refusal :=
  s.rowWrite who ⟨.voteRound, 0, ch.val, 0⟩ v
/-- LSRC_CTL_WRITE (R373, R384). -/
def execLsrcCtlWrite (who : Requester) (id : BitVec 9) (v : Dword) (s : State) : Host.Outcome State Fault Refusal :=
  s.rowWrite who (lsrc id.toNat) v
/-- LACE_SINK_WRITE (R387). -/
def execLaceSinkWrite (who : Requester) (v : Dword) (s : State) : Host.Outcome State Fault Refusal :=
  s.rowWrite who laceSinkR v
/-- POWER_REQUEST (R404): GO = 1. -/
def execPowerRequest (who : Requester) (v : Dword) (s : State) : Host.Outcome State Fault Refusal :=
  s.rowWrite who pwrReqR v
/-- MODULE_RESET (R405): KIND = 1. -/
def execModuleReset (who : Requester) (v : Dword) (s : State) : Host.Outcome State Fault Refusal :=
  s.rowWrite who rstCtlR v
/-- DIE_RESET (R406): KIND = 2. -/
def execDieReset (who : Requester) (v : Dword) (s : State) : Host.Outcome State Fault Refusal :=
  s.rowWrite who rstCtlR v
/-- TRIO_RESET (R406): KIND = 3. -/
def execTrioReset (who : Requester) (v : Dword) (s : State) : Host.Outcome State Fault Refusal :=
  s.rowWrite who rstCtlR v
/-- CORE_RESET (R406): KIND = 4. -/
def execCoreReset (who : Requester) (v : Dword) (s : State) : Host.Outcome State Fault Refusal :=
  s.rowWrite who rstCtlR v
/-- SOLE_CTL_COMMIT (R423): COMMIT = 1. -/
def execSoleCtlCommit (who : Requester) (v : Dword) (s : State) : Host.Outcome State Fault Refusal :=
  s.rowWrite who ⟨.soleCtl, 0, 0, 0⟩ v
/-- SNAP (R422): SNAP = 1. -/
def execSnap (who : Requester) (v : Dword) (s : State) : Host.Outcome State Fault Refusal :=
  s.rowWrite who ⟨.soleCtl, 0, 0, 0⟩ v
/-- REFRESH (R426): REFRESH = 1. -/
def execRefresh (who : Requester) (v : Dword) (s : State) : Host.Outcome State Fault Refusal :=
  s.rowWrite who ⟨.soleCtl, 0, 0, 0⟩ v
/-- SOLE_READ_GO (R427): GO = 1 of an engine; TID 0 names the system engine. -/
def execSoleReadGo (who : Requester) (t : Tid) (v : Dword) (s : State) : Host.Outcome State Fault Refusal :=
  s.rowWrite who (soleCtl t.val) v
/-- BOOT_STORE_END (R430): BSTORE = 1. -/
def execBootStoreEnd (who : Requester) (v : Dword) (s : State) : Host.Outcome State Fault Refusal :=
  s.rowWrite who ⟨.bootStat, 0, 0, 0⟩ v
/-- CDT_LOCK (R65): LOCK = 1. -/
def execCdtLock (who : Requester) (v : Dword) (s : State) : Host.Outcome State Fault Refusal :=
  s.rowWrite who cdtCtlR v
/-- PMB_DOORBELL (R437): a ring's TAIL. -/
def execPmbDoorbell (who : Requester) (ring : Fin 2) (v : Dword) (s : State) : Host.Outcome State Fault Refusal :=
  s.rowWrite who ⟨.pmbIdx, 0, ring.val, 0⟩ v

end Sys2Proof.Machine
end

