-- ==== Sys2Proof/Machine/Access.lean ====
section
/-! DEFINITION. Loads, stores, LR, SC and TAS.B (R59, R60, R111-R118, R131, R132, R134, R136, R365, R379). -/

namespace Sys2Proof.Machine

/-! ### Data accesses -/

/-- A data access as an instruction makes it: its instruction word, its address, its size in bytes, how a load extends, the key
of a load's register (none for g0), and the streaming hint. -/
structure Mref where
  word : Word
  va : Dword
  size : Nat
  signed : Bool := false
  dst : Option Nat := none
  h : Bool := false
  /-- The flags of the earlier micro-operations of the sequence whose last one makes the access (R63). -/
  flags : List (Nat × BitVec 5 × BitVec 3) := []
  deriving DecidableEq, Repr

/-- The address is no multiple of the size. -/
def Mref.misaligned (m : Mref) : Bool := m.va.toNat % m.size ≠ 0
/-- The access crosses a line (R60). -/
def Mref.crosses (m : Mref) : Bool := 64 < m.va.toNat % 64 + m.size

/-- The trap of a request that the home refuses (R101, R300, R337). -/
def MemErr.trap (e : MemErr) (va : Dword) : Trap :=
  match e with
  | .world => { cause := 0x0B, sub := 3, eva := va }
  | .device sub => { cause := 0x0F, sub := sub, eva := va }

/-- A misaligned access within a line is performed only in WB or WT memory, and untranslated only in DRAM (R60). -/
def Page.mayMisalign (p : Page) : Bool := decide (p.ty = .wb ∨ p.ty = .wt) && (p.trans || decide (p.region = .dram))

/-- The access as the core remembers it while it awaits a completion (R113). -/
def Mref.dev (m : Mref) (pa : Nat) (store : Bool) : DevAcc :=
  { pa := BitVec.ofNat 46 pa, va := m.va, size := m.size, store := store, signed := m.signed, reg := m.dst.getD 0, word := m.word
    flags := m.flags }

/-- The bytes that a core's merging buffer supplies to a load, the youngest entry's where several cover one (R115). -/
def Core.heldBytes (k : Core) (pa n : Nat) : List (Option Byte) :=
  (List.range n).map (fun i =>
    let a := pa + i
    (k.merge.reverse.find? (fun e => decide (e.line.toNat = a / 64) && bit e.mask (a % 64))).map
      (fun e => lineByte e.data (a % 64)))

/-- A load as the core remembers it, with what its merging buffer supplies. -/
def State.devLoad (s : State) (c : Nat) (m : Mref) (pa : Nat) (tas : Bool) : DevAcc :=
  { m.dev pa false with held := (s.core c).heldBytes pa m.size, tas := tas }

/-- What the trace unit is told of an access. -/
def Mref.told (m : Mref) (val : Dword) (kind served : Nat) (res : Bool) : Happened :=
  { acc := some { va := m.va, val := val, kind := kind, size := m.size, served := served, reserved := res } }

/-- A byte of the flash that the xSPI window shows (R429): an erased one reads 0xFF (assumption 3). -/
def State.flashByte (s : State) (cs off : Nat) : Byte := SMap.get 0xFF s.boot.flash (cs * 2 ^ 32 + off)

/-- The flash offset behind an address of the xSPI window (R429: `XSPI_PAGE`). -/
def State.xspiOff (s : State) (pa : Nat) : Nat := s.rf ⟨.xspiPage, 0, 0, 0⟩ 12 0 * 2 ^ 19 + (pa - 0x3FFFFFF80000)

/-- log2 of an access size as a register access carries it. -/
def sizeLog (n : Nat) : Fin 4 := Fin.ofNat 4 (log2Size n)

/-- The closed entries at the head of the merging buffer drain. -/
def State.drainClosed (s : State) (c : Nat) : State := (s.core c).merge.foldl (fun s _ => s.drainFirst c) s

/-! ### Cache and burst errors that a load meets (R134, R331) -/

/-- The records of a dirty line that was lost: the line's tenant and Sole (R134, R184). -/
def State.lostLine (s : State) (tid line : Nat) : State := s.tidRecord tid 0x0E 1 0 [BitVec.ofNat 64 (line * 64)]

/-- A cache error at the line that a load of core `c` reads: what it does, and whether the load takes Memory poison, sub-cause
0x01. -/
def State.cacheUpset (s : State) (c line : Nat) (e : CacheFault) : State × Bool :=
  let t := trioOf c
  let ok := s.countCore c 0x0F
  let inL2 := (s.trio t).l2.find line
  let inMsc := if s.mscOn then s.msc.find line else none
  match e with
  | .l2Single => (if inL2.isSome then ok else s, false)
  | .mscSingle => (if inMsc.isSome then s.countMc (chanOf line) 0x0B else s, false)
  | .l2Data =>
    match inL2 with
    | none => (s, false)
    | some l =>
      if l.st = .m ∨ l.st = .o then
        let s := (s.l2Evict t { l with poison := true }).calm line
        ((s.poisonInMem line).lostLine l.tid.val line, true)
      else (ok.l2Lose t line, false)
  | .l2Tag =>
    match inL2 with
    | none => (s, false)
    | some l => if l.st = .m ∨ l.st = .o then (s.blockError t, false) else (ok.l2Lose t line, false)
  | .mscData =>
    match inMsc with
    | none => (s, false)
    | some l =>
      if l.dirty then
        let s := s.mscEvict { l with poison := true }
        (s.lostLine l.tid.val line, true)
      else ({ s with msc := s.msc.drop line }.countMc (chanOf line) 0x0B, false)
  | .mscTag =>
    match inMsc with
    | none => (s, false)
    | some l =>
      if l.dirty then (s.safeState 0x1F 0 false, false)
      else ({ s with msc := s.msc.drop line }.countMc (chanOf line) 0x0B, false)

/-- An upset of the line that a load reads: a cache error, or an error of the burst that serves a load which no cache serves. -/
def State.lineUpset (s : State) (c line : Nat) (u : Option Upset) : State × Bool :=
  match u with
  | some (.cache e) => s.cacheUpset c line e
  | some (.dram e) =>
    if ((s.trio (trioOf c)).l2.find line).isSome ∨ (s.mscOn && (s.msc.find line).isSome) then (s, false)
    else
      (s.eccResult (s.servChan (chanOf line)) line e, match e with
        | .uncorrectable _ _ => true
        | _ => false)
  | _ => (s, false)

/-! ### The L1D -/

/-- The L1D is looked up and allocated (R132). -/
def State.l1dOn (s : State) (c : Nat) : Bool := bit (s.reg (coreCacheR c)) 1

/-- A line enters the L1D: eight ways of 64 sets. -/
def State.l1dPut (s : State) (c line : Nat) (w : Bool) : State :=
  s.modCore c (fun k =>
    let r := l1Put k.l1d k.l1dRot 8 64 line w
    { k with l1d := r.1, l1dRot := r.2 })

/-- A load trains the L1D prefetcher on a miss, or on a hit to a line that its stream prefetched (R117). The stride is that of
the addresses the loads name; the target lies in the same page, whose physical address is known (DEDUCED, assumption 26). -/
def State.l1dTrain (s : State) (c : Nat) (pc va : Dword) (pa : Nat) (miss : Bool) : State :=
  let k := s.core c
  let ctl := s.reg (coreCacheR c)
  let mine := k.streams.any (fun x => decide (x.key = pc.toNat) && x.fetched.contains (BitVec.ofNat 40 (pa / 64)))
  if !bit ctl 3 || !s.l1dOn c || !(miss || mine) then s
  else
    let x := trainStreams k.streams 16 pc.toNat va.toNat
    let s := s.modCore c (fun k => { k with streams := x.1 })
    match x.2 with
    | none => s
    | some (d, full) =>
      let target : Int := (pa : Int) + d * (fld ctl 7 6 + 1)
      let line := target.toNat / 64
      if d.natAbs > 2048 ∨ target / 4096 ≠ (pa / 4096 : Nat) ∨ l1Has (s.core c).l1d line then s
      else if (s.l2Hit (trioOf c) k.w line).isNone ∧ !s.missRoom (trioOf c) then s.countTrioFor (trioOf c) (s.tidOn c) 0x0A
      else
        let r := { s.rq c (s.tidOn c) (s.core c).w line full with res := false, pf := true }
        match s.l2Read (trioOf c) r line with
        | (s, .ok (_, psn, held, _)) =>
          if psn || !held then s
          else (s.l1dPut c line k.w).modCore c (fun k => { k with streams := k.streams.map (fun x =>
            if x.key = pc.toNat then { x with fetched := x.fetched ++ [BitVec.ofNat 40 line] } else x) })
        | (s, .error _) => s

/-- A cacheable line as core `c` reads it, without its merging buffer: the data, whether poisoned, what served it. -/
def State.loadLine (s : State) (c : Nat) (m : Mref) (pa : Nat) : State × Except MemErr (LineData × Bool × Nat) :=
  let t := trioOf c
  let line := pa / 64
  let k := s.core c
  let pc := k.arch.pc
  let r := s.rq c (s.tidOn c) k.w line m.h
  let hit := if s.l1dOn c && k.l1d.any (fun l => decide (l.line.toNat = line) && (k.w || !l.w)) then (s.trio t).l2.find line else none
  match hit with
  | some l => (s.l1dTrain c pc m.va pa false, .ok (l.data, l.poison, 1))
  | none =>
    let s := s.countCore c 0x04
    match s.l2Demand t r line with
    | (s, .error e) => (s, .error e)
    | (s, .ok (d, psn, held, served)) =>
      let s := if held && s.l1dOn c && !psn then s.l1dPut c line k.w else s
      (s.l1dTrain c pc m.va pa true, .ok (d, psn, served))

/-! ### Loads -/

/-- The response of an uncached read that is answered at once: it passes the Welt in a redundant stream (R208). -/
def State.answerLoad (s : State) (c : CoreId) (m : Mref) (pa : Nat) (v : Dword) : State × PosRes :=
  let s := (s.modCore c.val (fun k => { k with dev := some (s.devLoad c.val m pa false) })).respond c.val true v
  (s, if (s.core c.val).dev.isSome then .stay else .ended false)

/-- A load of a type that no cache allocates (R112, R113, R366): its data come from the home, a register, the flash, or later
from a device or another module. `tas`: the access is TAS.B, whose write the device makes with the read; at the xSPI window it
then awaits the flash device, as a store there does. -/
def State.uncachedLoad (s : State) (c : CoreId) (m : Mref) (p : Page) (u : Option Upset) (tas : Bool) : State × PosRes :=
  let line := p.pa / 64
  let tid := s.tidOn c.val
  let waits := fun (s : State) => (s.modCore c.val (fun k => { k with dev := some (s.devLoad c.val m p.pa tas) }), PosRes.stay)
  match p.region with
  | .dram =>
    let (s, bad) := s.lineUpset c.val line u
    match s.rdShared (s.rq c.val tid (s.core c.val).w line false) line true false with
    | (s, .error e) => (s, .trap (e.trap m.va))
    | (s, .ok (d, psn, _)) =>
      if bad || psn then (s, .trap { cause := 0x0E, sub := bad.toNat, eva := m.va })
      else s.answerLoad c m p.pa (BitVec.ofNat 64 (lineNum d (p.pa % 64) m.size))
  | .mcs =>
    match s.mcsRead (.core c) (p.pa - 0x3F0000000000) (sizeLog m.size) with
    | (s, .ok v) => s.answerLoad c m p.pa v
    | (s, .error e) => (s, .trap { cause := 0x0F, sub := e, eva := m.va })
  | .xspi =>
    let cs := s.rf ⟨.xspiPage, 0, 0, 0⟩ 32 32
    let bs := (List.range m.size).map (fun i => s.flashByte cs (s.xspiOff p.pa + i))
    if tas then waits s else s.answerLoad c m p.pa (BitVec.ofNat 64 (ofBytes bs))
  | .pcie => waits s
  | .remote =>
    match s.linkTo (remoteMod p.pa) with
    | some k => waits ((s.drainClosed c.val).remoteSend k c.val tid p.pa false [BitVec.ofNat 64 m.size])
    | none => (s, .trap { cause := 0x0F, sub := 1, eva := m.va })
  | .rom | .unpopulated => (s, .trap { cause := 0x0F, sub := 1, eva := m.va })

/-- A value loaded for its register at distance 3 (R44). -/
def State.loaded (s : State) (c : Nat) (m : Mref) (v : Dword) : State :=
  match m.dst with
  | none => s
  | some key => s.modCore c (fun k => k.produce ⟨k.arch.posn + 3, some key, loadVal m.size m.signed v, 0, 0, none⟩)

/-- A load (R60, R112, R115). -/
def State.loadOp (s : State) (c : CoreId) (m : Mref) (u : Option Upset) : State × PosRes :=
  let bad : PosRes := .trap { cause := 0x08, eva := m.va }
  if m.misaligned && m.crosses then (s, bad)
  else
    match s.translate c.val .load m.va with
    | (s, .trap x) => (s, .trap x)
    | (s, .stay) => (s, .stay)
    | (s, .ok p) =>
      let line := p.pa / 64
      if m.misaligned && !p.mayMisalign then (s, bad)
      else if p.region = .unpopulated then (s, .trap { cause := 0x0F, sub := 1, eva := m.va })
      else if p.region = .rom then
        let v := BitVec.ofNat 64 (ofBytes ((List.range m.size).map (fun i => Config.bootRom (p.pa + i - 0x3FFFFFF00000))))
        (s.loaded c.val m v, .next (m.told (loadVal m.size m.signed v) 0 3 false) none)
      else
        match p.ty with
        | .wb | .wt =>
          if p.region ≠ .dram then s.uncachedLoad c m p u false
          else
            let (s, bad) := s.lineUpset c.val line u
            if bad then (s, .trap { cause := 0x0E, sub := 1, eva := m.va })
            else
              match s.loadLine c.val m p.pa with
              | (s, .error e) => (s, .trap (e.trap m.va))
              | (s, .ok (d, psn, served)) =>
                if psn then (s, .trap { cause := 0x0E, eva := m.va })
                else
                  let v := BitVec.ofNat 64 (lineNum ((s.core c.val).overlay line d) (p.pa % 64) m.size)
                  let res := (s.rq c.val (s.tidOn c.val) (s.core c.val).w line m.h).res
                  (s.loaded c.val m v, .next (m.told (loadVal m.size m.signed v) 0 served res) none)
        | .uc | .wc => s.uncachedLoad c m p u false
        | .devStrict | .devRelaxed => (s.drainMerge c.val).uncachedLoad c m p u false

/-! ### Stores -/

/-- A plain store to the granule of the core's reservation ends it (R59). -/
def Core.breakResv (k : Core) (line : Nat) : Core :=
  { k with resv := k.resv.filter (fun r => decide (r.pa.toNat / 64 ≠ line)) }

/-- A store that awaits its completion at once (R113): the position ends when that comes. -/
def State.strictStore (s : State) (c : CoreId) (m : Mref) (p : Page) (v : Dword) : State × PosRes :=
  let line := p.pa / 64
  let tid := s.tidOn c.val
  let acc := m.dev p.pa true
  let fail := fun (s : State) (sub : Nat) => (s, PosRes.trap { cause := 0x0F, sub := sub, eva := m.va })
  let waits := fun (s : State) => s.modCore c.val (fun k => { k with dev := some acc })
  let d := linePatch (p.pa % 64) m.size v.toNat
  match p.region with
  | .dram =>
    match s.ncWrite (s.rq c.val tid (s.core c.val).w line false) line d.1 d.2 with
    | (s, .error e) => (s, .trap (e.trap m.va))
    | (s, .ok _) => (s, .next (m.told v 1 6 false) none)
  | .mcs =>
    match (waits s).mcsWrite (.core c) (p.pa - 0x3F0000000000) (sizeLog m.size) v with
    | .ok s' =>
      -- the write itself may have reset the core or moved its context away
      if (s'.core c.val).dev = some acc then ((s'.finishRun c.val true 0 0).1, .ended true)
      else
        (s'.trios.foldl (fun s e => e.2.slots.foldl (fun (s : State) x => match x.2.det with
          | some q => if q.acc = acc then s.detachedAnswer e.1 x.1 q true 0 else s
          | none => s) s) s', .ended true)
    | .err e => fail s e
    | .wait s' => (s', .stay)
    | .stay => (s, .stay)
  | .xspi | .pcie => (waits s, .stay)
  | .remote =>
    match s.linkTo (remoteMod p.pa) with
    | some k => (waits (s.remoteSend k c.val tid p.pa true (d.2 :: (List.range 8).map (lineDw d.1))), .stay)
    | none => fail s 1
  | .rom => fail s 2
  | .unpopulated => fail s 1

/-- A store of `v` (R60, R112-R114). It waits behind a FENCE.W whose stores are not performed, and while the merging buffer has
no room. -/
def State.storeOp (s : State) (c : CoreId) (m : Mref) (v : Dword) : State × PosRes :=
  let bad : PosRes := .trap { cause := 0x09, eva := m.va }
  if m.misaligned && m.crosses then (s, bad)
  else
    match s.translate c.val .store m.va with
    | (s, .trap x) => (s, .trap x)
    | (s, .stay) => (s, .stay)
    | (s, .ok p) =>
      let line := p.pa / 64
      let x := loadVal m.size false v
      if m.misaligned && !p.mayMisalign then (s, bad)
      else if p.region = .unpopulated then (s, .trap { cause := 0x0F, sub := 1, eva := m.va })
      else if s.fenced c.val then (s, .stay)
      else if p.ty = .devStrict then
        let s := (s.drainMerge c.val).modCore c.val (fun k => { k.breakResv line with wfence := false })
        s.strictStore c m p x
      else
        let s := if p.ty = .devRelaxed then s.modCore c.val Core.closeAll else s
        if (s.core c.val).mergeFull line p.ty then (s, .stay)
        else
          let d := linePatch (p.pa % 64) m.size x.toNat
          let s := s.modCore c.val (fun k =>
            { (k.breakResv line).mergeIn line (s.tidOn c.val) k.w p.ty d.1 d.2 with wfence := false })
          (s, .next (m.told x 1 1 false) none)

/-! ### LR, SC and TAS.B -/

/-- The world and tenant of an atomic's request. -/
def State.atomRq (s : State) (c : Nat) (line : Nat) : Rq := s.rq c (s.tidOn c) (s.core c).w line false

/-- RL (R59, R114): the merging buffer closes and drains, and the access waits for every earlier store. -/
def State.released (s : State) (c : Nat) (rl : Bool) : State × Bool :=
  if rl then
    let s := s.drainMerge c
    (s, s.storesDone c)
  else (s, true)

/-- A page on which LR and SC are denied (R59, R131): a type other than WB or WT, or the L2 off. -/
def State.atomDenied (s : State) (c : Nat) (p : Page) : Bool :=
  !decide (p.ty = .wb ∨ p.ty = .wt) || !s.l2On (trioOf c)

/-- LR (R59): the reservation is held while the L2 holds the line; one on the boot ROM, which no cache holds, from the LR on. -/
def State.lrOp (s : State) (c : CoreId) (m : Mref) (rl : Bool) : State × PosRes :=
  if m.misaligned then (s, .trap { cause := 0x08, eva := m.va })
  else
    match s.translate c.val .load m.va with
    | (s, .trap x) => (s, .trap x)
    | (s, .stay) => (s, .stay)
    | (s, .ok p) =>
      let line := p.pa / 64
      if s.atomDenied c.val p then (s, .trap { cause := 0x0B, sub := 2, eva := m.va })
      else if p.region = .unpopulated then (s, .trap { cause := 0x0F, sub := 1, eva := m.va })
      else if p.region = .rom then
        match s.released c.val rl with
        | (s, false) => (s, .stay)
        | (s, true) =>
          let v := BitVec.ofNat 64 (ofBytes ((List.range m.size).map (fun i => Config.bootRom (p.pa + i - 0x3FFFFFF00000))))
          let s := s.modCore c.val (fun k => { k with resv := some ⟨BitVec.ofNat 46 p.pa, m.size⟩ })
          (s.loaded c.val m v, .next (m.told (loadVal m.size m.signed v) 2 3 false) none)
      else
        match s.released c.val rl with
        | (s, false) => (s, .stay)
        | (s, true) =>
          match s.loadLine c.val m p.pa with
          | (s, .error e) => (s, .trap (e.trap m.va))
          | (s, .ok (d, psn, served)) =>
            if psn then (s, .trap { cause := 0x0E, eva := m.va })
            else
              let v := BitVec.ofNat 64 (lineNum ((s.core c.val).overlay line d) (p.pa % 64) m.size)
              let held := ((s.trio (trioOf c.val)).l2.find line).isSome
              let s := s.modCore c.val (fun k => { k with resv := if held then some ⟨BitVec.ofNat 46 p.pa, m.size⟩ else none })
              (s.loaded c.val m v, .next (m.told (loadVal m.size m.signed v) 2 served (s.atomRq c.val line).res) none)

/-- The register of SC's or TAS.B's result at distance 3. -/
def State.atomResult (s : State) (c : Nat) (m : Mref) (v : Dword) : State :=
  match m.dst with
  | none => s
  | some key => s.modCore c (fun k => k.produce ⟨k.arch.posn + 3, some key, v, 0, 0, none⟩)

/-- A line that the L2 holds shared has its ownership asked for, and what the home serves before that comes first: an SC then knows
whether the reservation stands (R59, R168). -/
def State.ready (s : State) (c line : Nat) : State :=
  match s.l2Hit (trioOf c) (s.core c).w line with
  | some l => if l.st = .m ∨ l.st = .e then s else s.turn (s.atomRq c line) line
  | none => s.turn (s.atomRq c line) line

/-- SC (R59, R115): performed at the L2 once the merging buffer is empty; the reservation is cleared either way. Its address and
LR's are compared as physical addresses (DESIGN CHOICE, assumption 39). -/
def State.scOp (s : State) (c : CoreId) (m : Mref) (rl : Bool) (v : Dword) : State × PosRes :=
  if m.misaligned then (s, .trap { cause := 0x09, eva := m.va })
  else
    match s.translate c.val .store m.va with
    | (s, .trap x) => (s, .trap x)
    | (s, .stay) => (s, .stay)
    | (s, .ok p) =>
      let line := p.pa / 64
      let x := loadVal m.size false v
      if s.atomDenied c.val p then (s, .trap { cause := 0x0B, sub := 2, eva := m.va })
      else if p.region = .unpopulated then (s, .trap { cause := 0x0F, sub := 1, eva := m.va })
      else if p.region = .rom then (s, .trap { cause := 0x0F, sub := 2, eva := m.va })
      else if s.fenced c.val then (s, .stay)
      else
        match (s.drainMerge c.val).released c.val rl with
        | (s, false) => (s, .stay)
        | (s, true) =>
          let s := s.ready c.val line
          let good := decide ((s.core c.val).resv = some ⟨BitVec.ofNat 46 p.pa, m.size⟩)
          let s := s.modCore c.val (fun k => { k with resv := none, wfence := false })
          let told : Happened :=
            { acc := some { va := m.va, val := x, kind := 2, size := m.size, scFailed := !good, served := 3 } }
          if good then
            let d := linePatch (p.pa % 64) m.size x.toNat
            match s.drainBytes (trioOf c.val) c.val (s.atomRq c.val line) p.ty line d.1 d.2 with
            | (s, .error e) => (s, .trap (e.trap m.va))
            | (s, .ok _) => (s.atomResult c.val m 0, .next told none)
          else (s.atomResult c.val m 1, .next told none)

/-- TAS.B in DRAM (R59, R115, R131): at the L2 for a type that it allocates, else at the home. The byte is that of the line as its
write finds it. -/
def State.tasDram (s : State) (c : CoreId) (m : Mref) (p : Page) : State × PosRes :=
  let line := p.pa / 64
  let t := trioOf c.val
  let r := s.atomRq c.val line
  let cached := decide (p.ty = .wb ∨ p.ty = .wt) && s.l2On t
  let (s, got) := if cached then
      match s.loadLine c.val m p.pa with
      | (s, .ok (d, psn, served)) => (s, Except.ok (d, psn, served))
      | (s, .error e) => (s, .error e)
    else
      match s.rdShared r line true false with
      | (s, .ok (d, psn, _)) => (s, .ok (d, psn, 5))
      | (s, .error e) => (s, .error e)
  match got with
  | .error e => (s, .trap (e.trap m.va))
  | .ok (_, psn, served) =>
    if psn then (s, .trap { cause := 0x0E, eva := m.va })
    else
      let w := linePatch (p.pa % 64) 1 0xFF
      let (s, res) := if cached then s.drainBytes t c.val r p.ty line w.1 w.2 else s.ncWrite r line w.1 w.2
      match res with
      | .error e => (s, .trap (e.trap m.va))
      | .ok was =>
        let v : Dword := (lineByte was (p.pa % 64)).zeroExtend 64
        if cached then (s.atomResult c.val m v, .next (m.told v 3 served r.res) none) else s.answerLoad c m p.pa v

/-- TAS.B (R59): one indivisible access at any memory type. At a module beyond a link it is a read and a write in order (DESIGN
CHOICE, assumption 26). At a register of the Module Configuration Space, which no access of one byte reaches (R4), it meets the
checks of a read alone: a register written only with W = 1 answers 0x0A and not 0x04 (DESIGN CHOICE, assumption 37). -/
def State.tasOp (s : State) (c : CoreId) (m : Mref) (rl : Bool) : State × PosRes :=
  match s.translate c.val .tas m.va with
  | (s, .trap x) => (s, .trap x)
  | (s, .stay) => (s, .stay)
  | (s, .ok p) =>
    let line := p.pa / 64
    let fail := fun (s : State) (sub : Nat) => (s, PosRes.trap { cause := 0x0F, sub := sub, eva := m.va })
    if p.region = .unpopulated then fail s 1
    else if p.region = .rom then fail s 2
    else if s.fenced c.val then (s, .stay)
    else
      match (s.drainMerge c.val).released c.val rl with
      | (s, false) => (s, .stay)
      | (s, true) =>
        let s := s.modCore c.val (fun k => { k.breakResv line with wfence := false })
        match p.region with
        | .dram => s.tasDram c m p
        | .remote =>
          let w := linePatch (p.pa % 64) 1 0xFF
          match s.uncachedLoad c m p none false, s.linkTo (remoteMod p.pa) with
          | (s', r), some k =>
            (s'.remoteSend k c.val (s.tidOn c.val) p.pa true (w.2 :: (List.range 8).map (lineDw w.1)), r)
          | x, none => x
        | _ => s.uncachedLoad c m p none true

/-! ### The instructions -/

/-- A format C load. -/
def loadInstr (c : CoreId) (major : BitVec 6) (o : OpsC) (n : Nat) (signed isF : Bool) (u : Option Upset) (s : State) : State :=
  s.position c.val (wordC major o) false (fun s =>
    let k := s.core c.val
    s.loadOp c { word := wordC major o, va := k.g o.rb + simm o.disp, size := n, signed := signed, dst := k.dest isF o.rt
                 h := o.h } u)

/-- A format C store. -/
def storeInstr (c : CoreId) (major : BitVec 6) (o : OpsC) (n : Nat) (isF : Bool) (s : State) : State :=
  s.position c.val (wordC major o) false (fun s =>
    let k := s.core c.val
    s.storeOp c { word := wordC major o, va := k.g o.rb + simm o.disp, size := n } (if isF then k.f o.rt else k.g o.rt))

/-- LB (R39). -/
def execLb (c : CoreId) (o : OpsC) (s : State) : Host.Outcome State Fault Refusal := done (loadInstr c 0x10 o 1 true false none s)
/-- LBU (R39). -/
def execLbu (c : CoreId) (o : OpsC) (s : State) : Host.Outcome State Fault Refusal := done (loadInstr c 0x11 o 1 false false none s)
/-- LH (R39). -/
def execLh (c : CoreId) (o : OpsC) (s : State) : Host.Outcome State Fault Refusal := done (loadInstr c 0x12 o 2 true false none s)
/-- LHU (R39). -/
def execLhu (c : CoreId) (o : OpsC) (s : State) : Host.Outcome State Fault Refusal := done (loadInstr c 0x13 o 2 false false none s)
/-- LW (R39). -/
def execLw (c : CoreId) (o : OpsC) (s : State) : Host.Outcome State Fault Refusal := done (loadInstr c 0x14 o 4 true false none s)
/-- LWU (R39). -/
def execLwu (c : CoreId) (o : OpsC) (s : State) : Host.Outcome State Fault Refusal := done (loadInstr c 0x15 o 4 false false none s)
/-- FLW (R37, R39). -/
def execFlw (c : CoreId) (o : OpsC) (s : State) : Host.Outcome State Fault Refusal := done (loadInstr c 0x1C o 4 false true none s)
/-- FLD (R39). -/
def execFld (c : CoreId) (o : OpsC) (s : State) : Host.Outcome State Fault Refusal := done (loadInstr c 0x1D o 8 false true none s)

/-- A command runs with a wrong item in a trio's comparison, of copy `k` or, where there is none, such that no two agree: its
position meets it as it meets an injected one, or it passes. -/
def State.withItem (s : State) (t : Nat) (k : Option (Fin 3)) (g : Fin 32) (f : State → State) : State :=
  let was := (s.trio t).inj
  (f (s.modTrio t (fun q => { q with inj := some (k, g) }))).modTrio t (fun q => { q with inj := was })

/-- LD (R39), with an upset that it meets, if any: an error of the line that it reads (R134, R331), a wrong item in a comparison of
this position (R198, R199, R202), or a wrong value of one copy that no output depends on: a pair meets it at the writeback, a Voted
trio in its digest (R198, R204). -/
def execLd (c : CoreId) (o : OpsC) (u : Option Upset) (s : State) : Host.Outcome State Fault Refusal :=
  done (
    let load := loadInstr c 0x16 o 8 false false u
    let t := trioOf c.val
    match u with
    | some (.copy k g) => (s.withItem t (some k) g load)
    | some (.allDiffer g) => (s.withItem t none g load)
    | some (.latent k x) =>
      if s.trioMode t = 1 then (s.withItem t (some k) 19 load)
      else
        let u := load s
        if s.throughWelt c.val && decide ((u.core c.val).arch.posn ≠ (s.core c.val).arch.posn) &&
            decide (s.dissenter t ≠ k.val) then
          (u.modTrio t (fun q => { q with skew := SMap.put 0 q.skew k.val (SMap.get 0 q.skew k.val ^^^ x) }))
        else u
    | _ => (load s))

/-- SB (R39). -/
def execSb (c : CoreId) (o : OpsC) (s : State) : Host.Outcome State Fault Refusal := done (storeInstr c 0x18 o 1 false s)
/-- SH (R39). -/
def execSh (c : CoreId) (o : OpsC) (s : State) : Host.Outcome State Fault Refusal := done (storeInstr c 0x19 o 2 false s)
/-- SW (R39). -/
def execSw (c : CoreId) (o : OpsC) (s : State) : Host.Outcome State Fault Refusal := done (storeInstr c 0x1A o 4 false s)
/-- SD (R39). -/
def execSd (c : CoreId) (o : OpsC) (s : State) : Host.Outcome State Fault Refusal := done (storeInstr c 0x1B o 8 false s)
/-- FSW (R37, R39). -/
def execFsw (c : CoreId) (o : OpsC) (s : State) : Host.Outcome State Fault Refusal := done (storeInstr c 0x1E o 4 true s)
/-- FSD (R39). -/
def execFsd (c : CoreId) (o : OpsC) (s : State) : Host.Outcome State Fault Refusal := done (storeInstr c 0x1F o 8 true s)

/-- An atomic of format A: the address is rs1, RL is ext[0]. -/
def atomInstr (c : CoreId) (fn : BitVec 6) (o : OpsA) (n : Nat) (signed : Bool)
    (body : Mref → Bool → Core → State → State × PosRes) (s : State) : State :=
  let w := wordA 0x03 o fn
  s.position c.val w false (fun s =>
    let k := s.core c.val
    body { word := w, va := k.g o.rs1, size := n, signed := signed, dst := k.dest false o.rd } (bit o.ext 0) k s)

/-- LR.W (R59). -/
def execLrW (c : CoreId) (o : OpsA) (s : State) : Host.Outcome State Fault Refusal :=
  done (atomInstr c 0x00 o 4 true (fun m rl _ s => s.lrOp c m rl) s)
/-- SC.W (R59). -/
def execScW (c : CoreId) (o : OpsA) (s : State) : Host.Outcome State Fault Refusal :=
  done (atomInstr c 0x01 o 4 false (fun m rl k s => s.scOp c m rl (k.g o.rs2)) s)
/-- LR.D (R59). -/
def execLrD (c : CoreId) (o : OpsA) (s : State) : Host.Outcome State Fault Refusal :=
  done (atomInstr c 0x02 o 8 false (fun m rl _ s => s.lrOp c m rl) s)
/-- SC.D (R59). -/
def execScD (c : CoreId) (o : OpsA) (s : State) : Host.Outcome State Fault Refusal :=
  done (atomInstr c 0x03 o 8 false (fun m rl k s => s.scOp c m rl (k.g o.rs2)) s)
/-- TAS.B (R59). -/
def execTasB (c : CoreId) (o : OpsA) (s : State) : Host.Outcome State Fault Refusal :=
  done (atomInstr c 0x04 o 1 false (fun m rl _ s => s.tasOp c m rl) s)

/-- SOFTWARE_TRACE_STORE (R379): a doubleword store of core `c` to a tenant's trace page. -/
def execSoftwareTraceStore (c : CoreId) (t : Tid) (off : BitVec 12) (v : Dword) (s : State) :
    Host.Outcome State Fault Refusal :=
  done (s.write (.core c) (0x38100000 + 0x1000 * t.val + off.toNat) 3 v)

end Sys2Proof.Machine
end

