-- ==== Sys2Proof/Machine/Boot.lean ====
section
/-! DEFINITION. Image sets and the boot from reset to season 0 (R303, R429-R436). The boot ROM, the Sealed monitor and Cobbler are
programs of the service trio; what the spec has them do at boot is a sequence of phases, each taken while time passes, once the
one before it has ended (assumption 28). -/

namespace Sys2Proof.Machine

/-! ### Image sets (R433, R434) -/

/-- Where a set lies: a chip select of the flash, or the upper 8 MiB of the boot store (R433, R440). -/
inductive SetAt where
  | flash (cs : Nat)
  | staged
  deriving DecidableEq, Repr

/-- A byte of physical memory in DRAM or the boot store. -/
def State.physByte (s : State) (pa : Nat) : Byte := lineByte (s.dramRead (pa / 64)).1 (pa % 64)

/-- `n` bytes of a set from an offset. -/
def State.setRead (s : State) (at' : SetAt) (off n : Nat) : List Byte :=
  (List.range n).map (fun i => match at' with
    | .flash cs => s.flashByte cs (off + i)
    | .staged => s.physByte (0xA00000 + off + i))

/-- `n` bytes from offset `i`, as a number. -/
def leAt (bs : List Byte) (i n : Nat) : Nat := ofBytes ((bs.drop i).take n)

/-- The entries of a directory: type, offset and length; none when its MAGIC, CRC or count is wrong (R433, R435). -/
def State.directory (s : State) (at' : SetAt) : Option (List (Nat × Nat × Nat)) :=
  let d := s.setRead at' 0 4096
  let n := leAt d 4 4
  if leAt d 0 4 = 0x1B00D1A0 ∧ 1 ≤ n ∧ n ≤ 16 ∧ (crc32 (d.take 4092)).toNat = leAt d 4092 4 then
    some ((List.range n).map (fun i => (leAt d (8 + 16 * i) 1, leAt d (12 + 16 * i) 4, leAt d (16 + 16 * i) 4)))
  else none

/-- The set holds every type but 0x04, and none twice (R433). -/
def setComplete (es : List (Nat × Nat × Nat)) : Bool :=
  let types := es.map (·.1)
  [1, 2, 3, 5, 6, 7].all (fun t => types.contains t) && decide types.Nodup

/-- LOAD keeps the rule of its type (R433). -/
def loadOk (type load len : Nat) : Bool :=
  if type = 1 ∨ type = 2 then decide (0x200000 ≤ load ∧ load + len ≤ 0xA00000)
  else if type = 6 then decide (0x1200000 ≤ load ∧ load % 4096 = 0 ∧ load < 0xC000000000)
  else if type = 7 then decide (0x1200000 ≤ load ∧ load < 0xC000000000)
  else true

/-- The test of R303 and R434 on an image: its header and its payload in the clear. -/
def State.testImage (s : State) (at' : SetAt) (setver : Nat) (e : Nat × Nat × Nat) : Option (Nat × List Byte × List Byte) :=
  let h := s.setRead at' e.2.1 512
  let raw := s.setRead at' (e.2.1 + 512) (leAt h 48 4)
  let key := (h.drop 80).take 97
  let root := (List.range 4).any (fun i => decide (Config.rootHash i = Config.sha384 key) && !Config.rootRevoked i)
  let msg := h.take 184 ++ h.drop 280 ++ raw
  let ok := decide (leAt h 0 4 = 0x1B001A6E ∧ leAt h 4 1 = e.1 ∧ leAt h 12 4 = setver) && root &&
    Config.ecdsaOk key msg ((h.drop 184).take 96) && decide (s.sec.arb ≤ leAt h 8 4) && loadOk e.1 (leAt h 16 8) (leAt h 48 4)
  if !ok then none
  else if leAt h 5 1 % 2 = 1 then (Config.gcmOpen ((h.drop 52).take 28 ++ raw)).map (fun p => (e.1, h, p))
  else some (e.1, h, raw)

/-- A set as it is tested: its images, or the `BOOT_STAT.FAIL` code: 1 no valid directory, 3 incomplete, 2 an image refused. -/
def State.testSet (s : State) (at' : SetAt) : Except Nat (List (Nat × List Byte × List Byte)) :=
  match s.directory at' with
  | none => .error 1
  | some es =>
    if !setComplete es then .error 3
    else
      let setver := match es.find? (fun e => decide (e.1 = 1)) with
        | some e => leAt (s.setRead at' e.2.1 512) 12 4
        | none => 0
      let imgs := es.filterMap (fun e => s.testImage at' setver e)
      if imgs.length = es.length then .ok imgs else .error 2

/-! ### The boot (R431, R432, R435) -/

/-- `BOOT_STAT`. -/
def bootStatR : RegRef := ⟨.bootStat, 0, 0, 0⟩
/-- `PMB_STAT`. -/
def pmbStatR : RegRef := ⟨.pmbStat, 0, 0, 0⟩
/-- `BOOT_STAT.SRC`. -/
def State.bootSrc (s : State) : Nat := s.rf bootStatR 1 0
/-- `BOOT_STAT.STAGE`. -/
def State.bootStage (s : State) : Nat := s.rf bootStatR 27 24
/-- `BOOT_STAT.FAIL`. -/
def State.bootFailed (s : State) : Nat := s.rf bootStatR 39 32

/-- The boot goes on with a phase. -/
def State.toPhase (s : State) (n : Nat) : State := { s with boot := { s.boot with phase := n } }

/-- A boot step fails (R432, R435): a set of chip select 0 is followed, once, by that of chip select 1; else the boot ends, and Awl
runs. A failed self-test of the service trio is the safe state. -/
def State.bootFail (s : State) (code : Nat) : State :=
  if 1 ≤ code ∧ code ≤ 3 ∧ !s.boot.staged ∧ s.bootSrc % 3 = 0 ∧ s.rf bootStatR 16 16 = 0 then
    ((s.setRf bootStatR 16 16 1).setRf bootStatR 27 24 0).toPhase 3
  else
    let s := ((s.setRf bootStatR 39 32 code).setRf bootStatR 27 24 4).toPhase 10
    let s := { s.setRf pmbStatR 1 0 0 with power := { s.power with alarm := true } }
    let s := s.sysEvent 0x07 [3, s.reg bootStatR]
    if code = 8 then s.safeState 0x15 0 true else s

/-- An image of the set in use: its header and its payload. -/
def State.image (s : State) (type : Nat) : List Byte × List Byte :=
  match s.boot.images.find? (fun e => decide (e.1 = type)) with
  | some e => e.2
  | none => ([], [])

/-- An image's payload is written to its LOAD address. -/
def State.loadImage (s : State) (type : Nat) : State :=
  let m := s.image type
  (s.physStore { agent := 84, tid := 0, w := decide (type = 1) } (leAt m.1 16 8) m.2 m.2.length).1

/-- The service trio goes on at an address with `CSTAT`. -/
def State.svcGoes (s : State) (pc : Nat) (cstat : Dword) : State :=
  s.modCore 252 (fun k =>
    let a := { k.arch with pc := canonPc (BitVec.ofNat 64 pc), slot := none, pend := [], csr := SMap.put 0 k.arch.csr 0x100 cstat }
    { k with arch := a, run := .running })

/-- A register write by the programs of the service trio; `w`: by the Sealed monitor. False where it is refused. -/
def State.fwWrite (s : State) (w : Bool) (r : RegRef) (v : Dword) : State × Bool :=
  let old := (s.core 252).cstat
  let s := if bit old 5 = w then s else s.modCore 252 (fun k => k.setCsr 0x100 (setBit k.cstat 5 w))
  let res := s.mcsWrite (.core ⟨252, by decide⟩) r.off 3 v
  let back := fun (s : State) => if bit old 5 = w then s else s.modCore 252 (fun k => k.setCsr 0x100 old)
  match res with
  | .ok s => (back s, true)
  | .wait s => (back s, true)
  | _ => (back s, false)

/-- Doublewords of a payload written to registers in order; false where any is refused. -/
def State.fwRun (s : State) (w : Bool) (p : List Byte) (rs : List RegRef) : State × Bool :=
  (rs.zipIdx).foldl (fun (x : State × Bool) e =>
    let y := x.1.fwWrite w e.1 (dwAt p e.2)
    (y.1, x.2 && y.2)) (s, true)

/-- The registers of a platform description, in the order of R433. -/
def platformRegs : List RegRef :=
  (List.range 8).map (fun i => ⟨.quadCfg, 0, i, 0⟩) ++ [⟨.ftuCfg, 0, 0, 0⟩, ⟨.ftuAlign, 0, 0, 0⟩, ⟨.xlSys, 0, 0, 0⟩, hitCfgR] ++
    (List.range 12).map (fun i => ⟨.mcCfg, 0, i, 0⟩)

/-- The set of the source is read and tested (step 2), and the Sealed monitor and Cobbler are loaded. -/
def State.bootAttempt (s : State) : State :=
  match s.testSet (if s.boot.staged then .staged else .flash (s.rf bootStatR 16 16)) with
  | .error c => s.bootFail c
  | .ok imgs =>
    let s := { s with boot := { s.boot with images := imgs } }
    let s := (s.loadImage 1).loadImage 2
    ((s.svcGoes (leAt (s.image 1).1 24 8) 0x38).setRf bootStatR 27 24 1).toPhase 4

/-- Step 3: Cobbler starts; the Policy Mailbox is served. -/
def State.startCobbler (s : State) : State :=
  let h := (s.image 2).1
  let s := (s.svcGoes (leAt h 24 8) 0x10).setRf bootStatR 27 24 2
  ((s.setRf pmbStatR 1 0 1).setRf pmbStatR 31 16 (leAt h 8 4 % 2 ^ 16)).toPhase 5

/-- Step 4: with every channel trained, or Lost, `MC_CFG` is set and the boot store ends; then the dies are asked to start. -/
def State.endTraining (s : State) : State :=
  if !(List.range 12).any (fun m => (s.mc m).trained.isSome) then s.bootFail 4
  else
    let p := (s.image 5).2
    let s := (s.fwRun false (p.drop 96) ((List.range 12).map (fun i => ⟨.mcCfg, 0, i, 0⟩))).1
    let s := s.writeBootStat 4
    (forN 12 (fun d s => (s.fwWrite false pwrReqR (BitVec.ofNat 64 ((84 + d) <<< 32 ||| 1))).1) s).toPhase 6

/-- Step 5: with the dies started, the trios' self-tests run and the platform's registers are set; the ticks run. -/
def State.startPlatform (s : State) : State :=
  let s := forN 84 (fun t s => if s.powered t then s.writeRctl t (s.reg ⟨.trioRctl, t, 0, 0⟩ ||| 2) else s) s
  let p := (s.image 5).2
  let s := (s.fwRun false p (platformRegs.take 8)).1
  let s := (s.fwWrite false ⟨.xlSys, 0, 0, 0⟩ (dwAt p 10)).1
  let s := (s.fwWrite false ⟨.ftuCfg, 0, 0, 0⟩ (setBit (dwAt p 8) 0 false)).1
  let s := (s.fwWrite false ⟨.ftuAlign, 0, 0, 0⟩ (dwAt p 9)).1
  (s.fwWrite false ⟨.ftuCfg, 0, 0, 0⟩ (setBit (dwAt p 8) 0 true)).1.toPhase 7

/-- Steps 6 to 8: the limits, with their locks; the Custom Decode Table; season 0 is loaded. -/
def State.setLimits (s : State) : State :=
  let p := (s.image 3).2
  let (s, ok) := s.fwRun true p
    ([⟨.limClassaMin, 0, 0, 0⟩, limCapR] ++ (List.range 8).map (fun i => ⟨.sealRange, 0, i, 0⟩) ++ [⟨.secCtl, 0, 0, 0⟩])
  if !ok then s.bootFail 5
  else
    let s := (s.fwWrite true limCapR (setBit (dwAt p 1) 63 true)).1
    let s := (s.fwWrite true ⟨.secCtl, 0, 0, 0⟩ (setBit (dwAt p 10) 21 true)).1
    let c := (s.image 4).2
    let s := if c.isEmpty then s
      else
        let s := (s.fwRun false c ((List.range 32).map (fun i => ⟨.cdtSlot, 0, i, 0⟩) ++
          (List.range 256).map (fun i => ⟨.cdtUop, 0, i, 0⟩))).1
        (s.fwWrite false ⟨.cdtCtl, 0, 0, 0⟩ 1).1
    let s := s.loadImage 6
    (s.fwWrite false seasonLoadR (BitVec.ofNat 64 (leAt (s.image 6).1 16 8) ||| 1)).1.toPhase 8

/-- The season has been loaded into slot 0, or refused. -/
def State.enableSeason (s : State) : State :=
  if !s.valid 0 then s.bootFail 6 else (s.fwWrite false seasonCtlR 8).1.toPhase 9

/-! ### The partition manager (steps 9 and 10) -/

/-- A bucket's first free slot: its address. -/
def State.freeEntry (s : State) (pa : Nat) : Option Nat :=
  ((List.range 8).map (fun i => pa + 16 * i)).find? (fun a => !bit (BitVec.ofNat 64 (ofBytes ((List.range 8).map (fun j => s.physByte (a + j))))) 63)

/-- An entry goes into the first free slot of its primary bucket, or of its secondary bucket (R139, R431). -/
def State.enterHit (s : State) (vpn asid : Nat) (d0 d1 : Dword) : Option State :=
  let h := hashOf (s.rf hitCfgR 8 4) vpn 0 asid
  match (s.freeEntry (s.bucketPa h.1)).or (s.freeEntry (s.bucketPa h.2)) with
  | none => none
  | some a => some (s.physStore { agent := 84, tid := 0, w := false } a (toBytes d0.toNat 8 ++ toBytes d1.toNat 8) 16).1

/-- The pages of the boot map: page, frame, rights, type (R434). -/
def bootPages (h : List Byte) : List (Nat × Nat × Nat × Nat) :=
  (List.range (min 8 (leAt h 283 1))).flatMap (fun r =>
    let b := 288 + 24 * r
    (List.range (leAt h (b + 16) 4)).map (fun i =>
      (leAt h b 8 / 4096 + i, leAt h (b + 8) 8 / 4096 + i, leAt h (b + 20) 1, leAt h (b + 21) 1)))

/-- The boot map entered in the table, each page under the image's ASID and under ASID 0xFFF; none when a page finds no slot. -/
def State.enterMap (s : State) (asid : Nat) : List (Nat × Nat × Nat × Nat) → Option State
  | [] => some s
  | (v, f, rwx, mt) :: rest =>
    let d1 : Dword := BitVec.ofNat 64 (f % 2 ^ 34 <<< 30 ||| rwx % 2 <<< 29 ||| rwx / 2 % 2 <<< 28 ||| rwx / 4 % 2 <<< 27 |||
      mt % 8 <<< 23 ||| 1 <<< 21 ||| 1 <<< 20 ||| 1 <<< 18 ||| 1 <<< 17)
    let d0 := fun (a : Nat) => (BitVec.ofNat 64 (1 <<< 63 ||| a <<< 44 ||| v % 2 ^ 36 <<< 8) : Dword)
    match s.enterHit (v % 2 ^ 36) asid (d0 asid) d1 with
    | none => none
    | some s =>
      match s.enterHit (v % 2 ^ 36) 0xFFF (d0 0xFFF) d1 with
      | none => none
      | some s => s.enterMap asid rest

/-- Queue DMA zeroes the table. -/
def State.zeroHit (s : State) : State :=
  let lo := s.rf hitCfgR 45 21 * 0x200000
  let hi := lo + 2 ^ s.rf hitCfgR 8 4 * 0x80
  { s with mem := s.mem.filter (fun e => decide (e.1 < lo ∨ hi ≤ e.1))
           poison := s.poison.filter (fun l => decide (64 * l < lo ∨ hi ≤ 64 * l))
           msc := { s.msc with lines := s.msc.lines.filter (fun l => decide (64 * l.line.toNat < lo ∨ hi ≤ 64 * l.line.toNat)) } }

/-- The descriptor of the partition manager's first context: what R431 does not state is free, within what CREATE accepts (R254;
assumption 6). -/
def State.pmDesc (s : State) (h : List Byte) : State × List Dword :=
  let n := s.free
  let draw := fun (i k : Nat) => (Config.freeValue (n + i)).toNat % k
  let need := s.demands 0
  let muls := (List.range (min 64 s.frames)).filter (fun k => decide (s.frames % (k + 1) = 0))
  let pmul := muls.getD (draw 5 muls.length) 0
  let vec : Dword := BitVec.ofNat 64 (leAt h 40 8)
  let d0 := setFld (setFld (setFld (setFld (setFld (Config.freeValue n) 63 63 1) 62 58 0) 57 46 (leAt h 281 2 % 4096)) 28 27
    (need + draw 6 (3 - need))) 22 22 1
  let d2 := setFld (setFld (setFld (setFld (Config.freeValue (n + 2)) 20 0 (1 + draw 7 1048576)) 26 21 pmul) 32 27 (draw 8 (pmul + 1))) 52 33
    (draw 9 s.period)
  ({ s with free := n + 10 }, [d0, Config.freeValue (n + 1), d2, Config.freeValue (n + 3), BitVec.ofNat 64 (leAt h 24 8),
    BitVec.ofNat 64 (leAt h 32 8), Config.freeValue (n + 4), vec, vec] ++ List.replicate 7 0)

/-- Steps 9 and 10: the partition manager is loaded, its boot map entered, its vector base set, its first context created and
started. -/
def State.startManager (s : State) : State :=
  let s := s.loadImage 7
  let h := (s.image 7).1
  let s := (s.zeroHit.fwWrite false hitCfgR (dwAt (s.image 5).2 11)).1.zeroHit
  match s.enterMap (leAt h 281 2 % 4096) (bootPages h) with
  | none => s.bootFail 9
  | some s =>
    let vec := evecBase (BitVec.ofNat 64 (leAt h 40 8))
    let s := forN 252 (fun c s => if s.powered (trioOf c) ∧ (s.logOf (trioOf c)).isSome then s.modCore c (fun k => k.setCsr 0x206 vec) else s) s
    let t := s.physOf (leAt h 280 1 / 8 % 16) (leAt h 280 1 % 8)
    let s := match t with
      | none => s
      | some t =>
        match s.lowFree t with
        | none => s
        | some n =>
          let (s, d) := s.pmDesc h
          let id := s.cidOf t n
          let hnd : BitVec 12 := (Config.freeValue s.free).truncate 12
          let s := { s with free := s.free + 1 }
          if s.checkDesc 0 d ≠ 0 then s
          else
            let s := s.setSlot t n { state := .dormant, desc := withCid d id, eff := withCid d id, arch := newArch d, fdone := true
                                     late := true, handle := hnd, tid := 0 }
            s.resolve 0 hnd.toNat id
    (s.setRf bootStatR 27 24 3).toPhase 10

/-! ### The phases -/

/-- What the boot does next, if a phase's condition holds. -/
def State.bootNext (s : State) : Option State :=
  if s.down || decide (s.rf ⟨.modIdent, 0, 0, 0⟩ 0 0 = 1) then none
  else
    match s.boot.phase with
    | 0 => some ((s.setRf (rstat svcTrio) 9 8 1).toPhase 1)
    | 1 =>
      if s.rf (rstat svcTrio) 9 8 = 2 then
        if s.bootSrc = 1 then some ((s.setRf pmbStatR 1 0 3).toPhase 2)
        else if s.bootSrc = 2 then some (s.toPhase 2)
        else some (s.toPhase 3)
      else none
    | 3 => some s.bootAttempt
    | 4 => if s.rf secStatReg 0 0 = 1 then some s.startCobbler else none
    | 5 => if (List.range 12).all (fun m => decide (s.chanState m ≠ 0)) then some s.endTraining else none
    | 6 => if (List.range 12).all (fun d => decide (s.dieState d = 2 ∨ s.dieState d = 3)) then some s.startPlatform else none
    | 7 => if (List.range 84).all (fun t => !s.powered t || decide (s.rf (rstat t) 9 8 ≠ 1)) then some s.setLimits else none
    | 8 => if s.rf seasonStatR 0 0 = 0 then some s.enableSeason else none
    | 9 => if s.gce.live then some s.startManager else none
    | _ => none

/-- BOOT_FAILURE (R432): a step of the boot that is in progress fails. -/
def execBootFailure (code : Byte) (s : State) : Host.Outcome State Fault Refusal :=
  done (
    if s.down ∨ 10 ≤ s.boot.phase ∨ code.toNat = 0 ∨ 9 < code.toNat then s else (s.bootFail code.toNat))

end Sys2Proof.Machine
end

