-- ==== Sys2Proof/Machine/Custom.lean ====
section
/-! DEFINITION. Custom instructions and reserved words (R40, R42, R62, R63). -/

namespace Sys2Proof.Machine

/-- What the micro-operations of a sequence share: the core at the custom instruction's position, the custom instruction's
fields, and the temporaries, which follow R43-R45 by micro-operation positions at keys 101-104 of a register file of their own. -/
structure Seq where
  core : Core
  ops : OpsB
  tmp : Core := {}
  /-- The flags of the micro-operations so far, with their distances (R47). -/
  flags : List (Nat × BitVec 5 × BitVec 3) := []
  deriving DecidableEq, Repr

/-- The register number that a selector supplies for a field of the base word. -/
def Seq.num (q : Seq) (sel : Nat) (field : BitVec 5) : BitVec 5 :=
  match sel with
  | 0 => field
  | 1 => q.ops.rd
  | 2 => q.ops.rs1
  | _ => BitVec.ofNat 5 (fld q.ops.imm 13 9)

/-- A source of a micro-operation: a temporary, or a g or f register at the custom instruction's position (R63). -/
def Seq.read (q : Seq) (isF : Bool) (sel : Nat) (field : BitVec 5) : Dword :=
  if 4 ≤ sel then q.tmp.arch.rd (97 + sel)
  else if isF then q.core.f (q.num sel field) else q.core.g (q.num sel field)

/-- A field of five bits of a base word. -/
def base5 (u : Dword) (lo : Nat) : BitVec 5 := BitVec.ofNat 5 (fld u (lo + 4) lo)

/-- The immediate of a micro-operation: the custom instruction's where IMMS = 1. -/
def Seq.imm (q : Seq) (u : Dword) : BitVec 14 := if bit u 41 then q.ops.imm else BitVec.ofNat 14 (fld u 13 0)

/-- The sources of a computational micro-operation. -/
def Seq.srcs (q : Seq) (u : Dword) (op : Cop) : Srcs :=
  let rs1 := base5 u 16
  let rs2 := base5 u 11
  let a := fld u 37 35
  let b := fld u 40 38
  { g1 := q.read false a rs1, g2 := q.read false b rs2, gd := q.read false (fld u 34 32) (base5 u 21)
    f1 := q.read true a rs1, f2 := q.read true b rs2, f3 := q.core.f (base5 u 6)
    pc := q.core.arch.pc, imm := q.imm u
    rm := match op with
      | .fma _ => fld u 5 3
      | _ => fld u 10 8
    frm := q.core.frm }

/-- A micro-operation before the last: its result goes to a temporary, or nowhere. -/
def Seq.early (q : Seq) (i : Nat) (u : Dword) : Seq :=
  let q := { q with tmp := q.tmp.settle i }
  match uopOf (u.truncate 32) with
  | some (.cop op) =>
    match op.run (q.srcs u op) with
    | some r =>
      let sel := fld u 34 32
      { q with
        tmp := if sel < 4 then q.tmp else q.tmp.produce ⟨i + r.dist, r.val.map (fun _ => 97 + sel), r.val.getD 0, 0, 0, none⟩
        flags := q.flags ++ [(r.dist, r.ff, r.af)] }
    | none => q
  | _ => q

/-- The last micro-operation, which alone may write a register, access memory or trap (R63). -/
def State.lastUop (s : State) (c : CoreId) (w : Word) (q : Seq) (u : Dword) : State × PosRes :=
  let sel := fld u 34 32
  let rd := q.num sel (base5 u 21)
  let k := q.core
  let m := fun (n : Nat) (signed : Bool) (dst : Option Nat) => ({
    word := w, va := q.read false (fld u 37 35) (base5 u 16) + simm (q.imm u), size := n, signed := signed
    dst := dst, flags := q.flags } : Mref)
  match uopOf (u.truncate 32) with
  | none => (s, .trap { cause := 0x05 })
  | some (.cop op) =>
    match op.run (q.srcs u op) with
    | none => (s, .trap { cause := 0x05 })
    | some r =>
      (s.modCore c.val (fun k => k.produce
        { k.resOf r rd with reg := if 4 ≤ sel then none else (k.resOf r rd).reg }), .next {} none)
  | some (.load n signed isF) => s.loadOp c { m n signed (if 4 ≤ sel then none else k.dest isF rd) with h := bit u 15 } none
  | some (.store n isF) => s.storeOp c (m n false none) (q.read isF sel (base5 u 21))

/-- A bound sequence executes as one position (R63). -/
def State.runSeq (s : State) (c : CoreId) (w : Word) (o : OpsB) (v : Dword) : State × PosRes :=
  let start := fld v 8 1
  let len := fld v 12 9
  let q := (List.range len).foldl (fun (q : Seq) i => q.early i (s.reg (cdtUopR (start + i)))) { core := s.core c.val, ops := o }
  let q := { q with tmp := q.tmp.settle len }
  match s.lastUop c w q (s.reg (cdtUopR (start + len))) with
  | (s, .next h sl) => (s.modCore c.val (fun k => k.seqFlags q.flags), .next h sl)
  | x => x

/-- CUSTOM_INSTRUCTION (R62, R63): slot number `slot` is major 0x38 + slot div 4 with m2 = slot mod 4. -/
def execCustomInstruction (c : CoreId) (slot : BitVec 5) (o : OpsB) (s : State) : Host.Outcome State Fault Refusal :=
  done (
    let w := wordB (BitVec.ofNat 6 (0x38 + slot.toNat / 4)) (BitVec.ofNat 2 slot.toNat) o
    (s.position c.val w false (fun s =>
      let v := s.reg (cdtSlotR slot.toNat)
      if !bit (s.reg cdtCtlR) 0 || !bit v 0 then (s, .trap { cause := 0x05 })
      else if bit v 13 && (s.core c.val).pl = 0 then (s, .trap { cause := 0x06 })
      else s.runSeq c w o v)))

/-- A word is a reserved instruction (R40, R42): its major or its minor is unassigned, or a field holds a value that traps. A CSR
number that R61 assigns to no level counts as one. -/
def reservedWord (w : Word) : Bool :=
  let major := wfld w 31 26
  let fn := wfld w 5 0
  let m2 := wfld w 15 14
  let fn4 := wfld w 15 12
  let rmBad (rm : Nat) : Bool := rm = 5 || rm = 6
  match major with
  | 0x00 => decide (0x1F < fn)
  | 0x01 => !(decide (fn ≤ 4) || decide (8 ≤ fn ∧ fn ≤ 0x0B) || fn = 0x10)
  | 0x02 => decide (1 < fn)
  | 0x03 => decide (4 < fn)
  | 0x04 | 0x05 => decide (9 < fn) || (decide (fn ≤ 4) && rmBad (wfld w 10 8))
  | 0x06 => rmBad (wfld w 5 3)
  | 0x07 => !(decide (fn ≤ 5) || decide (8 ≤ fn ∧ fn ≤ 0x13) || fn = 0x18) ||
      (decide (8 ≤ fn ∧ fn ≤ 0x0F) && rmBad (wfld w 10 8))
  | 0x09 => m2 = 3
  | 0x0B | 0x0D => decide (2 ≤ m2)
  | 0x0C => decide (1 ≤ m2)
  | 0x30 => decide (2 ≤ fn4) || csrMask (wfld w 11 0) = none
  | 0x31 | 0x32 => decide (5 ≤ fn4)
  | 0x33 => decide (3 ≤ fn4) || (fn4 = 0 && wfld w 1 0 = 0)
  | 0x34 => decide (3 ≤ fn4) || (fn4 ≠ 0 && wfld w 11 10 = 3)
  | m => m = 0x0F || m = 0x17 || decide (0x26 ≤ m ∧ m ≤ 0x27) || decide (0x2A ≤ m ∧ m ≤ 0x2F) || decide (0x35 ≤ m ∧ m ≤ 0x37)

/-- RESERVED_INSTRUCTION (R40): Reserved instruction at its own position. A word that another row spells is not this command, and
changes nothing (DESIGN CHOICE, assumption 33). -/
def execReservedInstruction (c : CoreId) (w : Word) (s : State) : Host.Outcome State Fault Refusal :=
  done (
    if reservedWord w then (s.position c.val w false (fun s => (s, .trap { cause := 0x04 }))) else s)

end Sys2Proof.Machine
end

