-- ==== Sys2Proof/Machine/Pmb.lean ====
section
/-! DEFINITION. The commands of the Policy Mailbox (R438-R442). A command is served when its row is given and its entry stands at
HEAD of its ring; one that a unit carries out completes while time passes, once the unit has ended it (assumption 29). -/

namespace Sys2Proof.Machine

/-- How Cobbler serves an entry: it completes with STATUS, SUB and results; it has begun; or it waits as it is. -/
inductive PmbRes where
  | ends (status sub : Nat) (res : List Dword)
  | begun
  /-- A KILL that waits for a detached access (R281): its end completes the entry. -/
  | held
  | waits
  deriving DecidableEq, Repr

/-- The Policy Mailbox is served: by Cobbler or, with ROM = 1, by the boot ROM (R438). -/
def State.pmbServes (s : State) : Bool := !s.down && bit (s.reg pmbStatR) 0 && decide (s.bootStage ≠ 4)
/-- The boot ROM serves ring 0 (R438). -/
def State.pmbRom (s : State) : Bool := bit (s.reg pmbStatR) 1
/-- Sealed services are available. -/
def State.sealedUp (s : State) : Bool := bit (s.reg secStatReg) 0

/-- The ring's entry at HEAD is being carried out. -/
def State.pmbBusy (s : State) (r : Nat) : Bool :=
  decide (SMap.get 0 s.boot.busy r ≠ 0) ||
    s.trios.any (fun e => e.2.slots.any (fun x => decide ((x.2.killQ).map (·.val) = some (33 + r))))


/-- Doubleword `i` of an entry, 1 to 7. -/
def argOf (e : PmbEntry) (i : Nat) : Nat := (e.args.getD (i - 1) 0).toNat

/-- The entry is the one at HEAD of its ring: its OP, its TAG and its arguments. -/
def State.pmbIs (s : State) (op : Nat) (e : PmbEntry) : Bool :=
  let r := e.ring.val
  let n := s.pmbHead r
  let d := s.reg (pmbDwR r n 0)
  s.pmbWaits r && decide (fld d 7 0 = op ∧ fld d 63 32 = e.tag.toNat) &&
    (List.range 7).all (fun i => decide ((s.reg (pmbDwR r n (i + 1))).toNat = argOf e (i + 1)))

/-- The OPs that are Sealed services (R440). -/
def sealedOp (op : Nat) : Bool := decide (op = 0x40 ∨ (0x50 ≤ op ∧ op ≤ 0x53))
/-- The OPs that the boot ROM accepts (R438). -/
def romOp (op : Nat) : Bool := decide (op = 1 ∨ op = 0x58 ∨ op = 0x59)

/-- A row of R440: Cobbler takes the entry at HEAD. Nothing happens while the row's entry is not there, or while the ring's entry is
being carried out. -/
def pmbRow (op : Nat) (e : PmbEntry) (act : State → State × PmbRes) (s : State) : Host.Outcome State Fault Refusal :=
  done (
    let r := e.ring.val
    if !s.pmbServes || !s.pmbIs op e || s.pmbBusy r || (s.pmbRom && decide (r ≠ 0)) then s
    else if s.pmbRom && !romOp op then (s.pmbEnd r 6 0 [])
    else if !s.pmbRom && (decide (op = 0x58) || decide (op = 0x59)) then (s.pmbEnd r 6 0 [])
    else if sealedOp op && !s.sealedUp then (s.pmbEnd r 7 0 [])
    else
      match act s with
      | (s', .ends st sub res) =>
        -- a module reset takes the ring with it
        if s'.pmbServes then (s'.pmbEnd r st sub res) else s'
      | (s', .begun) => { s' with boot := { s'.boot with busy := SMap.put 0 s'.boot.busy r op } }
      | (s', .held) => s'
      | (_, .waits) => s)

/-- A row that completes at once with a status and changes nothing else. -/
def refused (s : State) (st sub : Nat) : State × PmbRes := (s, .ends st sub [])

/-! ### Registers and identity -/

/-- INFO. -/
def execInfo (e : PmbEntry) (s : State) : Host.Outcome State Fault Refusal :=
  pmbRow 0x01 e (fun s => (s, .ends 0 0 ([⟨.modIdent, 0, 0, 0⟩, bootStatR, secStatReg, ⟨.expertCtl, 0, 0, 0⟩, ⟨.ftuStatus, 0, 0, 0⟩].map
    (fun (r : RegRef) => s.reg r)))) s

/-- The service trio, as Cobbler. -/
def cobbler : Requester := .core ⟨252, by decide⟩

/-- REG_READ. -/
def execRegRead (e : PmbEntry) (s : State) : Host.Outcome State Fault Refusal :=
  pmbRow 0x08 e (fun s =>
    match s.mcsRead cobbler (argOf e 1) 3 with
    | (s', .ok v) => (s', .ends 0 0 [v])
    | (_, .error x) => refused s 4 x) s

/-- What a masked write leaves in the bits outside the mask: a written field keeps its value, and an event bit is left alone. -/
def State.unmasked (s : State) (off : Nat) : Dword :=
  match mcsUnit off with
  | .reg r => r.reg.fields.foldl (fun (v : Dword) f =>
      if f.acc = .rw ∨ f.acc = .rwl then setFld v f.hi f.lo (s.rf r f.hi f.lo) else v) 0
  | .slot t n i => s.imgRead t n i
  | .none => 0

/-- REG_WRITE: a masked write, with every check of the register (R5, R14, R464); a request to a held domain is deferred (R309). -/
def execRegWrite (e : PmbEntry) (s : State) : Host.Outcome State Fault Refusal :=
  pmbRow 0x09 e (fun s =>
    let off := argOf e 1
    let m : Dword := BitVec.ofNat 64 (argOf e 3)
    let v : Dword := (BitVec.ofNat 64 (argOf e 2) &&& m) ||| (s.unmasked off &&& ~~~m)
    let ended := fun (s : State) =>
      let dom := if off = pwrReqR.off then some (s.rf pwrReqR 38 32)
        else (List.range 8).findSome? (fun q => if off = (quadR q).off then some (108 + q) else none)
      match dom with
      | some n => (s, PmbRes.ends (if s.rf (domR n) 7 4 = 3 then 8 else 0) 0 [])
      | none => (s, PmbRes.ends 0 0 [])
    match s.mcsWrite cobbler off 3 v with
    | .ok s' => ended s'
    | .wait s' => ended s'
    | .err 8 => refused s 5 0
    | .err 0 => if s.overLimit cobbler off v then refused s 3 0 else refused s 4 0
    | .err x => refused s 4 x
    | .stay => (s, .waits)) s

/-! ### The Expert level (R442) -/

/-- EXPERT_CHAL: 48 bytes in staging. -/
def execExpertChal (e : PmbEntry) (s : State) : Host.Outcome State Fault Refusal :=
  pmbRow 0x02 e (fun s =>
    let bs := fitBytes (Config.nonce s.sec.nonces) 32 ++ fitBytes Config.serial 16
    let s := { s with sec := { s.sec with nonces := s.sec.nonces + 1, expert := bs } }
    (forN 6 (fun i s => s.setReg ⟨.pmbStage, 0, i, 0⟩ (dwAt bs i)) s, .ends 0 0 [])) s

/-- EXPERT_RESP: the challenge serves one response; each grant and refusal is recorded. -/
def execExpertResp (e : PmbEntry) (s : State) : Host.Outcome State Fault Refusal :=
  pmbRow 0x03 e (fun s =>
    let chal := s.sec.expert
    let resp := s.regBytes .pmbStage 200
    let key := (resp.drop 4).take 97
    let h := Config.sha384 key
    let told := fun (s : State) => s.sysEvent 0x18 [s.reg dbgAuthR]
    if chal.isEmpty then refused s 6 0
    else
      let s := { s with sec := { s.sec with expert := [] } }
      if h ≠ Config.sdbgHash ∧ h ≠ Config.dbgHash then (told s, .ends 2 5 [])
      else if ofBytes (resp.take 4) ≠ 0x10 ∨ !Config.ecdsaOk key (chal ++ resp.take 4) ((resp.drop 104).take 96) then
        (told s, .ends 2 4 [])
      else (told (s.setReg ⟨.expertCtl, 0, 0, 0⟩ 1), .ends 0 0 [])) s

/-- EXPERT_DROP. -/
def execExpertDrop (e : PmbEntry) (s : State) : Host.Outcome State Fault Refusal :=
  pmbRow 0x04 e (fun s => (s.setReg ⟨.expertCtl, 0, 0, 0⟩ 0, .ends 0 0 [])) s

/-! ### Seasons, contexts and tenants -/

/-- SEASON_LOAD: completed when the load ends. -/
def execSeasonLoad (e : PmbEntry) (s : State) : Host.Outcome State Fault Refusal :=
  pmbRow 0x10 e (fun s =>
    let pa := argOf e 1
    let slot := argOf e 2
    if 4 ≤ slot ∨ pa % 4096 ≠ 0 ∨ 2 ^ 46 ≤ pa then refused s 2 0
    else if s.rf seasonStatR 0 0 = 1 then (s, .waits)
    else ((s.fwWrite false seasonLoadR (BitVec.ofNat 64 (pa ||| slot <<< 4 ||| 1))).1, .begun)) s

/-- The codes of R469 by which the limit registers refuse a table (R15). -/
def limitCode (c : Nat) : Bool := decide (c = 0x14 ∨ c = 0x20 ∨ c = 0x30)

/-- How a load that Cobbler asked for has ended. -/
def State.loadResult (s : State) : Nat × Nat :=
  let c := s.rf seasonStatR 63 56
  if c = 0 then (0, 0) else if limitCode c then (3, c) else (6, c)

/-- SEASON_ACTIVATE: completed at the activation. -/
def execSeasonActivate (e : PmbEntry) (s : State) : Host.Outcome State Fault Refusal :=
  pmbRow 0x11 e (fun s =>
    let slot := argOf e 1
    if 4 ≤ slot then refused s 2 0
    else if s.changePending ∨ !s.valid slot ∨ (!s.seasonsOn ∧ !s.running) then refused s 6 0
    else ((s.fwWrite false seasonCtlR (BitVec.ofNat 64 (slot <<< 6 ||| 0x18))).1, .begun)) s

/-- CXE: a context command served as queue 32. One that is refused completes with the command's status as SUB. -/
def execCxe (e : PmbEntry) (s : State) : Host.Outcome State Fault Refusal :=
  pmbRow 0x12 e (fun s =>
    let d : Dword := BitVec.ofNat 64 (argOf e 1)
    let tid := fld d 50 46
    if s.resetting tid then (s, .waits)
    else
      match s.command ⟨33 + e.ring.val, by omega⟩ tid d with
      | (s', .done st cid ended) => (s', .ends (if st = 0 then 0 else 6) st [cmdWord d st cid ended])
      | (s', .held) => (s', .held)) s

/-- TENANT_RESET: completed when the reset ends (R293). -/
def execTenantReset (e : PmbEntry) (s : State) : Host.Outcome State Fault Refusal :=
  pmbRow 0x13 e (fun s =>
    let t := argOf e 1
    if t = 0 ∨ 32 ≤ t then refused s 2 0
    else if s.resetting t then (s, .waits)
    else (s.tenantReset t, .begun)) s

/-! ### Memory channels (R334, R336) -/

/-- PPR: hard repair before the channel is Active, soft repair while no tenant of the active season holds CREDIT on it (R334). -/
def execPpr (e : PmbEntry) (s : State) : Host.Outcome State Fault Refusal :=
  pmbRow 0x20 e (fun s =>
    let m := Config.pprChannel (BitVec.ofNat 64 (argOf e 1))
    let hard := decide (argOf e 2 = 1)
    let credit := s.gce.live && (List.range 32).any (fun t => decide (SMap.get 0 (s.seasonCredits s.active) (12 * t + m) ≠ 0))
    if 12 ≤ m ∨ 2 ≤ argOf e 2 then refused s 2 0
    else if (hard && !decide (s.chanState m ≤ 1)) || (!hard && credit) then refused s 6 0
    else (s, .ends 0 0 [])) s

/-- CHANNEL_REMOVE. -/
def execChannelRemove (e : PmbEntry) (s : State) : Host.Outcome State Fault Refusal :=
  pmbRow 0x21 e (fun s =>
    let m := argOf e 1
    if 12 ≤ m then refused s 2 0
    else if s.chanState m = 2 ∨ s.chanState m = 4 then (s.chanGone m 5, .ends 0 0 [])
    else refused s 6 0) s

/-! ### Power, resets and spares -/

/-- STANDBY: entry is asked for (R409). -/
def execStandby (e : PmbEntry) (s : State) : Host.Outcome State Fault Refusal :=
  pmbRow 0x30 e (fun s => ({ s with power := { s.power with standbyAsk := true } }, .ends 0 0 [])) s

/-- RESET: as a write of `RST_CTL`, after a commit for a module reset (R405). The command is Basic: the register, with DIE, PTRIO and
CORE as given, is written whether or not the Expert level is open (DESIGN CHOICE, assumption 36). -/
def execReset (e : PmbEntry) (s : State) : Host.Outcome State Fault Refusal :=
  pmbRow 0x31 e (fun s =>
    let v : Dword := BitVec.ofNat 64 (argOf e 1)
    let s' := if fld v 2 0 = 1 then (s.drainAll 512).commitEnd else s
    match s'.writeRstCtl cobbler v with
    | .ok s'' => (s'', .ends 0 0 [])
    | .wait s'' => (s'', .ends 0 0 [])
    | .err x => refused s 4 x
    | .stay => (s, .waits)) s

/-- RETIRE: the spare takes the place of the trio; completed when the substitution ends (R287). -/
def execRetire (e : PmbEntry) (s : State) : Host.Outcome State Fault Refusal :=
  pmbRow 0x32 e (fun s =>
    let u := Config.retireUnit (BitVec.ofNat 64 (argOf e 1))
    if h : u.1 < 12 ∧ u.2 < 7 then
      match s.logOf (7 * u.1 + u.2) with
      | none => refused s 2 0
      | some k =>
        if s.spareReady u.1 false then
          (s.substitute ⟨u.1, h.1⟩ (Fin.ofNat 6 k) ⟨7 * u.1 + u.2, by omega⟩ .retire, .begun)
        else refused s 6 0
    else refused s 2 0) s

/-! ### Sole -/

/-- The positions of an area's tag records, oldest first (R419). -/
def State.tagsOf (s : State) (a : Nat) : List Nat :=
  let k := s.area a
  let n := areaCap a
  let order := if k.wrap then (List.range n).map (fun i => (k.next + i) % n) else List.range k.next
  order.filter (fun i => decide (fld ((SMap.get [] s.sole.recs (recKey a i)).getD 0 0) 47 44 = 15))

/-- The link that a tag record closes verifies: the tag over what stands before it is the one recorded. -/
def State.linkGood (s : State) (a i : Nat) : Bool :=
  let n := areaCap a
  let t := SMap.get [] s.sole.recs (recKey a i)
  let len := fld (t.getD 3 0) 5 0
  let recs := (List.range len).flatMap (fun j => SMap.get [] s.sole.recs (recKey a ((i + n - len + j) % n)))
  let tag := Config.soleMac (t.getD 2 0 :: t.getD 6 0 :: t.getD 7 0 :: recs)
  decide (tag.1 = t.getD 4 0 ∧ tag.2 = t.getD 5 0)

/-- SOLE_VERIFY: links are numbered from 0, the oldest that the area holds (assumption 30). -/
def execSoleVerify (e : PmbEntry) (s : State) : Host.Outcome State Fault Refusal :=
  pmbRow 0x40 e (fun s =>
    let a := argOf e 1
    let tags := s.tagsOf a
    let asked := (List.range (min (argOf e 3) (tags.length + 1))).map (· + argOf e 2)
    let good := fun (l : Nat) => match tags[l]? with
      | some i => s.linkGood a i
      | none => false
    if 34 ≤ a then refused s 2 0
    else (s, .ends 0 0 [BitVec.ofNat 64 (asked.filter good).length, match asked.find? (fun l => !good l) with
      | some l => BitVec.ofNat 64 l
      | none => BitVec.allOnes 64])) s

/-- SOLE_COMMIT: completed when the commit ends (R423). -/
def execSoleCommit (e : PmbEntry) (s : State) : Host.Outcome State Fault Refusal :=
  pmbRow 0x41 e (fun s => (s.commitStart, .begun)) s

/-! ### Images and the security block -/

/-- IMAGE_WRITE: not on the chip select of the running set. -/
def execImageWrite (e : PmbEntry) (s : State) : Host.Outcome State Fault Refusal :=
  pmbRow 0x50 e (fun s =>
    let cs := argOf e 1
    let off := argOf e 2
    let n := argOf e 3
    if 2 ≤ cs ∨ 0x8000 < n ∨ 2 ^ 32 < off + n then refused s 2 0
    else if !s.boot.staged ∧ cs = s.rf bootStatR 16 16 then refused s 6 0
    else
      let f := ((s.regBytes .pmbStage n).zipIdx).foldl (fun f x => SMap.put 0xFF f (cs * 2 ^ 32 + off + x.2) x.1) s.boot.flash
      ({ s with boot := { s.boot with flash := f } }, .ends 0 0 [])) s

/-- IMAGE_CHECK: the FAIL code that the set would give. -/
def execImageCheck (e : PmbEntry) (s : State) : Host.Outcome State Fault Refusal :=
  pmbRow 0x51 e (fun s =>
    if 2 ≤ argOf e 1 then refused s 2 0
    else (s, .ends 0 0 [match s.testSet (.flash (argOf e 1)) with
      | .ok _ => 0
      | .error c => BitVec.ofNat 64 c])) s

/-- ARB_ADVANCE (R436): above ARB, at most 128 and the VERSION of every image of the set in use. -/
def execArbAdvance (e : PmbEntry) (s : State) : Host.Outcome State Fault Refusal :=
  pmbRow 0x52 e (fun s =>
    let n := argOf e 1
    if n ≤ s.sec.arb ∨ 128 < n ∨ s.boot.images.any (fun i => decide (leAt i.2.1 8 4 < n)) then refused s 2 0
    else ({ s with sec := { s.sec with arb := n } }, .ends 0 0 [])) s

/-- SEALED_RESTART: `SEC_STAT.RESTART` is written (R307). As a Sealed service it is refused while they are unavailable (R440). -/
def execSealedRestart (e : PmbEntry) (s : State) : Host.Outcome State Fault Refusal :=
  pmbRow 0x53 e (fun s => (s.sealedRestart, .ends 0 0 [])) s

/-! ### The boot ROM's commands (R438) -/

/-- BOOT_LOAD: staging into the upper 8 MiB of the boot store. -/
def execBootLoad (e : PmbEntry) (s : State) : Host.Outcome State Fault Refusal :=
  pmbRow 0x58 e (fun s =>
    let n := argOf e 2
    if 0x8000 < n ∨ 0x800000 < argOf e 1 + n then refused s 2 0
    else ((s.physStore { agent := 84, tid := 0, w := false } (0xA00000 + argOf e 1) (s.regBytes .pmbStage n) n).1, .ends 0 0 [])) s

/-- The staged set boots: step 2 follows. -/
def State.bootStaged (s : State) : State :=
  { s.setRf pmbStatR 1 0 0 with boot := { s.boot with staged := true, phase := 3 } }

/-- BOOT_GO: the entry completes and the set boots. -/
def execBootGo (e : PmbEntry) (s : State) : Host.Outcome State Fault Refusal :=
  pmbRow 0x59 e (fun s => ((s.pmbEnd e.ring.val 0 0 []).bootStaged, .ends 0 0 [])) s

/-! ### What completes while time passes -/

/-- The OPs of R440. -/
def pmbOps : List Nat :=
  [1, 2, 3, 4, 8, 9, 0x10, 0x11, 0x12, 0x13, 0x20, 0x21, 0x30, 0x31, 0x32, 0x40, 0x41, 0x50, 0x51, 0x52, 0x53, 0x58, 0x59]

/-- How the operation of OP that ring `r` awaits has ended, if it has: STATUS, SUB and results. -/
def State.pmbEnded (s : State) (r op : Nat) : Option (Nat × Nat × List Dword) :=
  let a1 := (s.reg (pmbDwR r (s.pmbHead r) 1)).toNat
  let when := fun (b : Bool) => if b then some (0, 0, ([] : List Dword)) else none
  match op with
  | 0x10 => if s.rf seasonStatR 0 0 = 0 then some (s.loadResult.1, s.loadResult.2, [s.reg seasonStatR]) else none
  | 0x11 => when (!s.changePending)
  | 0x13 => when (!s.resetting a1)
  | 0x32 => when (!s.gce.subst.any (fun x => decide (x.die.val = (Config.retireUnit (BitVec.ofNat 64 a1)).1)))
  | 0x41 => when (!bit (s.reg soleStatR) 0)
  | _ => none

/-- The end of what ring `r` awaits, or an entry of an unassigned OP (R439): status 0x01, from the boot ROM 0x06. -/
def State.pmbNext (s : State) (r : Nat) : Option State :=
  if !s.pmbServes || !s.pmbWaits r then none
  else
    let op := SMap.get 0 s.boot.busy r
    if op ≠ 0 then
      (s.pmbEnded r op).map (fun x =>
        ({ s with boot := { s.boot with busy := SMap.put 0 s.boot.busy r 0 } }).pmbEnd r x.1 x.2.1 x.2.2)
    else if s.pmbRom && decide (r ≠ 0) then none
    else if !pmbOps.contains (fld (s.reg (pmbDwR r (s.pmbHead r) 0)) 7 0) then
      some (s.pmbEnd r (if s.pmbRom then 6 else 1) 0 [])
    else none

end Sys2Proof.Machine
end

