-- ==== Sys2Proof/Machine/Clock.lean ====
section
/-! DEFINITION. The passage of time on an empty queue. -/

namespace Sys2Proof.Machine

/-- At a multiple of 10 units every hold-off counter counts down (R321); the last unit of one ends by HOLD_OFF_EXPIRY (assumption
68). -/
def State.countHoldOff (s : State) : State :=
  if s.timebase.toNat % 10 ≠ 0 then s
  else forN 64 (fun g s =>
    let n := s.rf (gctlR g) 31 16
    if 2 ≤ n then s.setRf (gctlR g) 31 16 (n - 1) else s) s

/-- 10 ns pass (DESIGN CHOICE, assumption 1): the timebase advances by one unit, or stands still through a backward phase
step (R222), or for a unit at the end of a frame that is lengthened (R226). -/
def pass (s : State) : State :=
  if 0 < s.ftu.hold then { s with ftu := { s.ftu with hold := s.ftu.hold - 1 } }
  else if s.lengthens then { s with ftu := { s.ftu with slew := s.ftu.slew + 1, corrected := true } }
  else { s with timebase := s.timebase + 1 }.countHoldOff

/-- What the programs of the service trio do next: the boot's next phase (R431), or the completion of what the Policy Mailbox
awaits (R437); none, when nothing is due. -/
def State.firmware (s : State) : Option State := (s.bootNext.or (s.pmbNext 0)).or (s.pmbNext 1)

/-- Time passes on an empty queue, and the programs of the service trio go on (assumptions 1, 28 and 29). -/
def idle (s : State) : State :=
  match (pass s).firmware with
  | some s => s.finish
  | none => pass s

end Sys2Proof.Machine
end

