-- ==== Sys2Proof/Machine/Awl.lean ====
section
/-! DEFINITION. Awl (R443-R445) and the JTAG port (R446). A request comes as a whole frame whose CHK and LEN are right. -/

namespace Sys2Proof.Machine

/-! ### Frames (R444) -/

/-- Awl runs alone: started by the boot ROM under BOOT_SRC = 0b10, after a boot failure, or in the safe state (R443). -/
def State.awlAlone (s : State) : Bool :=
  decide (s.bootStage = 4) || (decide (s.bootStage = 0) && decide (s.bootSrc = 2) && decide (s.boot.phase = 2))
/-- Awl answers: alone, or served by Cobbler; never while the service trio is held stopped (R25). -/
def State.awlServes (s : State) : Bool :=
  !s.down && !s.sec.svcTrioFailed && (s.awlAlone || decide (s.bootStage = 2) || decide (s.bootStage = 3))

/-- A response frame: CHK makes the 8-bit sum from LEN on zero. -/
def awlFrame (seq : Byte) (status : Nat) (payload : List Byte) : List Byte :=
  let body := BitVec.ofNat 8 (payload.length + 2) :: seq :: BitVec.ofNat 8 status :: payload
  0x5A :: body ++ [0 - body.foldl (· + ·) 0]

/-- A response is sent, and kept for a repetition of its request. -/
def State.awlSend (s : State) (seq : Byte) (status : Nat) (payload : List Byte) : State :=
  let f := awlFrame seq status payload
  { s with boot := { s.boot with lastSeq := some seq, lastResp := f, awlOut := s.boot.awlOut ++ [f] } }

/-- A request (R444, R445): one with the SEQ of the last executed receives that one's response again; one whose debug enable is
missing is refused with 0x03; `alone`: a command that Cobbler does not serve. What follows a response is done after it. -/
def awlRow (r : AwlReq) (enable : Option Nat) (alone : Bool) (act : State → List Byte → State × Nat × List Byte)
    (s : State) : Host.Outcome State Fault Refusal :=
  done (
    if !s.awlServes ∨ 253 < r.payload.length then s
    else if s.boot.lastSeq = some r.seq then
      { s with boot := { s.boot with awlOut := s.boot.awlOut ++ [s.boot.lastResp] } }
    else if enable.any (fun i => !s.dbgEn i) then (s.awlSend r.seq 3 [])
    else if alone && !s.awlAlone then (s.awlSend r.seq 6 [])
    else
      let x := act s r.payload
      -- a module reset takes the response with it
      (if x.1.awlServes || alone then x.1.awlSend r.seq x.2.1 x.2.2 else x.1))

/-- A register's eight bytes. -/
def State.regLe (s : State) (r : RegRef) : List Byte := toBytes (s.reg r).toNat 8

/-! ### Identity and debug enables -/

/-- HELLO. -/
def execHello (r : AwlReq) (s : State) : Host.Outcome State Fault Refusal :=
  awlRow r none false (fun s _ => (s, 0, s.regLe ⟨.modIdent, 0, 0, 0⟩ ++ s.regLe bootStatR ++ s.regLe dbgEnR)) s

/-- BAUD: the new rate follows the response. -/
def execBaud (r : AwlReq) (s : State) : Host.Outcome State Fault Refusal :=
  awlRow r none false (fun s p =>
    match p with
    | [i] => if i.toNat ≤ 6 then ({ s with boot := { s.boot with baud := i.toNat } }, 0, []) else (s, 2, [])
    | _ => (s, 2, [])) s

/-- AWL_BAUD_TIMEOUT (R443). -/
def execAwlBaudTimeout (s : State) : Host.Outcome State Fault Refusal :=
  done (
    if s.awlServes then { s with boot := { s.boot with baud := 0 } } else s)

/-- AWL_FRAME_GAP_TIMEOUT (R444): the partial frame is discarded with no response. A request comes to the model whole, so no state
holds a part of one. -/
def execAwlFrameGapTimeout (s : State) : Host.Outcome State Fault Refusal := done s

/-- CHAL (R311). -/
def execChal (r : AwlReq) (s : State) : Host.Outcome State Fault Refusal :=
  awlRow r none false (fun s _ =>
    if s.rf dbgAuthR 7 4 = 2 then (s, 5, [])
    else
      let s := s.writeDbgAuth 1
      (s, 0, s.regBytes .dbgChal 48)) s

/-- RESP (R311): the response is written, then GO. -/
def execResp (r : AwlReq) (s : State) : Host.Outcome State Fault Refusal :=
  awlRow r none false (fun s p =>
    if p.length ≠ 200 then (s, 2, [])
    else if s.rf dbgAuthR 7 4 = 2 then (s, 5, [])
    else
      let s := (forN 25 (fun i s => s.setReg ⟨.dbgResp, 0, i, 0⟩ (dwAt p i)) s).writeDbgAuth 2
      (s, 0, s.regLe dbgAuthR)) s

/-! ### Memory and registers -/

/-- A physical read by the service trio with W = 0: its bytes, or the sub-cause of the error. What a device or another module answers
is free (assumption 6), and so is the sub-cause of a read of poison, which the spec does not state. -/
def State.awlRead (s : State) (pa width : Nat) : State × Except Byte (List Byte) :=
  let free := { s with free := s.free + 1 }
  if pa % width ≠ 0 ∧ s.region pa ≠ .mcs then (s, .error 0x0A)
  else
    match s.region pa with
    | .mcs =>
      match s.mcsRead .awl (pa - 0x3F0000000000) (sizeLog width) with
      | (s, .ok v) => (s, .ok (toBytes v.toNat width))
      | (s, .error e) => (s, .error (BitVec.ofNat 8 e))
    | .dram =>
      match s.rdShared { agent := 84, tid := 0, w := false } (pa / 64) true false with
      | (s, .ok (d, false, _)) => (s, .ok (toBytes (lineNum d (pa % 64) width) width))
      | (s, .ok _) => ({ s with free := s.free + 1 }, .error ((Config.freeValue s.free).truncate 8))
      | (s, .error .world) => (s, .error 4)
      | (s, .error (.device e)) => (s, .error (BitVec.ofNat 8 e))
    | .rom => (s, .ok ((List.range width).map (fun i => Config.bootRom (pa + i - 0x3FFFFFF00000))))
    | .xspi =>
      let cs := s.rf ⟨.xspiPage, 0, 0, 0⟩ 32 32
      (s, .ok ((List.range width).map (fun i => s.flashByte cs (s.xspiOff pa + i))))
    | .pcie | .remote => (free, .ok (toBytes (Config.freeValue s.free).toNat width))
    | .unpopulated => (s, .error 1)

/-- `n` values from an address: the first error ends the command. -/
def State.awlReads (s : State) (pa width : Nat) : Nat → List Byte → State × Nat × List Byte
  | 0, acc => (s, 0, acc)
  | n + 1, acc =>
    match s.awlRead pa width with
    | (s, .ok bs) => s.awlReads (pa + width) width n (acc ++ bs)
    | (s, .error e) => (s, 4, [e])

/-- READ. -/
def execRead (r : AwlReq) (s : State) : Host.Outcome State Fault Refusal :=
  awlRow r (some 1) false (fun s p =>
    let w := leAt p 8 1
    let n := leAt p 9 1
    if p.length ≠ 10 ∨ (w ≠ 4 ∧ w ≠ 8) ∨ n = 0 ∨ 30 < n then (s, 2, []) else s.awlReads (leAt p 0 8) w n []) s

/-- A physical write by the service trio with W = 0: the status and the sub-cause. -/
def State.awlWrite (s : State) (pa : Nat) (bs : List Byte) : State × Nat × List Byte :=
  let bad := fun (s : State) (e : Nat) => (s, 4, [BitVec.ofNat 8 e])
  if pa % bs.length ≠ 0 ∧ s.region pa ≠ .mcs then bad s 0x0A
  else
    match s.region pa with
    | .mcs =>
      match s.mcsWrite .awl (pa - 0x3F0000000000) (sizeLog bs.length) (BitVec.ofNat 64 (ofBytes bs)) with
      | .ok s => (s, 0, [])
      | .wait s => (s, 0, [])
      | .err e => bad s e
      | .stay => (s, 5, [])
    | .dram =>
      let p := linePatch (pa % 64) bs.length (ofBytes bs)
      match s.ncWrite { agent := 84, tid := 0, w := false } (pa / 64) p.1 p.2 with
      | (s, .ok _) => (s, 0, [])
      | (s, .error .world) => bad s 4
      | (s, .error (.device e)) => bad s e
    | .pcie | .remote | .xspi => (s, 0, [])
    | .rom => bad s 2
    | .unpopulated => bad s 1

/-- Values of a width written in order: the first error ends the command. -/
def State.awlWrites (s : State) (pa width : Nat) (bs : List Byte) : Nat → State × Nat × List Byte
  | 0 => (s, 0, [])
  | n + 1 =>
    match s.awlWrite pa (bs.take width) with
    | (s, 0, _) => s.awlWrites (pa + width) width (bs.drop width) n
    | x => x

/-- WRITE. -/
def execWrite (r : AwlReq) (s : State) : Host.Outcome State Fault Refusal :=
  awlRow r (some 0) false (fun s p =>
    let w := leAt p 8 1
    let bs := p.drop 9
    if (w ≠ 4 ∧ w ≠ 8) ∨ bs = [] ∨ 240 < bs.length ∨ bs.length % w ≠ 0 then (s, 2, [])
    else s.awlWrites (leAt p 0 8) w bs (bs.length / w)) s

/-! ### Records, contexts and links -/

/-- SOLE. -/
def execSole (r : AwlReq) (s : State) : Host.Outcome State Fault Refusal :=
  awlRow r (some 1) false (fun s p =>
    let a := leAt p 0 1
    let n := leAt p 5 1
    if p.length ≠ 6 ∨ 33 < a ∨ n = 0 ∨ 3 < n then (s, 2, [])
    else (s, 0, (List.range n).flatMap (fun i => s.soleBytes a (leAt p 1 4 + i)))) s

/-- CTXLIST: the `SLOT_STAT` of sixteen slots. -/
def execCtxlist (r : AwlReq) (s : State) : Host.Outcome State Fault Refusal :=
  awlRow r (some 1) false (fun s p =>
    let d := leAt p 0 1
    let t := leAt p 1 1
    let n := leAt p 2 1
    if p.length ≠ 3 ∨ 12 ≤ d ∨ 7 ≤ t ∨ 48 < n then (s, 2, [])
    else if !s.powered (7 * d + t) then (s, 4, [6])
    else if s.dieState d = 3 ∨ s.dieState d = 4 then (s, 4, [7])
    else (s, 0, (List.range 16).flatMap (fun i => toBytes (s.slotStat (7 * d + t) (n + i)).toNat 8))) s

/-- LINKLIST. -/
def execLinklist (r : AwlReq) (s : State) : Host.Outcome State Fault Refusal :=
  awlRow r (some 1) false (fun s _ =>
    (s, 0, ((List.range 12).map plinkR ++ (List.range 3).map (fun i => (⟨.xlStatus, 0, i, 0⟩ : RegRef)) ++
      (List.range 8).map quadR).flatMap s.regLe)) s

/-! ### Loading and booting a set -/

/-- LOAD. -/
def execLoad (r : AwlReq) (s : State) : Host.Outcome State Fault Refusal :=
  awlRow r (some 0) true (fun s p =>
    let bs := p.drop 4
    if p.length < 5 ∨ 240 < bs.length ∨ 0x800000 < leAt p 0 4 + bs.length then (s, 2, [])
    else
      match s.physStore { agent := 84, tid := 0, w := false } (0xA00000 + leAt p 0 4) bs bs.length with
      | (s, .ok _) => (s, 0, [])
      | (s, _) => (s, 4, [1])) s

/-- BOOT: the response is sent and the staged set boots. -/
def execBoot (r : AwlReq) (s : State) : Host.Outcome State Fault Refusal :=
  awlRow r (some 0) true (fun s _ => (s.bootStaged, 0, [])) s

/-! ### JTAG -/

/-- JTAG_INSTRUCTION (R446). EXTEST, CLAMP and HIGHZ take effect only while MOD_RESET_N is held low, which no state between commands
shows; otherwise they act as BYPASS. -/
def execJtagInstruction (ir : JtagIr) (s : State) : Host.Outcome State Fault Refusal :=
  done (
    let ir' : JtagIr := match ir with
      | .extest | .clamp | .highz => .bypass
      | x => x
    if s.power.supplyReset then s else { s with boot := { s.boot with tap := ir' } })

end Sys2Proof.Machine
end

