-- ==== Sys2Proof/Machine/Branch.lean ====
section
/-! DEFINITION. Branches and jumps with their delay slots, and the predictor they train (R54-R56, R90-R96). -/

namespace Sys2Proof.Machine

/-! ### The predictor (R92-R95) -/

/-- The direction table's index for an address under a key. -/
def dirIdx (key : Word) (pc : Dword) : Nat := fld pc 13 2 ^^^ fld key 11 0 ^^^ fld key 23 12
/-- The target buffer's index. -/
def btbIdx (key : Word) (pc : Dword) : Nat := fld pc 10 2 ^^^ fld key 8 0
/-- The target buffer's tag. -/
def btbTag (key : Word) (pc : Dword) : Nat := fld pc 20 11 ^^^ fld key 18 9
/-- An address as the target buffer and the return stack hold it: Address[47:2] XOR (K ‖ K[13:0]). -/
def scramble (key : Word) (a : Dword) : Dword :=
  BitVec.ofNat 64 (fld a 47 2 ^^^ (key.toNat <<< 14 ||| fld key 13 0))

/-- The target buffer's prediction, in its stored form. -/
def Core.btbHit (k : Core) (pc : Dword) : Option Dword :=
  let e := SMap.get (1024, 0) k.btb (btbIdx k.key pc)
  if e.1 = btbTag k.key pc then some e.2 else none

/-- A taken branch's target enters the target buffer. -/
def Core.btbPut (k : Core) (pc tgt : Dword) : Core :=
  { k with btb := SMap.put (1024, 0) k.btb (btbIdx k.key pc) (btbTag k.key pc, scramble k.key tgt) }

/-- An address from the form in which the target buffer and the return stack hold it. -/
def unscramble (key : Word) (x : Dword) : Dword := canonPc (BitVec.ofNat 64 (fld (x ^^^ scramble key 0) 45 0 * 4))

/-- The target that a conditional branch is predicted to take, if any (R92). -/
def Core.guessCond (k : Core) (pc : Dword) : Option Dword :=
  if 2 ≤ SMap.get 1 k.dirTab (dirIdx k.key pc) then k.btbHit pc else none

/-- A conditional branch passes X1: the counter moves, a taken one's target is kept, and nothing of one not taken (DESIGN CHOICE,
assumption 41). Answers whether it was mispredicted. -/
def Core.trainCond (k : Core) (pc tgt : Dword) (taken : Bool) : Core × Bool :=
  let i := dirIdx k.key pc
  let n := SMap.get 1 k.dirTab i
  let guess := decide (2 ≤ n)
  let miss := (guess != taken) || (taken && decide (k.btbHit pc ≠ some (scramble k.key tgt)))
  let k' := { k with dirTab := SMap.put 1 k.dirTab i (if taken then min (n + 1) 3 else n - 1) }
  (if taken then k'.btbPut pc tgt else k', miss)

/-- A push on the eight-entry circular return stack (R92). -/
def Core.rasPush (k : Core) (a : Dword) : Core :=
  let l := k.ras ++ [scramble k.key a]
  { k with ras := l.drop (l.length - 8), rasAt := some k.arch.posn }

/-- The stored form of the target that a jump at the PC is predicted to take (R93). A return fewer than three positions after the
call that pushed the top entry reads the stack without it (R94). -/
def Core.guessJump (k : Core) (pc : Dword) (ret : Bool) : Option Dword :=
  let seen := if k.rasAt.any (fun p => decide (k.arch.posn < p + 3)) then k.ras.dropLast else k.ras
  if ret then seen.getLast?.or (k.btbHit pc) else k.btbHit pc

/-- A jump passes X1 (R93): `ret` predicts from the return stack and pops it, `call` pushes the link. Every jump enters the target
buffer, returns included (DESIGN CHOICE, assumption 41). -/
def Core.trainJump (k : Core) (pc tgt : Dword) (ret call : Bool) : Core × Bool :=
  let miss := decide (k.guessJump pc ret ≠ some (scramble k.key tgt))
  let k := if ret then { k with ras := k.ras.dropLast } else k
  let k := k.btbPut pc tgt
  (if call then k.rasPush (pc + 8) else k, miss)

/-- The trained core is stored, whether prediction is on or off (DESIGN CHOICE, assumption 41); with prediction on a misprediction
is counted. -/
def State.trained (s : State) (c : Nat) (r : Core × Bool) : State :=
  let s := s.setCore c r.1
  if r.2 && r.1.pred then s.countCore c 0x07 else s

/-! ### The instructions (R54) -/

/-- A conditional branch: taken when `p` holds of rs; annulled slot when not taken with A = 1. -/
def branchInstr (c : CoreId) (major : BitVec 6) (p : Dword → Bool) (o : OpsD) (s : State) : Host.Outcome State Fault Refusal :=
  done (s.position c.val (wordD major o) true (fun s =>
    let k := s.core c.val
    let pc := k.arch.pc
    let taken := p (k.g o.rs)
    let tgt := pc + wordDisp o.disp
    let s := s.followed c.val ((k.guessCond pc).map (unscramble k.key)) (canonPc (if taken then tgt else pc + 8))
    (s.trained c.val ((s.core c.val).trainCond pc tgt taken),
      .next { branch := some taken, taken := taken } (some ⟨pc, taken, tgt, o.a && !taken⟩))))

/-- J, JAL and JALR: the link, if any, at distance 1, then the jump after the delay slot. -/
def jumpTo (c : Nat) (tgt : Dword) (link : Option (BitVec 5)) (annul ret indir : Bool) (s : State) : State × PosRes :=
  let k := s.core c
  let pc := k.arch.pc
  let s := s.followed c ((k.guessJump pc ret).map (unscramble k.key)) (canonPc tgt)
  let s := s.trained c ((s.core c).trainJump pc tgt ret (decide (link = some 31)))
  let s := match link with
    | some rd => s.modCore c (fun k => k.give false rd (pc + 8) 1)
    | none => s
  (s, .next { taken := true, indir := if indir then some tgt else none } (some ⟨pc, true, tgt, annul⟩))

/-- BEQZ: taken if rs = 0. -/
def execBeqz (c : CoreId) (o : OpsD) (s : State) : Host.Outcome State Fault Refusal := branchInstr c 0x20 (fun x => decide (x = 0)) o s
/-- BNEZ: taken if rs is not 0. -/
def execBnez (c : CoreId) (o : OpsD) (s : State) : Host.Outcome State Fault Refusal := branchInstr c 0x21 (fun x => decide (x ≠ 0)) o s
/-- BLTZ: taken if rs < 0. -/
def execBltz (c : CoreId) (o : OpsD) (s : State) : Host.Outcome State Fault Refusal := branchInstr c 0x22 (fun x => x.msb) o s
/-- BGEZ: taken if rs ≥ 0. -/
def execBgez (c : CoreId) (o : OpsD) (s : State) : Host.Outcome State Fault Refusal := branchInstr c 0x23 (fun x => !x.msb) o s
/-- BLEZ: taken if rs ≤ 0. -/
def execBlez (c : CoreId) (o : OpsD) (s : State) : Host.Outcome State Fault Refusal :=
  branchInstr c 0x24 (fun x => x.msb || decide (x = 0)) o s
/-- BGTZ: taken if rs > 0. -/
def execBgtz (c : CoreId) (o : OpsD) (s : State) : Host.Outcome State Fault Refusal :=
  branchInstr c 0x25 (fun x => !x.msb && decide (x ≠ 0)) o s

/-- J. -/
def execJ (c : CoreId) (o : OpsE) (s : State) : Host.Outcome State Fault Refusal :=
  done (s.position c.val (wordE 0x28 o) true (fun s =>
    jumpTo c.val ((s.core c.val).arch.pc + wordDisp o.disp) none o.a false false s))
/-- JAL: links the address + 8 in g31. -/
def execJal (c : CoreId) (o : OpsE) (s : State) : Host.Outcome State Fault Refusal :=
  done (s.position c.val (wordE 0x29 o) true (fun s =>
    jumpTo c.val ((s.core c.val).arch.pc + wordDisp o.disp) (some 31) o.a false false s))
/-- JALR: links the address + 8 in rd and jumps to rs1 + imm14; bit [15] is A, bit [14] is ignored. -/
def execJalr (c : CoreId) (m2 : BitVec 2) (o : OpsB) (s : State) : Host.Outcome State Fault Refusal :=
  done (s.position c.val (wordB 0x0E m2 o) true (fun s =>
    jumpTo c.val ((s.core c.val).g o.rs1 + simm o.imm) (some o.rd) (bit m2 1)
      (decide (o.rs1 = 31 ∧ (o.rd = 0 ∨ o.rd = 31))) true s))

end Sys2Proof.Machine
end

