-- ==== Sys2Proof/Machine/Debug.lean ====
section
/-! DEFINITION. The invasive debug actions (R219-R221, R310). An action on core 0 of a redundant stream is one on the
stream, whichever copy leads it (DESIGN CHOICE, assumption 27). The later copies stand with the lead, so that they replay a halt and
a step at once, and a register write or a store when they resume: until then it is an entry of the replay queue. -/

namespace Sys2Proof.Machine

/-- The core on which an action on core `c` acts: the lead of its stream. -/
def State.debugCore (s : State) (c : CoreId) : CoreId :=
  if h : s.leadOf c.val < 255 then ⟨s.leadOf c.val, h⟩ else c

/-- The error of an action on core `c` (R31, R219, R310): a die without power, a copy other than core 0, an enable that is 0;
`high`: the action concerns what only PL3 reaches. -/
def State.debugRefused (s : State) (c : Nat) (high : Bool) : Option Byte :=
  if !s.powered (trioOf c) then some 6
  else if s.isCopy c then some 0
  else if (s.core (s.leadOf c)).w || high then (if s.dbgEn 2 then none else some 4)
  else if s.dbgEn 0 then none
  else some 4

/-- The replay queue of a redundant stream has no free entry (R220). -/
def State.replayFull (s : State) (c : Nat) : Bool :=
  s.throughWelt c && decide (16 ≤ (s.core c).replay.length + (s.core c).debugStores.length)

/-- A register takes the debugger's value at once. A CSR takes it as CSRWR writes it. -/
def State.debugSet (s : State) (c : Nat) (r : DebugReg) (v : Dword) : State :=
  match r with
  | .g n => s.modCore c (fun k => if n = 0 then k else { k with arch := k.arch.wr (gKey k.infast n) v })
  | .f n => s.modCore c (fun k => { k with arch := k.arch.wr (32 + n.toNat) v })
  | .csr n => s.csrWrite c n.toNat v
  | .pc => s.modCore c (fun k => { k with arch := { k.arch with pc := canonPc v } })

/-- Whether a register is one that only PL3 reaches: a CSR of numbers 0x300 and above (R61). -/
def regHigh : DebugReg → Bool
  | .csr n => decide (3 ≤ csrLevel n.toNat)
  | _ => false

/-- A store by the debugger (R220): performed through the core's translation and merging buffer, and compared like any store.
One that fails is answered to the debugger, and the core takes no trap (assumption 27). None: it waits. -/
def State.debugStore (s : State) (c : CoreId) (va : Dword) (size : Nat) (v : Dword) : State × Option (Option Byte) :=
  match s.translate c.val .store va with
  | (s, .stay) => (s, none)
  | (s, .trap x) => (s, some (some (BitVec.ofNat 8 x.sub)))
  | (s, .ok p) =>
    let line := p.pa / 64
    let m : Mref := { word := 0, va := va, size := size }
    let x := loadVal size false v
    if m.misaligned && (m.crosses || !p.mayMisalign) then (s, some (some 0x0A))
    else if p.region = .mcs then
      match s.mcsWrite (.core c) (p.pa - 0x3F0000000000) (sizeLog size) v with
      | .ok u => (s.compared u c.val { l1 := true, store := true, l2 := true, l2data := true }, some none)
      | .err e => (s, some (some (BitVec.ofNat 8 e)))
      | .wait s => (s, some none)
      | .stay => (s, none)
    else if p.region = .unpopulated then (s, some (some 1))
    else
      let s := if (s.core c.val).mergeFull line p.ty then s.drainFirst c.val else s
      if (s.core c.val).mergeFull line p.ty ∨ s.fenced c.val then (s, none)
      else
        let d := linePatch (p.pa % 64) size x.toNat
        let u := s.modCore c.val (fun k =>
          (k.breakResv line).mergeIn line (s.tidOn c.val) k.w p.ty d.1 d.2)
        let dev := decide (p.ty = .devStrict ∨ p.ty = .devRelaxed)
        (s.compared (if dev then u.drainMerge c.val else u) c.val { l1 := true, store := true, l2 := dev, l2data := dev }, some none)

/-- The stores that await resumption, performed in order; false: one waits, and it and the later ones remain. -/
def State.debugFlush (s : State) (c : CoreId) : List (Dword × Nat × Dword) → State × Bool
  | [] => (s.modCore c.val (fun k => { k with debugStores := [] }), true)
  | x :: rest =>
    match s.debugStore c x.1 x.2.1 x.2.2 with
    | (s, none) => (s.modCore c.val (fun k => { k with debugStores := x :: rest }), false)
    | (s, some _) => s.debugFlush c rest

/-- The halted core goes on (R220): the copies take the recorded register writes, the recorded stores are performed, and the
core issues again; `one`: for one position. -/
def State.debugGo (s : State) (c : CoreId) (one : Bool) : State :=
  match s.debugFlush c (s.core c.val).debugStores with
  | (s, false) => s
  | (s, true) => (s.modCore c.val (fun k => { k with halted := false, stepOne := one, replay := [] })).answer (.ok 0)

/-- An action of the debugger that passes its checks; a module that is down answers nothing, and the TAP must have selected the
debug access port (R446). -/
def State.debugAct (s : State) (c : Nat) (high : Bool) (act : State → State) : State :=
  if s.down || s.dapAbsent (.dap false) then s
  else
    match s.debugRefused c high with
    | some e => s.answer (.err e)
    | none => act s

/-- A halt (R220, R221). One that OI allows of a core at W = 1 waits at the port for W = 0 (R310). -/
def execDebugHalt (c : CoreId) (s : State) : Host.Outcome State Fault Refusal :=
  done (
    let l := s.debugCore c
    if !s.down ∧ !s.dapAbsent (.dap false) ∧ s.powered (trioOf c.val) ∧ !s.isCopy c.val ∧ (s.core l.val).w ∧ s.dbgEn 0 ∧ !s.dbgEn 2 then
      (s.modCore l.val (fun k => { k with haltWait := true }))
    else (s.debugAct c.val false (fun s => if s.replayFull l.val then s else (s.askHalt l.val).answer (.ok 0))))

/-- A register write while halted (R220). -/
def execDebugRegisterWrite (c : CoreId) (r : DebugReg) (v : Dword) (s : State) : Host.Outcome State Fault Refusal :=
  done (
    let l := (s.debugCore c).val
    (s.debugAct c.val (regHigh r) (fun s =>
      if !(s.core l).halted || s.replayFull l then s
      else
        let s := if s.throughWelt l then s.modCore l (fun k => { k with replay := k.replay ++ [(k.arch.posn, r, v)] }) else s
        (s.debugSet l r v).answer (.ok 0))))

/-- A memory write through the core (R220): at the next position while it runs, at resumption while it is halted. -/
def execDebugMemoryWrite (c : CoreId) (va : Dword) (size : Fin 4) (v : Dword) (s : State) : Host.Outcome State Fault Refusal :=
  done (
    let l := s.debugCore c
    (s.debugAct c.val false (fun s =>
      if s.replayFull l.val then s
      else if (s.core l.val).halted then
        (s.modCore l.val (fun k => { k with debugStores := k.debugStores ++ [(va, 2 ^ size.val, v)] })).answer (.ok 0)
      else if !s.issuing l.val then s
      else
        match s.debugStore l va (2 ^ size.val) v with
        | (s, none) => s
        | (s, some none) => s.answer (.ok 0)
        | (s, some (some e)) => s.answer (.err e))))

/-- A single step of a halted core (R220); it waits while the replay queue is full. -/
def execDebugSingleStep (c : CoreId) (s : State) : Host.Outcome State Fault Refusal :=
  done (
    let l := s.debugCore c
    (s.debugAct c.val false (fun s => if !(s.core l.val).halted || s.replayFull l.val then s else s.debugGo l true)))

/-- A halted core resumes (R220). -/
def execDebugResume (c : CoreId) (s : State) : Host.Outcome State Fault Refusal :=
  done (
    let l := s.debugCore c
    (s.debugAct c.val false (fun s => if !(s.core l.val).halted then s else s.debugGo l false)))

end Sys2Proof.Machine
end

