-- ==== Sys2Proof/Machine/Floating.lean ====
section
/-! DEFINITION. The floating-point instructions that produce a result at a fixed distance (R39, R73-R87). -/

namespace Sys2Proof.Machine

/-- FADD: addition (R80). -/
def execFadd (c : CoreId) (dbl : Bool) (o : OpsA) (s : State) : Host.Outcome State Fault Refusal :=
  instrA c (if dbl then 0x04 else 0x05) 0x00 (.fp dbl 0) o s

/-- FSUB: subtraction (R80). -/
def execFsub (c : CoreId) (dbl : Bool) (o : OpsA) (s : State) : Host.Outcome State Fault Refusal :=
  instrA c (if dbl then 0x04 else 0x05) 0x01 (.fp dbl 1) o s

/-- FMUL: multiplication (R81). -/
def execFmul (c : CoreId) (dbl : Bool) (o : OpsA) (s : State) : Host.Outcome State Fault Refusal :=
  instrA c (if dbl then 0x04 else 0x05) 0x02 (.fp dbl 2) o s

/-- FMIN: minimumNumber (R83). -/
def execFmin (c : CoreId) (dbl : Bool) (o : OpsA) (s : State) : Host.Outcome State Fault Refusal :=
  instrA c (if dbl then 0x04 else 0x05) 0x05 (.fp dbl 5) o s

/-- FMAX: maximumNumber (R83). -/
def execFmax (c : CoreId) (dbl : Bool) (o : OpsA) (s : State) : Host.Outcome State Fault Refusal :=
  instrA c (if dbl then 0x04 else 0x05) 0x06 (.fp dbl 6) o s

/-- FSGNJ: copy sign, bits unchanged (R78). -/
def execFsgnj (c : CoreId) (dbl : Bool) (o : OpsA) (s : State) : Host.Outcome State Fault Refusal :=
  instrA c (if dbl then 0x04 else 0x05) 0x07 (.fp dbl 7) o s

/-- FSGNJN: copy negated sign (R78). -/
def execFsgnjn (c : CoreId) (dbl : Bool) (o : OpsA) (s : State) : Host.Outcome State Fault Refusal :=
  instrA c (if dbl then 0x04 else 0x05) 0x08 (.fp dbl 8) o s

/-- FSGNJX: XOR of signs (R78). -/
def execFsgnjx (c : CoreId) (dbl : Bool) (o : OpsA) (s : State) : Host.Outcome State Fault Refusal :=
  instrA c (if dbl then 0x04 else 0x05) 0x09 (.fp dbl 9) o s

/-- FMADD (R81): rounded once. -/
def execFmadd (c : CoreId) (dbl : Bool) (o : OpsFma) (s : State) : Host.Outcome State Fault Refusal :=
  instrFma c (if dbl then 0 else 4) o s

/-- FMSUB (R81): rounded once. -/
def execFmsub (c : CoreId) (dbl : Bool) (o : OpsFma) (s : State) : Host.Outcome State Fault Refusal :=
  instrFma c (if dbl then 1 else 5) o s

/-- FNMADD (R81): rounded once. -/
def execFnmadd (c : CoreId) (dbl : Bool) (o : OpsFma) (s : State) : Host.Outcome State Fault Refusal :=
  instrFma c (if dbl then 2 else 6) o s

/-- FNMSUB (R81): rounded once. -/
def execFnmsub (c : CoreId) (dbl : Bool) (o : OpsFma) (s : State) : Host.Outcome State Fault Refusal :=
  instrFma c (if dbl then 3 else 7) o s

/-- FEQ: quiet equality (R83). -/
def execFeq (c : CoreId) (dbl : Bool) (o : OpsA) (s : State) : Host.Outcome State Fault Refusal :=
  instrA c 0x07 (if dbl then 0x00 else 0x03) (.fpx (if dbl then 0x00 else 0x03)) o s

/-- FLT: signalling less-than (R83). -/
def execFlt (c : CoreId) (dbl : Bool) (o : OpsA) (s : State) : Host.Outcome State Fault Refusal :=
  instrA c 0x07 (if dbl then 0x01 else 0x04) (.fpx (if dbl then 0x01 else 0x04)) o s

/-- FLE: signalling less-or-equal (R83). -/
def execFle (c : CoreId) (dbl : Bool) (o : OpsA) (s : State) : Host.Outcome State Fault Refusal :=
  instrA c 0x07 (if dbl then 0x02 else 0x05) (.fpx (if dbl then 0x02 else 0x05)) o s

/-- FCLASS: one-hot class (R84). -/
def execFclass (c : CoreId) (dbl : Bool) (o : OpsA) (s : State) : Host.Outcome State Fault Refusal :=
  instrA c 0x07 (if dbl then 0x12 else 0x13) (.fpx (if dbl then 0x12 else 0x13)) o s

/-- FcvtSD: binary64 to binary32 (R85). -/
def execFcvtSD (c : CoreId) (o : OpsA) (s : State) : Host.Outcome State Fault Refusal := instrA c 0x07 0x09 (.fpx 0x09) o s

/-- FcvtDS: binary32 to binary64 (R85). -/
def execFcvtDS (c : CoreId) (o : OpsA) (s : State) : Host.Outcome State Fault Refusal := instrA c 0x07 0x08 (.fpx 0x08) o s

/-- FcvtLD: binary64 to signed integer (R86). -/
def execFcvtLD (c : CoreId) (o : OpsA) (s : State) : Host.Outcome State Fault Refusal := instrA c 0x07 0x0A (.fpx 0x0A) o s

/-- FcvtLuD: binary64 to unsigned integer (R86). -/
def execFcvtLuD (c : CoreId) (o : OpsA) (s : State) : Host.Outcome State Fault Refusal := instrA c 0x07 0x0E (.fpx 0x0E) o s

/-- FcvtLS: binary32 to signed integer (R86). -/
def execFcvtLS (c : CoreId) (o : OpsA) (s : State) : Host.Outcome State Fault Refusal := instrA c 0x07 0x0C (.fpx 0x0C) o s

/-- FcvtDL: signed integer to binary64 (R87). -/
def execFcvtDL (c : CoreId) (o : OpsA) (s : State) : Host.Outcome State Fault Refusal := instrA c 0x07 0x0B (.fpx 0x0B) o s

/-- FcvtDLu: unsigned integer to binary64 (R87). -/
def execFcvtDLu (c : CoreId) (o : OpsA) (s : State) : Host.Outcome State Fault Refusal := instrA c 0x07 0x0F (.fpx 0x0F) o s

/-- FcvtSL: signed integer to binary32 (R87). -/
def execFcvtSL (c : CoreId) (o : OpsA) (s : State) : Host.Outcome State Fault Refusal := instrA c 0x07 0x0D (.fpx 0x0D) o s

/-- FmvXD: bits of an f register to a g register (R78). -/
def execFmvXD (c : CoreId) (o : OpsA) (s : State) : Host.Outcome State Fault Refusal := instrA c 0x07 0x10 (.fpx 0x10) o s

/-- FmvDX: bits of a g register to an f register (R78). -/
def execFmvDX (c : CoreId) (o : OpsA) (s : State) : Host.Outcome State Fault Refusal := instrA c 0x07 0x11 (.fpx 0x11) o s

end Sys2Proof.Machine
end

