-- ==== Sys2Proof/Machine/Hostbar.lean ====
section
/-! DEFINITION. The host's accesses through the BARs of the command port (R352-R354). -/

namespace Sys2Proof.Machine

/-- An access of the host to the Module Configuration Space as `who`: the value or the error goes back to it. -/
def State.hostMcs (s : State) (who : Requester) (off : Nat) (size : Fin 4) (wr : Option Dword) : State :=
  match wr with
  | some v => s.write who off size v
  | none =>
    match s.mcsRead who off size with
    | (s, .ok v) => s.answer (.ok v)
    | (s, .error e) => s.answer (.err (BitVec.ofNat 8 e))

/-- Page 2 of VF `t`'s BAR0: the table's doublewords at 0, the PBA at 0x800 (PRESUMED, assumption 18). -/
def State.hostMsix (s : State) (t o : Nat) (size : Fin 4) (wr : Option Dword) : State :=
  if !sizeOk o size then s.answer (.err 0x0A)
  else if o < 64 then
    match wr with
    | some v => (s.writeMsix t (o / 8) v).answer (.ok 0)
    | none => s.answer (.ok (s.readMsix t (o / 8)))
  else
    match wr with
    | some _ => s.answer (.ok 0)
    | none => s.answer (.ok (if o = 0x800 then (SMap.get 0 s.links.msixPba t).zeroExtend 64 else 0))

/-- Page 3 of VF `t`'s BAR0 (R354): a write of the upper word, or of the doubleword, rings the doorbell; a doubleword's MSI bits
send their vectors (DEDUCED, assumption 25). -/
def State.hostPage3 (s : State) (t o : Nat) (size : Fin 4) (wr : Option Dword) : State :=
  match wr with
  | some v =>
    if size = 2 ∧ o = 4 then (s.hostBell t (fld v 31 0)).answer (.ok 0)
    else if size = 3 ∧ o = 0 then ((s.hostBell t (fld v 63 32)).writeVfdb t v).answer (.ok 0)
    else s.hostMcs (.vf (Fin.ofNat 32 t)) (0x35040000 + 0x1000 * t + o) size wr
  | none => s.hostMcs (.vf (Fin.ofNat 32 t)) (0x35040000 + 0x1000 * t + o) size wr

/-- An access through VF `t`'s window (R353): translated with TID t, best-effort; a failed one receives Completer Abort and is
recorded. -/
def State.hostWindow (s : State) (t o : Nat) (size : Fin 4) (wr : Option Dword) : State :=
  let cfg := s.reg ⟨.cpVfcfg, 0, t, 0⟩
  let k := SMap.get 20 s.links.vfBar t
  let base := fld cfg 47 20 * 2 ^ 20 / 2 ^ k * 2 ^ k
  let va := simm (BitVec.ofNat 48 (base + o))
  let e : Eng := ⟨0x56, t, fld cfg 63 52, false⟩
  let n := 2 ^ size.val
  let abort := fun (s : State) => (s.accessRecord t va).answer (.err 0)
  if 2 ^ k ≤ o then s
  else if !bit cfg 6 then abort s
  else
    match wr with
    | some v =>
      match s.engStore e va (toBytes v.toNat n) 2 with
      | (s, .ok _, _) => s.answer (.ok 0)
      | (s, .fail _, _) => abort s
      | (s, .stay, _) => s
    | none =>
      match s.engLoad e va n 2 with
      | (s, .ok bs) => s.answer (.ok (BitVec.ofNat 64 (ofBytes bs)))
      | (s, .fail _) => abort s
      | (s, .stay) => s

/-- HOST_BAR_ACCESS (R352, R353). The host reaches the module while the command port's link is up; VFs are numbered from 1. -/
def execHostBarAccess (b : HostBar) (off : BitVec 36) (size : Fin 4) (wr : Option Dword) (s : State) :
    Host.Outcome State Fault Refusal :=
  done (
    let o := off.toNat
    if s.down ∨ !s.links.cpUp then s
    else
      match b with
      | .pf0Bar0 => (if o < 0x10000 then s.hostMcs .pf0 (0x3C000000 + o) size wr else s)
      | .pf0Bar2 => (if o < 0x100000000 then s.hostMcs .pf0 o size wr else s)
      | .vfBar0 t =>
        if t.val = 0 then s
        else
          match o / 0x1000 with
          | 0 => (s.hostMcs (.vf t) (0x30140000 + 0x1000 * t.val + o) size wr)
          | 1 => (s.hostMcs (.vf t) (0x338E0000 + 0x1000 * t.val + o % 0x1000) size wr)
          | 2 => (s.hostMsix t.val (o % 0x1000) size wr)
          | 3 => (s.hostPage3 t.val (o % 0x1000) size wr)
          | _ => s
      | .vfBar2 t => if t.val = 0 then s else (s.hostWindow t.val o size wr))

end Sys2Proof.Machine
end

