-- ==== Sys2Proof/Machine/Integer.lean ====
section
/-! DEFINITION. The integer instructions of majors 0x00 and 0x08 to 0x0D, the multiplies and packed decimal (R38, R39, R44, R46,
R66, R71). -/

namespace Sys2Proof.Machine

/-- ADD (R39): INT minor 0x00, rd := rs1 + rs2 at distance 1. -/
def execAdd (c : CoreId) (o : OpsA) (s : State) : Host.Outcome State Fault Refusal := instrA c 0x00 0x00 (.int 0x00) o s

/-- SUB (R39): INT minor 0x01, rd := rs1 - rs2. -/
def execSub (c : CoreId) (o : OpsA) (s : State) : Host.Outcome State Fault Refusal := instrA c 0x00 0x01 (.int 0x01) o s

/-- AND (R39): INT minor 0x02, bitwise AND. -/
def execAnd (c : CoreId) (o : OpsA) (s : State) : Host.Outcome State Fault Refusal := instrA c 0x00 0x02 (.int 0x02) o s

/-- OR (R39): INT minor 0x03, bitwise OR. -/
def execOr (c : CoreId) (o : OpsA) (s : State) : Host.Outcome State Fault Refusal := instrA c 0x00 0x03 (.int 0x03) o s

/-- XOR (R39): INT minor 0x04, bitwise XOR. -/
def execXor (c : CoreId) (o : OpsA) (s : State) : Host.Outcome State Fault Refusal := instrA c 0x00 0x04 (.int 0x04) o s

/-- ANDN (R39): INT minor 0x05, rs1 AND NOT rs2. -/
def execAndn (c : CoreId) (o : OpsA) (s : State) : Host.Outcome State Fault Refusal := instrA c 0x00 0x05 (.int 0x05) o s

/-- ORN (R39): INT minor 0x06, rs1 OR NOT rs2. -/
def execOrn (c : CoreId) (o : OpsA) (s : State) : Host.Outcome State Fault Refusal := instrA c 0x00 0x06 (.int 0x06) o s

/-- XNOR (R39): INT minor 0x07, NOT (rs1 XOR rs2). -/
def execXnor (c : CoreId) (o : OpsA) (s : State) : Host.Outcome State Fault Refusal := instrA c 0x00 0x07 (.int 0x07) o s

/-- SLL (R39): INT minor 0x08, left shift by rs2[5:0]. -/
def execSll (c : CoreId) (o : OpsA) (s : State) : Host.Outcome State Fault Refusal := instrA c 0x00 0x08 (.int 0x08) o s

/-- SRL (R39): INT minor 0x09, logical right shift by rs2[5:0]. -/
def execSrl (c : CoreId) (o : OpsA) (s : State) : Host.Outcome State Fault Refusal := instrA c 0x00 0x09 (.int 0x09) o s

/-- SRA (R39): INT minor 0x0A, arithmetic right shift by rs2[5:0]. -/
def execSra (c : CoreId) (o : OpsA) (s : State) : Host.Outcome State Fault Refusal := instrA c 0x00 0x0A (.int 0x0A) o s

/-- ROR (R39): INT minor 0x0B, rotate right by rs2[5:0]. -/
def execRor (c : CoreId) (o : OpsA) (s : State) : Host.Outcome State Fault Refusal := instrA c 0x00 0x0B (.int 0x0B) o s

/-- SLT (R39): INT minor 0x0C, signed set-less-than. -/
def execSlt (c : CoreId) (o : OpsA) (s : State) : Host.Outcome State Fault Refusal := instrA c 0x00 0x0C (.int 0x0C) o s

/-- SLTU (R39): INT minor 0x0D, unsigned set-less-than. -/
def execSltu (c : CoreId) (o : OpsA) (s : State) : Host.Outcome State Fault Refusal := instrA c 0x00 0x0D (.int 0x0D) o s

/-- MIN (R39): INT minor 0x0E, signed minimum. -/
def execMin (c : CoreId) (o : OpsA) (s : State) : Host.Outcome State Fault Refusal := instrA c 0x00 0x0E (.int 0x0E) o s

/-- MAX (R39): INT minor 0x0F, signed maximum. -/
def execMax (c : CoreId) (o : OpsA) (s : State) : Host.Outcome State Fault Refusal := instrA c 0x00 0x0F (.int 0x0F) o s

/-- MINU (R39): INT minor 0x10, unsigned minimum. -/
def execMinu (c : CoreId) (o : OpsA) (s : State) : Host.Outcome State Fault Refusal := instrA c 0x00 0x10 (.int 0x10) o s

/-- MAXU (R39): INT minor 0x11, unsigned maximum. -/
def execMaxu (c : CoreId) (o : OpsA) (s : State) : Host.Outcome State Fault Refusal := instrA c 0x00 0x11 (.int 0x11) o s

/-- ADDW (R39): INT minor 0x12, 32-bit add, sign-extended. -/
def execAddw (c : CoreId) (o : OpsA) (s : State) : Host.Outcome State Fault Refusal := instrA c 0x00 0x12 (.int 0x12) o s

/-- SUBW (R39): INT minor 0x13, 32-bit subtract, sign-extended. -/
def execSubw (c : CoreId) (o : OpsA) (s : State) : Host.Outcome State Fault Refusal := instrA c 0x00 0x13 (.int 0x13) o s

/-- SLLW (R39): INT minor 0x14, 32-bit left shift by rs2[4:0]. -/
def execSllw (c : CoreId) (o : OpsA) (s : State) : Host.Outcome State Fault Refusal := instrA c 0x00 0x14 (.int 0x14) o s

/-- SRLW (R39): INT minor 0x15, 32-bit logical right shift. -/
def execSrlw (c : CoreId) (o : OpsA) (s : State) : Host.Outcome State Fault Refusal := instrA c 0x00 0x15 (.int 0x15) o s

/-- SRAW (R39): INT minor 0x16, 32-bit arithmetic right shift. -/
def execSraw (c : CoreId) (o : OpsA) (s : State) : Host.Outcome State Fault Refusal := instrA c 0x00 0x16 (.int 0x16) o s

/-- CLZ (R39): INT minor 0x17, leading zeros of rs1. -/
def execClz (c : CoreId) (o : OpsA) (s : State) : Host.Outcome State Fault Refusal := instrA c 0x00 0x17 (.int 0x17) o s

/-- CTZ (R39): INT minor 0x18, trailing zeros of rs1. -/
def execCtz (c : CoreId) (o : OpsA) (s : State) : Host.Outcome State Fault Refusal := instrA c 0x00 0x18 (.int 0x18) o s

/-- POPC (R39): INT minor 0x19, ones of rs1. -/
def execPopc (c : CoreId) (o : OpsA) (s : State) : Host.Outcome State Fault Refusal := instrA c 0x00 0x19 (.int 0x19) o s

/-- SEXB (R39): INT minor 0x1A, sign-extended byte. -/
def execSexb (c : CoreId) (o : OpsA) (s : State) : Host.Outcome State Fault Refusal := instrA c 0x00 0x1A (.int 0x1A) o s

/-- SEXH (R39): INT minor 0x1B, sign-extended half. -/
def execSexh (c : CoreId) (o : OpsA) (s : State) : Host.Outcome State Fault Refusal := instrA c 0x00 0x1B (.int 0x1B) o s

/-- SEXW (R39): INT minor 0x1C, sign-extended word. -/
def execSexw (c : CoreId) (o : OpsA) (s : State) : Host.Outcome State Fault Refusal := instrA c 0x00 0x1C (.int 0x1C) o s

/-- ZEXW (R39): INT minor 0x1D, zero-extended word. -/
def execZexw (c : CoreId) (o : OpsA) (s : State) : Host.Outcome State Fault Refusal := instrA c 0x00 0x1D (.int 0x1D) o s

/-- SELNZ (R39): INT minor 0x1E, rs1 if rs2 is non-zero, else rd as read at this position (R46). -/
def execSelnz (c : CoreId) (o : OpsA) (s : State) : Host.Outcome State Fault Refusal := instrA c 0x00 0x1E (.int 0x1E) o s

/-- SELZ (R39): INT minor 0x1F, rs1 if rs2 is zero, else rd as read at this position (R46). -/
def execSelz (c : CoreId) (o : OpsA) (s : State) : Host.Outcome State Fault Refusal := instrA c 0x00 0x1F (.int 0x1F) o s

/-- MUL (R66): low 64 bits of the product, distance 2. -/
def execMul (c : CoreId) (o : OpsA) (s : State) : Host.Outcome State Fault Refusal := instrA c 0x01 0x00 (.mul 0) o s

/-- MULH (R66): high 64 bits, signed. -/
def execMulh (c : CoreId) (o : OpsA) (s : State) : Host.Outcome State Fault Refusal := instrA c 0x01 0x01 (.mul 1) o s

/-- MULHU (R66): high 64 bits, unsigned. -/
def execMulhu (c : CoreId) (o : OpsA) (s : State) : Host.Outcome State Fault Refusal := instrA c 0x01 0x02 (.mul 2) o s

/-- MULHSU (R66): high 64 bits, rs1 signed. -/
def execMulhsu (c : CoreId) (o : OpsA) (s : State) : Host.Outcome State Fault Refusal := instrA c 0x01 0x03 (.mul 3) o s

/-- MULW (R66): 32-bit product, sign-extended. -/
def execMulw (c : CoreId) (o : OpsA) (s : State) : Host.Outcome State Fault Refusal := instrA c 0x01 0x04 (.mul 4) o s

/-- DADD: packed-decimal add with DC and DV (R71, R72). -/
def execDadd (c : CoreId) (o : OpsA) (s : State) : Host.Outcome State Fault Refusal := instrA c 0x02 0x00 (.dec false) o s

/-- DSUB: packed-decimal subtract with DC and DV (R71, R72). -/
def execDsub (c : CoreId) (o : OpsA) (s : State) : Host.Outcome State Fault Refusal := instrA c 0x02 0x01 (.dec true) o s

/-- ADDI (R38): m2 is ignored. -/
def execAddi (c : CoreId) (m2 : BitVec 2) (o : OpsB) (s : State) : Host.Outcome State Fault Refusal := instrB c 0x08 m2 o s

/-- ANDI (R38): AND with the sign-extended immediate. -/
def execAndi (c : CoreId) (o : OpsB) (s : State) : Host.Outcome State Fault Refusal := instrB c 0x09 0 o s

/-- ORI (R38): OR with the sign-extended immediate. -/
def execOri (c : CoreId) (o : OpsB) (s : State) : Host.Outcome State Fault Refusal := instrB c 0x09 1 o s

/-- XORI (R38): XOR with the sign-extended immediate. -/
def execXori (c : CoreId) (o : OpsB) (s : State) : Host.Outcome State Fault Refusal := instrB c 0x09 2 o s

/-- SLLI (R38): left shift by imm14[5:0]. -/
def execSlli (c : CoreId) (o : OpsB) (s : State) : Host.Outcome State Fault Refusal := instrB c 0x0A 0 o s

/-- SRLI (R38): logical right shift by imm14[5:0]. -/
def execSrli (c : CoreId) (o : OpsB) (s : State) : Host.Outcome State Fault Refusal := instrB c 0x0A 1 o s

/-- SRAI (R38): arithmetic right shift by imm14[5:0]. -/
def execSrai (c : CoreId) (o : OpsB) (s : State) : Host.Outcome State Fault Refusal := instrB c 0x0A 2 o s

/-- RORI (R38): rotate right by imm14[5:0]. -/
def execRori (c : CoreId) (o : OpsB) (s : State) : Host.Outcome State Fault Refusal := instrB c 0x0A 3 o s

/-- SLTI (R38): signed compare. -/
def execSlti (c : CoreId) (o : OpsB) (s : State) : Host.Outcome State Fault Refusal := instrB c 0x0B 0 o s

/-- SLTIU (R38): unsigned compare with the sign-extended immediate. -/
def execSltiu (c : CoreId) (o : OpsB) (s : State) : Host.Outcome State Fault Refusal := instrB c 0x0B 1 o s

/-- SHORI (R38): (rs1 << 14) OR zero-extended imm14. -/
def execShori (c : CoreId) (o : OpsB) (s : State) : Host.Outcome State Fault Refusal := instrB c 0x0C 0 o s

/-- ADDPC (R38): instruction address + imm14 * 4. -/
def execAddpc (c : CoreId) (o : OpsB) (s : State) : Host.Outcome State Fault Refusal := instrB c 0x0D 0 o s

/-- ADDPCH (R38): instruction address + (imm14 << 16). -/
def execAddpch (c : CoreId) (o : OpsB) (s : State) : Host.Outcome State Fault Refusal := instrB c 0x0D 1 o s

end Sys2Proof.Machine
end

