-- ==== Sys2Proof/Machine/Maint.lean ====
section
/-! DEFINITION. Cache maintenance: CINV, CCLN and CFLSH by address, range, way and set (R40, R125-R129). -/

namespace Sys2Proof.Machine

/-- The three operations. -/
inductive MaintOp where
  | inv | cln | flsh
  deriving DecidableEq, Repr

/-- The operation invalidates. -/
def MaintOp.drops (m : MaintOp) : Bool := m ≠ .cln

/-- The merging-buffer entries of a line close and drain, with every older one (R114, R125). -/
def State.drainLine (s : State) (c line : Nat) : State :=
  let m := (s.core c).merge
  match (List.range m.length).reverse.find? (fun i => (m[i]?.map (fun e => e.line.toNat)) = some line) with
  | none => s
  | some i => forN (i + 1) (fun _ s => s.drainFirst c) (s.modCore c (fun k => { k with merge := closeUpTo k.merge i }))

/-- A line that the request's world may touch (R126). -/
def touches (w lw : Bool) : Bool := w || !lw

/-- A line of a trio's L2 is written back if dirty and stays, clean: its owner keeps its place in the directory, from M as E, from O
as a sharer (DESIGN CHOICE, assumption 48). -/
def State.l2Keep (s : State) (t line : Nat) : State :=
  let s := s.calm line
  match (s.trio t).l2.find line with
  | none => s
  | some l =>
    match l.st with
    | .m =>
      let s := (s.countTrio t 0x03).memWriteLine l.tid.val l.w line l.data l.poison
      s.modL2 t (fun k => k.update line (fun l => { l with st := .e }))
    | .o =>
      let s := (s.countTrio t 0x03).memWriteLine l.tid.val l.w line l.data l.poison
      let s := match (s.home (chanOf line)).entry line with
        | some e => s.dirWrite line .s (s.holders e) e.tid.val
        | none => s
      s.modL2 t (fun k => k.update line (fun l => { l with st := .s }))
    | _ => s

/-- Maintenance of a line of the L2 of core `c`'s trio (level 1): the writeback of a line that leaves is posted (R128). -/
def State.l2Maint (s : State) (c : Nat) (op : MaintOp) (l : L2Line) : State :=
  let t := trioOf c
  if !op.drops then s.l2Keep t l.line.toNat
  else
    let s := s.l2Evict t l
    if l.st = .m ∨ l.st = .o then s.modCore c (fun k => { k with wbs := k.wbs ++ [l.line] }) else s

/-- A line leaves core `c`'s L1D, or its L1I. -/
def State.l1Drop (s : State) (c line : Nat) (instr w : Bool) : State :=
  let keep := fun (l : L1Line) => decide (l.line.toNat ≠ line) || !touches w l.w
  s.modCore c (fun k => if instr then { k with l1i := k.l1i.filter keep, fbuf := none } else { k with l1d := k.l1d.filter keep })

/-- A holder answers SnpShare for a clean at level 2: its dirty data go to the memory side, and the copy stays, shared and clean
(DEDUCED, assumption 48). -/
def State.snoopClean (s : State) (line tid : Nat) (w : Bool) (a : Nat) : State :=
  let was := ((s.l2At a).find line).map (fun l => l.st)
  match s.snoop a .share line with
  | (s, .i) => s.unlist a line
  | (s, .fwd d psn _) =>
    let s := if was = some .m ∨ was = some .o then s.memWriteLine tid w line d psn else s
    s.modL2 a (fun k => k.update line (fun l => { l with st := .s }))
  | (s, _) => s

/-- The holders of a line that maintenance of a world reaches (R126): those whose copy it may touch. -/
def State.maintHolders (s : State) (e : DirEntry) (line : Nat) (w : Bool) : List Nat :=
  (s.holders e).filter (fun a => match (s.l2At a).find line with
    | some l => touches w l.w
    | none => true)

/-- Level 2 of a line, in its turn at its home (R125): SnpInv or SnpShare to every holder, then the line of the Memory-Side Cache is
written to DRAM, and leaves or stays clean. Copies tagged W = 1 are skipped for W = 0 (R126). -/
def State.homeMaint (s : State) (op : MaintOp) (line : Nat) (r : Rq) : State :=
  let h := chanOf line
  let s := (s.turn r line).resolveDead line
  let s := match (s.home h).entry line with
    | none => s
    | some e =>
      let all := s.holders e
      let hs := s.maintHolders e line r.w
      let kept := all.filter (fun a => !hs.contains a)
      if op.drops then
        let s := (s.snoopAll line r.tid r.w (hs.map (fun a => (a, .inv)))).1
        if kept.isEmpty then s.dirWrite line .s [] r.tid else hs.foldl (fun s a => s.unlist a line) s
      else
        let s := hs.foldl (fun (s : State) a => s.snoopClean line r.tid r.w a) s
        match (s.home h).entry line, e.owner with
        | some e, some o => if hs.contains o then s.dirWrite line .s (s.holders e) e.tid.val else s
        | _, _ => s
  match s.msc.find line with
  | none => s
  | some l =>
    if !touches r.w l.w then s
    else
      let s := s.mscEvict l
      if op.drops then s else { s with msc := { s.msc with lines := s.msc.lines ++ [{ l with dirty := false }] } }

/-- Maintenance of one line by core `c`. The entries drained are those of the executing core's
merging buffer: levels 0 and 1 leave the buffers of the trio's other cores alone (DESIGN CHOICE, assumption 44). -/
def State.lineMaint (s : State) (c : Nat) (op : MaintOp) (level pa : Nat) : State :=
  let line := pa / 64
  let t := trioOf c
  let w := (s.core c).w
  match level with
  | 0 =>
    let s := if op = .inv then s else s.drainLine c line
    if op.drops then s.l1Drop c line false w else s
  | 1 =>
    let s := s.drainLine c line
    match (s.trio t).l2.find line with
    | some l => if touches w l.w then s.l2Maint c op l else s
    | none => s
  | 2 =>
    if s.region pa ≠ .dram then s
    else
      let s := s.drainLine c line
      s.homeMaint op line (s.rq c (s.tidOn c) w line false)
  | _ => s.l1Drop c line true w

/-- The lines that overlap a range, in ascending order (R127). -/
def rangeLines (va : Dword) (n : Nat) : Nat := if n = 0 then 0 else (va.toNat % 64 + n + 63) / 64

/-- Where a range goes on (R127): rs1 takes a line's address, the rd-field register the bytes from it to the range's end. -/
def Core.rangeAt (k : Core) (o : OpsF) (va : Dword) (n : Nat) : Core :=
  { k with arch := (k.arch.wr (gKey k.infast o.rs1) va).wr (gKey k.infast o.rd) (BitVec.ofNat 64 n) }

/-- An interrupt that has reached the core would be accepted at a boundary now (R105). -/
def Core.interrupted (k : Core) : Bool := k.intReq.any (fun i => k.acceptsNow i)

/-- A range's lines one after another from the line at `va`, with `n` bytes to its end. A line that faults stops it, and so does an
interrupt between two lines: rs1 and rd then say where it goes on (R127). -/
def State.rangeMaint (s : State) (c : Nat) (op : MaintOp) (level : Nat) (o : OpsF) (va : Dword) (n : Nat) : Nat → State × PosRes
  | 0 => (s, .next {} none)
  | fuel + 1 =>
    match s.translate c .maint va with
    | (s, .trap x) =>
      (s.modCore c (fun k => k.rangeAt o (BitVec.ofNat 64 (va.toNat / 64 * 64)) (n + va.toNat % 64)), .trap x)
    | (s, .stay) => (s, .stay)
    | (s, .ok p) =>
      let s := s.lineMaint c op level p.pa
      let step := 64 - va.toNat % 64
      let next := va + BitVec.ofNat 64 step
      if 0 < fuel ∧ (s.core c).interrupted then (s.modCore c (fun k => k.rangeAt o next (n - step)), .pause)
      else s.rangeMaint c op level o next (n - step) fuel

/-- How long maintenance of the L2 by way or by set lasts, in nanoseconds at the point in force: 2,048 core cycles, or 32 (R128). -/
def State.arrayTime (s : State) (byWay : Bool) : Nat :=
  let p := s.rf ⟨.pwrGov, 0, 0, 0⟩ 3 2
  (if byWay then 2048 else 32) * 1000 / (if p = 0 then 1600 else if p = 1 then 1200 else 800)

/-- Maintenance by way (scope 2) or by set (scope 3); level 2 acts as level 1 (R125). -/
def State.arrayMaint (s : State) (c : Nat) (op : MaintOp) (level : Nat) (byWay : Bool) (x : Dword) : State :=
  let t := trioOf c
  let k := s.core c
  let w := k.w
  let l1 := fun (l : L1Line) (ways sets : Nat) =>
    touches w l.w && (if byWay then decide (l.way = x.toNat % ways) else decide (l.line.toNat % sets = x.toNat % sets))
  match level with
  | 0 =>
    let s := if op = .inv then s else s.drainMerge c
    if op.drops then s.modCore c (fun k => { k with l1d := k.l1d.filter (fun l => !l1 l 8 64) }) else s
  | 3 => s.modCore c (fun k => { k with l1i := k.l1i.filter (fun l => !l1 l 4 128), fbuf := none })
  | _ =>
    let mine := fun (l : L2Line) => decide (l.st ≠ .wp) && touches w l.w &&
      (if byWay then decide (l.way = x.toNat % 16) else decide (l.line.toNat % 1024 = x.toNat % 1024))
    let s := s.modCore c (fun k => { k with maint := some (s.timebase, s.arrayTime byWay) })
    let s := ((s.trio t).l2.lines.filter mine).foldl (fun s l => s.drainLine c l.line.toNat) s
    ((s.trio t).l2.lines.filter mine).foldl (fun s l => s.l2Maint c op l) s

/-- The least level that may execute an operation (R40). -/
def maintLevel (op : MaintOp) (level scope : Nat) : Nat :=
  if 2 ≤ scope then 2 else if op = .inv ∧ level ≠ 3 then 1 else 0

/-- CINV, CCLN and CFLSH. CINV at level 3 refetches from the next instruction (R129). -/
def maintInstr (c : CoreId) (op : MaintOp) (fn4 : BitVec 4) (o : OpsF) (s : State) : Host.Outcome State Fault Refusal :=
  done (s.position c.val (wordF 0x34 fn4 o) false (fun s =>
    let level := fld o.sys 11 10
    let scope := fld o.sys 9 8
    let k := s.core c.val
    let a := k.g o.rs1
    if level = 3 ∧ op ≠ .inv then (s, .trap { cause := 0x04 })
    else if k.pl < maintLevel op level scope then (s, .trap { cause := 0x06 })
    else
      match scope with
      | 0 =>
        match s.translate c.val .maint a with
        | (s, .trap x) => (s, .trap x)
        | (s, .stay) => (s, .stay)
        | (s, .ok p) => (s.lineMaint c.val op level p.pa, .next {} none)
      | 1 =>
        let n := (k.g o.rd).toNat
        s.rangeMaint c.val op level o a n (rangeLines a n)
      | _ => (s.arrayMaint c.val op level (scope = 2) a, .next {} none)))

/-- CINV (R125). -/
def execCinv (c : CoreId) (o : OpsF) (s : State) : Host.Outcome State Fault Refusal := maintInstr c .inv 0 o s
/-- CCLN (R125). -/
def execCcln (c : CoreId) (o : OpsF) (s : State) : Host.Outcome State Fault Refusal := maintInstr c .cln 1 o s
/-- CFLSH (R125). -/
def execCflsh (c : CoreId) (o : OpsF) (s : State) : Host.Outcome State Fault Refusal := maintInstr c .flsh 2 o s

end Sys2Proof.Machine
end

