-- ==== Sys2Proof/Machine/Qdma.lean ====
section
/-! DEFINITION. What Queue DMA does with a descriptor: COPY, FILL and ZERO (R297-R299). -/

namespace Sys2Proof.Machine

/-- A line's part read for queue `t`, up to where the read fails. TID 0 reaches the Module Configuration Space by doublewords
(R31); every other error there is status 0x06. -/
def State.qReadPa (s : State) (e : Eng) (pa n : Nat) : State × EngRes (List Byte) :=
  match s.region pa with
  | .mcs =>
    if e.tid = 0 ∧ n = 8 then
      match s.mcsRead (.qdma 0) (pa - 0x3F0000000000) 3 with
      | (s, .ok v) => (s, .ok (toBytes v.toNat 8))
      | (s, .error _) => (s, .fail 6)
    else (s, .fail 6)
  | _ =>
    match s.engLine e.rq pa with
    | (s, .ok d) => (s, .ok ((List.range n).map (fun i => lineByte d (pa % 64 + i))))
    | (s, .fail x) => (s, .fail x)
    | (s, .stay) => (s, .stay)

/-- Bytes within one line written for queue `t`. -/
def State.qWritePa (s : State) (e : Eng) (pa : Nat) (bs : List Byte) : State × EngRes Unit :=
  match s.region pa with
  | .mcs =>
    if e.tid = 0 ∧ bs.length = 8 then
      match s.mcsWrite (.qdma 0) (pa - 0x3F0000000000) 3 (BitVec.ofNat 64 (ofBytes bs)) with
      | .ok s => (s, .ok ())
      | .wait s => (s, .ok ())
      | .err _ => (s, .fail 6)
      | .stay => (s, .stay)
    else (s, .fail 6)
  | _ => s.engPut e.rq pa bs

/-- The unit moves the Module Configuration Space by doublewords, all else by lines. -/
def State.qStep (s : State) (pa : Nat) : Nat := if s.region pa = .mcs then 8 - pa % 8 else 64 - pa % 64

/-- Up to `n` source bytes from `va` in ascending order: those read before the read failed, and how it ended. -/
def State.qGather (s : State) (e : Eng) (va : Dword) (n : Nat) : Nat → State × List Byte × EngRes Unit
  | 0 => (s, [], .ok ())
  | fuel + 1 =>
    if n = 0 then (s, [], .ok ())
    else
      match s.engXlate e .load va with
      | (s, .trap x) => (s, [], .fail (dmaStatus x))
      | (s, .stay) => (s, [], .stay)
      | (s, .ok p) =>
        let m := min n (s.qStep p.pa)
        match s.qReadPa e p.pa m with
        | (s, .ok bs) =>
          let r := s.qGather e (va + BitVec.ofNat 64 m) (n - m) fuel
          (r.1, bs ++ r.2.1, r.2.2)
        | (s, .fail x) => (s, [], .fail x)
        | (s, .stay) => (s, [], .stay)

/-- A transfer of `n` bytes to `dst`, whose bytes `src` supplies at an offset: the status and the bytes written (R298). It goes
in ascending address order by destination lines (the order within a line that overlaps its source: DESIGN CHOICE, assumption
24). -/
def State.qMove (s : State) (e : Eng) (src : Nat → Nat → State → State × List Byte × EngRes Unit) (dst : Dword) (n off : Nat) :
    Nat → State × EngRes Unit × Nat
  | 0 => (s, .ok (), off)
  | fuel + 1 =>
    if n ≤ off then (s, .ok (), off)
    else
      let va := dst + BitVec.ofNat 64 off
      match s.engXlate e .store va with
      | (s, .trap x) => (s, .fail (dmaStatus x), off)
      | (s, .stay) => (s, .stay, off)
      | (s, .ok p) =>
        let m := min (n - off) (s.qStep p.pa)
        let (s, bs, r) := src off m s
        let (s, w) := if bs.isEmpty then (s, EngRes.ok ()) else s.qWritePa e p.pa bs
        match w, r with
        | .ok _, .ok _ => s.qMove e src dst n (off + m) fuel
        | .ok _, x => (s, x, off + bs.length)
        | x, _ => (s, x, off)

/-- The bytes of a repeated doubleword. -/
def fillBytes (v : Dword) (off n : Nat) : List Byte := (List.range n).map (fun i => (v >>> (8 * ((off + i) % 8))).truncate 8)

/-- The descriptor at HEAD of queue `t`, when it is the one that the command spells, is carried out and completes; another
descriptor, an empty queue or a reset of the tenant leaves everything as it is. A transfer that waits for a frame to be filled
is given again. -/
def State.qRun (s : State) (t : Nat) (op : Nat) (dw0 : Dword) (len : Nat) (src dst : Dword) : State :=
  let s := s.qLook t
  match s.qHead t with
  | (s, none) => s
  | (s, some d) =>
    if !decide (d.getD 0 0 = dw0 ∧ fld (d.getD 1 0) 23 0 = len ∧ d.getD 2 0 = src ∧ d.getD 3 0 = dst) then s
    else
      let e := s.qEng t
      let pull : Nat → Nat → State → State × List Byte × EngRes Unit := match op with
        | 1 => fun off m s => s.qGather e (src + BitVec.ofNat 64 off) m (m + 1)
        | 2 => fun off m s => (s, fillBytes src off m, .ok ())
        | _ => fun _ m s => (s, List.replicate m 0, .ok ())
      match s.qMove e pull dst len 0 (len + 1) with
      | (s, .ok _, n) => (s.qDone t d 0 n).qLook t
      | (s, .fail x, n) => (s.qDone t d x n).qLook t
      | (s, .stay, _) => s

/-- A Queue DMA command: OP stands in its first doubleword, which must be the descriptor's at HEAD (assumption 33). -/
def State.qRow (s : State) (t : Nat) (dw0 : Dword) (len : Nat) (src dst : Dword) : Host.Outcome State Fault Refusal :=
  done (s.qRun t (fld dw0 7 0) dw0 len src dst)

/-- COPY (R297). -/
def execCopy (t : Tid) (dw0 : Dword) (len : BitVec 24) (src dst : Dword) (s : State) : Host.Outcome State Fault Refusal :=
  s.qRow t.val dw0 len.toNat src dst
/-- FILL (R297): the doubleword of SRC repeats from DST on. -/
def execFill (t : Tid) (dw0 : Dword) (len : BitVec 24) (src dst : Dword) (s : State) : Host.Outcome State Fault Refusal :=
  s.qRow t.val dw0 len.toNat src dst
/-- ZERO (R297). -/
def execZero (t : Tid) (dw0 : Dword) (len : BitVec 24) (src dst : Dword) (s : State) : Host.Outcome State Fault Refusal :=
  s.qRow t.val dw0 len.toNat src dst

end Sys2Proof.Machine
end

