-- ==== Sys2Proof/Machine/Units.lean ====
section
/-! DEFINITION. The iterative units: starts, collects and the end of an operation (R57, R58, R67-R69, R75, R82). -/

namespace Sys2Proof.Machine

/-- The integer unit starts (R57): what it was doing is abandoned, HELD clears. -/
def Core.startInt (k : Core) (op : Nat) (a b : Dword) : Core :=
  let signed := op = 0 || op = 2
  { k with arch := { k.arch with iu :=
      { k.arch.iu with a := magnitude signed a, b := magnitude signed b, ctl := intStart op a b } } }

/-- A start of the integer unit. -/
def divInstr (c : CoreId) (fn : BitVec 6) (op : Nat) (o : OpsA) (s : State) : Host.Outcome State Fault Refusal :=
  done (s.position c.val (wordA 0x01 o fn) false (fun s =>
    (s.modCore c.val (fun k => k.startInt op (k.g o.rs1) (k.g o.rs2)), .next {} none)))

/-- DIV starts a signed division. -/
def execDiv (c : CoreId) (o : OpsA) (s : State) : Host.Outcome State Fault Refusal := divInstr c 0x08 0 o s
/-- DIVU starts an unsigned division. -/
def execDivu (c : CoreId) (o : OpsA) (s : State) : Host.Outcome State Fault Refusal := divInstr c 0x09 1 o s
/-- REM starts a signed remainder. -/
def execRem (c : CoreId) (o : OpsA) (s : State) : Host.Outcome State Fault Refusal := divInstr c 0x0A 2 o s
/-- REMU starts an unsigned remainder. -/
def execRemu (c : CoreId) (o : OpsA) (s : State) : Host.Outcome State Fault Refusal := divInstr c 0x0B 3 o s

/-- The floating-point unit starts, its mode fixed now (R75). -/
def Core.startFp (k : Core) (dbl sqrt : Bool) (rm : Nat) (a b : Dword) : Core :=
  { k with arch := { k.arch with fu := { k.arch.fu with a := a, b := b, ctl := fpStart dbl sqrt rm } } }

/-- A start of the floating-point unit: RM 0b101 and 0b110 are reserved (R42). -/
def fstartInstr (c : CoreId) (dbl sqrt : Bool) (o : OpsA) (s : State) : Host.Outcome State Fault Refusal :=
  done (s.position c.val (wordA (if dbl then 0x04 else 0x05) o (if sqrt then 0x04 else 0x03)) false (fun s =>
    let rm := fld o.ext 4 2
    if rm = 5 ∨ rm = 6 then (s, .trap { cause := 0x04 })
    else (s.modCore c.val (fun k => k.startFp dbl sqrt (if rm = 7 then k.frm else rm) (k.f o.rs1) (k.f o.rs2)), .next {} none)))

/-- FDIV. -/
def execFdiv (c : CoreId) (dbl : Bool) (o : OpsA) (s : State) : Host.Outcome State Fault Refusal := fstartInstr c dbl false o s
/-- FSQRT. -/
def execFsqrt (c : CoreId) (dbl : Bool) (o : OpsA) (s : State) : Host.Outcome State Fault Refusal := fstartInstr c dbl true o s

/-- GETQ (R57): a busy unit is waited for, a held one released; then the last result at distance 1, with DZI at the collect
of a division by zero (R69). -/
def execGetq (c : CoreId) (o : OpsA) (s : State) : Host.Outcome State Fault Refusal :=
  done (s.position c.val (wordA 0x01 o 0x10) false (fun s =>
    let u := (s.core c.val).arch.iu
    if bit u.ctl 0 then
      (s.modCore c.val (fun k => { k with arch := { k.arch with iu := { u with ctl := setBit u.ctl 1 false } } }), .stay)
    else (s.modCore c.val (fun k => (k.orFlags 0 (if u.b = 0 then 1 else 0)).give false o.rd u.x 1), .next {} none)))

/-- GETF (R57): as GETQ, with the operation's flags at the collect. -/
def execGetf (c : CoreId) (o : OpsA) (s : State) : Host.Outcome State Fault Refusal :=
  done (s.position c.val (wordA 0x07 o 0x18) false (fun s =>
    let u := (s.core c.val).arch.fu
    if bit u.ctl 0 then
      (s.modCore c.val (fun k => { k with arch := { k.arch with fu := { u with ctl := setBit u.ctl 1 false } } }), .stay)
    else (s.modCore c.val (fun k => (k.orFlags (BitVec.ofNat 5 (fld u.ctl 17 13)) 0).give true o.rd u.x 1), .next {} none)))

/-- The integer unit of a core reaches its last cycle (R67); a held or idle unit does not. -/
def Core.readyInt (k : Core) : Core :=
  let u := k.arch.iu
  if bit u.ctl 0 && !bit u.ctl 1 then
    { k with arch := { k.arch with iu := { u with x := intIter u.a u.b u.ctl, ctl := setFld (setBit u.ctl 0 false) 10 4 0 } } }
  else k

/-- The floating-point unit of a core reaches its last cycle: the result and the flags to be set at the collect. -/
def Core.readyFp (k : Core) : Core :=
  let u := k.arch.fu
  if bit u.ctl 0 && !bit u.ctl 1 then
    let r := fpIter u.a u.b u.ctl
    { k with arch := { k.arch with fu :=
        { u with x := r.1, ctl := setFld (setFld (setBit u.ctl 0 false) 12 7 0) 17 13 r.2.toNat } } }
  else k

/-- ITERATIVE_UNIT_READY (R67). -/
def execIterativeUnitReady (c : CoreId) (fp : Bool) (s : State) : Host.Outcome State Fault Refusal :=
  done (s.modCore c.val (if fp then Core.readyFp else Core.readyInt))

/-- RESULT_BECOMES_VISIBLE (R43): the results due at the position that the core has reached are in their registers. -/
def execResultBecomesVisible (c : CoreId) (s : State) : Host.Outcome State Fault Refusal :=
  done (s.modCore c.val (fun k => k.settle k.arch.posn))

/-- PENDING_RESULT_APPLY (R49): the armed records due at the position that the core has reached write their values, in their
order among the other results of that position (R45). -/
def execPendingResultApply (c : CoreId) (s : State) : Host.Outcome State Fault Refusal :=
  done (
    let k := s.core c.val
    if k.arch.pend.any (fun r => r.rcd.isSome && decide (r.vis ≤ k.arch.posn)) then
      (s.modCore c.val (fun k => k.settle k.arch.posn))
    else s)

end Sys2Proof.Machine
end

