-- ==== Sys2Proof/Machine/Dispatch.lean ====
section
/-! DEFINITION. One arm for each command: its meaning, or its refusal by name. -/

namespace Sys2Proof.Machine

def exec (i : Instr) (s : State) : Host.Outcome State Fault Refusal :=
  match i with
  | .add c o => Sys2Proof.Machine.execAdd c o s
  | .sub c o => Sys2Proof.Machine.execSub c o s
  | .and c o => Sys2Proof.Machine.execAnd c o s
  | .or c o => Sys2Proof.Machine.execOr c o s
  | .xor c o => Sys2Proof.Machine.execXor c o s
  | .andn c o => Sys2Proof.Machine.execAndn c o s
  | .orn c o => Sys2Proof.Machine.execOrn c o s
  | .xnor c o => Sys2Proof.Machine.execXnor c o s
  | .sll c o => Sys2Proof.Machine.execSll c o s
  | .srl c o => Sys2Proof.Machine.execSrl c o s
  | .sra c o => Sys2Proof.Machine.execSra c o s
  | .ror c o => Sys2Proof.Machine.execRor c o s
  | .slt c o => Sys2Proof.Machine.execSlt c o s
  | .sltu c o => Sys2Proof.Machine.execSltu c o s
  | .min c o => Sys2Proof.Machine.execMin c o s
  | .max c o => Sys2Proof.Machine.execMax c o s
  | .minu c o => Sys2Proof.Machine.execMinu c o s
  | .maxu c o => Sys2Proof.Machine.execMaxu c o s
  | .addw c o => Sys2Proof.Machine.execAddw c o s
  | .subw c o => Sys2Proof.Machine.execSubw c o s
  | .sllw c o => Sys2Proof.Machine.execSllw c o s
  | .srlw c o => Sys2Proof.Machine.execSrlw c o s
  | .sraw c o => Sys2Proof.Machine.execSraw c o s
  | .clz c o => Sys2Proof.Machine.execClz c o s
  | .ctz c o => Sys2Proof.Machine.execCtz c o s
  | .popc c o => Sys2Proof.Machine.execPopc c o s
  | .sexb c o => Sys2Proof.Machine.execSexb c o s
  | .sexh c o => Sys2Proof.Machine.execSexh c o s
  | .sexw c o => Sys2Proof.Machine.execSexw c o s
  | .zexw c o => Sys2Proof.Machine.execZexw c o s
  | .selnz c o => Sys2Proof.Machine.execSelnz c o s
  | .selz c o => Sys2Proof.Machine.execSelz c o s
  | .mul c o => Sys2Proof.Machine.execMul c o s
  | .mulh c o => Sys2Proof.Machine.execMulh c o s
  | .mulhu c o => Sys2Proof.Machine.execMulhu c o s
  | .mulhsu c o => Sys2Proof.Machine.execMulhsu c o s
  | .mulw c o => Sys2Proof.Machine.execMulw c o s
  | .div c o => Sys2Proof.Machine.execDiv c o s
  | .divu c o => Sys2Proof.Machine.execDivu c o s
  | .rem c o => Sys2Proof.Machine.execRem c o s
  | .remu c o => Sys2Proof.Machine.execRemu c o s
  | .getq c o => Sys2Proof.Machine.execGetq c o s
  | .dadd c o => Sys2Proof.Machine.execDadd c o s
  | .dsub c o => Sys2Proof.Machine.execDsub c o s
  | .lrW c o => Sys2Proof.Machine.execLrW c o s
  | .scW c o => Sys2Proof.Machine.execScW c o s
  | .lrD c o => Sys2Proof.Machine.execLrD c o s
  | .scD c o => Sys2Proof.Machine.execScD c o s
  | .tasB c o => Sys2Proof.Machine.execTasB c o s
  | .fadd c dbl o => Sys2Proof.Machine.execFadd c dbl o s
  | .fsub c dbl o => Sys2Proof.Machine.execFsub c dbl o s
  | .fmul c dbl o => Sys2Proof.Machine.execFmul c dbl o s
  | .fdiv c dbl o => Sys2Proof.Machine.execFdiv c dbl o s
  | .fsqrt c dbl o => Sys2Proof.Machine.execFsqrt c dbl o s
  | .fmin c dbl o => Sys2Proof.Machine.execFmin c dbl o s
  | .fmax c dbl o => Sys2Proof.Machine.execFmax c dbl o s
  | .fsgnj c dbl o => Sys2Proof.Machine.execFsgnj c dbl o s
  | .fsgnjn c dbl o => Sys2Proof.Machine.execFsgnjn c dbl o s
  | .fsgnjx c dbl o => Sys2Proof.Machine.execFsgnjx c dbl o s
  | .fmadd c dbl o => Sys2Proof.Machine.execFmadd c dbl o s
  | .fmsub c dbl o => Sys2Proof.Machine.execFmsub c dbl o s
  | .fnmadd c dbl o => Sys2Proof.Machine.execFnmadd c dbl o s
  | .fnmsub c dbl o => Sys2Proof.Machine.execFnmsub c dbl o s
  | .feq c dbl o => Sys2Proof.Machine.execFeq c dbl o s
  | .flt c dbl o => Sys2Proof.Machine.execFlt c dbl o s
  | .fle c dbl o => Sys2Proof.Machine.execFle c dbl o s
  | .fcvtSD c o => Sys2Proof.Machine.execFcvtSD c o s
  | .fcvtDS c o => Sys2Proof.Machine.execFcvtDS c o s
  | .fcvtLD c o => Sys2Proof.Machine.execFcvtLD c o s
  | .fcvtLuD c o => Sys2Proof.Machine.execFcvtLuD c o s
  | .fcvtLS c o => Sys2Proof.Machine.execFcvtLS c o s
  | .fcvtDL c o => Sys2Proof.Machine.execFcvtDL c o s
  | .fcvtDLu c o => Sys2Proof.Machine.execFcvtDLu c o s
  | .fcvtSL c o => Sys2Proof.Machine.execFcvtSL c o s
  | .fmvXD c o => Sys2Proof.Machine.execFmvXD c o s
  | .fmvDX c o => Sys2Proof.Machine.execFmvDX c o s
  | .fclass c dbl o => Sys2Proof.Machine.execFclass c dbl o s
  | .getf c o => Sys2Proof.Machine.execGetf c o s
  | .addi c m2 o => Sys2Proof.Machine.execAddi c m2 o s
  | .andi c o => Sys2Proof.Machine.execAndi c o s
  | .ori c o => Sys2Proof.Machine.execOri c o s
  | .xori c o => Sys2Proof.Machine.execXori c o s
  | .slli c o => Sys2Proof.Machine.execSlli c o s
  | .srli c o => Sys2Proof.Machine.execSrli c o s
  | .srai c o => Sys2Proof.Machine.execSrai c o s
  | .rori c o => Sys2Proof.Machine.execRori c o s
  | .slti c o => Sys2Proof.Machine.execSlti c o s
  | .sltiu c o => Sys2Proof.Machine.execSltiu c o s
  | .shori c o => Sys2Proof.Machine.execShori c o s
  | .addpc c o => Sys2Proof.Machine.execAddpc c o s
  | .addpch c o => Sys2Proof.Machine.execAddpch c o s
  | .jalr c m2 o => Sys2Proof.Machine.execJalr c m2 o s
  | .lb c o => Sys2Proof.Machine.execLb c o s
  | .lbu c o => Sys2Proof.Machine.execLbu c o s
  | .lh c o => Sys2Proof.Machine.execLh c o s
  | .lhu c o => Sys2Proof.Machine.execLhu c o s
  | .lw c o => Sys2Proof.Machine.execLw c o s
  | .lwu c o => Sys2Proof.Machine.execLwu c o s
  | .ld c o u => Sys2Proof.Machine.execLd c o u s
  | .flw c o => Sys2Proof.Machine.execFlw c o s
  | .fld c o => Sys2Proof.Machine.execFld c o s
  | .sb c o => Sys2Proof.Machine.execSb c o s
  | .sh c o => Sys2Proof.Machine.execSh c o s
  | .sw c o => Sys2Proof.Machine.execSw c o s
  | .sd c o => Sys2Proof.Machine.execSd c o s
  | .fsw c o => Sys2Proof.Machine.execFsw c o s
  | .fsd c o => Sys2Proof.Machine.execFsd c o s
  | .beqz c o => Sys2Proof.Machine.execBeqz c o s
  | .bnez c o => Sys2Proof.Machine.execBnez c o s
  | .bltz c o => Sys2Proof.Machine.execBltz c o s
  | .bgez c o => Sys2Proof.Machine.execBgez c o s
  | .blez c o => Sys2Proof.Machine.execBlez c o s
  | .bgtz c o => Sys2Proof.Machine.execBgtz c o s
  | .j c o => Sys2Proof.Machine.execJ c o s
  | .jal c o => Sys2Proof.Machine.execJal c o s
  | .csrrd c o => Sys2Proof.Machine.execCsrrd c o s
  | .csrwr c o => Sys2Proof.Machine.execCsrwr c o s
  | .divsave c o => Sys2Proof.Machine.execDivsave c o s
  | .divrestore c o => Sys2Proof.Machine.execDivrestore c o s
  | .eclaim c k o => Sys2Proof.Machine.execEclaim c k o s
  | .ecomp c k o => Sys2Proof.Machine.execEcomp c k o s
  | .scall c o => Sys2Proof.Machine.execScall c o s
  | .pcall c o => Sys2Proof.Machine.execPcall c o s
  | .mcall c o => Sys2Proof.Machine.execMcall c o s
  | .rfe c o => Sys2Proof.Machine.execRfe c o s
  | .brk c o => Sys2Proof.Machine.execBrk c o s
  | .wait c o => Sys2Proof.Machine.execWait c o s
  | .waite c o => Sys2Proof.Machine.execWaite c o s
  | .yield c o => Sys2Proof.Machine.execYield c o s
  | .fdone c o => Sys2Proof.Machine.execFdone c o s
  | .signal c o => Sys2Proof.Machine.execSignal c o s
  | .fence c o => Sys2Proof.Machine.execFence c o s
  | .tlbinv c o => Sys2Proof.Machine.execTlbinv c o s
  | .tlbsync c o => Sys2Proof.Machine.execTlbsync c o s
  | .cinv c o => Sys2Proof.Machine.execCinv c o s
  | .ccln c o => Sys2Proof.Machine.execCcln c o s
  | .cflsh c o => Sys2Proof.Machine.execCflsh c o s
  | .customInstruction c slot o => Sys2Proof.Machine.execCustomInstruction c slot o s
  | .reservedInstruction c w => Sys2Proof.Machine.execReservedInstruction c w s
  | .resultBecomesVisible c => Sys2Proof.Machine.execResultBecomesVisible c s
  | .pendingResultApply c => Sys2Proof.Machine.execPendingResultApply c s
  | .iterativeUnitReady c fp => Sys2Proof.Machine.execIterativeUnitReady c fp s
  | .mergeEntryTimeout c line => Sys2Proof.Machine.execMergeEntryTimeout c line s
  | .mergeEntryDrain c => Sys2Proof.Machine.execMergeEntryDrain c s
  | .interruptAccept c k => Sys2Proof.Machine.execInterruptAccept c k s
  | .coreError c e => Sys2Proof.Machine.execCoreError c e s
  | .mcallWatchdogExpiry c => Sys2Proof.Machine.execMcallWatchdogExpiry c s
  | .sealedForcedReturn c => Sys2Proof.Machine.execSealedForcedReturn c s
  | .l2CleanStart who t v => Sys2Proof.Machine.execL2CleanStart who t v s
  | .l2Enable who t v => Sys2Proof.Machine.execL2Enable who t v s
  | .l2CleanComplete t => Sys2Proof.Machine.execL2CleanComplete t s
  | .l2InitComplete t => Sys2Proof.Machine.execL2InitComplete t s
  | .l1dDisable who c v => Sys2Proof.Machine.execL1dDisable who c v s
  | .mscCleanStart who v => Sys2Proof.Machine.execMscCleanStart who v s
  | .mscCleanComplete => Sys2Proof.Machine.execMscCleanComplete s
  | .maskChangeArrives u => Sys2Proof.Machine.execMaskChangeArrives u s
  | .hitCfgWrite who v => Sys2Proof.Machine.execHitCfgWrite who v s
  | .adUpdate entry dw0 setD => Sys2Proof.Machine.execAdUpdate entry dw0 setD s
  | .demandAllocation entry dw0 store => Sys2Proof.Machine.execDemandAllocation entry dw0 store s
  | .zeroFillComplete frame => Sys2Proof.Machine.execZeroFillComplete frame s
  | .tqQuotaWrite who t v => Sys2Proof.Machine.execTqQuotaWrite who t v s
  | .tqRelease who t v => Sys2Proof.Machine.execTqRelease who t v s
  | .tlbinvBroadcast c issuer seq => Sys2Proof.Machine.execTlbinvBroadcast c issuer seq s
  | .tlbinvAck issuer seq c => Sys2Proof.Machine.execTlbinvAck issuer seq c s
  | .flitReceive l f => Sys2Proof.Machine.execFlitReceive l f s
  | .plinkTrainComplete d spareTx spareRx => Sys2Proof.Machine.execPlinkTrainComplete d spareTx spareRx s
  | .plinkTrainTimeout d => Sys2Proof.Machine.execPlinkTrainTimeout d s
  | .laneLockLost l => Sys2Proof.Machine.execLaneLockLost l s
  | .plinkRetrain who d v => Sys2Proof.Machine.execPlinkRetrain who d v s
  | .plinkClrcnt who d v => Sys2Proof.Machine.execPlinkClrcnt who d v s
  | .rdshared m => Sys2Proof.Machine.execRdshared m s
  | .rdown m => Sys2Proof.Machine.execRdown m s
  | .upgrade m => Sys2Proof.Machine.execUpgrade m s
  | .wbdirty m => Sys2Proof.Machine.execWbdirty m s
  | .homeAccept h => Sys2Proof.Machine.execHomeAccept h s
  | .chainBegin line => Sys2Proof.Machine.execChainBegin line s
  | .snpshare a line => Sys2Proof.Machine.execSnpshare a line s
  | .snpown a line => Sys2Proof.Machine.execSnpown a line s
  | .snpinv a line => Sys2Proof.Machine.execSnpinv a line s
  | .snoopAnswer a line => Sys2Proof.Machine.execSnoopAnswer a line s
  | .rspi m => Sys2Proof.Machine.execRspi m s
  | .rsps m => Sys2Proof.Machine.execRsps m s
  | .rspfwd m => Sys2Proof.Machine.execRspfwd m s
  | .rspdirty m => Sys2Proof.Machine.execRspdirty m s
  | .memoryReadData line => Sys2Proof.Machine.execMemoryReadData line s
  | .datas m => Sys2Proof.Machine.execDatas m s
  | .datae m => Sys2Proof.Machine.execDatae m s
  | .datam m => Sys2Proof.Machine.execDatam m s
  | .cmp m => Sys2Proof.Machine.execCmp m s
  | .wback a line => Sys2Proof.Machine.execWback a line s
  | .agentdead h a cls => Sys2Proof.Machine.execAgentdead h a cls s
  | .reclaimScanComplete h => Sys2Proof.Machine.execReclaimScanComplete h s
  | .directoryError line e => Sys2Proof.Machine.execDirectoryError line e s
  | .checkerFault t e => Sys2Proof.Machine.execCheckerFault t e s
  | .stgo who t v => Sys2Proof.Machine.execStgo who t v s
  | .selfTestComplete t fail => Sys2Proof.Machine.execSelfTestComplete t fail s
  | .trioInjGo who t v => Sys2Proof.Machine.execTrioInjGo who t v s
  | .weltInput t stream inp lanes => Sys2Proof.Machine.execWeltInput t stream inp lanes s
  | .weltDelivery t => Sys2Proof.Machine.execWeltDelivery t s
  | .debugHalt c => Sys2Proof.Machine.execDebugHalt c s
  | .debugRegisterWrite c r v => Sys2Proof.Machine.execDebugRegisterWrite c r v s
  | .debugMemoryWrite c va size v => Sys2Proof.Machine.execDebugMemoryWrite c va size v s
  | .debugSingleStep c => Sys2Proof.Machine.execDebugSingleStep c s
  | .debugResume c => Sys2Proof.Machine.execDebugResume c s
  | .frameTick => Sys2Proof.Machine.execFrameTick s
  | .tickArrival u => Sys2Proof.Machine.execTickArrival u s
  | .frameDeadline t slot => Sys2Proof.Machine.execFrameDeadline t slot s
  | .phaseMeasurement err => Sys2Proof.Machine.execPhaseMeasurement err s
  | .tickSourceLost => Sys2Proof.Machine.execTickSourceLost s
  | .holdoverExpiry => Sys2Proof.Machine.execHoldoverExpiry s
  | .ftuCfgWrite who v => Sys2Proof.Machine.execFtuCfgWrite who v s
  | .ftuAlignWrite who v => Sys2Proof.Machine.execFtuAlignWrite who v s
  | .ftickInEdge err => Sys2Proof.Machine.execFtickInEdge err s
  | .ppsInEdge ns => Sys2Proof.Machine.execPpsInEdge ns s
  | .ppsOutPulse => Sys2Proof.Machine.execPpsOutPulse s
  | .seasonLoadGo who v => Sys2Proof.Machine.execSeasonLoadGo who v s
  | .seasonLoadComplete => Sys2Proof.Machine.execSeasonLoadComplete s
  | .seasonRequest who v => Sys2Proof.Machine.execSeasonRequest who v s
  | .seasonEnable who v => Sys2Proof.Machine.execSeasonEnable who v s
  | .trioLost d k => Sys2Proof.Machine.execTrioLost d k s
  | .cxqDoorbell who q v => Sys2Proof.Machine.execCxqDoorbell who q v s
  | .create q e => Sys2Proof.Machine.execCreate q e s
  | .start q e => Sys2Proof.Machine.execStart q e s
  | .stop q e => Sys2Proof.Machine.execStop q e s
  | .kill q e => Sys2Proof.Machine.execKill q e s
  | .modify q e => Sys2Proof.Machine.execModify q e s
  | .migrate q e => Sys2Proof.Machine.execMigrate q e s
  | .windowBoundary b => Sys2Proof.Machine.execWindowBoundary b s
  | .budgetExhausted t slot => Sys2Proof.Machine.execBudgetExhausted t slot s
  | .eventSet cid ev => Sys2Proof.Machine.execEventSet cid ev s
  | .detachedResponse t slot ok v => Sys2Proof.Machine.execDetachedResponse t slot ok v s
  | .slotImageWrite who t slot off v => Sys2Proof.Machine.execSlotImageWrite who t slot off v s
  | .spareSubstitution d k cause => Sys2Proof.Machine.execSpareSubstitution d k cause s
  | .spareCopyComplete d => Sys2Proof.Machine.execSpareCopyComplete d s
  | .trioPowerOffRetired t => Sys2Proof.Machine.execTrioPowerOffRetired t s
  | .tntRstGo who v => Sys2Proof.Machine.execTntRstGo who v s
  | .tntCfgWrite who t v => Sys2Proof.Machine.execTntCfgWrite who t v s
  | .qdmaDoorbell who t v => Sys2Proof.Machine.execQdmaDoorbell who t v s
  | .copy t dw0 len src dst => Sys2Proof.Machine.execCopy t dw0 len src dst s
  | .fill t dw0 len src dst => Sys2Proof.Machine.execFill t dw0 len src dst s
  | .zero t dw0 len src dst => Sys2Proof.Machine.execZero t dw0 len src dst s
  | .secStatRestart who v => Sys2Proof.Machine.execSecStatRestart who v s
  | .sealedRestartComplete => Sys2Proof.Machine.execSealedRestartComplete s
  | .sealHoldWrite who hi v => Sys2Proof.Machine.execSealHoldWrite who hi v s
  | .debugChallenge who v => Sys2Proof.Machine.execDebugChallenge who v s
  | .debugVerify who v => Sys2Proof.Machine.execDebugVerify who v s
  | .debugVerifyComplete => Sys2Proof.Machine.execDebugVerifyComplete s
  | .sourceInput n level => Sys2Proof.Machine.execSourceInput n level s
  | .evgTrig who g v => Sys2Proof.Machine.execEvgTrig who g v s
  | .evgPendWrite who g v => Sys2Proof.Machine.execEvgPendWrite who g v s
  | .evgGctlWrite who g v => Sys2Proof.Machine.execEvgGctlWrite who g v s
  | .evgRouteWrite who n v => Sys2Proof.Machine.execEvgRouteWrite who n v s
  | .holdOffExpiry g => Sys2Proof.Machine.execHoldOffExpiry g s
  | .interruptRequest c k => Sys2Proof.Machine.execInterruptRequest c k s
  | .evgCopyError both => Sys2Proof.Machine.execEvgCopyError both s
  | .channelTraining m pass gib => Sys2Proof.Machine.execChannelTraining m pass gib s
  | .mcRequest m r => Sys2Proof.Machine.execMcRequest m r s
  | .dramActivate m => Sys2Proof.Machine.execDramActivate m s
  | .dramReadComplete m line e => Sys2Proof.Machine.execDramReadComplete m line e s
  | .writeBatch m sub => Sys2Proof.Machine.execWriteBatch m sub s
  | .refreshDue m bank => Sys2Proof.Machine.execRefreshDue m bank s
  | .patrolScrub m e => Sys2Proof.Machine.execPatrolScrub m e s
  | .channelLost m cause => Sys2Proof.Machine.execChannelLost m cause s
  | .spdTemperatureAlert m asserted => Sys2Proof.Machine.execSpdTemperatureAlert m asserted s
  | .hostBarAccess b off size wr => Sys2Proof.Machine.execHostBarAccess b off size wr s
  | .hostDoorbell t v => Sys2Proof.Machine.execHostDoorbell t v s
  | .functionLevelReset t => Sys2Proof.Machine.execFunctionLevelReset t s
  | .cpVfdbMsi who t v => Sys2Proof.Machine.execCpVfdbMsi who t v s
  | .quadCfgWrite who q v => Sys2Proof.Machine.execQuadCfgWrite who q v s
  | .ethFrameReceive n frame ns => Sys2Proof.Machine.execEthFrameReceive n frame ns s
  | .ethTransmit n t => Sys2Proof.Machine.execEthTransmit n t s
  | .rootPortInbound q p addr size wr => Sys2Proof.Machine.execRootPortInbound q p addr size wr s
  | .dpcTrigger q p => Sys2Proof.Machine.execDpcTrigger q p s
  | .partnerIdentityBlock k blk => Sys2Proof.Machine.execPartnerIdentityBlock k blk s
  | .accept k => Sys2Proof.Machine.execAccept k s
  | .refuse k code => Sys2Proof.Machine.execRefuse k code s
  | .depart k => Sys2Proof.Machine.execDepart k s
  | .echo k rtt turn => Sys2Proof.Machine.execEcho k rtt turn s
  | .xlLinkTimeout k => Sys2Proof.Machine.execXlLinkTimeout k s
  | .remoteRead k tid off size => Sys2Proof.Machine.execRemoteRead k tid off size s
  | .remoteWrite k tid off size v => Sys2Proof.Machine.execRemoteWrite k tid off size v s
  | .remoteCompletion k tag ok v => Sys2Proof.Machine.execRemoteCompletion k tag ok v s
  | .mailboxGo who t v => Sys2Proof.Machine.execMailboxGo who t v s
  | .mailboxMessage k t payload => Sys2Proof.Machine.execMailboxMessage k t payload s
  | .voteRound who ch v => Sys2Proof.Machine.execVoteRound who ch v s
  | .voteContribution k ch round value => Sys2Proof.Machine.execVoteContribution k ch round value s
  | .voteTimeout ch => Sys2Proof.Machine.execVoteTimeout ch s
  | .tick k ns arrival frame => Sys2Proof.Machine.execTick k ns arrival frame s
  | .lsrcCtlWrite who id v => Sys2Proof.Machine.execLsrcCtlWrite who id v s
  | .softwareTraceStore c t off v => Sys2Proof.Machine.execSoftwareTraceStore c t off v s
  | .funnelPacket n p => Sys2Proof.Machine.execFunnelPacket n p s
  | .lostPacketEmit n => Sys2Proof.Machine.execLostPacketEmit n s
  | .laceSinkWrite who v => Sys2Proof.Machine.execLaceSinkWrite who v s
  | .sinkPacket p => Sys2Proof.Machine.execSinkPacket p s
  | .pcrDumpComplete => Sys2Proof.Machine.execPcrDumpComplete s
  | .supplySample cv => Sys2Proof.Machine.execSupplySample cv s
  | .recoveryTimer => Sys2Proof.Machine.execRecoveryTimer s
  | .snapshotCaptureComplete => Sys2Proof.Machine.execSnapshotCaptureComplete s
  | .leanInForce => Sys2Proof.Machine.execLeanInForce s
  | .runRestored => Sys2Proof.Machine.execRunRestored s
  | .thermalSample d tj => Sys2Proof.Machine.execThermalSample d tj s
  | .powerRequest who v => Sys2Proof.Machine.execPowerRequest who v s
  | .powerRequestComplete n => Sys2Proof.Machine.execPowerRequestComplete n s
  | .moduleReset who v => Sys2Proof.Machine.execModuleReset who v s
  | .dieReset who v => Sys2Proof.Machine.execDieReset who v s
  | .trioReset who v => Sys2Proof.Machine.execTrioReset who v s
  | .coreReset who v => Sys2Proof.Machine.execCoreReset who v s
  | .modResetNLow ns straps => Sys2Proof.Machine.execModResetNLow ns straps s
  | .powerOnResetRelease straps => Sys2Proof.Machine.execPowerOnResetRelease straps s
  | .containmentTimeout u => Sys2Proof.Machine.execContainmentTimeout u s
  | .chipError cause => Sys2Proof.Machine.execChipError cause s
  | .refclkLost r => Sys2Proof.Machine.execRefclkLost r s
  | .refclkHoldExpiry => Sys2Proof.Machine.execRefclkHoldExpiry s
  | .napEntry c off => Sys2Proof.Machine.execNapEntry c off s
  | .napExit c => Sys2Proof.Machine.execNapExit c s
  | .standbyEntry => Sys2Proof.Machine.execStandbyEntry s
  | .emAccumulate d => Sys2Proof.Machine.execEmAccumulate d s
  | .marginMeasure t ps => Sys2Proof.Machine.execMarginMeasure t ps s
  | .soleStagingDrain good => Sys2Proof.Machine.execSoleStagingDrain good s
  | .linkCloseTimeout area => Sys2Proof.Machine.execLinkCloseTimeout area s
  | .soleCtlCommit who v => Sys2Proof.Machine.execSoleCtlCommit who v s
  | .commitComplete => Sys2Proof.Machine.execCommitComplete s
  | .hourlyCommit => Sys2Proof.Machine.execHourlyCommit s
  | .snap who v => Sys2Proof.Machine.execSnap who v s
  | .refresh who v => Sys2Proof.Machine.execRefresh who v s
  | .refreshPassComplete bad => Sys2Proof.Machine.execRefreshPassComplete bad s
  | .soleDead => Sys2Proof.Machine.execSoleDead s
  | .soleReadGo who t v => Sys2Proof.Machine.execSoleReadGo who t v s
  | .soleReadComplete t => Sys2Proof.Machine.execSoleReadComplete t s
  | .bootStoreEnd who v => Sys2Proof.Machine.execBootStoreEnd who v s
  | .bootFailure code => Sys2Proof.Machine.execBootFailure code s
  | .cdtLock who v => Sys2Proof.Machine.execCdtLock who v s
  | .pmbDoorbell who ring v => Sys2Proof.Machine.execPmbDoorbell who ring v s
  | .info e => Sys2Proof.Machine.execInfo e s
  | .expertChal e => Sys2Proof.Machine.execExpertChal e s
  | .expertResp e => Sys2Proof.Machine.execExpertResp e s
  | .expertDrop e => Sys2Proof.Machine.execExpertDrop e s
  | .regRead e => Sys2Proof.Machine.execRegRead e s
  | .regWrite e => Sys2Proof.Machine.execRegWrite e s
  | .seasonLoad e => Sys2Proof.Machine.execSeasonLoad e s
  | .seasonActivate e => Sys2Proof.Machine.execSeasonActivate e s
  | .cxe e => Sys2Proof.Machine.execCxe e s
  | .tenantReset e => Sys2Proof.Machine.execTenantReset e s
  | .ppr e => Sys2Proof.Machine.execPpr e s
  | .channelRemove e => Sys2Proof.Machine.execChannelRemove e s
  | .standby e => Sys2Proof.Machine.execStandby e s
  | .reset e => Sys2Proof.Machine.execReset e s
  | .retire e => Sys2Proof.Machine.execRetire e s
  | .soleVerify e => Sys2Proof.Machine.execSoleVerify e s
  | .soleCommit e => Sys2Proof.Machine.execSoleCommit e s
  | .imageWrite e => Sys2Proof.Machine.execImageWrite e s
  | .imageCheck e => Sys2Proof.Machine.execImageCheck e s
  | .arbAdvance e => Sys2Proof.Machine.execArbAdvance e s
  | .sealedRestart e => Sys2Proof.Machine.execSealedRestart e s
  | .bootLoad e => Sys2Proof.Machine.execBootLoad e s
  | .bootGo e => Sys2Proof.Machine.execBootGo e s
  | .hello r => Sys2Proof.Machine.execHello r s
  | .baud r => Sys2Proof.Machine.execBaud r s
  | .awlBaudTimeout => Sys2Proof.Machine.execAwlBaudTimeout s
  | .chal r => Sys2Proof.Machine.execChal r s
  | .resp r => Sys2Proof.Machine.execResp r s
  | .read r => Sys2Proof.Machine.execRead r s
  | .write r => Sys2Proof.Machine.execWrite r s
  | .sole r => Sys2Proof.Machine.execSole r s
  | .ctxlist r => Sys2Proof.Machine.execCtxlist r s
  | .linklist r => Sys2Proof.Machine.execLinklist r s
  | .load r => Sys2Proof.Machine.execLoad r s
  | .boot r => Sys2Proof.Machine.execBoot r s
  | .jtagInstruction ir => Sys2Proof.Machine.execJtagInstruction ir s
  | .registerWrite who off size v => Sys2Proof.Machine.execRegisterWrite who off size v s
  | .refclkRestored => Sys2Proof.Machine.execRefclkRestored s
  | .tickMissing u => Sys2Proof.Machine.execTickMissing u s
  | .plinkRetrainComplete d badTx badRx => Sys2Proof.Machine.execPlinkRetrainComplete d badTx badRx s
  | .xlReceiversDetected k => Sys2Proof.Machine.execXlReceiversDetected k s
  | .xlLanesLocked k => Sys2Proof.Machine.execXlLanesLocked k s
  | .ethLinkChange n up => Sys2Proof.Machine.execEthLinkChange n up s
  | .rootPortLinkChange q p ch => Sys2Proof.Machine.execRootPortLinkChange q p ch s
  | .commandPortLinkChange ch => Sys2Proof.Machine.execCommandPortLinkChange ch s
  | .dramAlert m k => Sys2Proof.Machine.execDramAlert m k s
  | .awlFrameGapTimeout => Sys2Proof.Machine.execAwlFrameGapTimeout s
  | .deviceCompletion c ok v => Sys2Proof.Machine.execDeviceCompletion c ok v s

end Sys2Proof.Machine
end

