-- ==== Sys2Proof/Safety.lean ====
section
/-! DEFINITION. The terms that statements about the machine use: what it is for a core to be about to execute an instruction, and the
state that a position which ends leaves. -/

namespace Sys2Proof

/-- A step that answers a next state: it neither faults nor is refused. -/
def Machine.Completes (o : Host.Outcome Machine.State Machine.Fault Machine.Refusal) : Prop := ∃ t, o = .next t

namespace Machine

/-- Core `c` executes an instruction now: it issues, the position is not an annulled slot, the fetch succeeds, and no wrong item waits
to be met by its trio's comparison (R198, R214). `s1` is the state in which the instruction's own part runs: results due are in their
registers and the fetch has been made (R43, R466). -/
structure Ready (s : State) (c : CoreId) (s1 : State) : Prop where
  issuing : s.issuing c.val = true
  live : (s.core c.val).arch.slot.map (·.annul) ≠ some true
  fetched : (s.modCore c.val (fun k => k.settle k.arch.posn)).fetch c.val = (s1, .ok ())
  agreed : (s.trio (trioOf c.val)).inj = none

/-- The state after a position of core `c` at address `pc` ends: the PC and the position number advance, the trace and the counters
are told `h`, and the step settles. `slot`: the delay slot that a branch leaves. -/
def retired (s : State) (c : CoreId) (pc : Dword) (h : Happened) (slot : Option SlotSt) : State :=
  ((s.modCore c.val (fun k => k.advance slot)).endPos c.val pc h).finish

/-- The state after a position of core `c` ends in a trap of the instruction `w`. -/
def trapped (s : State) (c : CoreId) (w : Word) (x : Trap) : State := (s.trapPos c.val w x).finish

/-- A result of core `c` on its way to the register numbered `rd` (`isF`: an f register), visible `dist` positions from now, with the
flags that it sets then. -/
def sends (s : State) (c : CoreId) (isF : Bool) (rd : BitVec 5) (v : Dword) (dist : Nat) (ff : BitVec 5) (af : BitVec 3) : State :=
  s.modCore c.val (fun k => k.produce ⟨k.arch.posn + dist, k.dest isF rd, v, ff, af, none⟩)

/-- A value on its way to a register named by its key; none takes nothing. -/
def State.lands (s : State) (c : Nat) (dst : Option Nat) (v : Dword) (dist : Nat) : State :=
  match dst with
  | none => s
  | some key => s.modCore c (fun k => k.produce ⟨k.arch.posn + dist, some key, v, 0, 0, none⟩)

/-- A write of the value `v` to register `r` by `who` passes every check that stands before the register's own rules (R31, R464). -/
structure Accepted (s : State) (who : Requester) (r : RegRef) (v : Dword) : Prop where
  up : s.down = false
  port : s.dapAbsent who = false
  unit : mcsUnit r.off = .reg r
  aligned : r.off % 8 = 0
  answers : s.mcsAnswers who r.off (.reg r) = none
  writer : s.writerRefused who r v = none
  debug : s.dapRefused who true = false
  expert : r.reg.expert = true → s.rf ⟨.expertCtl, 0, 0, 0⟩ 0 0 ≠ 0

/-- A write completes and leaves `s`. -/
def wrote (s : State) : Host.Outcome State Fault Refusal := .next (s.answer (.ok 0)).finish

end Machine

end Sys2Proof
end

