-- ==== Sys2Proof/WellFormed.lean ====
section
/-! DEFINITION. Which commands are well formed: those whose operands spell the row that the constructor names. A row that is one
value of a register's bit or one OP of a queue entry is spelled only by operands that hold that value; the other operands
of every row admit every value their types hold. -/

namespace Sys2Proof.Machine

/-- The operands of a command spell its row. -/
def wf : Instr → Bool
  -- R40
  | .reservedInstruction _ w => reservedWord w
  -- R130: EN = 0
  | .l2CleanStart _ _ v => !bit v 0
  -- R131: EN = 1
  | .l2Enable _ _ v => bit v 0
  -- R132: L1D_EN = 0
  | .l1dDisable _ _ v => !bit v 1
  -- R133: EN = 0
  | .mscCleanStart _ v => !bit v 0
  -- the Hashed Inverted Table: an entry is 16 bytes, in a bucket of 128
  | .adUpdate entry _ _ => decide (entry.toNat % 16 = 0)
  -- the same
  | .demandAllocation entry _ _ => decide (entry.toNat % 16 = 0)
  -- R164: a lane is 0 to 15, or 0x1F for none
  | .plinkTrainComplete _ spareTx spareRx => laneOk spareTx && laneOk spareRx
  -- R164: RETRAIN = 1
  | .plinkRetrain _ _ v => bit v 0
  -- R164: CLRCNT = 1
  | .plinkClrcnt _ _ v => bit v 1
  -- R212: STGO = 1
  | .stgo _ _ v => bit v 1
  -- `TRIO_INJ`: GO = 1
  | .trioInjGo _ _ v => bit v 7
  -- R238: GO = 1
  | .seasonLoadGo _ v => bit v 0
  -- R240: REQ = 1
  | .seasonRequest _ v => bit v 4
  -- R240: EN = 1
  | .seasonEnable _ v => bit v 3
  -- R280: the OP of the entry
  | .create _ e => decide (fld e 7 0 = 1)
  -- R280
  | .start _ e => decide (fld e 7 0 = 2)
  -- R280
  | .stop _ e => decide (fld e 7 0 = 3)
  -- R280
  | .kill _ e => decide (fld e 7 0 = 4)
  -- R280
  | .modify _ e => decide (fld e 7 0 = 5)
  -- R280
  | .migrate _ e => decide (fld e 7 0 = 6)
  -- R293: GO = 1
  | .tntRstGo _ v => bit v 0
  -- R297: the OP of the descriptor
  | .copy _ dw0 _ _ _ => decide (fld dw0 7 0 = 1)
  -- R297
  | .fill _ dw0 _ _ _ => decide (fld dw0 7 0 = 2)
  -- R297
  | .zero _ dw0 _ _ _ => decide (fld dw0 7 0 = 3)
  -- R307: RESTART = 1
  | .secStatRestart _ v => bit v 2
  -- R311: CHAL = 1
  | .debugChallenge _ v => bit v 0
  -- R311: GO = 1
  | .debugVerify _ v => bit v 1
  -- R354: a VF, and some bit of MSI
  | .cpVfdbMsi _ t v => decide (t.val ≠ 0) && decide (fld v 3 0 ≠ 0)
  -- R365: naturally aligned
  | .remoteRead _ _ off size => decide (off.toNat % 2 ^ size.val = 0)
  -- R365
  | .remoteWrite _ _ off size _ => decide (off.toNat % 2 ^ size.val = 0)
  -- R367: seven doublewords of payload
  | .mailboxMessage _ _ payload => decide (payload.length = 7)
  -- R404: GO = 1
  | .powerRequest _ v => bit v 0
  -- R405: KIND = 1
  | .moduleReset _ v => decide (fld v 2 0 = 1)
  -- R406: KIND = 2
  | .dieReset _ v => decide (fld v 2 0 = 2)
  -- R406: KIND = 3
  | .trioReset _ v => decide (fld v 2 0 = 3)
  -- R406: KIND = 4
  | .coreReset _ v => decide (fld v 2 0 = 4)
  -- R423: COMMIT = 1
  | .soleCtlCommit _ v => bit v 0
  -- R422: SNAP = 1
  | .snap _ v => bit v 1
  -- R426: REFRESH = 1
  | .refresh _ v => bit v 2
  -- R427: GO = 1
  | .soleReadGo _ _ v => bit v 0
  -- R430: BSTORE = 1
  | .bootStoreEnd _ v => bit v 2
  -- R65: LOCK = 1
  | .cdtLock _ v => bit v 0
  -- R164
  | .plinkRetrainComplete _ badTx badRx => laneOk (badTx.getD 0x1F) && laneOk (badRx.getD 0x1F)
  | .add .. | .sub .. | .and .. | .or .. | .xor .. | .andn .. | .orn .. | .xnor .. | .sll .. | .srl .. | .sra ..
  | .ror .. | .slt .. | .sltu .. | .min .. | .max .. | .minu .. | .maxu .. | .addw .. | .subw .. | .sllw .. | .srlw ..
  | .sraw .. | .clz .. | .ctz .. | .popc .. | .sexb .. | .sexh .. | .sexw .. | .zexw .. | .selnz .. | .selz ..
  | .mul .. | .mulh .. | .mulhu .. | .mulhsu .. | .mulw .. | .div .. | .divu .. | .rem .. | .remu .. | .getq ..
  | .dadd .. | .dsub .. | .lrW .. | .scW .. | .lrD .. | .scD .. | .tasB .. | .fadd .. | .fsub .. | .fmul .. | .fdiv ..
  | .fsqrt .. | .fmin .. | .fmax .. | .fsgnj .. | .fsgnjn .. | .fsgnjx .. | .fmadd .. | .fmsub .. | .fnmadd ..
  | .fnmsub .. | .feq .. | .flt .. | .fle .. | .fcvtSD .. | .fcvtDS .. | .fcvtLD .. | .fcvtLuD .. | .fcvtLS ..
  | .fcvtDL .. | .fcvtDLu .. | .fcvtSL .. | .fmvXD .. | .fmvDX .. | .fclass .. | .getf .. | .addi .. | .andi ..
  | .ori .. | .xori .. | .slli .. | .srli .. | .srai .. | .rori .. | .slti .. | .sltiu .. | .shori .. | .addpc ..
  | .addpch .. | .jalr .. | .lb .. | .lbu .. | .lh .. | .lhu .. | .lw .. | .lwu .. | .ld .. | .flw .. | .fld ..
  | .sb .. | .sh .. | .sw .. | .sd .. | .fsw .. | .fsd .. | .beqz .. | .bnez .. | .bltz .. | .bgez .. | .blez ..
  | .bgtz .. | .j .. | .jal .. | .csrrd .. | .csrwr .. | .divsave .. | .divrestore .. | .eclaim .. | .ecomp ..
  | .scall .. | .pcall .. | .mcall .. | .rfe .. | .brk .. | .wait .. | .waite .. | .yield .. | .fdone .. | .signal ..
  | .fence .. | .tlbinv .. | .tlbsync .. | .cinv .. | .ccln .. | .cflsh .. | .customInstruction ..
  | .resultBecomesVisible .. | .pendingResultApply .. | .iterativeUnitReady .. | .mergeEntryTimeout ..
  | .mergeEntryDrain .. | .interruptAccept .. | .coreError .. | .mcallWatchdogExpiry .. | .sealedForcedReturn ..
  | .l2CleanComplete .. | .l2InitComplete .. | .mscCleanComplete | .maskChangeArrives .. | .hitCfgWrite ..
  | .zeroFillComplete .. | .tqQuotaWrite .. | .tqRelease .. | .tlbinvBroadcast .. | .tlbinvAck .. | .flitReceive ..
  | .plinkTrainTimeout .. | .laneLockLost .. | .rdshared .. | .rdown .. | .upgrade .. | .wbdirty .. | .homeAccept ..
  | .chainBegin .. | .snpshare .. | .snpown .. | .snpinv .. | .snoopAnswer .. | .rspi .. | .rsps .. | .rspfwd ..
  | .rspdirty .. | .memoryReadData .. | .datas .. | .datae .. | .datam .. | .cmp .. | .wback .. | .agentdead ..
  | .reclaimScanComplete .. | .directoryError .. | .checkerFault .. | .selfTestComplete .. | .weltInput ..
  | .weltDelivery .. | .debugHalt .. | .debugRegisterWrite .. | .debugMemoryWrite .. | .debugSingleStep ..
  | .debugResume .. | .frameTick | .tickArrival .. | .frameDeadline .. | .phaseMeasurement .. | .tickSourceLost
  | .holdoverExpiry | .ftuCfgWrite .. | .ftuAlignWrite .. | .ftickInEdge .. | .ppsInEdge .. | .ppsOutPulse
  | .seasonLoadComplete | .trioLost .. | .cxqDoorbell .. | .windowBoundary .. | .budgetExhausted .. | .eventSet ..
  | .detachedResponse .. | .slotImageWrite .. | .spareSubstitution .. | .spareCopyComplete .. | .trioPowerOffRetired ..
  | .tntCfgWrite .. | .qdmaDoorbell .. | .sealedRestartComplete | .sealHoldWrite .. | .debugVerifyComplete
  | .sourceInput .. | .evgTrig .. | .evgPendWrite .. | .evgGctlWrite .. | .evgRouteWrite .. | .holdOffExpiry ..
  | .interruptRequest .. | .evgCopyError .. | .channelTraining .. | .mcRequest .. | .dramActivate ..
  | .dramReadComplete .. | .writeBatch .. | .refreshDue .. | .patrolScrub .. | .channelLost ..
  | .spdTemperatureAlert .. | .hostBarAccess .. | .hostDoorbell .. | .functionLevelReset .. | .quadCfgWrite ..
  | .ethFrameReceive .. | .ethTransmit .. | .rootPortInbound .. | .dpcTrigger .. | .partnerIdentityBlock ..
  | .accept .. | .refuse .. | .depart .. | .echo .. | .xlLinkTimeout .. | .remoteCompletion .. | .mailboxGo ..
  | .voteRound .. | .voteContribution .. | .voteTimeout .. | .tick .. | .lsrcCtlWrite .. | .softwareTraceStore ..
  | .funnelPacket .. | .lostPacketEmit .. | .laceSinkWrite .. | .sinkPacket .. | .pcrDumpComplete | .supplySample ..
  | .recoveryTimer | .snapshotCaptureComplete | .leanInForce | .runRestored | .thermalSample ..
  | .powerRequestComplete .. | .modResetNLow .. | .powerOnResetRelease .. | .containmentTimeout .. | .chipError ..
  | .refclkLost .. | .refclkHoldExpiry | .napEntry .. | .napExit .. | .standbyEntry | .emAccumulate ..
  | .marginMeasure .. | .soleStagingDrain .. | .linkCloseTimeout .. | .commitComplete | .hourlyCommit
  | .refreshPassComplete .. | .soleDead | .soleReadComplete .. | .bootFailure .. | .pmbDoorbell .. | .info ..
  | .expertChal .. | .expertResp .. | .expertDrop .. | .regRead .. | .regWrite .. | .seasonLoad .. | .seasonActivate ..
  | .cxe .. | .tenantReset .. | .ppr .. | .channelRemove .. | .standby .. | .reset .. | .retire .. | .soleVerify ..
  | .soleCommit .. | .imageWrite .. | .imageCheck .. | .arbAdvance .. | .sealedRestart .. | .bootLoad .. | .bootGo ..
  | .hello .. | .baud .. | .awlBaudTimeout | .chal .. | .resp .. | .read .. | .write .. | .sole .. | .ctxlist ..
  | .linklist .. | .load .. | .boot .. | .jtagInstruction .. | .registerWrite .. | .refclkRestored | .tickMissing ..
  | .xlReceiversDetected .. | .xlLanesLocked .. | .ethLinkChange .. | .rootPortLinkChange ..
  | .commandPortLinkChange .. | .dramAlert .. | .awlFrameGapTimeout | .deviceCompletion .. => true

end Sys2Proof.Machine
end

