-- ==== Sys2Proof/Certificates/Slice0/Obligations.lean ====
section
/-! DEFINITION. The statements for the provers: what the numbered rules of the specification say that a command does. -/

open Sys2Proof Sys2Proof.Machine

/-! ### Steps -/

/-- A step takes the command at the front of the queue and executes it with the queue's rest (the model's queue, assumption 1). -/
def Obligations.StepRunsTheFront : Prop :=
  ∀ (s : State) (i : Instr) (rest : List Instr), step { s with pending := i :: rest } = exec i { s with pending := rest }

/-- On an empty queue, while no program of the service trio has anything to do, 10 ns pass: the timebase advances by one unit, or
stands still while a backward phase step is worked off, and for one unit in a frame that is lengthened (assumption 1). At a multiple
of 10 units every hold-off counter above 1 counts down (R321; the last unit is the model's choice, assumption 68). -/
def Obligations.IdlePassesTime : Prop :=
  ∀ s : State, s.pending = [] → (pass s).firmware = none →
    let later := { s with timebase := s.timebase + 1 }
    let counted := decide ((s.timebase + 1).toNat % 10 = 0)
    (0 < s.ftu.hold → step s = .next { s with ftu := { s.ftu with hold := s.ftu.hold - 1 } }) ∧
    (s.ftu.hold = 0 → s.lengthens = true →
      step s = .next { s with ftu := { s.ftu with slew := s.ftu.slew + 1, corrected := true } }) ∧
    (s.ftu.hold = 0 → s.lengthens = false → counted = false → step s = .next later) ∧
    (s.ftu.hold = 0 → s.lengthens = false → counted = true → ∃ t, step s = .next t ∧ { t with mcs := s.mcs } = later ∧
      (∀ r : RegRef, (∀ g, g < 64 → (gctlR g).off ≠ r.off) → t.reg r = s.reg r) ∧
      ∀ g, g < 64 → let n := s.rf (gctlR g) 31 16; t.reg (gctlR g) = setFld (s.reg (gctlR g)) 31 16 (if 2 ≤ n then n - 1 else n))

/-- Nothing stops the machine: every command has an effect in every state, whatever its operands (assumption 33), and so every step
answers a next state. -/
def Obligations.NeverStops : Prop :=
  (∀ (i : Instr) (s : State), ∃ t, exec i s = .next t) ∧ ∀ s : State, ∃ t, step s = .next t

/-- No core holds an interrupt request that the Event Gatherer does not raise, and nothing raised awaits the end of the step. -/
def RequestsRaised (s : State) : Prop :=
  s.evg.raised = [] ∧ ∀ (c : Nat) (k : IntClass), k ∈ (s.core c).intReq → s.requested c k = true

/-- The invariant of requests holds right after reset. -/
def Obligations.ResetRequestsRaised : Prop := RequestsRaised State.reset

/-- The machine right after reset (R9, R18, R33, R405, R456): every register but those that the reset itself writes holds its Reset
value; the service trio alone runs, in Voted mode, about to execute the boot ROM's first instruction at PL3 with W = 1; the compute dies
are Off, no season is in force, ALARM_N is asserted. That memory and the general registers start as zero is the model's choice
(assumptions 2 and 3). -/
def Obligations.ResetState : Prop :=
  let s := State.reset
  (∀ r : RegRef, r.off ≠ rstCauseR.off → r.off ≠ (rstat svcTrio).off → s.reg r = r.dflt) ∧
  s.reg ⟨.modIdent, 0, 0, 0⟩ = 0x00D821C000000000 ∧ (∀ d, d < 12 → s.reg (mapR d) = 0x000000000002C688) ∧
  s.rf rstCauseR 15 8 = 1 ∧ s.rf rstCauseR 0 0 = 0 ∧ s.rf rstCauseR 63 32 = 1 ∧ s.trioMode svcTrio = 2 ∧
  (∀ d, d < 12 → s.dieState d = 0) ∧ (∀ t, t < 84 → s.powered t = false) ∧ s.seasonsOn = false ∧ s.bootStore = true ∧
  (∀ c, c < 252 → (s.core c).run = .held) ∧ (∀ c, 252 ≤ c → c < 255 → (s.core c).run = .running ∧
    (s.core c).arch.pc = 0x3FFFFFF00000 ∧ (s.core c).pl = 3 ∧ (s.core c).w = true) ∧
  s.pending = [] ∧ s.timebase = 0 ∧ s.power.alarm = true

/-- Every step keeps it: whatever a command does to sources, routes, enables, contexts and cores, at the end of the step every
request that a core still holds has an eligible source behind it. -/
def Obligations.EveryStepKeepsRequests : Prop :=
  ∀ s t : State, RequestsRaised s → step s = .next t → RequestsRaised t

/-- The end of a position of core `c` in which no posted store has been refused changes no core's registers, context, reservation,
merging buffer, caches or TLBs, no byte of memory, no home, no other unit; of the registers of the Module Configuration Space only
trigger states, the core's counters and the Event Gatherer's pending bits and drop counts may change. -/
def Obligations.PositionEndFrame : Prop :=
  ∀ (s : State) (c : CoreId) (pc : Dword) (h : Happened) (slot : Option SlotSt), s.refusals = [] →
    let t := retired s c pc h slot
    (t.core c.val).arch = ((s.core c.val).advance slot).arch ∧
    (∀ x, x ≠ c.val → (t.core x).arch = (s.core x).arch ∧ (t.core x).halted = (s.core x).halted) ∧
    (∀ x, (t.core x).own = (s.core x).own ∧ (t.core x).run = (s.core x).run ∧ (t.core x).ctx = (s.core x).ctx ∧
      (t.core x).resv = (s.core x).resv ∧ (t.core x).merge = (s.core x).merge ∧ (t.core x).l1i = (s.core x).l1i ∧
      (t.core x).l1d = (s.core x).l1d ∧ (t.core x).itlb = (s.core x).itlb ∧ (t.core x).dtlb = (s.core x).dtlb ∧
      (t.core x).tlb2 = (s.core x).tlb2 ∧ (t.core x).frame = (s.core x).frame) ∧
    (∀ a, t.byte a = s.byte a) ∧ t.poison = s.poison ∧ t.msc = s.msc ∧ t.homes = s.homes ∧ t.trios = s.trios ∧
    t.pending = s.pending ∧ t.timebase = s.timebase ∧ t.net = s.net ∧ t.ioBuf = s.ioBuf ∧ t.fills = s.fills ∧ t.gce = s.gce ∧ t.ftu = s.ftu ∧ t.mcc = s.mcc ∧
    t.sec = s.sec ∧ t.links = s.links ∧ t.power = s.power ∧ t.sole = s.sole ∧ t.boot = s.boot ∧
    (∀ r : RegRef, (∀ id, id < 512 → r.off ≠ (lsrc id).off) → (∀ n, n < 6 → r.off ≠ ((PmcBlock.core c.val).cnt n).off) →
      (∀ g, g < 64 → r.off ≠ (pendR g).off) → r.off ≠ (RegRef.mk .evgStat 0 0 0).off → t.reg r = s.reg r)

/-! ### Computational instructions -/

/-- The INT instructions on two sources and one (R39, R46): each sends its result to rd, visible one position later. -/
def IntegerResults : Prop :=
  ∀ (s s1 : State) (c : CoreId) (o : OpsA), Ready s c s1 →
    let a := (s1.core c.val).g o.rs1
    let b := (s1.core c.val).g o.rs2
    let d := (s1.core c.val).g o.rd
    let aw : Word := a.truncate 32
    let bw : Word := b.truncate 32
    let out := fun (v : Dword) =>
      (.next (retired (sends s1 c false o.rd v 1 0 0) c (s.core c.val).arch.pc {} none) : Host.Outcome State Fault Refusal)
    exec (.add c o) s = out (a + b) ∧ exec (.sub c o) s = out (a - b) ∧ exec (.and c o) s = out (a &&& b) ∧
    exec (.or c o) s = out (a ||| b) ∧ exec (.xor c o) s = out (a ^^^ b) ∧ exec (.andn c o) s = out (a &&& ~~~b) ∧
    exec (.orn c o) s = out (a ||| ~~~b) ∧ exec (.xnor c o) s = out (~~~(a ^^^ b)) ∧
    exec (.sll c o) s = out (a <<< (b.toNat % 64)) ∧ exec (.srl c o) s = out (a >>> (b.toNat % 64)) ∧
    exec (.sra c o) s = out (a.sshiftRight (b.toNat % 64)) ∧ exec (.ror c o) s = out (a.rotateRight (b.toNat % 64)) ∧
    exec (.slt c o) s = out (if a.toInt < b.toInt then 1 else 0) ∧ exec (.sltu c o) s = out (if a.toNat < b.toNat then 1 else 0) ∧
    exec (.min c o) s = out (if a.toInt < b.toInt then a else b) ∧ exec (.max c o) s = out (if a.toInt < b.toInt then b else a) ∧
    exec (.minu c o) s = out (if a.toNat < b.toNat then a else b) ∧ exec (.maxu c o) s = out (if a.toNat < b.toNat then b else a) ∧
    exec (.addw c o) s = out ((aw + bw).signExtend 64) ∧ exec (.subw c o) s = out ((aw - bw).signExtend 64) ∧
    exec (.sllw c o) s = out ((aw <<< (b.toNat % 32)).signExtend 64) ∧
    exec (.srlw c o) s = out ((aw >>> (b.toNat % 32)).signExtend 64) ∧
    exec (.sraw c o) s = out ((aw.sshiftRight (b.toNat % 32)).signExtend 64) ∧
    exec (.clz c o) s = out (BitVec.ofNat 64 (clz64 a)) ∧ exec (.ctz c o) s = out (BitVec.ofNat 64 (ctz64 a)) ∧
    exec (.popc c o) s = out (BitVec.ofNat 64 (popCount a)) ∧
    exec (.sexb c o) s = out ((a.truncate 8 : BitVec 8).signExtend 64) ∧
    exec (.sexh c o) s = out ((a.truncate 16 : BitVec 16).signExtend 64) ∧ exec (.sexw c o) s = out (aw.signExtend 64) ∧
    exec (.zexw c o) s = out (aw.zeroExtend 64) ∧ exec (.selnz c o) s = out (if b ≠ 0 then a else d) ∧
    exec (.selz c o) s = out (if b = 0 then a else d)

/-- The counts of the model are the counts of bits: the leading zeros, the trailing zeros and the ones of a doubleword. -/
def Obligations.CountsAreCounts : Prop :=
  ∀ a : Dword,
    (clz64 a ≤ 64 ∧ (∀ i, i < clz64 a → a.getLsbD (63 - i) = false) ∧ (clz64 a < 64 → a.getLsbD (63 - clz64 a) = true)) ∧
    (ctz64 a ≤ 64 ∧ (∀ i, i < ctz64 a → a.getLsbD i = false) ∧ (ctz64 a < 64 → a.getLsbD (ctz64 a) = true)) ∧
    popCount a = ((List.range 64).map (fun i => (a.getLsbD i).toNat)).sum

/-- The multiplies (R66): the low or the high half of the exact product, or the low word sign-extended, two positions later. -/
def MultiplyResults : Prop :=
  ∀ (s s1 : State) (c : CoreId) (o : OpsA), Ready s c s1 →
    let a := (s1.core c.val).g o.rs1
    let b := (s1.core c.val).g o.rs2
    let out := fun (v : Dword) =>
      (.next (retired (sends s1 c false o.rd v 2 0 0) c (s.core c.val).arch.pc {} none) : Host.Outcome State Fault Refusal)
    exec (.mul c o) s = out (BitVec.ofNat 64 (a.toNat * b.toNat)) ∧
    exec (.mulh c o) s = out (BitVec.ofInt 64 (a.toInt * b.toInt / 2 ^ 64)) ∧
    exec (.mulhu c o) s = out (BitVec.ofNat 64 (a.toNat * b.toNat / 2 ^ 64)) ∧
    exec (.mulhsu c o) s = out (BitVec.ofInt 64 (a.toInt * b.toNat / 2 ^ 64)) ∧
    exec (.mulw c o) s = out ((BitVec.ofNat 32 (a.toNat % 2 ^ 32 * (b.toNat % 2 ^ 32))).signExtend 64)

/-- The immediate instructions (R38, R39), one position later; ADDI whatever its m2. -/
def ImmediateResults : Prop :=
  ∀ (s s1 : State) (c : CoreId) (o : OpsB) (m2 : BitVec 2), Ready s c s1 →
    let a := (s1.core c.val).g o.rs1
    let i : Dword := o.imm.signExtend 64
    let n := o.imm.toNat % 64
    let pc := (s1.core c.val).arch.pc
    let out := fun (v : Dword) =>
      (.next (retired (sends s1 c false o.rd v 1 0 0) c (s.core c.val).arch.pc {} none) : Host.Outcome State Fault Refusal)
    exec (.addi c m2 o) s = out (a + i) ∧ exec (.andi c o) s = out (a &&& i) ∧ exec (.ori c o) s = out (a ||| i) ∧
    exec (.xori c o) s = out (a ^^^ i) ∧ exec (.slli c o) s = out (a <<< n) ∧ exec (.srli c o) s = out (a >>> n) ∧
    exec (.srai c o) s = out (a.sshiftRight n) ∧ exec (.rori c o) s = out (a.rotateRight n) ∧
    exec (.slti c o) s = out (if a.toInt < i.toInt then 1 else 0) ∧ exec (.sltiu c o) s = out (if a.toNat < i.toNat then 1 else 0) ∧
    exec (.shori c o) s = out ((a <<< 14) ||| o.imm.zeroExtend 64) ∧ exec (.addpc c o) s = out (pc + i * 4) ∧
    exec (.addpch c o) s = out (pc + i <<< 16)

/-- Packed decimal (R71, R72): with both operands valid the packed magnitude and sign of the exact sum or difference go to rd, with
DC when the magnitude has more than fifteen digits; with an invalid operand DV is set and nothing goes to rd. -/
def DecimalResults : Prop :=
  ∀ (s s1 : State) (c : CoreId) (o : OpsA), Ready s c s1 →
    let a := (s1.core c.val).g o.rs1
    let b := (s1.core c.val).g o.rs2
    let pc := (s.core c.val).arch.pc
    let good := fun (x : Int) =>
      (.next (retired (sends s1 c false o.rd (decPack x.natAbs (if x < 0 then 0xD else 0xC)) 2 0
        (if 10 ^ 15 ≤ x.natAbs then 4 else 0)) c pc {} none) : Host.Outcome State Fault Refusal)
    let bad := (.next (retired (s1.modCore c.val (fun k => k.produce ⟨k.arch.posn + 2, none, 0, 0, 2, none⟩)) c pc {} none) :
      Host.Outcome State Fault Refusal)
    (decValid a = true → decValid b = true →
      exec (.dadd c o) s = good (decValue a + decValue b) ∧ exec (.dsub c o) s = good (decValue a - decValue b)) ∧
    (decValid a = false ∨ decValid b = false → exec (.dadd c o) s = bad ∧ exec (.dsub c o) s = bad)

/-- What is packed is what R71 says: fifteen decimal digits, those of the magnitude modulo 10^15, with the sign given. -/
def DecimalPacking : Prop :=
  ∀ m : Nat, decValid (decPack m 0xC) = true ∧ decValue (decPack m 0xC) = (m % 10 ^ 15 : Nat) ∧
    decValid (decPack m 0xD) = true ∧ decValue (decPack m 0xD) = -((m % 10 ^ 15 : Nat) : Int)

/-- The integer instructions (R39, R46, R66): those of two sources and one, the multiplies, and those with an immediate. -/
def Obligations.IntegerInstructions : Prop := IntegerResults ∧ MultiplyResults ∧ ImmediateResults

/-- Packed decimal (R71, R72): the instructions, and what the packed form of a magnitude is. -/
def Obligations.DecimalInstructions : Prop := DecimalResults ∧ DecimalPacking

/-! ### Floating point -/

/-- The rounding mode that an RM field selects at a core (R75). -/
def modeOf (k : Core) (rm : Nat) : Nat := if rm = 7 then fld (k.csr 0x002) 7 5 else rm

/-- The floating-point instructions of fixed distance with one or two sources (R39, R44, R47, R78): each sends the result and the
flags of its operation, visible together at its distance, unless its RM field holds a reserved value. -/
def FloatResults : Prop :=
  ∀ (s s1 : State) (c : CoreId) (dbl : Bool) (o : OpsA), Ready s c s1 →
    let k := s1.core c.val
    let f := fmtOf dbl
    let x := f.bits (k.f o.rs1)
    let y := f.bits (k.f o.rs2)
    let rm := modeOf k (fld o.ext 4 2)
    let pc := (s.core c.val).arch.pc
    let out := fun (isF : Bool) (dist v : Nat) (ff : BitVec 5) =>
      (.next (retired (sends s1 c isF o.rd (BitVec.ofNat 64 v) dist ff 0) c pc {} none) : Host.Outcome State Fault Refusal)
    let b01 := fun (b : Bool) => if b then 1 else 0
    (fld o.ext 4 2 ≠ 5 → fld o.ext 4 2 ≠ 6 →
      (let r := f.add rm (f.unpack x) (f.unpack y); exec (.fadd c dbl o) s = out true 4 r.1 r.2) ∧
      (let r := f.add rm (f.unpack x) (f.unpack y).negate; exec (.fsub c dbl o) s = out true 4 r.1 r.2) ∧
      (let r := f.mul rm (f.unpack x) (f.unpack y); exec (.fmul c dbl o) s = out true 4 r.1 r.2)) ∧
    (let r := f.minmax false x y; exec (.fmin c dbl o) s = out true 2 r.1 r.2) ∧
    (let r := f.minmax true x y; exec (.fmax c dbl o) s = out true 2 r.1 r.2) ∧
    exec (.fsgnj c dbl o) s = out true 2 (x % f.signBit + y / f.signBit * f.signBit) 0 ∧
    exec (.fsgnjn c dbl o) s = out true 2 (x % f.signBit + (1 - y / f.signBit) * f.signBit) 0 ∧
    exec (.fsgnjx c dbl o) s = out true 2 (x % f.signBit + (x / f.signBit + y / f.signBit) % 2 * f.signBit) 0 ∧
    (let r := f.compare 0 x y; exec (.feq c dbl o) s = out false 2 (b01 r.1) r.2) ∧
    (let r := f.compare 1 x y; exec (.flt c dbl o) s = out false 2 (b01 r.1) r.2) ∧
    (let r := f.compare 2 x y; exec (.fle c dbl o) s = out false 2 (b01 r.1) r.2) ∧
    exec (.fclass c dbl o) s = out false 2 (2 ^ f.classBit x) 0 ∧
    exec (.fmvXD c o) s = out false 2 (k.f o.rs1).toNat 0 ∧
    exec (.fmvDX c o) s = out true 2 (k.g o.rs1).toNat 0

/-- The conversions (R85, R86, R87), visible four positions later, unless the RM field holds a reserved value. -/
def ConversionResults : Prop :=
  ∀ (s s1 : State) (c : CoreId) (o : OpsA), Ready s c s1 → fld o.ext 4 2 ≠ 5 → fld o.ext 4 2 ≠ 6 →
    let k := s1.core c.val
    let rm := modeOf k (fld o.ext 4 2)
    let d := f64.bits (k.f o.rs1)
    let w := f32.bits (k.f o.rs1)
    let g := k.g o.rs1
    let out := fun (isF : Bool) (v : Dword) (ff : BitVec 5) =>
      (.next (retired (sends s1 c isF o.rd v 4 ff 0) c (s.core c.val).arch.pc {} none) : Host.Outcome State Fault Refusal)
    (let r := f64.convert f32 rm d; exec (.fcvtSD c o) s = out true (BitVec.ofNat 64 r.1) r.2) ∧
    (let r := f32.convert f64 rm w; exec (.fcvtDS c o) s = out true (BitVec.ofNat 64 r.1) r.2) ∧
    (let r := f64.toInt64 rm true d; exec (.fcvtLD c o) s = out false r.1 r.2) ∧
    (let r := f64.toInt64 rm false d; exec (.fcvtLuD c o) s = out false r.1 r.2) ∧
    (let r := f32.toInt64 rm true w; exec (.fcvtLS c o) s = out false r.1 r.2) ∧
    (let r := f64.ofInt rm g.toInt; exec (.fcvtDL c o) s = out true (BitVec.ofNat 64 r.1) r.2) ∧
    (let r := f64.ofInt rm g.toNat; exec (.fcvtDLu c o) s = out true (BitVec.ofNat 64 r.1) r.2) ∧
    (let r := f32.ofInt rm g.toInt; exec (.fcvtSL c o) s = out true (BitVec.ofNat 64 r.1) r.2)

/-- The fused operations (R81): the exact product and the addend, with the signs that the instruction gives them, rounded once, visible
five positions later; a reserved RM is a Reserved instruction (R42), as it is for every instruction that rounds. -/
def FusedResults : Prop :=
  ∀ (s s1 : State) (c : CoreId) (dbl : Bool) (o : OpsFma), Ready s c s1 →
    let k := s1.core c.val
    let f := fmtOf dbl
    let x := f.unpack (f.bits (k.f o.rs1))
    let y := f.unpack (f.bits (k.f o.rs2))
    let z := f.unpack (f.bits (k.f o.rs3))
    let rm := modeOf k o.rm.toNat
    let out := fun (r : Nat × FFlags) =>
      (.next (retired (sends s1 c true o.rd (BitVec.ofNat 64 r.1) 5 r.2 0) c (s.core c.val).arch.pc {} none) :
        Host.Outcome State Fault Refusal)
    (o.rm ≠ 5 → o.rm ≠ 6 →
      exec (.fmadd c dbl o) s = out (f.fma rm x y z) ∧ exec (.fmsub c dbl o) s = out (f.fma rm x y z.negate) ∧
      exec (.fnmadd c dbl o) s = out (f.fma rm x.negate y z.negate) ∧ exec (.fnmsub c dbl o) s = out (f.fma rm x.negate y z)) ∧
    (o.rm = 5 ∨ o.rm = 6 →
      exec (.fmadd c dbl o) s = .next (trapped s1 c (wordFma o (if dbl then 0 else 4)) { cause := 0x04 }))

/-- The rows of R80 for both formats and every rounding mode: sums of zeros, opposites, subnormals, overflow and infinities. -/
def SumTable : Prop :=
  ∀ (dbl : Bool) (rm : Nat), rm < 5 →
    let f := fmtOf dbl
    let S := 1
    let N := 2 ^ (f.p - 1)
    let I := f.inf
    let M := f.inf - 1
    let neg := fun (x : Nat) => f.signBit + x
    let add := fun (x y : Nat) => f.add rm (f.unpack x) (f.unpack y)
    let nz := if rm = 2 then neg 0 else 0
    add 0 0 = (0, 0) ∧ add (neg 0) (neg 0) = (neg 0, 0) ∧ add 0 (neg 0) = (nz, 0) ∧ add (neg 0) 0 = (nz, 0) ∧
    (∀ x, 0 < x → x < I → add x (neg x) = (nz, 0) ∧ add (neg x) x = (nz, 0) ∧ add 0 x = (x, 0) ∧ add (neg 0) x = (x, 0) ∧
      add 0 (neg x) = (neg x, 0) ∧ add (neg 0) (neg x) = (neg x, 0) ∧ add I x = (I, 0) ∧ add (neg I) x = (neg I, 0) ∧
      add I (neg x) = (I, 0) ∧ add (neg I) (neg x) = (neg I, 0)) ∧
    add S S = (2, 0) ∧ add N (neg S) = (N - 1, 0) ∧ add M S = (if rm = 3 then (I, 0x05) else (M, 0x01)) ∧
    add M M = (if rm = 1 ∨ rm = 2 then M else I, 0x05) ∧ add (neg M) (neg M) = (if rm = 1 ∨ rm = 3 then neg M else neg I, 0x05) ∧
    add I I = (I, 0) ∧ add (neg I) (neg I) = (neg I, 0) ∧ add I (neg I) = (f.qnan, 0x10) ∧
    (∀ a b : Dword, fpVal dbl 1 rm a b = fpVal dbl 0 rm a (b ^^^ BitVec.ofNat 64 f.signBit))

/-- R83: what the compares, FMIN and FMAX give for zeros of both signs, infinities and NaNs, in both formats. -/
def CompareTable : Prop :=
  ∀ (dbl : Bool) (x : Nat),
    let f := fmtOf dbl
    let I := f.inf
    let neg := fun (x : Nat) => f.signBit + x
    let row := fun (a b : Nat) (eq lt le : Bool) (mn mx : Nat) (fq fo : FFlags) =>
      f.compare 0 a b = (eq, fq) ∧ f.compare 1 a b = (lt, fo) ∧ f.compare 2 a b = (le, fo) ∧
        f.minmax false a b = (mn, fq) ∧ f.minmax true a b = (mx, fq)
    row 0 (neg 0) true false true (neg 0) 0 0 0 ∧ row (neg 0) 0 true true true (neg 0) 0 0 0 ∧
    row (neg I) I false true true (neg I) I 0 0 ∧
    (∀ n, x < 2 * f.signBit → (f.unpack x).isNan = false →
      (f.unpack n = .nan false → row x n false false false x x 0 0x10 ∧ row n x false false false x x 0 0x10) ∧
      (f.unpack n = .nan true → row x n false false false x x 0x10 0x10 ∧ row n x false false false x x 0x10 0x10)) ∧
    (∀ n m, (f.unpack n).isNan = true → (f.unpack m).isNan = true →
      row n m false false false f.qnan f.qnan (if f.unpack n = .nan true ∨ f.unpack m = .nan true then 0x10 else 0) 0x10)

/-- The rows of R82: division and square root of zeros, infinities, negative numbers and the extremes. -/
def DivideTable : Prop :=
  ∀ (dbl : Bool) (rm : Nat), rm < 5 →
    let f := fmtOf dbl
    let S := 1
    let N := 2 ^ (f.p - 1)
    let I := f.inf
    let M := f.inf - 1
    let sg := fun (n : Bool) (x : Nat) => if n then f.signBit + x else x
    let div := fun (x y : Nat) => f.div rm (f.unpack x) (f.unpack y)
    let sqrt := fun (x : Nat) => f.sqrt rm (f.unpack x)
    (∀ (p q : Bool),
      div (sg p 0) (sg q 0) = (f.qnan, 0x10) ∧ div (sg p I) (sg q I) = (f.qnan, 0x10) ∧ div (sg p I) (sg q 0) = (sg (p ^^ q) I, 0) ∧
      div (sg p 0) (sg q I) = (sg (p ^^ q) 0, 0) ∧
      (∀ x, 0 < x → x < I → div (sg p x) (sg q 0) = (sg (p ^^ q) I, 0x08) ∧ div (sg p I) (sg q x) = (sg (p ^^ q) I, 0) ∧
        div (sg p 0) (sg q x) = (sg (p ^^ q) 0, 0) ∧ div (sg p x) (sg q I) = (sg (p ^^ q) 0, 0))) ∧
    div M S = (if rm = 1 ∨ rm = 2 then M else I, 0x05) ∧ div S M = (if rm = 3 then S else 0, 0x03) ∧
    sqrt 0 = (0, 0) ∧ sqrt (sg true 0) = (sg true 0, 0) ∧ sqrt I = (I, 0) ∧ sqrt (sg true I) = (f.qnan, 0x10) ∧
    (∀ x, 0 < x → x < I → sqrt (sg true x) = (f.qnan, 0x10)) ∧
    sqrt N = (if dbl then 0x2000000000000000 else 0x20000000, 0) ∧
    sqrt S = (if dbl then (0x1E60000000000000, 0) else (if rm = 3 then 0x1A3504F4 else 0x1A3504F3, 0x01)) ∧
    sqrt M = (if dbl then (if rm = 3 then 0x5FF0000000000000 else 0x5FEFFFFFFFFFFFFF) else
      (if rm = 3 then 0x5F800000 else 0x5F7FFFFF), 0x01)

/-! ### The iterative units -/

/-- A division or a square root starts: the unit is busy with its operands, HELD clear, whatever it was doing (R57, R58, R75). -/
def IterativeStarts : Prop :=
  ∀ (s s1 : State) (c : CoreId) (o : OpsA) (dbl : Bool), Ready s c s1 →
    let k := s1.core c.val
    let pc := (s.core c.val).arch.pc
    let out := fun (f : Core → Core) => (.next (retired (s1.modCore c.val f) c pc {} none) : Host.Outcome State Fault Refusal)
    let rm := modeOf k (fld o.ext 4 2)
    exec (.div c o) s = out (fun k => k.startInt 0 (k.g o.rs1) (k.g o.rs2)) ∧
    exec (.divu c o) s = out (fun k => k.startInt 1 (k.g o.rs1) (k.g o.rs2)) ∧
    exec (.rem c o) s = out (fun k => k.startInt 2 (k.g o.rs1) (k.g o.rs2)) ∧
    exec (.remu c o) s = out (fun k => k.startInt 3 (k.g o.rs1) (k.g o.rs2)) ∧
    (fld o.ext 4 2 ≠ 5 → fld o.ext 4 2 ≠ 6 →
      exec (.fdiv c dbl o) s = out (fun k => k.startFp dbl false rm (k.f o.rs1) (k.f o.rs2)) ∧
      exec (.fsqrt c dbl o) s = out (fun k => k.startFp dbl true rm (k.f o.rs1) (k.f o.rs2)))

/-- R68: a division that has started gives, when its last cycle ends, the quotient or the remainder of the table, and its unit holds a
zero divisor exactly where the divisor was zero. GETQ, with the unit not busy, collects the result, one position later, and sets DZI
at the collect for a zero divisor and no flag for another. -/
def Obligations.DivisionResults : Prop :=
  (∀ (k : Core) (a b : Dword),
    let u := fun (op : Nat) => ((k.startInt op a b).readyInt).arch.iu
    let r := fun (op : Nat) => (u op).x
    let big : Dword := 0x8000000000000000
    (b = 0 → r 0 = BitVec.allOnes 64 ∧ r 1 = BitVec.allOnes 64 ∧ r 2 = a ∧ r 3 = a) ∧
    (b ≠ 0 → ¬(a = big ∧ b = BitVec.allOnes 64) →
      r 0 = BitVec.ofInt 64 (a.toInt.tdiv b.toInt) ∧ r 2 = BitVec.ofInt 64 (a.toInt.tmod b.toInt)) ∧
    (b ≠ 0 → r 1 = BitVec.ofNat 64 (a.toNat / b.toNat) ∧ r 3 = BitVec.ofNat 64 (a.toNat % b.toNat)) ∧
    (a = big → b = BitVec.allOnes 64 → r 0 = big ∧ r 2 = 0) ∧
    (∀ op, op < 4 → ((u op).b = 0 ↔ b = 0))) ∧
  (∀ (s s1 : State) (c : CoreId) (o : OpsA), Ready s c s1 →
    bit (s1.core c.val).arch.iu.ctl 0 = false → exec (.getq c o) s = .next (retired (s1.modCore c.val (fun k =>
      (k.orFlags 0 (if k.arch.iu.b = 0 then 1 else 0)).give false o.rd k.arch.iu.x 1)) c (s.core c.val).arch.pc {} none)) ∧
  (∀ (k : Core) (f : BitVec 3), (k.orFlags 0 f).csr 0x001 = k.csr 0x001 ||| f.zeroExtend 64 ∧ (k.orFlags 0 f).arch.regs = k.arch.regs ∧
    ∀ n, n ≠ 0x001 → (k.orFlags 0 f).csr n = k.csr n)

/-- The collect of the floating-point unit when it is ready (R57, R69): the last result one position later; the flags of the operation
at the collect itself. A busy unit is waited for, the core frozen: only its HELD is cleared (R58, R89). ITERATIVE_UNIT_READY ends a busy unit
that is not held, and leaves any other as it is. -/
def CollectResults : Prop :=
  ∀ (s s1 : State) (c : CoreId) (o : OpsA), Ready s c s1 →
    let k := s1.core c.val
    let pc := (s.core c.val).arch.pc
    (bit k.arch.fu.ctl 0 = false → exec (.getf c o) s = .next (retired (s1.modCore c.val (fun k =>
      (k.orFlags (BitVec.ofNat 5 (fld k.arch.fu.ctl 17 13)) 0).give true o.rd k.arch.fu.x 1)) c pc {} none)) ∧
    (bit k.arch.iu.ctl 0 = true → exec (.getq c o) s = .next ((s1.modCore c.val (fun k =>
      { k with arch := { k.arch with iu := { k.arch.iu with ctl := setBit k.arch.iu.ctl 1 false } } })).freeze c.val |>.finish)) ∧
    (bit k.arch.fu.ctl 0 = true → exec (.getf c o) s = .next ((s1.modCore c.val (fun k =>
      { k with arch := { k.arch with fu := { k.arch.fu with ctl := setBit k.arch.fu.ctl 1 false } } })).freeze c.val |>.finish))

/-- ITERATIVE_UNIT_READY (R57, R58, R67): the named unit of the core reaches its last cycle and is ready with its result, if it is
busy and not held; the other unit and every other core keep their state. -/
def UnitsBecomeReady : Prop :=
  ∀ (s : State) (c : CoreId),
    (∃ t, exec (.iterativeUnitReady c false) s = .next t ∧ (t.core c.val).arch = (s.core c.val).readyInt.arch ∧
      (∀ x, x ≠ c.val → (t.core x).arch = (s.core x).arch) ∧ (s.refusals = [] → t.mem = s.mem)) ∧
    (∃ t, exec (.iterativeUnitReady c true) s = .next t ∧ (t.core c.val).arch = (s.core c.val).readyFp.arch ∧
      (∀ x, x ≠ c.val → (t.core x).arch = (s.core x).arch) ∧ (s.refusals = [] → t.mem = s.mem)) ∧
    (bit (s.core c.val).arch.iu.ctl 0 = true → bit (s.core c.val).arch.iu.ctl 1 = false →
      let u := (s.core c.val).readyInt.arch.iu
      bit u.ctl 0 = false ∧ fld u.ctl 10 4 = 0 ∧ u.x = intIter (s.core c.val).arch.iu.a (s.core c.val).arch.iu.b (s.core c.val).arch.iu.ctl) ∧
    (bit (s.core c.val).arch.fu.ctl 0 = true → bit (s.core c.val).arch.fu.ctl 1 = false →
      let u := (s.core c.val).readyFp.arch.fu
      let r := fpIter (s.core c.val).arch.fu.a (s.core c.val).arch.fu.b (s.core c.val).arch.fu.ctl
      bit u.ctl 0 = false ∧ fld u.ctl 12 7 = 0 ∧ u.x = r.1 ∧ fld u.ctl 17 13 = r.2.toNat)

/-! ### The old-value rule -/

/-- R43 and R45 for the results in flight of a core: at a position a register holds the result that became visible most recently, of
several that become visible together the one produced later, and the value it had when none has become visible; results that are not
due stay in flight. -/
def OldValueRule : Prop :=
  ∀ (k : Core) (p key : Nat), 0 < key →
    let due := k.arch.pend.filter (fun r => decide (r.vis ≤ p) && decide (r.reg = some key))
    (due = [] → (k.settle p).arch.rd key = k.arch.rd key) ∧
    (∀ (front back : List PendRes) (r : PendRes), due = front ++ r :: back → (∀ x ∈ front, x.vis ≤ r.vis) → (∀ x ∈ back, x.vis < r.vis) →
      (k.settle p).arch.rd key = r.val) ∧
    (k.settle p).arch.pend = k.arch.pend.filter (fun r => decide (p < r.vis))

/-- RESULT_BECOMES_VISIBLE and PENDING_RESULT_APPLY (R43, R49): every result due at the position that the core has reached is in its
register, armed records among them; nothing else of any core's registers changes. -/
def DueResultsLand : Prop :=
  ∀ (s : State) (c : CoreId),
    (∃ t, exec (.resultBecomesVisible c) s = .next t ∧
      (t.core c.val).arch = ((s.core c.val).settle (s.core c.val).arch.posn).arch ∧
      (t.core c.val).own = ((s.core c.val).settle (s.core c.val).arch.posn).own ∧
      (∀ x, x ≠ c.val → (t.core x).arch = (s.core x).arch) ∧ (s.refusals = [] → t.mem = s.mem)) ∧
    ((∃ r ∈ (s.core c.val).arch.pend, r.rcd.isSome = true ∧ r.vis ≤ (s.core c.val).arch.posn) →
      ∃ t, exec (.pendingResultApply c) s = .next t ∧
        (t.core c.val).arch = ((s.core c.val).settle (s.core c.val).arch.posn).arch ∧
        (t.core c.val).own = ((s.core c.val).settle (s.core c.val).arch.posn).own ∧
        (∀ x, x ≠ c.val → (t.core x).arch = (s.core x).arch) ∧ (s.refusals = [] → t.mem = s.mem))

/-- The floating-point instructions (R39, R78-R85): arithmetic and comparisons, conversions and moves, fused multiply-add. -/
def Obligations.FloatingInstructions : Prop := FloatResults ∧ ConversionResults ∧ FusedResults

/-- The special-operand tables of R80 (sums), R83 (comparisons) and R82 (quotients and roots). -/
def Obligations.FloatTables : Prop := SumTable ∧ CompareTable ∧ DivideTable

/-- The iterative units (R57, R58, R68, R82): an instruction starts one, it becomes ready, and GETQ and GETF collect its result. -/
def Obligations.IterativeUnits : Prop := IterativeStarts ∧ UnitsBecomeReady ∧ CollectResults

/-- Results in flight (R43-R45, R49): an instruction reads the old value until the distance has passed, and a result that falls due, or
an armed record, reaches its register. -/
def Obligations.ResultsInFlight : Prop := OldValueRule ∧ DueResultsLand

/-! ### Loads and stores -/

/-- What a load or a store of format C addresses, with `n` bytes: base and displacement (R39). -/
def mrefOf (k : Core) (i : BitVec 6) (o : OpsC) (n : Nat) (signed : Bool) (dst : Option Nat) : Mref :=
  { word := wordC i o, va := k.g o.rb + o.disp.signExtend 64, size := n, signed := signed, dst := dst, h := o.h }

/-- A load of cacheable DRAM that lies within its line (R37, R39, R44, R60, R115): the bytes of the line under those that the
merging buffer holds for it, extended as the instruction says, three positions later; g0 takes nothing. -/
def Obligations.CacheableLoads : Prop :=
  ∀ (s s1 s2 : State) (c : CoreId) (o : OpsC) (p : Page), Ready s c s1 →
    let k := s1.core c.val
    let va := k.g o.rb + o.disp.signExtend 64
    let line := p.pa / 64
    let row := fun (i : Instr) (major : BitVec 6) (n : Nat) (signed isF : Bool) (ext : Nat → Dword) =>
      va.toNat % 64 + n ≤ 64 → ∀ (s3 : State) (d : LineData) (served : Nat),
        s2.loadLine c.val (mrefOf k major o n signed (k.dest isF o.rt)) p.pa = (s3, .ok (d, false, served)) →
        ∃ h, exec i s = .next (retired (s3.lands c.val (k.dest isF o.rt)
          (ext (lineNum ((s3.core c.val).overlay line d) (p.pa % 64) n)) 3) c (s.core c.val).arch.pc h none)
    s1.translate c.val .load va = (s2, .ok p) → p.region = .dram → (p.ty = .wb ∨ p.ty = .wt) →
    row (.lb c o) 0x10 1 true false (fun x => (BitVec.ofNat 8 x).signExtend 64) ∧
    row (.lbu c o) 0x11 1 false false (fun x => BitVec.ofNat 64 (x % 2 ^ 8)) ∧
    row (.lh c o) 0x12 2 true false (fun x => (BitVec.ofNat 16 x).signExtend 64) ∧
    row (.lhu c o) 0x13 2 false false (fun x => BitVec.ofNat 64 (x % 2 ^ 16)) ∧
    row (.lw c o) 0x14 4 true false (fun x => (BitVec.ofNat 32 x).signExtend 64) ∧
    row (.lwu c o) 0x15 4 false false (fun x => BitVec.ofNat 64 (x % 2 ^ 32)) ∧
    row (.ld c o none) 0x16 8 false false (fun x => BitVec.ofNat 64 x) ∧
    row (.flw c o) 0x1C 4 false true (fun x => BitVec.ofNat 64 (x % 2 ^ 32)) ∧
    row (.fld c o) 0x1D 8 false true (fun x => BitVec.ofNat 64 x)

/-- A line that the trio's L2 holds and the core's world may hit is read from there, whichever of L1D and L2 serves it (R109, R111,
R120, R123); the read changes no byte of memory, no home and no other trio. The prefetcher of the core is off. -/
def Obligations.LoadsHitTheL2 : Prop :=
  ∀ (s : State) (c : CoreId) (m : Mref) (pa : Nat) (l : L2Line), (s.trio (trioOf c.val)).l2.find (pa / 64) = some l →
    s.l2On (trioOf c.val) = true → (l.w = true → (s.core c.val).w = true) → bit (s.reg (coreCacheR c.val)) 3 = false →
    ∃ (t : State) (served : Nat), s.loadLine c.val m pa = (t, .ok (l.data, l.poison, served)) ∧ (served = 1 ∨ served = 3) ∧
      (∀ a, t.byte a = s.byte a) ∧ t.msc = s.msc ∧ t.homes = s.homes ∧ t.net = s.net ∧
      (∀ x, x ≠ trioOf c.val → t.trio x = s.trio x) ∧ (∀ x, (t.core x).arch = (s.core x).arch) ∧
      (∀ q, ((t.trio (trioOf c.val)).l2.find q).map (·.data) = ((s.trio (trioOf c.val)).l2.find q).map (·.data))

/-- A store to memory that merges (R60, R112, R114): its low bytes enter the merging buffer at the physical address of base and
displacement, a reservation of the core on the line ends (R59), and no byte of memory, no cache line and no register changes. -/
def Obligations.StoresEnterTheBuffer : Prop :=
  ∀ (s s1 s2 : State) (c : CoreId) (o : OpsC) (p : Page), Ready s c s1 →
    let k := s1.core c.val
    let va := k.g o.rb + o.disp.signExtend 64
    let line := p.pa / 64
    let row := fun (i : Instr) (n : Nat) (v : Dword) => va.toNat % 64 + n ≤ 64 →
      ∃ h, exec i s = .next (retired (s2.modCore c.val (fun q =>
        { ({ q with resv := q.resv.filter (fun r => decide (r.pa.toNat / 64 ≠ line)) } : Core).mergeIn line (s2.tidOn c.val) k.w p.ty
            (linePatch (p.pa % 64) n (v.toNat % 2 ^ (8 * n))).1 (linePatch (p.pa % 64) n 0).2 with wfence := false }))
          c (s.core c.val).arch.pc h none)
    s1.translate c.val .store va = (s2, .ok p) → p.region ≠ .unpopulated → (p.ty = .wb ∨ p.ty = .wt) →
    (p.trans = true ∨ p.region = .dram) → s2.fenced c.val = false → (s2.core c.val).w = k.w → (s2.core c.val).mergeFull line p.ty = false →
    row (.sb c o) 1 (k.g o.rt) ∧ row (.sh c o) 2 (k.g o.rt) ∧ row (.sw c o) 4 (k.g o.rt) ∧ row (.sd c o) 8 (k.g o.rt) ∧
    row (.fsw c o) 4 (k.f o.rt) ∧ row (.fsd c o) 8 (k.f o.rt)

/-- R115: what a load reads of a line after a store has entered the merging buffer: the bytes stored, and every other byte as before,
whatever the line's contents beyond the buffer; of other lines, every byte as before. Open entries are the youngest, as R114 leaves
them. -/
def BufferedBytesAreRead : Prop :=
  ∀ (k : Core) (line tid : Nat) (w : Bool) (ty : MemType) (d base : LineData) (mask : BitVec 64) (i : Nat), i < 64 → line < 2 ^ 40 →
    (∀ (front back : List MergeEntry) (e : MergeEntry), k.merge = front ++ e :: back → e.isOpen = true → ∀ x ∈ back, x.isOpen = true) →
    let k' := k.mergeIn line tid w ty d mask
    lineByte (k'.overlay line base) i = (if mask.getLsbD i then lineByte d i else lineByte (k.overlay line base) i) ∧
    (∀ other, other < 2 ^ 40 → other ≠ line → k'.overlay other base = k.overlay other base) ∧
    (∀ (front back : List MergeEntry) (e : MergeEntry), k'.merge = front ++ e :: back → e.isOpen = true → ∀ x ∈ back, x.isOpen = true)

/-- The merging buffer's own events (R114): an idle entry closes with every older one; the oldest, once closed, leaves the buffer, and
of a WB line that the trio's L2 holds alone the bytes under its mask are written there, the line becoming M (R170, R189), while every
other line of the L2, every byte of memory and every home stay. No earlier store has been refused. -/
def BufferedBytesDrain : Prop :=
  ∀ (s : State) (c : CoreId), s.refusals = [] →
    (∀ (front back : List MergeEntry) (e : MergeEntry), (s.core c.val).merge = front ++ e :: back → e.isOpen = true →
      (∀ x ∈ back, ¬(x.isOpen = true ∧ x.line = e.line)) →
      ∃ t, exec (.mergeEntryTimeout c e.line) s = .next t ∧
        (t.core c.val).merge = (front ++ [e]).map (fun x => { x with isOpen := false }) ++ back ∧ t.mem = s.mem ∧
        (t.core c.val).arch = (s.core c.val).arch) ∧
    (∀ (e : MergeEntry) (rest : List MergeEntry) (l : L2Line), (s.core c.val).merge = e :: rest → e.isOpen = false →
      s.region (e.line.toNat * 64 + maskLow e.mask) = .dram → e.ty = .wb → s.l2Alloc (trioOf c.val) = true →
      (s.trio (trioOf c.val)).l2.find e.line.toNat = some l → (l.st = .m ∨ l.st = .e) → (l.w = true → e.w = true) →
      (s.trio (trioOf c.val)).inj = none →
      ∃ t, exec (.mergeEntryDrain c) s = .next t ∧ (t.core c.val).merge = settleMerge rest ∧
        ((t.trio (trioOf c.val)).l2.find e.line.toNat).map (fun x => (x.st, x.data)) = some (.m, mergeLine l.data e.data e.mask) ∧
        (∀ q, q ≠ e.line.toNat → (t.trio (trioOf c.val)).l2.find q = (s.trio (trioOf c.val)).l2.find q) ∧
        (∀ x, x ≠ c.val → trioOf x = trioOf c.val → ∀ y ∈ (t.core x).l1d, y.line ≠ e.line) ∧
        (∀ x, (t.core x).arch = (s.core x).arch) ∧ (∀ a, t.byte a = s.byte a) ∧ t.homes = s.homes ∧ t.msc = s.msc)

/-- R59: LR sets a reservation on its line while the L2 holds it and loads as a load does; SC, its earlier stores drained and
what the line's home serves before it served, stores and writes 0 only while the reservation has its address and size, and writes 1 and stores nothing otherwise, and clears the reservation in
both cases. -/
def LoadReserveStoreConditional : Prop :=
  ∀ (s s1 s2 : State) (c : CoreId) (o : OpsA) (p : Page), Ready s c s1 →
    let k := s1.core c.val
    let va := k.g o.rs1
    let line := p.pa / 64
    let m := fun (fn : BitVec 6) (n : Nat) (signed : Bool) =>
      ({ word := wordA 0x03 o fn, va := va, size := n, signed := signed, dst := k.dest false o.rd } : Mref)
    let lr := fun (i : Instr) (fn : BitVec 6) (n : Nat) (signed : Bool) (ext : Nat → Dword) =>
      va.toNat % n = 0 → ∀ (s3 : State) (d : LineData) (served : Nat),
        s1.translate c.val .load va = (s2, .ok p) → s2.loadLine c.val (m fn n signed) p.pa = (s3, .ok (d, false, served)) →
        let held : Option Resv := if ((s3.trio (trioOf c.val)).l2.find line).isSome then some ⟨BitVec.ofNat 46 p.pa, n⟩ else none
        ∃ h, exec i s = .next (retired ((s3.modCore c.val (fun q => { q with resv := held })).lands c.val (k.dest false o.rd) (ext (lineNum ((s3.core c.val).overlay line d) (p.pa % 64) n)) 3) c (s.core c.val).arch.pc h none)
    let sc := fun (i : Instr) (n : Nat) =>
      va.toNat % n = 0 → s1.translate c.val .store va = (s2, .ok p) → s2.fenced c.val = false →
        let s3 := (s2.drainMerge c.val).ready c.val line
        let s4 := s3.modCore c.val (fun q => { q with resv := none, wfence := false })
        let pc := (s.core c.val).arch.pc
        let patch := linePatch (p.pa % 64) n ((k.g o.rs2).toNat % 2 ^ (8 * n))
        ((s3.core c.val).resv ≠ some ⟨BitVec.ofNat 46 p.pa, n⟩ →
          ∃ h, exec i s = .next (retired (s4.lands c.val (k.dest false o.rd) 1 3) c pc h none)) ∧
        (∀ s5 was, (s3.core c.val).resv = some ⟨BitVec.ofNat 46 p.pa, n⟩ →
          s4.drainBytes (trioOf c.val) c.val (s4.atomRq c.val line) p.ty line patch.1 patch.2 = (s5, .ok was) →
          ∃ h, exec i s = .next (retired (s5.lands c.val (k.dest false o.rd) 0 3) c pc h none))
    p.region = .dram → (p.ty = .wb ∨ p.ty = .wt) → s2.l2On (trioOf c.val) = true → bit o.ext 0 = false →
    lr (.lrW c o) 0x00 4 true (fun x => (BitVec.ofNat 32 x).signExtend 64) ∧ lr (.lrD c o) 0x02 8 false (fun x => BitVec.ofNat 64 x) ∧
    sc (.scW c o) 4 ∧ sc (.scD c o) 8

/-- TAS.B of cacheable DRAM (R59, R115): the byte of the line as its write finds it, zero-extended, three positions later, and 0xFF in its place. -/
def TestAndSet : Prop :=
  ∀ (s s1 s2 s3 s4 : State) (c : CoreId) (o : OpsA) (p : Page) (d was : LineData) (served : Nat), Ready s c s1 →
    let k := s1.core c.val
    let line := p.pa / 64
    let m : Mref := { word := wordA 0x03 o 0x04, va := k.g o.rs1, size := 1, dst := k.dest false o.rd }
    let s2' := (s2.drainMerge c.val).modCore c.val (fun q =>
      { q with resv := q.resv.filter (fun r => decide (r.pa.toNat / 64 ≠ line)), wfence := false })
    s1.translate c.val .tas (k.g o.rs1) = (s2, .ok p) → p.region = .dram → (p.ty = .wb ∨ p.ty = .wt) →
    s2.fenced c.val = false → bit o.ext 0 = false →
    s2'.l2On (trioOf c.val) = true → s2'.loadLine c.val m p.pa = (s3, .ok (d, false, served)) →
    s3.drainBytes (trioOf c.val) c.val (s2'.atomRq c.val line) p.ty line (linePatch (p.pa % 64) 1 0xFF).1 (linePatch (p.pa % 64) 1 0xFF).2
      = (s4, .ok was) →
    ∃ h, exec (.tasB c o) s = .next (retired (s4.lands c.val (k.dest false o.rd) ((lineByte was (p.pa % 64)).zeroExtend 64) 3) c
      (s.core c.val).arch.pc h none)

/-- R60: a load or store that crosses its line traps before any translation, and a misaligned one within a line of memory that is not
WB or WT, or untranslated outside DRAM, once translation and rights have passed; LR and SC on any misaligned address. Causes 0x08 for
loads and 0x09 for stores, `EVA` the address; nothing is loaded or stored. -/
def Obligations.MisalignedAccessesTrap : Prop :=
  ∀ (s s1 : State) (c : CoreId) (o : OpsC) (a : OpsA), Ready s c s1 →
    let k := s1.core c.val
    let va := k.g o.rb + o.disp.signExtend 64
    let row := fun (i : Instr) (major : BitVec 6) (n cause : Nat) (acc : Acc') =>
      (64 < va.toNat % 64 + n → exec i s = .next (trapped s1 c (wordC major o) { cause := cause, eva := va })) ∧
      (∀ s2 p, va.toNat % 64 + n ≤ 64 → va.toNat % n ≠ 0 → s1.translate c.val acc va = (s2, .ok p) →
        ((p.ty ≠ .wb ∧ p.ty ≠ .wt) ∨ (p.trans = false ∧ p.region ≠ .dram)) →
        exec i s = .next (trapped s2 c (wordC major o) { cause := cause, eva := va }))
    let atom := fun (i : Instr) (fn : BitVec 6) (n cause : Nat) => (k.g a.rs1).toNat % n ≠ 0 →
      exec i s = .next (trapped s1 c (wordA 0x03 a fn) { cause := cause, eva := k.g a.rs1 })
    row (.lh c o) 0x12 2 0x08 .load ∧ row (.lhu c o) 0x13 2 0x08 .load ∧ row (.lw c o) 0x14 4 0x08 .load ∧
    row (.lwu c o) 0x15 4 0x08 .load ∧ row (.ld c o none) 0x16 8 0x08 .load ∧ row (.flw c o) 0x1C 4 0x08 .load ∧
    row (.fld c o) 0x1D 8 0x08 .load ∧ row (.sh c o) 0x19 2 0x09 .store ∧ row (.sw c o) 0x1A 4 0x09 .store ∧
    row (.sd c o) 0x1B 8 0x09 .store ∧ row (.fsw c o) 0x1E 4 0x09 .store ∧ row (.fsd c o) 0x1F 8 0x09 .store ∧
    atom (.lrW c a) 0x00 4 0x08 ∧ atom (.scW c a) 0x01 4 0x09 ∧ atom (.lrD c a) 0x02 8 0x08 ∧ atom (.scD c a) 0x03 8 0x09

/-- Accesses that no cache allocates (R112, R113, R115), aligned, on a stream that the Welt does not guard. A load of UC or WC DRAM
takes its bytes from the home, a load of a register its value, each under the bytes that the merging buffer holds for it; a load of a
device leaves the core frozen for the response, the merging buffer drained; so does a store to a device, and a store to a register ends
once the register's action has. -/
def Obligations.UncachedAccesses : Prop :=
  ∀ (s s1 s2 : State) (c : CoreId) (o : OpsC) (p : Page), Ready s c s1 →
    let k := s1.core c.val
    let va := k.g o.rb + o.disp.signExtend 64
    let line := p.pa / 64
    let acc := fun (major : BitVec 6) (n : Nat) (signed : Bool) (dst : Option Nat) (store : Bool) =>
      ({ pa := BitVec.ofNat 46 p.pa, va := va, size := n, store := store, signed := signed, reg := dst.getD 0
         word := wordC major o } : DevAcc)
    let load := fun (i : Instr) (major : BitVec 6) (n : Nat) (signed isF : Bool) (ext : Nat → Dword) => va.toNat % n = 0 →
      s1.translate c.val .load va = (s2, .ok p) →
      let dst := k.dest isF o.rt
      let awaited := fun (t : State) => { acc major n signed dst false with held := (t.core c.val).heldBytes p.pa n }
      let ends := fun (t : State) (v : Dword) => ∃ h, exec i s = .next (retired
        ((t.modCore c.val (fun q => { q with dev := none })).lands c.val dst (ext ((awaited t).seen v).toNat) 3)
        c (t.core c.val).arch.pc h none)
      (∀ s3 d st, p.region = .dram → (p.ty = .uc ∨ p.ty = .wc) →
        s2.rdShared (s2.rq c.val (s2.tidOn c.val) (s2.core c.val).w line false) line true false = (s3, .ok (d, false, st)) →
        s3.throughWelt c.val = false → ends s3 (BitVec.ofNat 64 (lineNum d (p.pa % 64) n))) ∧
      (∀ s3 v, p.region = .mcs → p.ty = .devStrict → (s2.drainMerge c.val).mcsRead (.core c) (p.pa - 0x3F0000000000) (sizeLog n) = (s3, .ok v) →
        s3.throughWelt c.val = false → ends s3 v) ∧
      (p.region = .pcie → (p.ty = .devStrict ∨ p.ty = .devRelaxed) →
        let s3 := s2.drainMerge c.val
        exec i s = .next ((s3.modCore c.val (fun q => { q with dev := some (awaited s3) })).freeze c.val).finish)
    let store := fun (i : Instr) (major : BitVec 6) (n : Nat) (v : Dword) => va.toNat % n = 0 →
      s1.translate c.val .store va = (s2, .ok p) → s2.fenced c.val = false → p.ty = .devStrict →
      let s3 := ((s2.drainMerge c.val).modCore c.val (fun q =>
        { q with resv := q.resv.filter (fun r => decide (r.pa.toNat / 64 ≠ line)), wfence := false })).modCore c.val
        (fun q => { q with dev := some (acc major n false none true) })
      (p.region = .pcie → exec i s = .next (s3.freeze c.val).finish) ∧
      (∀ t, p.region = .mcs → s3.mcsWrite (.core c) (p.pa - 0x3F0000000000) (sizeLog n) v = .ok t →
        (t.core c.val).dev = some (acc major n false none true) →
        ∃ h, exec i s = .next (retired (t.modCore c.val (fun q => { q with dev := none })) c (t.core c.val).arch.pc h none))
    load (.lb c o) 0x10 1 true false (fun x => (BitVec.ofNat 8 x).signExtend 64) ∧
    load (.lbu c o) 0x11 1 false false (fun x => BitVec.ofNat 64 (x % 2 ^ 8)) ∧
    load (.lh c o) 0x12 2 true false (fun x => (BitVec.ofNat 16 x).signExtend 64) ∧
    load (.lhu c o) 0x13 2 false false (fun x => BitVec.ofNat 64 (x % 2 ^ 16)) ∧
    load (.lw c o) 0x14 4 true false (fun x => (BitVec.ofNat 32 x).signExtend 64) ∧
    load (.lwu c o) 0x15 4 false false (fun x => BitVec.ofNat 64 (x % 2 ^ 32)) ∧
    load (.ld c o none) 0x16 8 false false (fun x => BitVec.ofNat 64 x) ∧
    load (.flw c o) 0x1C 4 false true (fun x => BitVec.ofNat 64 (x % 2 ^ 32)) ∧
    load (.fld c o) 0x1D 8 false true (fun x => BitVec.ofNat 64 x) ∧
    store (.sb c o) 0x18 1 (BitVec.ofNat 64 ((k.g o.rt).toNat % 2 ^ 8)) ∧
    store (.sh c o) 0x19 2 (BitVec.ofNat 64 ((k.g o.rt).toNat % 2 ^ 16)) ∧
    store (.sw c o) 0x1A 4 (BitVec.ofNat 64 ((k.g o.rt).toNat % 2 ^ 32)) ∧ store (.sd c o) 0x1B 8 (k.g o.rt) ∧
    store (.fsw c o) 0x1E 4 (BitVec.ofNat 64 ((k.f o.rt).toNat % 2 ^ 32)) ∧ store (.fsd c o) 0x1F 8 (k.f o.rt)

/-- The response of a device (R44, R113, R115, R465): it ends the freeze of the core that waits for it, a load's value three positions
later, under the bytes that the merging buffer held for it and with the flags of its sequence, or traps with Device access error; with
no core waiting it ends the oldest posted store, and one that failed leaves a record and no trap. -/
def Obligations.DeviceResponses : Prop :=
  ∀ (s : State) (c : CoreId) (v : Dword),
    (∀ a : DevAcc, (s.core c.val).dev = some a → (s.region a.pa.toNat = .pcie ∨ s.region a.pa.toNat = .xspi) → s.throughWelt c.val = false →
      let s0 := s.modCore c.val (fun k => { k with dev := none })
      let v := a.seen v
      let x := if a.size = 1 then (if a.signed then (v.truncate 8 : BitVec 8).signExtend 64 else BitVec.ofNat 64 (v.toNat % 2 ^ 8))
        else if a.size = 2 then (if a.signed then (v.truncate 16 : BitVec 16).signExtend 64 else BitVec.ofNat 64 (v.toNat % 2 ^ 16))
        else if a.size = 4 then (if a.signed then (v.truncate 32 : BitVec 32).signExtend 64 else BitVec.ofNat 64 (v.toNat % 2 ^ 32))
        else v
      (∃ h, exec (.deviceCompletion c true v) s = .next (retired
        ((s0.modCore c.val (fun k => k.seqFlags a.flags)).lands c.val (if a.store ∨ a.reg = 0 then none else some a.reg) x 3) c (s.core c.val).arch.pc h none)) ∧
      exec (.deviceCompletion c false v) s = .next (trapped s0 c a.word { cause := 0x0F, eva := a.va })) ∧
    (∀ (p : BitVec 46 × Tid) (rest : List (BitVec 46 × Tid)), (s.core c.val).dev = none → (s.core c.val).posted = p :: rest →
      let s0 := s.modCore c.val (fun k => { k with posted := rest })
      exec (.deviceCompletion c true v) s = .next s0.finish ∧
      exec (.deviceCompletion c false v) s = .next (s0.tidRecord p.2.val 0x0F 0 0 [BitVec.ofNat 64 p.1.toNat, 0]).finish)

/-- The merging buffer (R112, R114, R115): a load sees the bytes it holds, and they reach the L2 when they drain. -/
def Obligations.MergingBuffer : Prop := BufferedBytesAreRead ∧ BufferedBytesDrain

/-- The atomic accesses (R59): load-reserve, store-conditional and test-and-set. -/
def Obligations.AtomicAccesses : Prop := LoadReserveStoreConditional ∧ TestAndSet

/-! ### Branches, calls and returns -/

/-- The branches and jumps outside a delay slot (R54): a branch leaves the delay slot that follows it, with its own address, whether it
is taken, its target, and whether the slot is annulled; JAL and JALR link the address + 8 in g31 and in rd, one position later. The
fetches that the prediction leads to come before (R92, R97, R98). -/
def Obligations.BranchesAndJumps : Prop :=
  ∀ (s s1 : State) (c : CoreId), Ready s c s1 → (s.core c.val).arch.slot = none →
    let k := s1.core c.val
    let pc := k.arch.pc
    let p0 := (s.core c.val).arch.pc
    let cond := fun (o : OpsD) (taken : Bool) =>
      let tgt := pc + o.disp.signExtend 64 <<< 2
      let f := s1.followed c.val ((k.guessCond pc).map (unscramble k.key)) (canonPc (if taken then tgt else pc + 8))
      (.next (retired (f.trained c.val ((f.core c.val).trainCond pc tgt taken)) c p0 { branch := some taken, taken := taken }
        (some ⟨pc, taken, tgt, o.a && !taken⟩)) : Host.Outcome State Fault Refusal)
    let jumps := fun (tgt : Dword) (ret call : Bool) =>
      let f := s1.followed c.val ((k.guessJump pc ret).map (unscramble k.key)) (canonPc tgt)
      f.trained c.val ((f.core c.val).trainJump pc tgt ret call)
    let link := fun (s : State) (rd : BitVec 5) => s.modCore c.val (fun q =>
      if rd = 0 then q else q.produce ⟨q.arch.posn + 1, some (gKey q.infast rd), pc + 8, 0, 0, none⟩)
    (∀ o : OpsD,
      let x := (k.g o.rs).toInt
      exec (.beqz c o) s = cond o (decide (x = 0)) ∧ exec (.bnez c o) s = cond o (decide (x ≠ 0)) ∧
      exec (.bltz c o) s = cond o (decide (x < 0)) ∧ exec (.bgez c o) s = cond o (decide (0 ≤ x)) ∧
      exec (.blez c o) s = cond o (decide (x ≤ 0)) ∧ exec (.bgtz c o) s = cond o (decide (0 < x))) ∧
    (∀ o : OpsE,
      let tgt := pc + o.disp.signExtend 64 <<< 2
      exec (.j c o) s = .next (retired (jumps tgt false false) c p0 { taken := true }
        (some ⟨pc, true, tgt, o.a⟩)) ∧
      exec (.jal c o) s = .next (retired (link (jumps tgt false true) 31) c p0 { taken := true }
        (some ⟨pc, true, tgt, o.a⟩))) ∧
    (∀ (m2 : BitVec 2) (o : OpsB),
      let tgt := k.g o.rs1 + o.imm.signExtend 64
      exec (.jalr c m2 o) s = .next (retired (link (jumps tgt
        (decide (o.rs1 = 31 ∧ (o.rd = 0 ∨ o.rd = 31))) (decide (o.rd = 31))) o.rd) c p0
        { taken := true, indir := some tgt } (some ⟨pc, true, tgt, m2.getLsbD 1⟩)))

/-- The delay slot (R54, R55): an instruction that stands in an annulled slot takes its position and changes nothing; after a slot
comes the branch's target or its address + 8; an instruction that may not stand in a slot raises a Slot fault there, annulled or
not. -/
def Obligations.DelaySlots : Prop :=
  ∀ (s : State) (c : CoreId) (sl : SlotSt), s.issuing c.val = true → (s.trio (trioOf c.val)).inj = none → (s.core c.val).arch.slot = some sl →
    let s0 := s.modCore c.val (fun k => k.settle k.arch.posn)
    let pc := (s.core c.val).arch.pc
    (sl.annul = true → ∀ (w : Word) (body : State → State × PosRes),
      (s.position c.val w false body).finish = retired s0 c pc {} none) ∧
    (∀ k : Core, k.arch.slot = some sl → (k.advance none).arch.pc =
      (((if sl.taken then sl.target else sl.branch + 8).truncate 48 : BitVec 48).signExtend 64) ∧
      (k.advance none).arch.slot = none ∧ (k.advance none).arch.posn = k.arch.posn + 1 ∧
      (k.advance none).arch.regs = k.arch.regs ∧ (k.advance none).arch.csr = k.arch.csr ∧ (k.advance none).arch.pend = k.arch.pend) ∧
    (∀ s1 : State, (if sl.annul = true then s1 = s0 else s0.fetch c.val = (s1, .ok ())) →
      let faults := fun (i : Instr) (w : Word) => exec i s = .next (trapped s1 c w { cause := 0x07 })
      (∀ o : OpsD, faults (.beqz c o) (wordD 0x20 o) ∧ faults (.bnez c o) (wordD 0x21 o) ∧ faults (.bltz c o) (wordD 0x22 o) ∧
        faults (.bgez c o) (wordD 0x23 o) ∧ faults (.blez c o) (wordD 0x24 o) ∧ faults (.bgtz c o) (wordD 0x25 o)) ∧
      (∀ o : OpsE, faults (.j c o) (wordE 0x28 o) ∧ faults (.jal c o) (wordE 0x29 o)) ∧
      (∀ (m2 : BitVec 2) (o : OpsB), faults (.jalr c m2 o) (wordB 0x0E m2 o)) ∧
      (∀ o : OpsF, faults (.scall c o) (wordF 0x31 0 o) ∧ faults (.pcall c o) (wordF 0x31 1 o) ∧
        faults (.mcall c o) (wordF 0x31 2 o) ∧ faults (.rfe c o) (wordF 0x31 3 o) ∧ faults (.wait c o) (wordF 0x32 0 o) ∧
        faults (.waite c o) (wordF 0x32 1 o) ∧ faults (.yield c o) (wordF 0x32 2 o) ∧ faults (.fdone c o) (wordF 0x32 3 o)))

/-- The predictor (R92-R96): a conditional branch moves the counter that its scrambled address names, saturating, and a taken one
enters the target buffer; jumps leave the counters, enter the target buffer, and use the return stack as R93 says. What is predicted: a
conditional branch's target where its counter is 2 or more and the target buffer holds it; a jump's from the target buffer; a return's
from the top of the return stack, without an entry pushed fewer than three positions before (R94). -/
def Obligations.PredictorTables : Prop :=
  ∀ (k : Core) (pc tgt : Dword),
    let i := fld pc 13 2 ^^^ fld k.key 11 0 ^^^ fld k.key 23 12
    let b := fld pc 10 2 ^^^ fld k.key 8 0
    let tag := fld pc 20 11 ^^^ fld k.key 18 9
    let mix := fun (a : Dword) => BitVec.ofNat 64 (fld a 47 2 ^^^ (k.key.toNat * 2 ^ 14 + fld k.key 13 0))
    let n := SMap.get 1 k.dirTab i
    let e := SMap.get (1024, 0) k.btb b
    let held := if e.1 = tag then some e.2 else none
    k.guessCond pc = (if 2 ≤ n then held else none) ∧ k.guessJump pc false = held ∧
    (let top := if k.rasAt.any (fun p => decide (k.arch.posn < p + 3)) then k.ras.dropLast else k.ras
     k.guessJump pc true = (match top.getLast? with
      | some a => some a
      | none => held)) ∧
    (∀ a : Dword, a.toNat % 4 = 0 → unscramble k.key
      (BitVec.ofNat 64 (fld a 47 2 ^^^ (k.key.toNat * 2 ^ 14 + fld k.key 13 0))) = ((a.truncate 48 : BitVec 48).signExtend 64)) ∧
    let put := fun (m : SMap (Nat × Dword)) => ∀ j, SMap.get (1024, 0) m j = if j = b then (tag, mix tgt) else SMap.get (1024, 0) k.btb j
    (∀ taken : Bool,
      let k' := (k.trainCond pc tgt taken).1
      (∀ j, SMap.get 1 k'.dirTab j = if j = i then (if taken then min (n + 1) 3 else n - 1) else SMap.get 1 k.dirTab j) ∧
      (if taken = true then put k'.btb else k'.btb = k.btb) ∧ k'.ras = k.ras ∧ k'.arch = k.arch ∧ k'.own = k.own) ∧
    (∀ ret call : Bool,
      let k' := (k.trainJump pc tgt ret call).1
      let popped := if ret then k.ras.dropLast else k.ras
      k'.dirTab = k.dirTab ∧ put k'.btb ∧ k'.arch = k.arch ∧ k'.own = k.own ∧
      (call = false → k'.ras = popped) ∧
      (call = true → k.ras.length ≤ 8 → k'.ras = (if popped.length < 8 then popped else popped.drop 1) ++ [mix (pc + 8)]))

/-- The calls, the breakpoint and the return outside a delay slot (R100, R106, R107): each ends its position with its own entry;
a level that may not execute it raises Privileged instruction. -/
def Obligations.CallsAndReturns : Prop :=
  ∀ (s s1 : State) (c : CoreId) (o : OpsF), Ready s c s1 → (s.core c.val).arch.slot = none →
    let k := s1.core c.val
    let p0 := (s.core c.val).arch.pc
    let n := s1.countCore c.val 0x01
    let ends := fun (t : State) (h : Happened) => (.next (t.endPos c.val p0 h).finish : Host.Outcome State Fault Refusal)
    let call := fun (cause sub fn : Nat) => n.enterTrap c.val ((n.core c.val).syncSet cause)
      { cause := cause, sub := sub, word := wordF 0x31 (BitVec.ofNat 4 fn) o } 1 4
    exec (.scall c o) s = ends (call 0x10 0 0) { trapped := true } ∧
    exec (.pcall c o) s = (if 1 ≤ k.pl then ends (call 0x11 0 1) { trapped := true }
      else .next (trapped s1 c (wordF 0x31 1 o) { cause := 0x06 })) ∧
    (1 ≤ k.pl → n.rf secStatR 0 0 = 0 → exec (.mcall c o) s = ends (call 0x17 1 2) { trapped := true }) ∧
    (1 ≤ k.pl → n.rf secStatR 0 0 ≠ 0 → k.w = true → exec (.mcall c o) s = ends (call 0x12 0 2) { trapped := true }) ∧
    (1 ≤ k.pl → n.rf secStatR 0 0 ≠ 0 → k.w = false → exec (.mcall c o) s = ends ((call 0x12 0 2).modCore c.val (fun q =>
      { q with frame := some (q.mkFrame k.pl (q.csr 0x301) o.sys), watch := 0, wdFrom := s1.timebase })) { trapped := true }) ∧
    (k.pl < 1 → exec (.mcall c o) s = .next (trapped s1 c (wordF 0x31 2 o) { cause := 0x06 })) ∧
    exec (.brk c o) s = .next (trapped s1 c (wordF 0x31 4 o) { cause := 0x13 }) ∧
    (k.pl = 0 ∨ k.rfeRefused = true → exec (.rfe c o) s = .next (trapped s1 c (wordF 0x31 3 o) { cause := 0x06 })) ∧
    (1 ≤ k.pl → k.rfeRefused = false → (IntClass.normal ∉ k.intReq ∨ k.rfeSet ≠ .pl1) → exec (.rfe c o) s = ends (n.rfe c.val) {})

/-- Which set takes a synchronous trap (R99-R101). -/
def TrapSets : Prop :=
  ∀ k : Core,
    (∀ cause, k.w = true ∨ cause = 0x12 → k.syncSet cause = .pl3) ∧
    (∀ cause, k.w = false → cause ≠ 0x12 → k.infast = true → k.syncSet cause = .pl2) ∧
    (k.w = false → k.infast = false →
      k.syncSet 0x11 = .pl2 ∧
      (k.syncSet 0x10 = if 2 ≤ k.pl then .pl2 else .pl1) ∧ (k.syncSet 0x17 = if 2 ≤ k.pl then .pl2 else .pl1) ∧
      ∀ cause, (1 ≤ cause ∧ cause ≤ 0x0F) ∨ cause = 0x13 →
        k.syncSet cause = if k.pl < 2 ∧ (k.csr 0x210).getLsbD (if cause = 0x13 then 19 else cause) = true then .pl1 else .pl2)

/-- Taking a trap at a set whose world is the current one (R103, R467): what the set's registers, the status and the PC become;
nothing is left in flight, no slot and no reservation. `x` is the trap, `r` and `off` the positions and bytes past the instruction. -/
def TrapEntry : Prop :=
  ∀ (s : State) (c : Nat) (set : TrapSet) (x : Trap) (r off : Nat), x.cause < 256 → x.sub < 256 →
    ((s.core c).w = true ↔ set = .pl3) →
    let k := s.core c
    let t := (s.enterTrap c set x r off).core c
    let b := set.base
    let es := t.csr (b + 2)
    let high := set = .pl2 ∨ set = .pl3
    (t.csr (b + 1) = match k.arch.slot with
      | some sl => sl.branch
      | none => k.arch.pc + BitVec.ofNat 64 off) ∧
    (t.csr (b + 3) = match k.arch.slot with
      | some sl => sl.target
      | none => 0) ∧
    fld es 7 0 = x.cause ∧ fld es 15 8 = x.sub ∧ fld es 17 16 = k.pl ∧ es.getLsbD 18 = k.w ∧ es.getLsbD 19 = k.nie ∧
    es.getLsbD 20 = k.fie ∧ es.getLsbD 21 = k.arch.slot.isSome ∧ es.getLsbD 22 = (k.arch.slot.map (·.taken)).getD false ∧
    es.getLsbD 23 = (k.arch.slot.map (·.annul)).getD false ∧ (es.getLsbD 24 = true ↔ high ∧ k.pie = true) ∧
    (es.getLsbD 25 = true ↔ high ∧ k.infast = true) ∧ fld es 63 26 = 0 ∧
    (set ≠ .fast → t.csr (b + 4) = (if (1 ≤ x.cause ∧ x.cause ≤ 3) ∨ (8 ≤ x.cause ∧ x.cause ≤ 0x0F) then x.eva else 0) ∧
      t.csr (b + 5) = (if 4 ≤ x.cause ∧ x.cause ≤ 0x13 then x.word.zeroExtend 64 else 0)) ∧
    t.arch.pc = (((k.csr (b + 6)).truncate 48 : BitVec 48).signExtend 64) + BitVec.ofNat 64 (0x40 * x.cause) ∧
    t.arch.posn = k.arch.posn + r ∧ t.arch.slot = none ∧ t.arch.pend = [] ∧ t.resv = none ∧
    t.pl = (match set with
      | .pl1 | .fast => 1
      | .pl2 => 2
      | .pl3 => 3) ∧
    t.w = k.w ∧ t.nie = (decide (set = .fast) && k.nie) ∧ t.fie = (decide (set = .pl1) && k.fie) ∧
    t.pie = (decide (set = .pl1 ∨ set = .fast) && k.pie) ∧ t.infast = decide (set = .fast) ∧
    (∀ y, y ≠ c → ((s.enterTrap c set x r off).core y).arch = (s.core y).arch)

/-- What RFE restores within one world (R106): the level, the enables and the class from the set's `ESTAT`; it resumes at `EPC`, or at
the delay slot after it; the records that are armed are the results in flight. -/
def Obligations.ReturnRestores : Prop :=
  ∀ (s : State) (c : Nat),
    let k := s.core c
    let h := k.settleAll
    let set := h.rfeSet
    let b := set.base
    let es := h.csr (b + 2)
    let epc := ((h.csr (b + 1)).truncate 48 : BitVec 48).signExtend 64
    es.getLsbD 18 = h.w →
    let t := (s.rfe c).core c
    t.pl = fld es 17 16 ∧ t.w = h.w ∧ t.nie = es.getLsbD 19 ∧ t.fie = es.getLsbD 20 ∧
    (set = .fast → t.infast = false) ∧ (set = .pl1 → t.infast = h.infast) ∧
    (set = .pl2 ∨ set = .pl3 → t.infast = es.getLsbD 25 ∧ t.pie = es.getLsbD 24) ∧
    (es.getLsbD 21 = false → t.arch.pc = epc ∧ t.arch.slot = none) ∧
    (es.getLsbD 21 = true → t.arch.pc = (((epc + 4).truncate 48 : BitVec 48).signExtend 64) ∧
      t.arch.slot = some ⟨epc, es.getLsbD 22, h.csr (b + 3), es.getLsbD 23⟩) ∧
    t.arch.posn = k.arch.posn + 1 ∧ t.resv = none ∧ t.arch.regs = h.arch.regs ∧
    (∀ p ∈ t.arch.pend, ∃ n, n < 4 ∧
      let e := h.csr (b + 8)
      let rem := fld e (16 * n + 14) (16 * n + 12)
      let num := fld e (16 * n + 4) (16 * n)
      e.getLsbD (16 * n + 15) = true ∧ 1 ≤ rem ∧ rem ≤ 4 ∧ p.vis = k.arch.posn + 1 + rem ∧ p.val = h.csr (b + 9 + n) ∧
      p.reg = some (if e.getLsbD (16 * n + 5) then 32 + num else gKey t.infast (BitVec.ofNat 5 num)))

/-- A change of world (R96, R99): the merging buffer has drained, the L1I and L1D are invalid, the return stack and the prefetch
streams are empty, the key of the new world is taken and its prediction switch shows; no register but `CSTAT.PRED` changes. -/
def Obligations.ChangeOfWorld : Prop :=
  ∀ (s : State) (c : Nat),
    let k := s.core c
    let t := (s.changeWorld c).core c
    t.merge = [] ∧ t.l1i = [] ∧ t.l1d = [] ∧ t.ras = [] ∧ t.streams = [] ∧ t.dirTab = k.dirTab ∧ t.btb = k.btb ∧
    t.arch.regs = k.arch.regs ∧ t.arch.pc = k.arch.pc ∧ t.w = k.w ∧ t.pl = k.pl ∧
    (k.w = true → t.key = Config.sealedKey ∧ t.pred = (s.reg secCtlR).getLsbD 20) ∧
    (∀ n : Fin 64, k.w = false → k.ctx = some n → t.key = BitVec.ofNat 32 (s.slot (trioOf c) n.val).pkey ∧
      t.pred = (s.slot (trioOf c) n.val).preden)

/-- Interrupts (R102, R105, R317): a request that has reached a core at its boundary is accepted where the class's level, enable and
world allow it and no class before it could be; it enters its set with cause 0x21 for the fast class and 0x20 otherwise, and ends
a WAIT. A request that is raised reaches the core, and ends its WAIT too. -/
def Obligations.Interrupts : Prop :=
  ∀ (s : State) (c : CoreId),
    let k := s.core c.val
    let may := fun (i : IntClass) => k.w = false ∧ k.infast = false ∧ match i with
      | .fast => k.pl ≤ 1 ∧ k.fie = true
      | .pl2 => k.pl ≤ 2 ∧ k.pie = true
      | .normal => k.pl ≤ 1 ∧ k.nie = true
    let ready := fun (i : IntClass) => i ∈ k.intReq ∧ may i
    let free := (k.run = .running ∨ k.run = .waiting) ∧ k.halted = false ∧ k.frozen = false ∧ k.dev = none ∧ k.ctx.isSome = true ∧ s.leadOf c.val = c.val
    let agreed := (s.trio (trioOf c.val)).inj = none
    let enter := fun (i : IntClass) (set : TrapSet) (cause : Nat) =>
      (.next (((s.modCore c.val (fun q => { q.settle q.arch.posn with run := .running, intReq := k.intReq.erase i })).enterTrap c.val
        set { cause := cause } 0 0).finish) : Host.Outcome State Fault Refusal)
    (free → agreed → ready .fast → exec (.interruptAccept c .fast) s = enter .fast .fast 0x21) ∧
    (free → agreed → ready .pl2 → ¬ ready .fast → exec (.interruptAccept c .pl2) s = enter .pl2 .pl2 0x20) ∧
    (free → agreed → ready .normal → ¬ ready .fast → ¬ ready .pl2 → exec (.interruptAccept c .normal) s = enter .normal .pl1 0x20) ∧
    (∀ i, ¬ (free ∧ ready i) → exec (.interruptAccept c i) s = .next s.finish) ∧
    (∀ i, s.leadOf c.val = c.val → s.throughWelt c.val = false → s.requested c.val i = true →
      exec (.interruptRequest c i) s = .next (s.modCore c.val (fun q => { q with
        intReq := if q.intReq.contains i then q.intReq else q.intReq ++ [i]
        run := if q.run = .waiting then .running else q.run })).finish) ∧
    (∀ i, s.throughWelt c.val = true → s.requested (s.leadOf c.val) i = true →
      exec (.interruptRequest c i) s =
        .next (s.modTrio (trioOf c.val) (fun q => { q with welt := q.welt ++ [(0, .interrupt i)] })).finish)

/-! ### Control and status registers -/

/-- CSRRD and CSRWR (R42, R58, R61, R318, R319): an unassigned number raises Reserved instruction, one above the level Privileged
instruction; otherwise CSRRD gives rd the value read three positions later and CSRWR writes at once. DIVSAVE, DIVRESTORE, ECLAIM and
ECOMP are those of their own registers. -/
def CsrAccess : Prop :=
  ∀ (s s1 : State) (c : CoreId) (o : OpsF), Ready s c s1 →
    let k := s1.core c.val
    let p0 := (s.core c.val).arch.pc
    let assigned := fun (n : Nat) => n ∈ [0x001, 0x002, 0x010, 0x011, 0x020, 0x021, 0x022, 0x023, 0x024, 0x025, 0x026, 0x027, 0x028, 0x029] ∨
      (0x100 ≤ n ∧ n ≤ 0x10C) ∨ (0x111 ≤ n ∧ n ≤ 0x113) ∨ (0x116 ≤ n ∧ n ≤ 0x11C) ∨ (0x120 ≤ n ∧ n ≤ 0x123) ∨
      (0x200 ≤ n ∧ n ≤ 0x20C) ∨ n = 0x210 ∨ (0x220 ≤ n ∧ n ≤ 0x222) ∨ (0x301 ≤ n ∧ n ≤ 0x30C)
    let rd := fun (i : Instr) (n : Nat) =>
      (assigned n → n / 256 ≤ k.pl → exec i s = .next (retired ((s1.csrRead c.val n).1.modCore c.val (fun q =>
        if o.rd = 0 then q else q.produce ⟨q.arch.posn + 3, some (gKey q.infast o.rd), (s1.csrRead c.val n).2, 0, 0, none⟩)) c p0 {} none)) ∧
      (¬ assigned n → exec i s = .next (trapped s1 c (wordF 0x30 0 { o with sys := BitVec.ofNat 12 n }) { cause := 0x04 })) ∧
      (assigned n → k.pl < n / 256 → exec i s =
        .next (trapped s1 c (wordF 0x30 0 { o with sys := BitVec.ofNat 12 n }) { cause := 0x06 }))
    let wr := fun (i : Instr) (n : Nat) =>
      (assigned n → n / 256 ≤ k.pl → exec i s = .next (retired (s1.csrWrite c.val n (k.g o.rs1)) c p0 {} none)) ∧
      (¬ assigned n → exec i s = .next (trapped s1 c (wordF 0x30 1 { o with sys := BitVec.ofNat 12 n }) { cause := 0x04 })) ∧
      (assigned n → k.pl < n / 256 → exec i s =
        .next (trapped s1 c (wordF 0x30 1 { o with sys := BitVec.ofNat 12 n }) { cause := 0x06 }))
    rd (.csrrd c o) o.sys.toNat ∧ wr (.csrwr c o) o.sys.toNat ∧ wr (.divsave c o) 0x020 ∧ wr (.divrestore c o) 0x029 ∧
    rd (.eclaim c .normal o) 0x120 ∧ rd (.eclaim c .fast o) 0x122 ∧ rd (.eclaim c .pl2 o) 0x220 ∧
    wr (.ecomp c .normal o) 0x121 ∧ wr (.ecomp c .fast o) 0x123 ∧ wr (.ecomp c .pl2 o) 0x221

/-- The values of control and status registers (R58, R61, R79, R103, R208): which bits a write changes, and that a read gives what
stands there, the timebase through the Welt in a redundant stream; `FCSR` keeps RM against a reserved mode; DIVSAVE holds both iterative units and DIVRESTORE lets them run; a working value
written to a unit that is not busy, or held, reads back. -/
def CsrValues : Prop :=
  ∀ (s : State) (c : Nat) (v : Dword),
    let k := s.core c
    let all : Dword := BitVec.allOnes 64
    let held := (s.csrWrite c 0x020 v).core c
    let free := (s.csrWrite c 0x029 v).core c
    let wrote := fun (n : Nat) (m : Dword) =>
      s.csrRead c n = (s, k.csr n) ∧ (s.csrWrite c n v).csrRead c n = (s.csrWrite c n v, (k.csr n &&& ~~~m) ||| (v &&& m)) ∧
      (∀ i, i ≠ n → ((s.csrWrite c n v).core c).csr i = k.csr i) ∧ ((s.csrWrite c n v).core c).arch.regs = k.arch.regs ∧
      (∀ x, x ≠ c → (s.csrWrite c n v).core x = s.core x)
    wrote 0x001 7 ∧ (fld v 7 5 < 5 → wrote 0x002 0xFF) ∧ (5 ≤ fld v 7 5 → wrote 0x002 0x1F) ∧ wrote 0x010 0 ∧
    wrote 0x100 3 ∧ wrote 0x200 1 ∧ wrote 0x210 0x8FFFE ∧ wrote 0x222 0xFF ∧
    (∀ b ∈ [0x100, 0x110, 0x200, 0x300],
      wrote (b + 1) all ∧ wrote (b + 2) (if b < 0x200 then 0x2FFFFFF else 0x3FFFFFF) ∧ wrote (b + 3) all ∧
      (b ≠ 0x110 → wrote (b + 4) all ∧ wrote (b + 5) all) ∧ wrote (b + 6) 0xFFFFFFFFF000 ∧ wrote (b + 7) all ∧
      wrote (b + 8) 0xF03FF03FF03FF03F ∧ wrote (b + 9) all ∧ wrote (b + 10) all ∧ wrote (b + 11) all ∧ wrote (b + 12) all) ∧
    (s.throughWelt c = false → s.csrRead c 0x011 = (s, s.timebase)) ∧
    (s.throughWelt c = true → s.csrRead c 0x011 = (s.weltCount (trioOf c), s.timebase)) ∧ s.csrWrite c 0x011 v = s ∧
    held.arch.iu = { k.arch.iu with ctl := k.arch.iu.ctl ||| 2 } ∧ held.arch.fu = { k.arch.fu with ctl := k.arch.fu.ctl ||| 2 } ∧
    free.arch.iu = { k.arch.iu with ctl := k.arch.iu.ctl &&& ~~~(2 : Dword) } ∧
    free.arch.fu = { k.arch.fu with ctl := k.arch.fu.ctl &&& ~~~(2 : Dword) } ∧
    (∀ i, i < 8 →
      let ctl := if i < 4 then k.arch.iu.ctl else k.arch.fu.ctl
      let t := s.csrWrite c (0x021 + i) v
      (ctl.getLsbD 0 = true → ctl.getLsbD 1 = false → t.core c = k) ∧
      (ctl.getLsbD 0 = false ∨ ctl.getLsbD 1 = true →
        t.csrRead c (0x021 + i) = (t, if i = 3 then v &&& 0x1FFF else if i = 7 then v &&& 0x3FFFF else v)))

/-- Taking a trap (R99-R103, R467): the set that a cause is taken at, and what the entry leaves. -/
def Obligations.TakingATrap : Prop := TrapSets ∧ TrapEntry

/-- Control and status registers (R42, R58, R61, R318, R319): their instructions, and what reads give and writes change. -/
def Obligations.ControlRegisters : Prop := CsrAccess ∧ CsrValues

/-! ### Contexts, fences, maintenance and custom instructions -/

/-- WAIT, WAITE, YIELD, FDONE and SIGNAL outside a delay slot (R270-R274, R276), with the context of slot `n` on the core's stream; a
redundant stream takes its event bits through the Welt (R208). -/
def Obligations.ContextInstructions : Prop :=
  ∀ (s s1 : State) (c : CoreId) (o : OpsF) (n : Fin 64), Ready s c s1 → (s.core c.val).arch.slot = none →
    (s1.core c.val).ctx = some n →
    let k := s1.core c.val
    let p0 := (s.core c.val).arch.pc
    let t := trioOf c.val
    let counted := s1.countCore c.val 0x01
    let after := counted.modCore c.val (fun q => q.advance none)
    let ends := fun (u : State) (h : Happened) => (.next (u.endPos c.val p0 h).finish : Host.Outcome State Fault Refusal)
    let m : Word := (k.g o.rs1).truncate 32
    let ev := (s1.slot t n.val).events &&& m
    (1 ≤ k.pl → s1.anyPending c.val = true → exec (.wait c o) s = .next (retired s1 c p0 {} none)) ∧
    (1 ≤ k.pl → s1.anyPending c.val = false →
      exec (.wait c o) s = ends (counted.modCore c.val (fun q => { q.advance none with run := .waiting })) {}) ∧
    (k.pl = 0 → exec (.wait c o) s = .next (trapped s1 c (wordF 0x32 0 o) { cause := 0x06 })) ∧
    (ev ≠ 0 ∨ m = 0 → exec (.waite c o) s = .next (retired (((s1.sampled c.val).modSlot t n.val (fun b => { b with events := b.events &&& ~~~m })).modCore
      c.val (fun q => if o.rd = 0 then q
        else q.produce ⟨q.arch.posn + 3, some (gKey q.infast o.rd), ev.zeroExtend 64, 0, 0, none⟩)) c p0 { dispatch := true } none)) ∧
    (ev = 0 → m ≠ 0 → counted.remain t n.val ≠ 0 → exec (.waite c o) s = ends (((after.leave t (coreIn c.val) .waiting).modSlot t n.val
      (fun b => { b with waitMask := m, waitReg := (k.dest false o.rd).getD 0 })).redispatch t) { dispatch := true }) ∧
    (ev = 0 → m ≠ 0 → counted.remain t n.val = 0 → exec (.waite c o) s = ends ((((after.leave t (coreIn c.val) .waiting).modSlot t n.val
      (fun b => { b with waitMask := m, waitReg := (k.dest false o.rd).getD 0 })).budgetRecord t n.val).redispatch t) { dispatch := true }) ∧
    (after.remain t n.val = 0 → exec (.yield c o) s =
      ends (((after.leave t (coreIn c.val) .dormant).budgetRecord t n.val).redispatch t) { dispatch := true }) ∧
    (after.remain t n.val ≠ 0 → exec (.yield c o) s = ends (after.yieldOn t (after.streamOf c.val) n.val) { dispatch := true }) ∧
    exec (.fdone c o) s = ends (((after.modSlot t n.val (fun b => { b with fdone := true })).leave t (coreIn c.val) .dormant).redispatch t)
      { dispatch := true } ∧
    (fld (k.g o.rs1) 12 9 < 12 → fld (k.g o.rs1) 8 6 < 6 → exec (.signal c o) s = .next (retired
      (s1.post (fld (k.g o.rs1) 12 0) (fld o.sys 4 0) (.signal (s1.tidOn c.val) (decide (2 ≤ k.pl)))) c p0 { dispatch := true } none)) ∧
    (12 ≤ fld (k.g o.rs1) 12 9 ∨ 6 ≤ fld (k.g o.rs1) 8 6 → exec (.signal c o) s = .next (retired
      (s1.incRf ⟨.cxeTstat, 0, s1.tidOn c.val, 0⟩ 63 48) c p0 { dispatch := true } none))

/-- A context that leaves its stream (R51, R252, R258, R260): the slot holds its registers, in the state named, at PL0 with its results
in flight in the records of the PL1 normal set (above PL0 that they stay as they are is the model's choice, assumption 50), and the core
holds no context, no reservation, no return stack and no prefetch stream; what remains of its budget is less by the time charged. -/
def Obligations.LeavingAStream : Prop :=
  ∀ (s : State) (c : CoreId) (n : Fin 64) (dest : CtxState), (s.core c.val).ctx = some n → s.leadOf c.val = c.val →
    let t := trioOf c.val
    let k := s.core c.val
    let u := s.leave t (coreIn c.val) dest
    let b := u.slot t n.val
    b.state = dest ∧ b.arch = (if k.pl = 0 then k.drainTo 0x100 k.arch.posn else k).arch ∧ b.stream = none ∧ b.ws = k.w ∧ b.frame = k.frame ∧ b.det.isSome = k.dev.isSome ∧
    b.remain = (s.slot t n.val).remain - s.charged t n.val ∧ b.used = (s.slot t n.val).used + s.charged t n.val ∧
    b.desc = (s.slot t n.val).desc ∧ b.events = (s.slot t n.val).events ∧ b.handle = (s.slot t n.val).handle ∧
    (2 ≤ k.pl → ∀ i ∈ nestedCsrs k.pl, SMap.get 0 b.nested i = k.csr i) ∧
    (u.core c.val).ctx = none ∧ (u.core c.val).run = .idle ∧ (u.core c.val).resv = none ∧ (u.core c.val).ras = [] ∧
    (u.core c.val).streams = [] ∧ (u.core c.val).merge = [] ∧ (u.core c.val).dev = none ∧
    (∀ x, x ≠ n.val → u.slot t x = s.slot t x) ∧ (∀ y, y ≠ c.val → (u.core y).arch = (s.core y).arch ∧ (u.core y).ctx = (s.core y).ctx)

/-- FENCE, TLBINV and TLBSYNC (R128, R153, R154, R191): a fence of stores also waits for the acknowledgements of the writebacks that the
core's maintenance has posted; an invalidation that awaits no core any longer counts for nothing. -/
def FencesAndInvalidations : Prop :=
  ∀ (s s1 : State) (c : CoreId) (o : OpsF), Ready s c s1 →
    let k := s1.core c.val
    let p0 := (s.core c.val).arch.pc
    let drained := (s1.drainMerge c.val).wbsAcked c.val
    let fenced := drained.modCore c.val (fun q => { q with wfence := !drained.storesDone c.val })
    let live := k.invs.filter (fun v => (v.await ++ v.acks).any (fun d => s1.awaited d))
    let drained' := ((s1.modCore c.val (fun q => { q with invs := live })).drainMerge c.val).wbsAcked c.val
    let fenced' := drained'.modCore c.val (fun q => { q with wfence := !drained'.storesDone c.val })
    let x := k.g o.rd
    let tid := fun (n : Nat) => BitVec.ofNat 5 (if k.pl = 1 then s1.tidOn c.val else n)
    let inv := fun (sel : InvSel) => exec (.tlbinv c o) s =
      .next (retired ((fenced'.modCore c.val (fun q => q.tlbInv sel)).broadcastInv c.val sel) c p0 {} none)
    (fld o.sys 1 0 = 1 → exec (.fence c o) s = .next (retired s1 c p0 {} none)) ∧
    (fld o.sys 1 0 = 2 → exec (.fence c o) s = .next (retired fenced c p0 {} none)) ∧
    (fld o.sys 1 0 = 3 → drained.storesDone c.val = true →
      exec (.fence c o) s = .next (retired (drained.modCore c.val (fun q => { q with wfence := false })) c p0 {} none)) ∧
    (fld o.sys 1 0 = 3 → drained.storesDone c.val = false → exec (.fence c o) s = .next (drained.freeze c.val).finish) ∧
    (fld o.sys 1 0 = 0 → exec (.fence c o) s = .next (trapped s1 c (wordF 0x33 0 o) { cause := 0x04 })) ∧
    (1 ≤ k.pl → live.length < 8 → fld o.sys 1 0 = 0 →
      inv (.va (k.g o.rs1) (BitVec.ofNat 12 (fld x 11 0)) (tid (fld x 20 16)))) ∧
    (1 ≤ k.pl → live.length < 8 → fld o.sys 1 0 = 1 → inv (.asid (BitVec.ofNat 12 (fld x 11 0)) (tid (fld x 20 16)))) ∧
    (2 ≤ k.pl → live.length < 8 → fld o.sys 1 0 = 2 → inv (.tid (BitVec.ofNat 5 (fld (k.g o.rs1) 4 0)))) ∧
    (2 ≤ k.pl → live.length < 8 → fld o.sys 1 0 = 3 → inv .all) ∧
    (k.pl < (if fld o.sys 1 0 < 2 then 1 else 2) → exec (.tlbinv c o) s = .next (trapped s1 c (wordF 0x33 1 o) { cause := 0x06 })) ∧
    (2 ≤ k.pl → 8 ≤ live.length → exec (.tlbinv c o) s = .next (s1.freeze c.val).finish) ∧
    (1 ≤ k.pl → (∀ v ∈ k.invs, ∀ d ∈ v.await ++ v.acks, s1.awaited d = false) →
      exec (.tlbsync c o) s = .next (retired (s1.modCore c.val (fun q => { q with invs := [] })) c p0 {} none)) ∧
    (1 ≤ k.pl → (∃ v ∈ k.invs, ∃ d ∈ v.await ++ v.acks, s1.awaited d = true) → exec (.tlbsync c o) s = .next (s1.freeze c.val).finish) ∧
    (k.pl < 1 → exec (.tlbsync c o) s = .next (trapped s1 c (wordF 0x33 2 o) { cause := 0x06 }))

/-- An invalidation at the cores it is broadcast to (R153, R154): it reaches a core, is applied there or noted by a core asleep, and is
acknowledged; when the last acknowledgement has come it is outstanding no more. What a selection removes is what R153 says. -/
def InvalidationsTravel : Prop :=
  ∀ (s : State) (c issuer : CoreId) (seq : Nat),
    (∀ (v : InvOut), c ≠ issuer → (s.core issuer.val).invs = [v] → v.seq = seq → c.val ∈ v.await →
      let noted := s.modCore issuer.val (fun k => { k with invs := [{ v with await := v.await.erase c.val, acks := v.acks ++ [c.val] }] })
      exec (.tlbinvBroadcast c issuer seq) s = .next (noted.modCore c.val (fun k =>
        if k.run = .nap ∨ k.run = .off then { k with wakeFlush := true } else k.tlbInv v.sel)).finish) ∧
    (∀ (v : InvOut), (s.core issuer.val).invs = [v] → v.seq = seq →
      let left := { v with acks := v.acks.erase c.val }
      exec (.tlbinvAck issuer seq c) s = .next (s.modCore issuer.val (fun k =>
        { k with invs := if v.await = [] ∧ left.acks = [] then [] else [left] })).finish) ∧
    (∀ (k : Core) (x : InvSel) (e : TlbEntry),
      let gone := match x with
        | .va va asid tid => fld e.dw0 60 56 = tid.toNat ∧ (fld e.dw1 22 22 = 1 ∨ fld e.dw0 55 44 = asid.toNat) ∧
          (let n := pageShift (fld e.dw0 62 61)
           (fld e.dw0 43 8 * 2 ^ 12) / 2 ^ n = (fld va 47 12 * 2 ^ 12) / 2 ^ n)
        | .asid asid tid => fld e.dw0 60 56 = tid.toNat ∧ fld e.dw0 55 44 = asid.toNat ∧ fld e.dw1 22 22 = 0
        | .tid tid => fld e.dw0 60 56 = tid.toNat
        | .all => True
      (e ∈ (k.tlbInv x).itlb ↔ e ∈ k.itlb ∧ ¬ gone) ∧ (e ∈ (k.tlbInv x).dtlb ↔ e ∈ k.dtlb ∧ ¬ gone) ∧
      (e ∈ (k.tlbInv x).tlb2 ↔ e ∈ k.tlb2 ∧ ¬ gone))

/-- CINV, CCLN and CFLSH (R40, R125-R127): by address the one line, by range every line of it, where an interrupt that the core
would accept comes between two lines and rs1 and rd then say where it goes on; by way and set the array; a level
that may not execute the operation raises Privileged instruction, CCLN and CFLSH of level 3 Reserved instruction. -/
def MaintenanceInstructions : Prop :=
  ∀ (s s1 : State) (c : CoreId) (o : OpsF), Ready s c s1 →
    let k := s1.core c.val
    let p0 := (s.core c.val).arch.pc
    let level := fld o.sys 11 10
    let scope := fld o.sys 9 8
    let a := k.g o.rs1
    let n := (k.g o.rd).toNat
    let row := fun (i : Instr) (op : MaintOp) (fn : BitVec 4) (least : Nat) =>
      (level = 3 → op ≠ .inv → exec i s = .next (trapped s1 c (wordF 0x34 fn o) { cause := 0x04 })) ∧
      (level ≠ 3 ∨ op = .inv →
        (k.pl < least → exec i s = .next (trapped s1 c (wordF 0x34 fn o) { cause := 0x06 })) ∧
        (least ≤ k.pl →
          (scope = 0 → ∀ (s2 : State) (p : Page), s1.translate c.val .maint a = (s2, .ok p) →
            exec i s = .next (retired (s2.lineMaint c.val op level p.pa) c p0 {} none)) ∧
          (scope = 1 → n = 0 → exec i s = .next (retired s1 c p0 {} none)) ∧
          (scope = 1 → 0 < n → a.toNat % 64 + n ≤ 64 → ∀ (s2 : State) (p : Page), s1.translate c.val .maint a = (s2, .ok p) →
            exec i s = .next (retired (s2.lineMaint c.val op level p.pa) c p0 {} none)) ∧
          (scope = 1 → 64 < a.toNat % 64 + n → ∀ (s2 : State) (p : Page), s1.translate c.val .maint a = (s2, .ok p) →
            let s3 := s2.lineMaint c.val op level p.pa
            let step := 64 - a.toNat % 64
            (s3.core c.val).intReq.any (fun i => (s3.core c.val).acceptsNow i) = true →
            exec i s = .next ((s3.modCore c.val (fun q => q.rangeAt o (a + BitVec.ofNat 64 step) (n - step))).modCore c.val
              (fun q => { q with frozen := false })).finish) ∧
          (2 ≤ scope → exec i s = .next (retired (s1.arrayMaint c.val op level (scope = 2) a) c p0 {} none))))
    row (.cinv c o) .inv 0 (if 2 ≤ scope then 2 else if level ≠ 3 then 1 else 0) ∧
    row (.ccln c o) .cln 1 (if 2 ≤ scope then 2 else 0) ∧ row (.cflsh c o) .flsh 2 (if 2 ≤ scope then 2 else 0)

/-- What maintenance of one line leaves (R125, R126, R129), for a request whose world may touch it: CINV and CFLSH leave no copy at
their level, and CCLN of the L2, with nothing in progress on the line, leaves the line's bytes there, clean. -/
def LineMaintenance : Prop :=
  ∀ (s : State) (c : CoreId) (op : MaintOp) (pa : Nat), (s.core c.val).w = true → (s.core c.val).merge = [] →
    let line := pa / 64
    let t := trioOf c.val
    let u := fun (op : MaintOp) (level : Nat) => s.lineMaint c.val op level pa
    (∀ a, (u op 0).byte a = s.byte a) ∧ (op ≠ .cln → ∀ l ∈ ((u op 0).core c.val).l1d, l.line.toNat ≠ line) ∧
    (op = .cln → ((u op 0).core c.val).l1d = (s.core c.val).l1d) ∧
    (∀ l ∈ ((u .inv 3).core c.val).l1i, l.line.toNat ≠ line) ∧ ((u .inv 3).core c.val).l1d = (s.core c.val).l1d ∧
    (u .inv 3).trios = s.trios ∧ (∀ a, (u .inv 3).byte a = s.byte a) ∧
    (∀ l, (s.trio t).l2.find line = some l →
      (op ≠ .cln → ((u op 1).trio t).l2.find line = none ∧ ∀ i, i < 3 →
        ∀ x ∈ ((u op 1).core (coreNo t i)).l1d ++ ((u op 1).core (coreNo t i)).l1i, x.line.toNat ≠ line) ∧
      (op = .cln → s.calm line = s →
        ∃ x, ((u op 1).trio t).l2.find line = some x ∧ x.data = l.data ∧ x.st ≠ .m ∧ x.st ≠ .o))

/-- Custom and reserved instructions (R40, R42, R62, R63): a slot that is unbound, or not locked, raises Custom unbound; a bound
privileged one at PL0 raises Privileged instruction; a sequence of one addition whose selectors name rd, rs1 and imm[13:9] adds those
registers. A reserved word raises Reserved instruction. -/
def Obligations.CustomAndReserved : Prop :=
  ∀ (s s1 : State) (c : CoreId) (slot : BitVec 5) (o : OpsB) (w : Word), Ready s c s1 →
    let k := s1.core c.val
    let p0 := (s.core c.val).arch.pc
    let word := wordB (BitVec.ofNat 6 (0x38 + slot.toNat / 4)) (BitVec.ofNat 2 slot.toNat) o
    let v := s1.reg (cdtSlotR slot.toNat)
    let bound := bit (s1.reg cdtCtlR) 0 = true ∧ bit v 0 = true
    (¬ bound → exec (.customInstruction c slot o) s = .next (trapped s1 c word { cause := 0x05 })) ∧
    (bound → bit v 13 = true → k.pl = 0 → exec (.customInstruction c slot o) s = .next (trapped s1 c word { cause := 0x06 })) ∧
    (bound → bit v 13 = false ∨ k.pl ≠ 0 → fld v 12 9 = 0 → s1.reg (cdtUopR (fld v 8 1)) = 0xD100000000 →
      exec (.customInstruction c slot o) s = .next (retired (sends s1 c false o.rd
        (k.g o.rs1 + k.g (BitVec.ofNat 5 (fld o.imm 13 9))) 1 0 0) c p0 {} none)) ∧
    (bound → bit v 13 = false ∨ k.pl ≠ 0 → ∀ (s2 : State) (h : Happened), s1.runSeq c word o v = (s2, .next h none) →
      exec (.customInstruction c slot o) s = .next (retired s2 c p0 h none)) ∧
    (reservedWord w = true → exec (.reservedInstruction c w) s = .next (trapped s1 c w { cause := 0x04 })) ∧
    (wfld w 31 26 ∈ [0x0F, 0x17, 0x26, 0x27, 0x2A, 0x2B, 0x2C, 0x2D, 0x2E, 0x2F, 0x35, 0x36, 0x37] → reservedWord w = true) ∧
    (wfld w 31 26 ∈ [0x08, 0x0A, 0x0E, 0x10, 0x11, 0x12, 0x13, 0x14, 0x15, 0x16, 0x18, 0x19, 0x1A, 0x1B, 0x1C, 0x1D, 0x1E, 0x1F, 0x20, 0x21,
      0x22, 0x23, 0x24, 0x25, 0x28, 0x29, 0x38, 0x39, 0x3A, 0x3B, 0x3C, 0x3D, 0x3E, 0x3F] → reservedWord w = false)

/-- The forced return (R306, R307): the call's watchdog expires when the limit is reached, Sealed services end and event source 15
rises; while they are lost every other core in a call is forced out. The core returns to the caller with its registers, W = 0, and
takes Sealed service lost there. -/
def Obligations.ForcedReturns : Prop :=
  ∀ (s : State) (c : CoreId) (f : CallFrame), (s.core c.val).frame = some f → (s.core c.val).w = true →
    ((s.core c.val).run = .running ∨ (s.core c.val).run = .waiting) →
    let lim := s.rf secCtlR 19 0
    let lost := (s.lostRecord c.val).forceReturn c.val 0
    (0 < lim → lim ≤ s.watchNow c.val → lost.rf secStatR 0 0 = 1 →
      exec (.mcallWatchdogExpiry c) s = .next ((lost.setRf secStatR 0 0 0).raise 15).finish) ∧
    (0 < lim → lim ≤ s.watchNow c.val → lost.rf secStatR 0 0 = 0 → exec (.mcallWatchdogExpiry c) s = .next lost.finish) ∧
    (lim = 0 ∨ s.watchNow c.val < lim → exec (.mcallWatchdogExpiry c) s = .next s.finish) ∧
    (s.rf secStatR 0 0 = 0 → exec (.sealedForcedReturn c) s = .next (s.forceReturn c.val 1).finish) ∧
    (∀ sub : Nat, sub ≤ 1 → f.level.toNat = 1 ∨ f.level.toNat = 2 →
      let t := (s.forceReturn c.val sub).core c.val
      let b := if f.level.toNat = 2 ∨ bit ((s.core c.val).csr 0x302) 25 = true then 0x200 else 0x100
      t.w = false ∧ t.frame = none ∧ t.run = .running ∧ t.csr (b + 1) = f.ret ∧ fld (t.csr (b + 2)) 15 0 = 0x17 + 0x100 * sub ∧
      fld (t.csr (b + 2)) 17 16 = f.level.toNat ∧ t.csr 0x001 = f.astat ∧ t.csr 0x002 = f.fcsr ∧
      (∀ key, 0 < key → key < 64 → t.arch.rd key = SMap.get 0 f.regs key))

/-- Fences and translation invalidation (R153, R154, R191). -/
def Obligations.OrderInstructions : Prop := FencesAndInvalidations ∧ InvalidationsTravel

/-- Cache maintenance (R40, R125-R129): the instructions, and what maintenance of one line leaves. -/
def Obligations.CacheMaintenance : Prop := MaintenanceInstructions ∧ LineMaintenance

/-! ### Caches, translation at the home, and coherence -/

/-- Nobody waits for the completion of a register write (R113). -/
def NobodyWaits (s : State) : Prop :=
  s.cores.all (fun e => e.2.dev.isNone) = true ∧ s.trios.all (fun e => e.2.slots.all (fun x => x.2.det.isNone)) = true

/-- The merging buffer's own events (R114): after its time-out an entry is closed with every older one; the oldest entry, closed,
leaves the buffer and drains. -/
def MergingBufferEvents : Prop :=
  ∀ (s : State) (c : CoreId) (line : LineAddr),
    let m := (s.core c.val).merge
    (∀ (front back : List MergeEntry) (e : MergeEntry), m = front ++ e :: back → e.isOpen = true → e.line = line →
      (∀ x ∈ back, x.isOpen = true → x.line ≠ line) →
      exec (.mergeEntryTimeout c line) s = .next (s.modCore c.val (fun k =>
        { k with merge := front.map (fun x => { x with isOpen := false }) ++ { e with isOpen := false } :: back })).finish) ∧
    ((∀ x ∈ m, x.isOpen = true → x.line ≠ line) → exec (.mergeEntryTimeout c line) s = .next s.finish) ∧
    (∀ (e : MergeEntry) (rest : List MergeEntry), m = e :: rest → e.isOpen = false → (s.trio (trioOf c.val)).inj = none →
      exec (.mergeEntryDrain c) s = .next (((s.modCore c.val (fun k => { k with merge := settleMerge rest })).drainEntry c.val e)).finish) ∧
    (∀ (e : MergeEntry) (rest : List MergeEntry), m = e :: rest → e.isOpen = true → exec (.mergeEntryDrain c) s = .next s.finish) ∧
    (m = [] → exec (.mergeEntryDrain c) s = .next s.finish)

/-- The cleans and the clears end (R130, R131, R133), with nobody waiting: no line is left in the L2, nor an L1 line or a reservation
on its cores, nor, unless a channel's write queue holds 48 writes, a line in the Memory-Side Cache; CLEAN, EN and INIT read 0. Way masks that arrive are those of the registers
(R122). -/
def CacheControlEvents : Prop :=
  ∀ (s : State) (t : TrioId), NobodyWaits s →
    let ctl := l2CtlR t.val
    let world := s.reg ⟨.waysWorld, 0, 0, 0⟩
    (s.rf ctl 1 1 = 1 → (s.trio t.val).l2.cleanNext = none → ∃ u, exec (.l2CleanComplete t) s = .next u ∧ (u.trio t.val).l2.lines = [] ∧
      u.rf ctl 1 0 = 0 ∧ ∀ i, i < 3 → (u.core (coreNo t.val i)).merge = [] ∧ (u.core (coreNo t.val i)).l1d = [] ∧
        (u.core (coreNo t.val i)).l1i = [] ∧ (u.core (coreNo t.val i)).resv = none) ∧
    (s.rf ctl 1 1 = 0 → exec (.l2CleanComplete t) s = .next s.finish) ∧
    (s.powered t.val = true → s.rf ctl 2 1 = 2 → (s.trio t.val).l2.cleanNext = none →
      exec (.l2InitComplete t) s = .next (s.setRf ctl 2 2 0).finish) ∧
    (s.rf ctl 2 2 = 0 → exec (.l2InitComplete t) s = .next s.finish) ∧
    (s.rf mscCtlR 1 1 = 1 → s.msc.cleanNext = none → s.refusals = [] →
      let full := fun (l : MscLine) (n : Nat) =>
        l.dirty = true ∧ 48 ≤ (s.mc (s.servChan (chanOf l.line.toNat))).queued (subOf l.line.toNat) + n
      ((∀ l ∈ s.msc.lines, ¬ full l s.msc.lines.length) →
        ∃ u, exec .mscCleanComplete s = .next u ∧ u.msc.lines = [] ∧ u.rf mscCtlR 1 0 = 0 ∧ u.trios = s.trios) ∧
      (∀ l ∈ s.msc.lines, (∀ x ∈ s.msc.lines, x.line = l.line → x = l) → full l 0 →
        ∃ u, exec .mscCleanComplete s = .next u ∧ l ∈ u.msc.lines ∧ u.rf mscCtlR 1 1 = 1)) ∧
    (s.rf mscCtlR 1 1 = 0 → exec .mscCleanComplete s = .next s.finish) ∧
    (s.refusals = [] → ∃ u, exec (.maskChangeArrives (.l2 t)) s = .next u ∧ (u.trio t.val).l2.wayO.toNat = fld world 15 0 ∧
      (u.trio t.val).l2.wayS.toNat = fld world 31 16 ∧ (u.trio t.val).l2.lock.toNat = s.rf ⟨.l2Lock, t.val, 0, 0⟩ 15 0 ∧
      (u.trio t.val).l2.lines = (s.trio t.val).l2.lines ∧
      ∀ i, i < 32 → (SMap.get 0xFFFF (u.trio t.val).l2.ways i).toNat = s.rf ⟨.ways, 0, i, 0⟩ 15 0) ∧
    (s.refusals = [] → ∃ u, exec (.maskChangeArrives .msc) s = .next u ∧ u.msc.wayO.toNat = fld world 47 32 ∧ u.msc.wayS.toNat = fld world 63 48 ∧
      u.msc.lines = s.msc.lines ∧ ∀ i, i < 32 → (SMap.get 0xFFFF u.msc.ways i).toNat = s.rf ⟨.ways, 0, i, 0⟩ 31 16)

/-- The home's operations on an entry of the table (R149, R156-R158), from the doublewords that it holds in their turn: A, and D for
a store, are set only in an unchanged valid entry; an allocation answers an entry that has its frame, refuses beyond the quota or with an
empty pool, and otherwise counts the frame that it pops and begins its zero-fill; one that meets a fill of its entry waits behind it.
The end of a zero-fill installs the frame, for the allocation and for those behind it. -/
def Obligations.TableEvents : Prop :=
  ∀ (s : State) (entry : BitVec 46) (dw0 : Dword) (b : Bool), entry.toNat % 16 = 0 → s.inInstalled entry.toNat = true →
    let ea := entry.toNat
    let tid := fld dw0 60 56
    let h := s.homeEntry tid ea
    let same := h.2.1 = dw0 ∧ h.2.1.getLsbD 63 = true
    let fp := h.2.2.getLsbD 18 = true
    let quota := h.1.rf (tqQuotaR tid) 31 0
    let used := h.1.rf (tqStatusR tid) 31 0
    let ring := 2 ^ h.1.rf (fpoolBaseR tid) 4 0
    let d1 := (if b then h.2.2 ||| 0x300000 else h.2.2 ||| 0x200000)
    let z : ZeroFill := { frame := 0, entry := BitVec.ofNat 46 ea, store := b, tid := Fin.ofNat 32 tid, popping := true }
    (same → exec (.adUpdate entry dw0 b) s = .next ((h.1.putEntry (homeRq tid) ea d1).answer (.data [dw0, d1])).finish) ∧
    (¬ same → exec (.adUpdate entry dw0 b) s = .next (h.1.answer (.data [])).finish) ∧
    ((∀ y ∈ s.fills, y.ea ≠ ea) →
      (¬ same → exec (.demandAllocation entry dw0 b) s = .next (h.1.answer (.data [])).finish) ∧
      (same → fp → exec (.demandAllocation entry dw0 b) s = .next (h.1.answer (.data [dw0, h.2.2])).finish) ∧
      (same → ¬ fp → quota ≤ used → exec (.demandAllocation entry dw0 b) s = .next (h.1.answer (.err 0)).finish) ∧
      (same → ¬ fp → used < quota → h.1.rf (fpoolIdxR tid) 19 0 % ring = h.1.rf (fpoolIdxR tid) 51 32 % ring →
        (∀ y ∈ h.1.fills, y.popping = false) → exec (.demandAllocation entry dw0 b) s = .next (h.1.answer (.err 1)).finish) ∧
      (same → ¬ fp → used < quota → ∀ (p : State) (f : Nat), { h.1 with fills := h.1.fills ++ [z] }.popFrame tid (2 ^ 20) = (p, some f) →
        exec (.demandAllocation entry dw0 b) s = .next ({ p with fills := p.fills.map (fun y =>
          if y = z then { z with frame := BitVec.ofNat 34 f, popping := false } else y) }.setRf (tqStatusR tid) 31 0
            (p.rf (tqStatusR tid) 31 0 + 1)).finish)) ∧
    (∀ y : ZeroFill, s.fills = [y] → y.ea = ea → exec (.demandAllocation entry dw0 b) s =
      .next ({ s with fills := [{ y with chained := y.chained ++ [dw0] }] }).finish) ∧
    (∀ y : ZeroFill, s.fills = [y] →
      let g := (s.zeroFill y.tid.val y.frame.toNat).allocInstall y.tid.val y.ea y.frame.toNat y.store
      exec (.zeroFillComplete y.frame) s = .next (y.chained.foldl
        (fun (u : State) d => u.answer (.data (if d = g.2.1 then [g.2.1, g.2.2] else [])))
        ({ g.1 with fills := g.1.fills.erase y }.answer (.data [g.2.1, g.2.2]))).finish ∧
      fld g.2.2 63 30 = y.frame.toNat ∧ g.2.2.getLsbD 18 = true)

/-- What an agent answers to a snoop and the state that its line takes (R173, R174, R408), from each state of the line: SnpShare makes
E an S and M an O and forwards, SnpOwn takes the line, SnpInv takes it with its data when dirty; a line in the writeback buffer
is forwarded once. -/
def Obligations.SnoopTable : Prop :=
  ∀ (s : State) (t : TrioId) (line : Nat) (l : L2Line), line < 2 ^ 40 → (s.trio t.val).retention = false →
    let k := s.trio t.val
    let after := fun (x : Snp) => (((s.snoop t.val x line).1.trio t.val).l2.find line)
    let ans := fun (x : Snp) => (s.snoop t.val x line).2
    (k.l2.findWp line = none → k.l2.find line = none → ∀ x, ans x = .i ∧ after x = none) ∧
    (k.l2.findWp line = none → k.l2.find line = some l →
      (l.st = .m → ans .share = .fwd l.data l.poison false ∧ (after .share).map (·.st) = some .o ∧
        ans .own = .fwd l.data l.poison false ∧ after .own = none ∧ ans .inv = .dirty l.data l.poison ∧ after .inv = none) ∧
      (l.st = .o → ans .share = .fwd l.data l.poison false ∧ (after .share).map (·.st) = some .o ∧
        ans .own = .fwd l.data l.poison false ∧ after .own = none ∧ ans .inv = .dirty l.data l.poison ∧ after .inv = none) ∧
      (l.st = .e → ans .share = .fwd l.data l.poison false ∧ (after .share).map (·.st) = some .s ∧
        ans .own = .fwd l.data l.poison false ∧ after .own = none ∧ ans .inv = .i ∧ after .inv = none) ∧
      (l.st = .s → ans .share = .s ∧ (after .share).map (·.st) = some .s ∧ ans .own = .i ∧ after .own = none ∧
        ans .inv = .i ∧ after .inv = none) ∧
      (∀ x, after x = none → ∀ i, i < 3 → ∀ y ∈ ((s.snoop t.val x line).1.core (coreNo t.val i)).l1d, y.line.toNat ≠ line)) ∧
    (k.l2.findWp line = some l → ∀ x,
      (BitVec.ofNat 40 line ∉ k.l2.superseded → ans x = .fwd l.data l.poison true ∧
        BitVec.ofNat 40 line ∈ ((s.snoop t.val x line).1.trio t.val).l2.superseded) ∧
      (BitVec.ofNat 40 line ∈ k.l2.superseded → ans x = .i))

/-- What a grant leaves in the directory (R171, R172, R176, R178) of a line that, when the request's turn has come, has no entry, with
room in its set: the first read grants E and records its sender as owner in X; ownership does the same, with data where an Upgrade's
sender is not listed; an uncached read records nobody. -/
def Obligations.FirstGrants : Prop :=
  ∀ (s : State) (r : Rq) (line : Nat), line < 2 ^ 40 → r.agent ≤ 84 → r.tid < 32 →
    let v := s.turn r line
    v.refused r.w line = false → v.deadAt (chanOf line) = [] → (v.home (chanOf line)).entry line = none → v.dirFull line = false →
    let one := fun (u : State) => ∃ e, (u.home (chanOf line)).entry line = some e ∧ e.st = .x ∧ e.ptrs = [agentId r.agent] ∧
      e.bc = false ∧ e.tid.val = r.tid
    (∃ d p, (s.rdShared r line false true).2 = .ok (d, p, .e) ∧ one (s.rdShared r line false true).1) ∧
    (∃ d p, (s.rdOwn r line).2 = .ok (d, p) ∧ one (s.rdOwn r line).1) ∧
    (∃ x, (s.upgrade r line).2 = .ok (some x)) ∧ one (s.upgrade r line).1 ∧
    (∃ d p, (s.rdShared r line true false).2 = .ok (d, p, .s) ∧
      (((s.rdShared r line true false).1).home (chanOf line)).entry line = none)

/-- What is written at the memory side is read there (R121, R123, R133), on a channel that works: the line's bytes, whether the
Memory-Side Cache holds it, takes it or is off; of another line, which the write does not make leave the cache, what it held. -/
def Obligations.MemoryKeepsLines : Prop :=
  ∀ (s : State) (tid : Nat) (w : Bool) (line : Nat) (d : LineData) (r : Rq), line < 2 ^ 40 → s.chanLost (chanOf line) = false → r.w = true →
    lineNum ((s.memWriteLine tid w line d false).memRead r line false).2.1 0 64 = lineNum d 0 64 ∧
    (∀ other, other ≠ line → s.msc.find other = none ∨ mscSet other ≠ mscSet line ∨ chanOf other ≠ chanOf line →
      lineNum ((s.memWriteLine tid w line d false).memRead r other false).2.1 0 64 = lineNum (s.memRead r other false).2.1 0 64)

/-- Requests at a home (R116, R167, R168, R170, R171): a request that its agent may send waits at its port, its agent's miss register
open; one that keeps the line may be sent with one of 32 miss registers free and none filling for the line, from I, or for an Upgrade from
S or O; the arbiter takes the reserved request of the first port at or after the pointer, best-effort ones only when there is none, moves
the pointer past it, and chains a request for a line that is busy; with 256 transactions open it waits. -/
def Obligations.RequestsArrive : Prop :=
  ∀ (s : State) (m : Msg) (h : Chan), m.agent.val ≤ 0x57 →
    let own := s.l2At m.agent.val
    let line := m.line.toNat
    let row := fun (i : Instr) (kind : ReqKind) =>
      (m.nc = true ∨ s.maySend kind m = true → exec i s = .next ((if m.nc then s else s.modL2 m.agent.val (fun k =>
        { k with miss := k.miss ++ [⟨m.line, m.tag, []⟩] })).modHome (chanOf line) (fun k =>
          { k with queue := k.queue ++ [⟨portOf m.agent.val, kind, m⟩] })).finish) ∧
      (m.nc = false → s.maySend kind m = false → exec i s = .next s.finish) ∧
      (s.maySend kind m = true ↔ (∀ x ∈ own.miss, x.line ≠ m.line) ∧ own.miss.length < 32 ∧ own.findWp line = none ∧
        (kind = .upgrade → ∃ l, own.find line = some l ∧ (l.st = .s ∨ l.st = .o)) ∧ (kind ≠ .upgrade → own.find line = none))
    let r : RegRef := ⟨.haStatus, 0, h.val, 0⟩
    let k := s.home h.val
    let p := s.rf r 35 32
    row (.rdshared m) .rdShared ∧ row (.rdown m) .rdOwn ∧ row (.upgrade m) .upgrade ∧
    (k.queue = [] → exec (.homeAccept h) s = .next s.finish) ∧
    (∀ q, k.winner p = some q →
      let waits := s.lineBusy q.msg.line = true ∨ ∃ x ∈ k.chain, x.msg.line = q.msg.line
      let took := (s.setRf r 35 32 ((q.port + 1) % 13)).modHome h.val (fun k => { k with queue := k.queue.erase q })
      (waits → exec (.homeAccept h) s = .next (took.modHome h.val (fun k => { k with chain := k.chain ++ [q] })).finish) ∧
      (¬ waits → k.txns.length < 256 → exec (.homeAccept h) s = .next (took.beginTxn h.val q).finish) ∧
      (¬ waits → 256 ≤ k.txns.length → exec (.homeAccept h) s = .next s.finish)) ∧
    (∀ q, k.winner p = some q → q ∈ k.queue ∧
      (q.msg.res = false → ∀ x ∈ k.queue, x.port < 13 → x.msg.res = false) ∧
      (∀ x ∈ k.queue, x.port < 13 → x.msg.res = q.msg.res → (q.port + 13 - p % 13) % 13 ≤ (x.port + 13 - p % 13) % 13)) ∧
    (∀ q, s.lineBusy m.line = false → (s.home (chanOf line)).txns.length < 256 →
      (s.home (chanOf line)).chain = [q] → q.msg.line = m.line → exec (.chainBegin m.line) s =
        .next ((s.modHome (chanOf line) (fun k => { k with chain := [] })).beginTxn (chanOf line) q).finish)

/-- Snoops, data and acknowledgements as they arrive (R116, R162, R170, R171, R173, R174), each taken from the messages on their way,
where no store waits in a merging buffer and no refused writeback awaits its record: a snoop waits for its answer at an agent with fewer than sixteen outstanding; its answer is
the table's; granted data enter the line's state, in its place or, of a line that is not there, in a way that its tenant may use; an
acknowledged line leaves the writeback buffer; data that have come are the transaction's. -/
def Obligations.MessagesArrive : Prop :=
  ∀ (s : State) (t : TrioId) (a : AgentId) (m : Msg) (x : Sent), a.val = t.val → m.agent = a → s.net = [x] → s.refusals = [] →
    x.agent = a → x.line = m.line → x.nc = false → (∀ i, i < 3 → (s.core (coreNo t.val i)).merge = []) →
    let s0 := { s with net := [] }
    let line := m.line.toNat
    let k := (s.trio t.val).l2
    let snp := fun (i : Instr) (kind : MsgKind) (n : Snp) => x.kind = kind →
      (s.snoopsAt a.val < 16 → exec i s = .next (s0.modL2 t.val (fun k => { k with answers := k.answers ++ [(m.line, n)] })).finish) ∧
      (16 ≤ s.snoopsAt a.val → exec i s = .next s.finish)
    let same := x.data = m.data ∧ x.psn = m.psn ∧ x.w1 = m.w1
    let asked := ∃ q ∈ k.miss, q.line = m.line
    let data := fun (i : Instr) (kind : MsgKind) (st : LState) => x.kind = kind → same → asked →
      (k.find line ≠ none ∨ s.l2Room t.val { agent := a.val, tid := x.tid.val, w := x.w } = true) →
      ∃ u l, exec i s = .next u ∧ (u.trio t.val).l2.find line = some l ∧ l.st = st ∧ l.data = m.data ∧ l.poison = m.psn ∧
        (∀ q ∈ (u.trio t.val).l2.miss, q.line ≠ m.line) ∧ (k.find line ≠ none → u.net = [])
    let answer := fun (i : Instr) (kind : MsgKind) (v : Ans) => x.kind = kind → (v = .i ∨ v = .s ∨ same) →
      exec i s = .next (s.answered x v).finish
    snp (.snpshare a m.line) .snpShare .share ∧ snp (.snpown a m.line) .snpOwn .own ∧ snp (.snpinv a m.line) .snpInv .inv ∧
    data (.datas m) .dataS .s ∧ data (.datae m) .dataE .e ∧ data (.datam m) .dataM .m ∧
    answer (.rspi m) .rspI .i ∧ answer (.rsps m) .rspS .s ∧ answer (.rspfwd m) .rspFwd (.fwd m.data m.psn m.w1) ∧
    answer (.rspdirty m) .rspDirty (.dirty m.data m.psn) ∧
    (x.kind = .cmp → ∃ u, exec (.cmp m) s = .next u ∧ u.net = [] ∧
      ((u.trio t.val).l2.find line).map (·.data) = (k.find line).map (·.data) ∧
      (k.find line ≠ none → ((u.trio t.val).l2.find line).map (·.st) = some .m)) ∧
    (x.kind = .wbAck → ∃ u, exec (.wback a m.line) s = .next u ∧ u.net = [] ∧ (u.trio t.val).l2.findWp line = none ∧
      m.line ∉ (u.trio t.val).l2.superseded ∧ (u.trio t.val).l2.find line = k.find line) ∧
    (x.kind = .memRead → (∀ y ∈ (s.home (chanOf line)).txns, y.req.msg.line ≠ m.line) →
      exec (.memoryReadData m.line) s = .next s0.finish) ∧
    (∀ y, x.kind = .memRead → (s.home (chanOf line)).txns = [y] → y.req.msg.line = m.line → exec (.memoryReadData m.line) s =
      .next ((s0.modHome (chanOf line) (fun k => { k with txns := [{ y with memIn := true }] })).tryFinish (chanOf line) m.line).finish) ∧
    (∀ n, k.answers = [(m.line, n)] →
      let s1 := s.modL2 t.val (fun k => { k with answers := [] })
      let out : Sent := { kind := .rspI, agent := a, line := m.line }
      exec (.snoopAnswer a m.line) s = .next (match s1.snoop t.val n line with
        | (u, .i) => { u with net := u.net ++ [out] }
        | (u, .s) => { u with net := u.net ++ [{ out with kind := .rspS }] }
        | (u, .fwd d p w1) => { u with net := u.net ++ [{ out with kind := .rspFwd, data := d, psn := p, w1 := w1 }] }
        | (u, .dirty d p) => { u with net := u.net ++ [{ out with kind := .rspDirty, data := d, psn := p }] }).finish)

/-- Writebacks, deaths and directory errors at a home (R174, R180, R182-R184): a writeback of the owner is written to memory and its
sender leaves the entry, one that meets an outstanding snoop to its sender is held, every other is acknowledged without a write; no
other writeback of the agent's line is on its way; the fourth notice of a death starts the slice's reclaim. -/
def Obligations.WritebacksAndDeaths : Prop :=
  ∀ (s : State) (m : Msg) (h : Chan),
    let line := m.line.toNat
    let hm := chanOf line
    let k := s.home hm
    let a := m.agent.val
    let ack : Sent := { kind := .wbAck, agent := agentId a, line := BitVec.ofNat 40 line }
    let r : RegRef := ⟨.haStatus, 0, h.val, 0⟩
    (a ≤ 0x57 → (s.l2At a).find line = none → s.refusals = [] →
      (∀ y ∈ s.net, ¬ (y.kind = .wbDirty ∧ y.agent = m.agent ∧ y.line = m.line)) →
      (k.txns = [] → k.evict = [] → ∃ u, exec (.wbdirty m) s = .next u ∧ ack ∈ u.net ∧
        (∀ e, k.entry line = some e → e.owner = some a → u.msc = (s.memWriteLine m.tid.val m.w line m.data m.psn).msc ∧
          ∀ e', (u.home hm).entry line = some e' → e'.owner = none) ∧
        (k.entry line = none → u.msc = s.msc ∧ u.mem = s.mem)) ∧
      (∀ x, k.txns = [x] → x.req.msg.line = m.line → (∃ n, (m.agent, n) ∈ x.await) → exec (.wbdirty m) s =
        .next (s.modHome hm (fun k => { k with txns := [{ x with heldWb := x.heldWb ++ [m] }] })).finish)) ∧
    (∀ (b : AgentId) (cls : Fin 4), s.net = [{ kind := .agentDead, agent := b, line := BitVec.ofNat 40 (noticeKey h.val cls.val) }] →
      (((s.home h.val).notices.filter (fun n => decide (n.1 = b))).length < 3 → exec (.agentdead h b cls) s =
        .next ({ s with net := [] }.modHome h.val (fun k => { k with notices := k.notices ++ [(b, cls)] })).finish) ∧
      (((s.home h.val).notices.filter (fun n => decide (n.1 = b))).length = 3 → (s.home h.val).txns = [] → (s.home h.val).dead = [] →
        s.refusals = [] → ∃ u, exec (.agentdead h b cls) s = .next u ∧ u.rf r 36 36 = 1 ∧ u.rf r 43 37 = b.val ∧
          ∀ n ∈ (u.home h.val).notices, n.1 ≠ b)) ∧
    (s.rf r 36 36 = 0 → exec (.reclaimScanComplete h) s = .next s.finish) ∧
    (s.rf r 36 36 = 1 → (s.home h.val).dir = [] → (s.home h.val).txns = [] → (s.home h.val).poisoned = [] →
      (s.home h.val).dead = [agentId (s.rf r 43 37)] → s.refusals = [] →
      ∃ u, exec (.reclaimScanComplete h) s = .next u ∧ u.rf r 36 36 = 0 ∧ u.rf r 43 37 = 0x7F ∧ (u.home h.val).dead = []) ∧
    exec (.directoryError m.line .single) s =
      .next (s.modHome hm (fun k => { k with correctedErr := k.correctedErr + 1 })).finish ∧
    exec (.directoryError m.line .copies) s = .next (s.safeState 0x1F 0 false).finish

/-- The events of the caches (R114, R122, R130, R131, R133): of the merging buffer, of cleans and clears, of way masks. -/
def Obligations.CacheEvents : Prop := MergingBufferEvents ∧ CacheControlEvents

/-! ### Registers of the Module Configuration Space -/

/-- A write that is refused with a sub-cause of Device access error changes nothing (R464). -/
def refusedWrite (s : State) (sub : Byte) : Host.Outcome State Fault Refusal := .next (s.answer (.err sub)).finish

/-- A write whose completion comes later (R113) leaves `s`. -/
def waitingWrite (s : State) : Host.Outcome State Fault Refusal := .next (s.answer .none).finish

/-- The registers that do more on a write than take their fields. -/
def actingRegs : List Reg :=
  [.cdtCtl, .coreCache, .l2Ctl, .mscCtl, .hitCfg, .fpoolBase, .tqQuota, .tqRelease, .plinkCtl, .trioRctl, .trioInj, .ftuCfg, .ftuAlign,
   .seasonLoad, .seasonCtl, .cxqCfg, .fqCfg, .cxqIdx, .tntCfg, .tntRst, .qdmaCfg, .qdmaIdx, .ethRqcfg, .ethTqcfg, .secStat, .secCtl] ++
  [.sealHoldLo, .sealHoldHi, .dbgAuth, .evgRoute, .evgGctl, .evgPend, .evgTrig, .mcCfg, .cpVfcfg, .cpVfdb, .quadCfg, .rpCfg, .xlMbcfg,
   .mbGo, .voteRound, .linkTest, .fiCtl, .lsrcCtl, .laceCmp, .ltCore, .laceSink, .pcrCfg, .pcrRing, .swtPage, .pwrGov] ++
  [.pwrReq, .rstCtl, .lifeTrio, .soleRate, .soleCtl, .soleTrdCtl, .soleSrdCtl, .bootStat]

/-- A write of a register (R4, R5, R8, R31, R464): the checks come first, in their order, and a refused write changes nothing; a write
that they let pass leaves, in a register without a rule of its own, every field as its access code says, and every other register
and unit as it was. -/
def Obligations.RegisterWrites : Prop :=
  ∀ (s : State) (who : Requester) (r : RegRef) (v : Dword), r.off < 2 ^ 32 → s.down = false → s.dapAbsent who = false →
    let off := BitVec.ofNat 32 r.off
    let u := s.writeReg r v
    let new := u.reg r
    let old := s.reg r
    (∀ size e, s.mcsAnswers who r.off (mcsUnit r.off) = some e →
      exec (.registerWrite who off size v) s = refusedWrite s (BitVec.ofNat 8 e)) ∧
    (mcsUnit r.off = .reg r → s.mcsAnswers who r.off (.reg r) = none →
      (∀ size e, s.writerRefused who r v = some e → exec (.registerWrite who off size v) s = refusedWrite s (BitVec.ofNat 8 e)) ∧
      (∀ size : Fin 4, s.writerRefused who r v = none → s.dapRefused who true = false → size ≠ 3 ∨ r.off % 8 ≠ 0 →
        exec (.registerWrite who off size v) s = refusedWrite s 0x0A)) ∧
    (Accepted s who r v → r.reg ∉ actingRegs → exec (.registerWrite who off 3 v) s = wrote u) ∧
    (∀ f ∈ r.reg.fields, (∀ g ∈ r.reg.fields, g = f ∨ g.hi < f.lo ∨ f.hi < g.lo) → f.lo ≤ f.hi → f.hi < 64 → ∀ i, f.lo ≤ i → i ≤ f.hi →
      new.getLsbD i = match f.acc with
        | .rw => v.getLsbD i
        | .rwl => if s.locked r then old.getLsbD i else v.getLsbD i
        | .w1c => old.getLsbD i && !v.getLsbD i
        | .w1s => old.getLsbD i || v.getLsbD i
        | .ro | .rc | .wo => old.getLsbD i) ∧
    (∀ i, (∀ f ∈ r.reg.fields, f.lo ≤ f.hi ∧ f.hi < 64 ∧ (i < f.lo ∨ f.hi < i)) → new.getLsbD i = old.getLsbD i) ∧
    (∀ q : RegRef, q.off ≠ r.off → u.reg q = s.reg q) ∧ u = { s with mcs := u.mcs }

/-- Writes that start or end work of the caches and of translation (R130-R133, R138, R159). -/
def CacheRegisterCommands : Prop :=
  ∀ (s : State) (who : Requester) (v : Dword) (t : TrioId) (c : CoreId) (n : Tid),
    let l2 := l2CtlR t.val
    let hit : RegRef := ⟨.hitCfg, 0, 0, 0⟩
    let size := 2 ^ (fld v 8 4 + 7)
    let base := fld v 45 21 * 2 ^ 21
    let fits := fld v 0 0 = 0 ∨ (14 ≤ fld v 8 4 ∧ fld v 8 4 ≤ 27 ∧ base % size = 0 ∧ s.rangeInstalled base size = true)
    let quota : RegRef := ⟨.tqQuota, 0, n.val, 0⟩
    let used := s.rf (tqStatusR n.val) 31 0
    let q := s.writeReg quota v
    let left := used - fld v 31 0
    (Accepted s who l2 v → bit v 0 = false → s.rf l2 1 0 = 1 →
      exec (.l2CleanStart who t v) s = waitingWrite ((s.writeReg l2 (v ||| 1)).setRf l2 1 1 1)) ∧
    (Accepted s who l2 v → bit v 0 = true → s.rf l2 1 1 = 0 → s.rf l2 2 2 = 0 → exec (.l2Enable who t v) s = wrote (s.writeReg l2 v)) ∧
    (Accepted s who l2 v → bit v 0 = true → (s.trio t.val).l2.cleanNext = none → s.rf l2 2 0 = 4 ∨ s.rf l2 1 1 = 1 →
      exec (.l2Enable who t v) s = waitingWrite (s.modL2 t.val (fun k => { k with cleanNext := some v }))) ∧
    (Accepted s who (coreCacheR c.val) v → bit v 1 = false →
      exec (.l1dDisable who c v) s = wrote ((s.drainMerge c.val).writeReg (coreCacheR c.val) v)) ∧
    (Accepted s who mscCtlR v → bit v 0 = false → s.rf mscCtlR 1 0 = 1 →
      exec (.mscCleanStart who v) s = waitingWrite (s.setRf mscCtlR 1 1 1)) ∧
    (Accepted s who hit v → fits → exec (.hitCfgWrite who v) s = wrote (s.writeReg hit v)) ∧
    (Accepted s who hit v → ¬ fits → exec (.hitCfgWrite who v) s = refusedWrite s 0) ∧
    (Accepted s who quota v → used ≤ (q.reg quota).toNat → exec (.tqQuotaWrite who n v) s = wrote (q.setRf (tqStatusR n.val) 63 63 0)) ∧
    (Accepted s who quota v → (q.reg quota).toNat < used → s.rf (tqStatusR n.val) 63 63 = 1 →
      exec (.tqQuotaWrite who n v) s = wrote (q.setRf (tqStatusR n.val) 63 63 1)) ∧
    (Accepted s who quota v → (q.reg quota).toNat < used → s.rf (tqStatusR n.val) 63 63 = 0 → exec (.tqQuotaWrite who n v) s =
      wrote ((q.setRf (tqStatusR n.val) 63 63 1).tidRecord n.val 0x0D 0 0 [s.reg quota, q.reg quota, BitVec.ofNat 64 used])) ∧
    (Accepted s who ⟨.tqRelease, 0, n.val, 0⟩ v → s.rf (tqQuotaR n.val) 31 0 < left →
      exec (.tqRelease who n v) s = wrote (s.setRf (tqStatusR n.val) 31 0 left)) ∧
    (Accepted s who ⟨.tqRelease, 0, n.val, 0⟩ v → left ≤ s.rf (tqQuotaR n.val) 31 0 →
      exec (.tqRelease who n v) s = wrote ((s.setRf (tqStatusR n.val) 31 0 left).setRf (tqStatusR n.val) 63 63 0))

/-- Writes that act on a package link and on a trio's checking hardware (R164, R212, and the registers' own maps). -/
def CheckingRegisterCommands : Prop :=
  ∀ (s : State) (who : Requester) (v : Dword) (t : TrioId) (d : DieId) (k : Fin 3) (g : Fin 32),
    let link : RegRef := ⟨.plinkCtl, d.val, 0, 0⟩
    let rctl : RegRef := ⟨.trioRctl, t.val, 0, 0⟩
    let inj : RegRef := ⟨.trioInj, t.val, 0, 0⟩
    (Accepted s who link v → bit v 0 = true → bit v 1 = false → s.plinkState d.val = 2 →
      exec (.plinkRetrain who d v) s = wrote (s.plinkRetrain d.val)) ∧
    (Accepted s who link v → bit v 0 = true → bit v 1 = false → s.plinkState d.val ≠ 2 → exec (.plinkRetrain who d v) s = wrote s) ∧
    (Accepted s who link v → bit v 0 = false → bit v 1 = true → exec (.plinkClrcnt who d v) s =
      wrote (((s.setRf (plinkR d.val) 63 48 0).setRf (plinkR d.val) 47 32 0).setRf (plinkR d.val) 31 24 0)) ∧
    (Accepted s who rctl v → bit v 1 = true → s.trioMode t.val = 0 → s.rf (rstat t.val) 9 8 ≠ 1 →
      exec (.stgo who t v) s = wrote ((s.writeReg rctl v).setRf (rstat t.val) 9 8 1)) ∧
    (Accepted s who rctl v → bit v 1 = true → s.trioMode t.val ≠ 0 ∨ s.rf (rstat t.val) 9 8 = 1 →
      exec (.stgo who t v) s = wrote (s.writeReg rctl v)) ∧
    (Accepted s who inj v → bit v 7 = true → fld v 6 5 = k.val → fld v 4 0 = g.val → bit (s.reg ⟨.linkTest, 0, 0, 0⟩) 0 = true →
      exec (.trioInjGo who t v) s = wrote ((s.writeReg inj v).modTrio t.val (fun x => { x with inj := some (some k, g) }))) ∧
    (Accepted s who inj v → bit v 7 = true → bit (s.reg ⟨.linkTest, 0, 0, 0⟩) 0 = false →
      exec (.trioInjGo who t v) s = wrote (s.writeReg inj v))

/-- Writes that act on the frame tick and the seasons (R223, R225, R226, R238, R240); a period under which a validated season would
exceed the limit registers is refused (R15; with sub-cause 0, the model's choice, assumption 47). -/
def TimeRegisterCommands : Prop :=
  ∀ (s : State) (who : Requester) (v : Dword),
    let new := writeFields Reg.ftuCfg.fields (s.locked ftuCfgR) (s.reg ftuCfgR) v
    let old := s.reg ftuCfgR
    let cfg := s.setReg ftuCfgR new
    let source := if fld new 35 34 = 0 then 1 else 2
    let legal := 5000 ≤ fld new 27 8 ∧ fld new 27 8 ≤ 1000000 ∧ (fld new 35 34 = 3 → fld new 39 36 ≤ 2)
    let same := fld new 27 8 = fld old 27 8 ∧ fld new 33 28 = fld old 33 28
    let limited := fun (u : State) => exec (.ftuCfgWrite who v) s = if s.overCommits u then refusedWrite s 0 else wrote u
    let load : RegRef := ⟨.seasonLoad, 0, 0, 0⟩
    let line := (s.writeReg load v).rf load 45 12 * 64
    let slot := (s.writeReg load v).rf load 5 4
    let kept := (s.seasonsOn = true ∧ slot = s.active) ∨ (s.changePending = true ∧ slot = s.nextSeason) ∨ (s.gce.lalt = some slot ∧ s.valid slot = true)
    let named := s.setRf seasonCtlR 7 6 (fld v 7 6)
    let asked := fun (u : State) => { u.setRf seasonCtlR 5 5 1 with gce := { u.gce with pendFrames := 0 } }
    (Accepted s who ftuCfgR v →
      (¬ legal ∨ (bit old 0 = true ∧ ¬ same) → exec (.ftuCfgWrite who v) s = refusedWrite s 0) ∧
      (legal → bit old 0 = false → bit new 0 = true → limited
        ({ cfg with ftu := { cfg.ftu with phase := cfg.rf ftuAlignR 19 0 } }.setFtu source)) ∧
      (legal → bit old 0 = false → bit new 0 = false → limited cfg) ∧
      (legal → same → bit old 0 = true → bit new 0 = true → fld new 39 34 = fld old 39 34 → limited cfg) ∧
      (legal → same → bit old 0 = true → bit new 0 = true → fld new 39 34 ≠ fld old 39 34 → limited (cfg.setFtu source)) ∧
      (legal → same → bit old 0 = true → bit new 0 = false → limited (cfg.setFtu 0))) ∧
    (Accepted s who ftuAlignR v →
      (s.period ≤ fld v 19 0 → exec (.ftuAlignWrite who v) s = refusedWrite s 0) ∧
      (fld v 19 0 < s.period → s.seasonsOn = true → exec (.ftuAlignWrite who v) s = wrote (s.writeReg ftuAlignR v)) ∧
      (fld v 19 0 < s.period → s.seasonsOn = false → exec (.ftuAlignWrite who v) s = wrote { s.writeReg ftuAlignR v with
        ftu := { s.ftu with phase := (s.writeReg ftuAlignR v).rf ftuAlignR 19 0 } })) ∧
    (Accepted s who load v → bit v 0 = true →
      (s.rf seasonStatR 0 0 = 1 → exec (.seasonLoadGo who v) s = wrote (s.writeReg load v)) ∧
      (s.rf seasonStatR 0 0 = 0 → kept → exec (.seasonLoadGo who v) s =
        wrote ((s.writeReg load v).loadEnd slot (some (0x04, 0, 0x1F)))) ∧
      (s.rf seasonStatR 0 0 = 0 → ¬ kept → exec (.seasonLoadGo who v) s =
        wrote { ((s.writeReg load v).setValid slot false).setRf seasonStatR 0 0 1 with
          gce := { ((s.writeReg load v).setValid slot false).gce with load := some (line, slot) } })) ∧
    (Accepted s who seasonCtlR v → bit v 4 = true → s.seasonsOn = true →
      (s.changePending = false → s.valid (fld v 7 6) = true → exec (.seasonRequest who v) s = wrote (asked named)) ∧
      (s.changePending = false → s.valid (fld v 7 6) = false → exec (.seasonRequest who v) s = wrote named) ∧
      (s.changePending = true → exec (.seasonRequest who v) s = wrote s)) ∧
    (Accepted s who seasonCtlR v → bit v 3 = true → s.seasonsOn = false → s.changePending = false →
      (s.running = true → s.valid (fld v 7 6) = true → exec (.seasonEnable who v) s = wrote (asked (named.setRf seasonCtlR 3 3 1))) ∧
      (s.running = false ∨ s.valid (fld v 7 6) = false → exec (.seasonEnable who v) s = wrote named))

/-- Writes that act on contexts, tenants and Queue DMA (R259, R277, R292, R293, R299). -/
def TenantRegisterCommands : Prop :=
  ∀ (s : State) (who : Requester) (v : Dword) (q : Fin 33) (t : TrioId) (n : Tid) (slot : Fin 64) (at' : BitVec 12),
    let tnt : RegRef := ⟨.tntCfg, 0, n.val, 0⟩
    let rst : RegRef := ⟨.tntRst, 0, 0, 0⟩
    let idx : RegRef := ⟨.qdmaIdx, 0, n.val, 0⟩
    let off := trioBase t.val + 0x80000 + 0x1000 * slot.val + at'.toNat
    let i := at'.toNat / 8
    let b := s.slot t.val slot.val
    let used := (List.range 4).any (fun sl => s.valid sl && bit (s.tenantRec sl n.val) 0)
    (Accepted s who (cxqIdxR q.val) v → exec (.cxqDoorbell who q v) s = wrote ((s.writeReg (cxqIdxR q.val) v).skipBad q 4096)) ∧
    (s.down = false → s.dapAbsent who = false → t.val < 84 → s.mcsAnswers who off (.slot t.val slot.val i) = none →
      s.dapRefused who true = false → s.slotSealed who t.val slot.val i = false → at'.toNat % 8 = 0 →
      (imgItem i = .nothing ∨ imgItem i = .stat ∨ (∃ k, imgItem i = .desc k) → exec (.slotImageWrite who t slot at' v) s = wrote s) ∧
      (imgItem i ≠ .nothing → imgItem i ≠ .stat → (∀ k, imgItem i ≠ .desc k) →
        (b.state = .suspended ∨ b.state = .faulted →
          exec (.slotImageWrite who t slot at' v) s = wrote (s.setSlot t.val slot.val (b.imgWrite i v))) ∧
        (b.state ≠ .suspended → b.state ≠ .faulted → exec (.slotImageWrite who t slot at' v) s = refusedWrite s 0))) ∧
    (Accepted s who rst v → bit v 0 = true → exec (.tntRstGo who v) s = wrote ((s.writeReg rst v).tenantReset (fld v 36 32))) ∧
    (Accepted s who tnt v → n.val = 0 → exec (.tntCfgWrite who n v) s = wrote s) ∧
    (Accepted s who tnt v → n.val ≠ 0 → fld v 2 1 = s.classOf n.val ∨ used = false →
      exec (.tntCfgWrite who n v) s = wrote (s.writeReg tnt v)) ∧
    (Accepted s who tnt v → n.val ≠ 0 → fld v 2 1 ≠ s.classOf n.val → used = true → exec (.tntCfgWrite who n v) s = refusedWrite s 0) ∧
    (Accepted s who idx v → exec (.qdmaDoorbell who n v) s = wrote ((s.writeReg idx v).qLook n.val))

/-- Writes that act on the security block and the debug exchange (R91, R307, R309, R311). -/
def SecurityRegisterCommands : Prop :=
  ∀ (s : State) (who : Requester) (v : Dword) (hi : Bool) (i : Nat),
    let ctl : RegRef := ⟨.secCtl, 0, 0, 0⟩
    let hold : RegRef := ⟨if hi then .sealHoldHi else .sealHoldLo, 0, 0, 0⟩
    let u := s.writeReg hold v
    let led := (s.writeReg ctl v).cores.filter (fun e => e.2.w)
    (Accepted s who ctl v → exec (.registerWrite who (BitVec.ofNat 32 ctl.off) 3 v) s =
      wrote (led.foldl (fun (u : State) e => u.setPred e.1) (s.writeReg ctl v))) ∧
    (Accepted s who secStatReg v → bit v 2 = true → s.rf secStatReg 0 0 = 0 →
      exec (.secStatRestart who v) s = wrote (s.setRf secStatReg 1 1 1)) ∧
    (Accepted s who secStatReg v → bit v 2 = true → s.rf secStatReg 0 0 ≠ 0 → exec (.secStatRestart who v) s = wrote s) ∧
    (Accepted s who hold v → s.reg hold &&& ~~~(u.reg hold) = 0 → exec (.sealHoldWrite who hi v) s = wrote u) ∧
    (Accepted s who hold v → i < 64 → s.reg hold &&& ~~~(u.reg hold) = BitVec.ofNat 64 (2 ^ i) →
      exec (.sealHoldWrite who hi v) s = wrote (u.holdCleared ((if hi then 64 else 0) + i))) ∧
    (Accepted s who dbgAuthR v → bit v 0 = true → bit v 1 = false → s.rf dbgAuthR 7 4 ≠ 2 → s.rf dbgAuthR 7 4 ≠ 6 →
      exec (.debugChallenge who v) s = wrote s.challenge ∧ s.challenge.rf dbgAuthR 7 4 = 1) ∧
    (Accepted s who dbgAuthR v → bit v 0 = true → bit v 1 = false → s.rf dbgAuthR 7 4 = 2 ∨ s.rf dbgAuthR 7 4 = 6 →
      exec (.debugChallenge who v) s = wrote s) ∧
    (Accepted s who dbgAuthR v → bit v 0 = false → bit v 1 = true → s.rf dbgAuthR 7 4 = 1 → exec (.debugVerify who v) s =
      wrote ({ s with sec := { s.sec with dbgResp := s.regBytes .dbgResp 200 } }.setRf dbgAuthR 7 4 2)) ∧
    (Accepted s who dbgAuthR v → bit v 0 = false → bit v 1 = true → s.rf dbgAuthR 7 4 ≠ 1 → exec (.debugVerify who v) s = wrote s)

/-- Writes that act on the Event Gatherer (R313-R315, R320). -/
def EventRegisterCommands : Prop :=
  ∀ (s : State) (who : Requester) (v : Dword) (g : Fin 64) (n : BitVec 11) (i : Nat),
    let trig : RegRef := ⟨.evgTrig, 0, g.val, 0⟩
    let route := routeR n.toNat
    let u := s.writeReg route v
    (Accepted s who trig v → fld v 31 0 = 0 → exec (.evgTrig who g v) s = wrote s) ∧
    (Accepted s who trig v → i < 32 → fld v 31 0 = 2 ^ i → exec (.evgTrig who g v) s = wrote (s.edge (32 * g.val + i))) ∧
    (Accepted s who (pendR g.val) v → g.val ≠ 0 → exec (.evgPendWrite who g v) s = wrote (s.setRf (pendR g.val) 31 0 (fld v 31 0))) ∧
    (Accepted s who (pendR 0) v → fld v 7 0 = 0 → ∃ t, exec (.evgPendWrite who 0 v) s = .next t ∧
      ∀ c, (∃ e ∈ s.cores, e.1 = c) → s.refusals = [] → s.evg.raised = [] → s.evg.line = [] → (t.core c).bcastP = 0) ∧
    (Accepted s who (gctlR g.val) v → bit (s.reg (gctlR g.val)) 0 = true ∨ bit v 0 = false →
      exec (.evgGctlWrite who g v) s = wrote (s.writeReg (gctlR g.val) v)) ∧
    (Accepted s who (gctlR g.val) v → bit (s.reg (gctlR g.val)) 0 = false → bit v 0 = true →
      exec (.evgGctlWrite who g v) s = wrote ((s.writeReg (gctlR g.val) v).openGroup g.val)) ∧
    (Accepted s who route v → fld v 63 62 = 1 → 12 ≤ fld v 47 44 ∨ 6 ≤ fld v 43 41 → exec (.evgRouteWrite who n v) s = refusedWrite s 0) ∧
    (Accepted s who route v → fld v 40 39 < 3 → fld v 63 62 = 0 ∨ (fld v 63 62 = 1 ∧ fld v 47 44 < 12 ∧ fld v 43 41 < 6) →
      exec (.evgRouteWrite who n v) s = wrote (u.setRf route 12 0 0x1FFF)) ∧
    (Accepted s who route v → fld v 40 39 < 3 → fld v 63 62 = 2 → u.findHandle (fld v 60 56) (fld v 38 27) = none →
      exec (.evgRouteWrite who n v) s = wrote (u.setRf route 12 0 0x1FFF)) ∧
    (∀ t sl, Accepted s who route v → fld v 40 39 < 3 → fld v 63 62 = 2 → u.findHandle (fld v 60 56) (fld v 38 27) = some (t, sl) →
      exec (.evgRouteWrite who n v) s = wrote (u.setRf route 12 0 (u.cidOf t sl)))

/-- Writes that act on the host, the quads, the mailboxes and the votes (R355, R367, R368, and the registers' own maps). -/
def LinkRegisterCommands : Prop :=
  ∀ (s : State) (who : Requester) (v : Dword) (t : Tid) (q : QuadId) (ch : Fin 64) (i : Nat),
    let vfdb : RegRef := ⟨.cpVfdb, 0, t.val, 0⟩
    let go : RegRef := ⟨.mbGo, 0, t.val, 0⟩
    let round : RegRef := ⟨.voteRound, 0, ch.val, 0⟩
    let old := s.reg (quadR q.val)
    let moves := fld v 2 0 ≠ fld old 2 0 ∨ fld v 10 8 ≠ fld old 10 8 ∨ fld v 15 14 ≠ fld old 15 14
    let barred := (moves ∧ fld old 2 0 ≠ 0 ∧ fld v 2 0 ≠ 0) ∨ s.quadRefused q.val v = true
    let r : Word := v.truncate 32
    let takes := bit (s.reg (vcfgR ch.val)) 63 = true ∧ s.votes ch.val s.modId = true ∧ (s.vote ch.val).older r = false ∧
      (s.vote ch.val).round ≠ some r
    (Accepted s who vfdb v → t.val ≠ 0 → i < 4 → fld v 3 0 = 2 ^ i → exec (.cpVfdbMsi who t v) s = wrote (s.sendVector t.val i)) ∧
    (Accepted s who (quadR q.val) v →
      (barred → exec (.quadCfgWrite who q v) s = refusedWrite s 0) ∧
      (¬ barred → fld v 2 0 = 0 → fld old 2 0 ≠ 0 → s.held (108 + q.val) = true → s.reqW who = false →
        exec (.quadCfgWrite who q v) s = wrote ({ s with power := { s.power with
          domReq := SMap.put 0 s.power.domReq (108 + q.val) (v ||| BitVec.ofNat 64 (2 ^ 63)) } }.setRf (quadR q.val) 12 12 1)) ∧
      (¬ barred → fld v 2 0 ≠ 0 ∨ fld old 2 0 = 0 ∨ s.held (108 + q.val) = false ∨ s.reqW who = true →
        exec (.quadCfgWrite who q v) s = wrote (s.setQuad q.val v))) ∧
    (Accepted s who go v → s.linkTo (fld v 1 0) = none → exec (.mailboxGo who t v) s = wrote (s.setRf (mbStatR t.val) 1 0 2)) ∧
    (∀ k, Accepted s who go v → s.linkTo (fld v 1 0) = some k →
      let tag := (s.xl k).nextTag
      exec (.mailboxGo who t v) s = waitingWrite ((s.modXl k (fun x =>
        { x with nextTag := tag + 1, mbox := x.mbox ++ [(tag, Fin.ofNat 32 t.val)] })).sendXl k .mailbox (BitVec.ofNat 64 tag ::
          BitVec.ofNat 64 t.val :: (List.range 7).map (fun i => s.reg ⟨.mbPayload, 0, t.val, i⟩)))) ∧
    (Accepted s who round v → ¬ takes → exec (.voteRound who ch v) s = wrote s) ∧
    (Accepted s who round v → takes → ∃ u, exec (.voteRound who ch v) s = .next u ∧ (u.vote ch.val).round = some r)

/-- Writes that act on Lace (R373, R384, R387). -/
def LaceRegisterCommands : Prop :=
  ∀ (s : State) (who : Requester) (v : Dword) (id : BitVec 9),
    let src := lsrc id.toNat
    let u := s.writeReg src v
    let n := u.reg src
    let old := s.reg laceSinkR
    let new := writeFields Reg.laceSink.fields false old v
    let size := 2 ^ fld new 11 7
    let base := fld new 45 12 * 4096
    let moved := setFld old 0 0 0 ≠ setFld new 0 0 0
    let bad := (bit old 0 = true ∧ moved) ∨ (bit new 0 = true ∧ bit new 2 = true ∧
      (fld new 11 7 < 16 ∨ 34 < fld new 11 7 ∨ base % size ≠ 0 ∨ s.rangeInstalled base size = false))
    (Accepted s who src v → srcUsed id.toNat = false → exec (.lsrcCtlWrite who id v) s = wrote s) ∧
    (Accepted s who src v → srcUsed id.toNat = true →
      (bit n 21 = false → exec (.lsrcCtlWrite who id v) s = wrote (u.setTrig id.toNat 0 0xF)) ∧
      (bit n 21 = true → fld n 25 24 = 3 → exec (.lsrcCtlWrite who id v) s = wrote (u.setTrig id.toNat 1 0xF)) ∧
      (bit n 21 = true → fld n 25 24 = 0 → bit (s.reg src) 21 = false → fld n 63 48 ≠ 0 →
        exec (.lsrcCtlWrite who id v) s = wrote (u.setTrig id.toNat 1 0xF)) ∧
      (bit n 21 = true → fld n 25 24 = 0 → bit (s.reg src) 21 = false → fld n 63 48 = 0 →
        exec (.lsrcCtlWrite who id v) s = wrote ((u.setTrig id.toNat 2 0xF).syncSource id.toNat)) ∧
      (bit n 21 = true → fld n 25 24 ≠ 3 → bit (s.reg src) 21 = true ∨ fld n 25 24 ≠ 0 → exec (.lsrcCtlWrite who id v) s = wrote u)) ∧
    (Accepted s who laceSinkR v →
      (bad → exec (.laceSinkWrite who v) s = refusedWrite s 0) ∧
      (¬ bad → bit old 0 = true → bit new 0 = true → exec (.laceSinkWrite who v) s = wrote (s.setReg laceSinkR new)) ∧
      (¬ bad → bit old 0 = true → bit new 0 = false → exec (.laceSinkWrite who v) s = wrote (s.sinkPad.setReg laceSinkR new).rootDiscard) ∧
      (¬ bad → bit old 0 = false → bit new 0 = true → exec (.laceSinkWrite who v) s =
        wrote (({ s with lace := { s.lace with full := false, partialLine := [] } }.setReg laceSinkR new).setRf laceWptrR 34 0 0)) ∧
      (¬ bad → bit old 0 = false → bit new 0 = false → exec (.laceSinkWrite who v) s = wrote (s.setReg laceSinkR new)))

/-- Writes that act on power, resets, Sole, the boot store, custom instructions and the Policy Mailbox (R65, R404-R406, R422, R423,
R426, R427, R430, R437). -/
def Obligations.PlatformRegisterCommands : Prop :=
  ∀ (s : State) (who : Requester) (v : Dword) (n : Tid) (ring : Fin 2),
    let p := fld v 38 32
    let act := fld v 2 1
    let req := s.writeReg pwrReqR v
    let rst := s.writeReg rstCtlR v
    let die := fld v 47 44
    let trio := 7 * die + fld v 43 41
    let sole : RegRef := ⟨.soleCtl, 0, 0, 0⟩
    let lines := s.rf (soleA n.val) 46 32
    let area := s.soleArea n.val
    let boot : RegRef := ⟨.bootStat, 0, 0, 0⟩
    let pmb : RegRef := ⟨.pmbIdx, 0, ring.val, 0⟩
    let bad := (List.range 32).filter (fun n => bit (s.reg (cdtSlotR n)) 0 && !s.cdtPasses n)
    (Accepted s who pwrReqR v → bit v 0 = true →
      (118 ≤ p ∨ act = 3 → exec (.powerRequest who v) s = refusedWrite s 0) ∧
      (p < 118 → act ≠ 3 → s.reqW who = true ∨ req.held p = false → exec (.powerRequest who v) s = wrote (req.domSubmit p act)) ∧
      (p < 108 → act ≠ 3 → s.reqW who = false → req.held p = true → exec (.powerRequest who v) s =
        wrote (({ req with power := { req.power with domReq := SMap.put 0 req.power.domReq p (BitVec.ofNat 64 (2 ^ 62 + act)) } }.setRf
          (domR p) 3 2 act).setRf (domR p) 7 4 3))) ∧
    (Accepted s who rstCtlR v →
      (fld v 2 0 = 1 → exec (.moduleReset who v) s = wrote (rst.moduleReset 5 rst.power.straps)) ∧
      (fld v 2 0 = 2 → die < 12 → exec (.dieReset who v) s = wrote ((rst.noteReset 2 (unitWord die 7 7 3 none) 5).dieReset die)) ∧
      (fld v 2 0 = 2 → 12 ≤ die → exec (.dieReset who v) s = refusedWrite s 0) ∧
      (fld v 2 0 = 3 → die < 12 → fld v 43 41 < 7 → exec (.trioReset who v) s = wrote (rst.orderTrio trio)) ∧
      (fld v 2 0 = 4 → die < 12 → fld v 43 41 < 7 → fld v 40 39 < 3 → rst.powered trio = true →
        exec (.coreReset who v) s = wrote (rst.orderCore (coreNo trio (fld v 40 39))))) ∧
    (Accepted s who sole v →
      (fld v 2 0 = 1 → exec (.soleCtlCommit who v) s = wrote s.commitStart) ∧
      (fld v 2 0 = 2 → exec (.snap who v) s = wrote (s.snapshot 3)) ∧
      (fld v 2 0 = 4 → exec (.refresh who v) s = wrote s.refreshStart)) ∧
    (Accepted s who (soleCtl n.val) v → bit v 0 = true → s.rf (soleCtl n.val) 1 1 = 0 →
      (lines = 0 ∨ 16384 < lines ∨ 35 ≤ area → exec (.soleReadGo who n v) s = wrote (s.soleStatus n.val 1)) ∧
      (0 < lines → lines ≤ 16384 → area = 34 → s.reqW who = false → exec (.soleReadGo who n v) s = wrote (s.soleStatus n.val 3)) ∧
      (0 < lines → lines ≤ 16384 → area < 34 ∨ (area = 34 ∧ s.reqW who = true) → exec (.soleReadGo who n v) s =
        wrote ({ s with sole := { s.sole with reads := s.sole.reads ++ [(n.val, s.reqW who)] } }.setRf (soleCtl n.val) 1 1 1))) ∧
    (Accepted s who boot v → bit v 2 = true →
      (s.bootStore = false → exec (.bootStoreEnd who v) s = wrote s) ∧
      (s.bootStore = true → s.boot.store = [] →
        exec (.bootStoreEnd who v) s = wrote ({ s with boot := { s.boot with store := [] } }.setRf boot 2 2 0)) ∧
      (∀ a b, s.bootStore = true → s.boot.store = [(a, b)] → s.inInstalled a = true →
        let ended := ({ s with boot := { s.boot with store := [] } }.setRf boot 2 2 0).setByte a b
        exec (.bootStoreEnd who v) s = wrote { ended with poison := s.poison.filter (fun l => decide (l ≠ a / 64)) })) ∧
    (Accepted s who cdtCtlR v → bit v 0 = true → bit (s.reg cdtCtlR) 0 = true → exec (.cdtLock who v) s = wrote s) ∧
    (Accepted s who cdtCtlR v → bit v 0 = true → bit (s.reg cdtCtlR) 0 = false → bad = [] →
      exec (.cdtLock who v) s = wrote (s.setRf cdtCtlR 0 0 1)) ∧
    (Accepted s who pmb v → exec (.pmbDoorbell who ring v) s = wrote (s.writeReg pmb v))

/-- The registers whose writes act on compute: caches, translation, links, checking, time, seasons, contexts, tenants, Queue DMA. -/
def Obligations.ComputeRegisterCommands : Prop :=
  CacheRegisterCommands ∧ CheckingRegisterCommands ∧ TimeRegisterCommands ∧ TenantRegisterCommands

/-- The registers whose writes act on security, events, links and Lace. -/
def Obligations.ServiceRegisterCommands : Prop :=
  SecurityRegisterCommands ∧ EventRegisterCommands ∧ LinkRegisterCommands ∧ LaceRegisterCommands


/-! ### Links -/

/-- Flits and trainings of a package link (R161, R163, R164): only Train, Active and Replay carry flits; a transmitter keeps each new flit
until an ACK covers it, and sends none past 256; a good flit moves the sequence on, and the one that a NAK asked for ends Replay; a
bad one is counted and brings Replay, as a NAK does, and the eighth NAK in a row Retrain; a spare lane that is in use leaves none for
a second, which fails the link and takes its die offline; after Retrain every flit not acknowledged is sent again. -/
def PackageLinkEvents : Prop :=
  ∀ (s : State) (d : DieId) (f : Flit) (tx rx : BitVec 5),
    let r := plinkR d.val
    let st := s.plinkState d.val
    let p := s.plinkEnd d.val true
    let there := s.plinkEnd d.val false
    let seq := BitVec.ofNat 12 (fld f.ctl 63 52)
    let ack := BitVec.ofNat 12 (fld f.ctl 51 40)
    let bad := fld f.ctl 15 0 ≠ (flitCrc f).toNat
    let good := fld f.ctl 15 0 = (flitCrc f).toNat ∧ seq = p.expect ∧ bit f.ctl 39 = false
    let naks := fld f.ctl 15 0 = (flitCrc f).toNat ∧ seq = p.expect ∧ bit f.ctl 39 = true
    let full := seq = there.next ∧ 256 ≤ there.unacked.length
    let sent : Plink := if seq = there.next then { there with unacked := there.unacked ++ [f], next := there.next + 1 }
      else { there with resend := if there.resend = some seq then none else there.resend }
    let met := fun (q e : Plink) => State.countDie ((s.setPlinkEnd d.val false q).setPlinkEnd d.val true e) d.val 0x04
    let held := fun (e : Plink) => met sent e
    let nak : Plink := { p with nakSent := true, naks := p.naks + 1 }
    let next : Plink := { p.told f with expect := p.expect + 1, acked := ack, nakSent := false, naks := 0, nakIn := 0 }
    let asked : Plink := { next with nakIn := if ack = p.acked then p.nakIn + 1 else 1 }
    let told := (met { sent with nakSent := true } asked).incRf r 63 48 |>.countDie d.val 0x06
    let replay := fun (x : State) => (x.setRf r 2 0 3).emitEvent (352 + d.val) 0x10 3
    let retrain := fun (x : State) => (((x.incRf r 31 24).setRf r 2 0 4).emitEvent (352 + d.val) 0x11 4).notePlink d.val
    let failed := (s.setRf r 2 0 5).dieOffline d.val 1 none
    let lanes := fun (a b : Nat) => ((s.setRf r 21 17 a).setRf r 16 12 b).notePlink d.val
    (st = 0 ∨ 4 ≤ st → exec (.flitReceive (.pkgIo d) f) s = .next s.finish) ∧
    (full → exec (.flitReceive (.pkgIo d) f) s = .next s.finish) ∧
    (st = 1 ∨ st = 2 → ¬ full → good → exec (.flitReceive (.pkgIo d) f) s = .next (held next).finish) ∧
    (st = 3 → ¬ full → good → p.nakSent = true → exec (.flitReceive (.pkgIo d) f) s = .next ((held next).setRf r 2 0 2).finish) ∧
    (st = 3 → ¬ full → good → p.nakSent = false → exec (.flitReceive (.pkgIo d) f) s = .next (held next).finish) ∧
    (st = 2 → ¬ full → naks → exec (.flitReceive (.pkgIo d) f) s = .next (replay told).finish) ∧
    (st = 2 → ¬ full → bad → exec (.flitReceive (.pkgIo d) f) s = .next (replay ((held nak).incRf r 47 32)).finish) ∧
    (st = 3 → ¬ full → bad → p.naks = 7 → exec (.flitReceive (.pkgIo d) f) s = .next (retrain ((held nak).incRf r 47 32)).finish) ∧
    (st = 3 → ¬ full → bad → p.naks < 7 → p.nakIn < 8 →
      exec (.flitReceive (.pkgIo d) f) s = .next ((held nak).incRf r 47 32).finish) ∧
    (∀ g, g ∈ (p.told f).unacked ↔ g ∈ p.unacked ∧ 2048 ≤ (ack - BitVec.ofNat 12 (fld g.ctl 63 52)).toNat) ∧
    (p.told f).resend = (if bit f.ctl 39 = true then some (ack + 1) else p.resend) ∧
    (s.rf (fiCtlR d.val) 0 0 = 0 → exec (.flitReceive (.pkgDie d) f) s = .next (s.plinkReceive d.val false f false).finish) ∧
    (st = 1 → exec (.plinkTrainComplete d 0x1F 0x1F) s = .next ((s.setRf r 2 0 2).dieOnline d.val).finish) ∧
    (st = 1 → tx.toNat < 16 → s.rf r 21 17 = 31 → exec (.plinkTrainComplete d tx 0x1F) s =
      .next (((lanes tx.toNat (s.rf r 16 12)).setRf r 2 0 2).dieOnline d.val).finish) ∧
    (st = 1 → rx.toNat < 16 → s.rf r 16 12 < 31 → s.rf r 16 12 ≠ rx.toNat →
      exec (.plinkTrainComplete d 0x1F rx) s = .next failed.finish) ∧
    (tx.toNat < 16 → st ≠ 1 → exec (.plinkTrainComplete d tx 0x1F) s = .next s.finish) ∧
    (st = 1 ∨ st = 4 → exec (.plinkTrainTimeout d) s = .next failed.finish) ∧
    (st ≠ 1 → st ≠ 4 → exec (.plinkTrainTimeout d) s = .next s.finish) ∧
    (st = 2 → exec (.laneLockLost (.pkgIo d)) s = .next (retrain s).finish ∧ exec (.laneLockLost (.pkgDie d)) s = .next (retrain s).finish) ∧
    (st ≠ 2 → exec (.laneLockLost (.pkgIo d)) s = .next s.finish) ∧
    (st = 4 → exec (.plinkRetrainComplete d none none) s = .next ((s.plinkResume d.val).setRf r 2 0 2).finish) ∧
    (st = 4 → rx.toNat < 16 → s.rf r 16 12 = 31 → exec (.plinkRetrainComplete d none (some rx)) s =
      .next (((lanes (s.rf r 21 17) rx.toNat).plinkResume d.val).setRf r 2 0 2).finish) ∧
    (st = 4 → tx.toNat < 16 → s.rf r 21 17 < 31 → s.rf r 21 17 ≠ tx.toNat →
      exec (.plinkRetrainComplete d (some tx) none) s = .next failed.finish) ∧
    (st ≠ 4 → exec (.plinkRetrainComplete d none none) s = .next s.finish)

/-- The states of an external link (R361, R364): each event moves the link to the state that the table names, is recorded, and does
nothing in a state where the table does not name it; a return to Detect from a state that carries traffic ends what is
outstanding with the partner. -/
def ExternalLinkStates : Prop :=
  ∀ (s : State) (k : XLink) (f : Flit),
    let n := k.val
    let r := xlStatusR n
    let st := s.xlState n
    let go := fun (x : State) (to' : Nat) => (x.setRf r 3 0 to').noteUnit
    let fresh := fun (x : State) => x.modXl n (fun q => { q with
      flits := {}, sentAccept := false, gotAccept := false, gotRefuse := false, echoes := 0, echoSum := 0, partner := 0 })
    let identify := fresh (go s 3)
    let retrain := fun (x : State) => (go (x.incRf r 23 16) 6).raise (31 * 32 + 4 * n + 3)
    let left := (fresh (go s 1)).partnerLeft n Ended.now
    let p := (s.xl n).flits
    let held := fun (q : Plink) => (s.modXl n (fun x => { x with flits := q })).countLink n 0x02
    let bad := fld f.ctl 15 0 ≠ (flitCrc f).toNat
    let good := fld f.ctl 15 0 = (flitCrc f).toNat ∧ fld f.ctl 63 52 = p.expect.toNat ∧ bit f.ctl 39 = false
    let nak : Plink := { p with nakSent := true, naks := p.naks + 1 }
    let ack := BitVec.ofNat 12 (fld f.ctl 51 40)
    let naks := fld f.ctl 15 0 = (flitCrc f).toNat ∧ fld f.ctl 63 52 = p.expect.toNat ∧ bit f.ctl 39 = true
    let next : Plink := { p.told f with expect := p.expect + 1, acked := ack, nakSent := false, naks := 0, nakIn := 0 }
    let asked : Plink := { next with nakIn := if ack = p.acked then p.nakIn + 1 else 1 }
    (st = 1 → exec (.xlReceiversDetected k) s = .next (fresh (go s 2)).finish) ∧
    (st ≠ 1 → exec (.xlReceiversDetected k) s = .next s.finish) ∧
    (st = 2 → exec (.xlLanesLocked k) s = .next ((identify.sendXl n .identity ((List.range 8).map (lineDw (identify.identityBlock n)))).sendXl
      n .echo []).finish) ∧
    (st = 6 → exec (.xlLanesLocked k) s = .next (go s 4).finish) ∧
    (st ≠ 2 → st ≠ 6 → exec (.xlLanesLocked k) s = .next s.finish) ∧
    (st = 2 ∨ (st = 3 ∧ (s.xl n).partner = 0) → exec (.xlLinkTimeout k) s = .next (fresh (go s 1)).finish) ∧
    (st = 6 → exec (.xlLinkTimeout k) s = .next left.finish) ∧
    (st ≠ 2 → st ≠ 6 → (st = 3 → (s.xl n).partner ≠ 0) → exec (.xlLinkTimeout k) s = .next s.finish) ∧
    (st = 4 ∨ st = 5 ∨ st = 6 → exec (.depart k) s = .next left.finish) ∧
    (st < 4 ∨ 6 < st → exec (.depart k) s = .next s.finish) ∧
    (s.quadOfXl n = none → (st = 4 → exec (.laneLockLost (.ext k)) s = .next (retrain s).finish) ∧
      (st = 7 → exec (.laneLockLost (.ext k)) s = .next (fresh (go s 1)).finish) ∧
      (st ≠ 4 → st ≠ 7 → exec (.laneLockLost (.ext k)) s = .next s.finish)) ∧
    (∀ q, s.quadOfXl n = some q → st = 4 → exec (.laneLockLost (.ext k)) s = .next (retrain (s.raise (32 * (14 + q)))).finish) ∧
    (st < 2 ∨ 5 < st → exec (.flitReceive (.ext k) f) s = .next s.finish) ∧
    (st = 2 ∨ st = 3 ∨ st = 4 → good → exec (.flitReceive (.ext k) f) s = .next (held next).finish) ∧
    (st = 5 → good → p.nakSent = true ∨ ack ≠ p.acked → exec (.flitReceive (.ext k) f) s = .next (go (held next) 4).finish) ∧
    (st = 5 → good → p.nakSent = false → ack = p.acked → exec (.flitReceive (.ext k) f) s = .next (held next).finish) ∧
    (st = 4 → bad → exec (.flitReceive (.ext k) f) s = .next (go (held nak) 5).finish) ∧
    (st = 4 → naks → exec (.flitReceive (.ext k) f) s = .next (go (((held asked).incRf r 63 48).countLink n 0x03) 5).finish) ∧
    (st = 5 → bad → p.naks = 7 → exec (.flitReceive (.ext k) f) s = .next (retrain (held nak)).finish)

/-- Identification (R361-R363): a block is refused with the first code whose condition holds and the link goes to Refused; another is
accepted, and names the partner; the link is Active when both ends have sent ACCEPT. The sixteenth round trip gives FLY. -/
def IdentificationEvents : Prop :=
  ∀ (s : State) (k : XLink) (b : LineData) (code : BitVec 4) (rtt turn : Nat),
    let n := k.val
    let r := xlStatusR n
    let st := s.xlState n
    let go := fun (x : State) (to' : Nat) => (x.setRf r 3 0 to').noteUnit
    let refused := fun (x : State) (c : Nat) => go ((x.setRf r 35 32 c).raise (31 * 32 + 4 * n + 2)) 7
    let active := fun (x : State) => (go x 4).raise (31 * 32 + 4 * n)
    let magic := blkNum b 0 4 = 0x7A300001 ∧ blkNum b 4 2 = 1 ∧ blkNum b 60 4 = (crc32 ((List.range 60).map (lineByte b))).toNat
    let m := blkNum b 6 1
    let same := blkNum b 36 4 % 2 ^ 26 = s.rf ftuCfgR 27 8 + s.rf ftuCfgR 33 28 * 2 ^ 20
    let accepted := fun (mis : Nat) => (((s.setRf r 31 30 m).setRf r 29 29 mis).modXl n (fun x =>
      { x with partner := b, sentAccept := true })).sendXl n .accept []
    let trip := (s.xl n).echoSum + (rtt - turn)
    let echoed := s.modXl n (fun x => { x with echoes := x.echoes + 1, echoSum := x.echoSum + (rtt - turn) })
    (¬ magic → s.refuseCode n b = some 1) ∧
    (magic → blkNum b 8 8 ≠ (s.reg ⟨.xlSys, 0, 0, 0⟩).toNat → s.refuseCode n b = some 2) ∧
    (magic → blkNum b 8 8 = (s.reg ⟨.xlSys, 0, 0, 0⟩).toNat → m % 4 = s.modId → s.refuseCode n b = some 3) ∧
    (s.refuseCode n b = none ↔ magic ∧ blkNum b 8 8 = (s.reg ⟨.xlSys, 0, 0, 0⟩).toNat ∧ m % 4 ≠ s.modId ∧ s.linkTo (m % 4) = none ∧
      (s.xl n).gotRefuse = false ∧ blkNum b 32 2 = 0x00D8) ∧
    (st = 3 → ∀ c, s.refuseCode n b = some c →
      exec (.partnerIdentityBlock k b) s = .next (refused (s.sendXl n .refuse [BitVec.ofNat 64 c]) c).finish) ∧
    (st = 3 → s.refuseCode n b = none → same →
      ((s.xl n).gotAccept = false → exec (.partnerIdentityBlock k b) s = .next (accepted 0).finish) ∧
      ((s.xl n).gotAccept = true → exec (.partnerIdentityBlock k b) s = .next (active (accepted 0)).finish)) ∧
    (st = 3 → s.refuseCode n b = none → ¬ same → s.tickSrc ≠ 3 → (s.xl n).gotAccept = false →
      exec (.partnerIdentityBlock k b) s = .next (accepted 1).finish) ∧
    (st ≠ 3 → (st = 7 → (s.xl n).gotRefuse = false) → exec (.partnerIdentityBlock k b) s = .next s.finish) ∧
    (st = 3 → ((s.xl n).sentAccept = false → exec (.accept k) s = .next (s.modXl n (fun x => { x with gotAccept := true })).finish) ∧
      ((s.xl n).sentAccept = true → exec (.accept k) s = .next (active (s.modXl n (fun x => { x with gotAccept := true }))).finish)) ∧
    (st ≠ 3 → exec (.accept k) s = .next s.finish) ∧
    (st = 3 → 1 ≤ code.toNat → code.toNat ≤ 6 → exec (.refuse k code) s =
      .next ((refused s code.toNat).modXl n (fun x => { x with gotRefuse := true })).finish) ∧
    (st ≠ 3 → exec (.refuse k code) s = .next s.finish) ∧
    (st = 3 → (s.xl n).echoes < 15 → exec (.echo k rtt turn) s = .next (echoed.sendXl n .echo []).finish) ∧
    (st = 3 → (s.xl n).echoes = 15 → trip / 32 < 4096 → exec (.echo k rtt turn) s = .next (echoed.setRf r 47 36 (trip / 32)).finish) ∧
    (st ≠ 3 ∨ 16 ≤ (s.xl n).echoes → exec (.echo k rtt turn) s = .next s.finish)

/-- Requests of a partner and answers to this module's own (R365-R367): a read or write of a segment that is closed, another tenant's,
protected, or not in DRAM is answered with an error, as is a misaligned one (the model's choice, assumption 33); another is performed by agent 0x56 for the tenant. A message fills an entry
of the tenant's ring and is answered. -/
def RemoteAccesses : Prop :=
  ∀ (s : State) (k : XLink) (tid : Tid) (off : BitVec 34) (size : Fin 4) (v : Dword) (tag : Nat) (ok : Bool) (pay : List Dword),
    let n := k.val
    let o := off.toNat
    let bytes := 2 ^ size.val
    let seg := s.reg ⟨.xlSeg, 0, o / 2 ^ 30, 0⟩
    let pa := fld seg 45 30 * 2 ^ 30 + o % 2 ^ 30
    let opened := bit seg 63 = true ∧ fld seg 61 57 = tid.val ∧ s.region pa = .dram
    let rd := fun (d : LineData) => BitVec.ofNat 64 (ofBytes ((List.range bytes).map (fun i => lineByte d (pa % 64 + i))))
    let error := fun (x : State) => x.sendXl n .completion [0]
    let rq : Rq := portRq tid.val
    let x := s.xl n
    let idx : RegRef := ⟨.xlMbidx, 0, tid.val, 0⟩
    let cfg := s.reg ⟨.xlMbcfg, 0, tid.val, 0⟩
    let ring := 2 ^ fld cfg 4 0
    let tail := s.rf idx 15 0
    let ph := SMap.get false s.links.mbPh tid.val
    let dw0 := BitVec.ofNat 64 (s.rf (xlStatusR n) 31 30 + (!ph).toNat * 2 ^ 63)
    let filled := s.unitWrite rq (fld cfg 45 10 * 16 + tail) (lineOfDws (dw0 :: pay)) (BitVec.allOnes 64)
    let told := fun (u : State) (a : Dword) => u.sendXl n .completion [a]
    (o % bytes = 0 → s.xlUp n = false →
      exec (.remoteRead k tid off size) s = .next s.finish ∧ exec (.remoteWrite k tid off size v) s = .next s.finish) ∧
    (o % bytes ≠ 0 → s.xlUp n = true → exec (.remoteRead k tid off size) s = .next (error s).finish ∧
      exec (.remoteWrite k tid off size v) s = .next (error s).finish) ∧
    (o % bytes = 0 → s.xlUp n = true → ¬ opened → exec (.remoteRead k tid off size) s = .next (error s).finish) ∧
    (o % bytes = 0 → s.xlUp n = true → ¬ opened ∨ bit seg 62 = false →
      exec (.remoteWrite k tid off size v) s = .next (error s).finish) ∧
    (o % bytes = 0 → s.xlUp n = true → opened →
      (∀ u d, s.engLine rq pa = (u, .ok d) →
        exec (.remoteRead k tid off size) s = .next (u.sendXl n .readData [1, rd d]).finish) ∧
      (∀ u e, s.engLine rq pa = (u, e) → (∀ d, e ≠ .ok d) → exec (.remoteRead k tid off size) s = .next (error u).finish) ∧
      (∀ u a, bit seg 62 = true → s.engPut rq pa (toBytes v.toNat bytes) = (u, .ok a) →
        exec (.remoteWrite k tid off size v) s = .next (told u 1).finish) ∧
      (∀ u e, bit seg 62 = true → s.engPut rq pa (toBytes v.toNat bytes) = (u, e) → (∀ a, e ≠ .ok a) →
        exec (.remoteWrite k tid off size v) s = .next (error u).finish)) ∧
    (∀ q c, x.remote = [q] → q.tag = tag → s.waiter q = some (.load c) → exec (.remoteCompletion k tag ok v) s =
      .next ((s.modXl n (fun y => { y with remote := [] })).respond c ok v).finish) ∧
    (∀ t : Tid, x.remote = [] → x.mbox = [(tag, t)] → fld v 1 0 ≠ 0 → exec (.remoteCompletion k tag ok v) s =
      .next (((s.modXl n (fun y => { y with mbox := [] })).setRf (mbStatR t.val) 1 0 (fld v 1 0)).writeDone (mbGoPa t.val)).finish) ∧
    ((∀ q ∈ x.remote, q.tag ≠ tag) → (∀ q ∈ x.mbox, q.1 ≠ tag) → exec (.remoteCompletion k tag ok v) s = .next s.finish) ∧
    (pay.length = 7 → s.xlUp n = true → bit cfg 8 = false → exec (.mailboxMessage k tid pay) s = .next (told s 3).finish) ∧
    (pay.length = 7 → s.xlUp n = true → bit cfg 8 = true → (tail + 1) % ring = s.rf idx 47 32 % ring →
      exec (.mailboxMessage k tid pay) s = .next (told (s.incRf idx 63 48) 1).finish) ∧
    (pay.length = 7 → s.xlUp n = true → bit cfg 8 = true → (tail + 1) % ring ≠ s.rf idx 47 32 % ring → (tail + 1) % ring ≠ 0 →
      exec (.mailboxMessage k tid pay) s =
        .next (told ((filled.setRf idx 15 0 ((tail + 1) % ring)).raise (30 * 32 + tid.val)) 0).finish) ∧
    (pay.length = 7 → s.xlUp n = false → exec (.mailboxMessage k tid pay) s = .next s.finish)

/-- Votes and the ticks of a partner (R368, R369): the winner is the value that more than half of the participants contributed; an old
round, a second contribution and a module outside PART are discarded; a TICK gives one measurement at the source link alone. -/
def VotesAndTicks : Prop :=
  ∀ (s : State) (k : XLink) (ch : Fin 64) (round : Word) (value : BitVec 256) (ns arrival : Int) (frame : BitVec 6),
    let n := k.val
    let c := ch.val
    let v := s.vote c
    let m := s.rf (xlStatusR n) 31 30
    let dup := ∃ x ∈ v.contrib, x.1.toNat = m ∧ x.2.1 = round
    let takes := s.xlUp n = true ∧ bit (s.reg (vcfgR c)) 63 = true ∧ s.votes c m = true ∧ v.older round = false ∧ ¬ dup
    let source := s.tickSrc = 3 ∧ s.rf ftuCfgR 39 36 = n ∧ s.xlUp n = true ∧ s.rf (xlStatusR n) 29 29 = 0
    let held := s.modVote c (fun q => { q with contrib := q.contrib ++ [(BitVec.ofNat 2 m, round, value)] })
    let part := ((List.range 4).filter (s.votes c)).length
    (∀ x, s.voteWinner c = some x ↔
      part < 2 * ((List.range 4).filter (fun i => s.votes c i && decide (v.of i = some x))).length) ∧
    (takes → held.voteReady c = false → exec (.voteContribution k ch round value) s = .next held.finish) ∧
    (takes → held.voteReady c = true → exec (.voteContribution k ch round value) s = .next (held.voteDecide c).finish) ∧
    (¬ takes → exec (.voteContribution k ch round value) s = .next s.finish) ∧
    (v.undecided = true → s.rf (vcfgR c) 19 0 ≠ 0 → exec (.voteTimeout ch) s = .next (s.voteDecide c).finish) ∧
    (v.undecided = false ∨ s.rf (vcfgR c) 19 0 = 0 → exec (.voteTimeout ch) s = .next s.finish) ∧
    (source → exec (.tick k ns arrival frame) s = .next (s.measure (ns + s.rf (xlStatusR n) 47 36 - arrival)).finish) ∧
    (¬ source → exec (.tick k ns arrival frame) s = .next s.finish)

/-- The package links and the external links: their states, the partner's identity, its requests, mailboxes, votes and ticks. -/
def Obligations.LinkEvents : Prop :=
  PackageLinkEvents ∧ ExternalLinkStates ∧ IdentificationEvents ∧ RemoteAccesses ∧ VotesAndTicks

/-! ### The host, the root ports and Ethernet -/

/-- Accesses of the host (R352-R354): PF0's BARs reach the configuration space, a VF's pages its own registers, and its window the
tenant's address space at VABASE, translated for the tenant; a window that is off, or an access that fails, is answered with an
abort and recorded for the tenant. A doorbell stores HVAL and raises its source; a reset of a VF clears HVAL and its MSI-X state. -/
def HostAccesses : Prop :=
  ∀ (s : State) (t : Tid) (off : BitVec 36) (size : Fin 4) (wr : Option Dword) (v : Dword) (w : Word),
    let o := off.toNat
    let n := t.val
    let up := s.down = false ∧ s.links.cpUp = true
    let cfg := s.reg ⟨.cpVfcfg, 0, n, 0⟩
    let k := SMap.get 20 s.links.vfBar n
    let va := simm (BitVec.ofNat 48 (fld cfg 47 20 * 2 ^ 20 / 2 ^ k * 2 ^ k + o))
    let e : Eng := ⟨0x56, n, fld cfg 63 52, false⟩
    let abort := fun (u : State) => (u.tidRecord n 0x0F 0 0 [va, 0]).answer (.err 0)
    let hval : RegRef := ⟨.cpVfdb, 0, n, 0⟩
    let reads := fun (b : HostBar) (who : Requester) (at' : Nat) =>
      (∀ u x, s.mcsRead who at' size = (u, .ok x) → exec (.hostBarAccess b off size none) s = .next (u.answer (.ok x)).finish) ∧
      (∀ u x, s.mcsRead who at' size = (u, .error x) →
        exec (.hostBarAccess b off size none) s = .next (u.answer (.err (BitVec.ofNat 8 x))).finish)
    let flr := { s.setRf hval 63 32 0 with links := { (s.setRf hval 63 32 0).links with
      msix := s.links.msix.filter (fun x => decide (x.1 / 8 ≠ n)), msixPba := SMap.put 0 s.links.msixPba n 0 } }
    (¬ up → ∀ b, exec (.hostBarAccess b off size wr) s = .next s.finish) ∧
    (up → (o < 0x100000000 → reads .pf0Bar2 .pf0 o) ∧ (o < 0x10000 → reads .pf0Bar0 .pf0 (0x3C000000 + o)) ∧
      (o < 0x100000000 → exec (.hostBarAccess .pf0Bar2 off size (some v)) s = .next (s.write .pf0 o size v).finish) ∧
      (o < 0x10000 → exec (.hostBarAccess .pf0Bar0 off size (some v)) s = .next (s.write .pf0 (0x3C000000 + o) size v).finish)) ∧
    (up → n ≠ 0 → (o < 0x1000 → reads (.vfBar0 t) (.vf t) (0x30140000 + 0x1000 * n + o)) ∧
      (0x1000 ≤ o → o < 0x2000 → reads (.vfBar0 t) (.vf t) (0x338E0000 + 0x1000 * n + (o - 0x1000))) ∧
      (0x3000 ≤ o → o < 0x4000 → reads (.vfBar0 t) (.vf t) (0x35040000 + 0x1000 * n + (o - 0x3000))) ∧
      (o = 0x3004 → size = 2 → exec (.hostBarAccess (.vfBar0 t) off size (some v)) s =
        .next (((s.setRf hval 63 32 (fld v 31 0)).raise (22 * 32 + n)).answer (.ok 0)).finish)) ∧
    (up → n ≠ 0 → o < 2 ^ k → bit cfg 6 = false → exec (.hostBarAccess (.vfBar2 t) off size wr) s = .next (abort s).finish) ∧
    (up → n ≠ 0 → o < 2 ^ k → bit cfg 6 = true →
      (∀ u bs, s.engLoad e va (2 ^ size.val) 2 = (u, .ok bs) →
        exec (.hostBarAccess (.vfBar2 t) off size none) s = .next (u.answer (.ok (BitVec.ofNat 64 (ofBytes bs)))).finish) ∧
      (∀ u x, s.engLoad e va (2 ^ size.val) 2 = (u, .fail x) →
        exec (.hostBarAccess (.vfBar2 t) off size none) s = .next (abort u).finish) ∧
      (∀ u a m, s.engStore e va (toBytes v.toNat (2 ^ size.val)) 2 = (u, .ok a, m) →
        exec (.hostBarAccess (.vfBar2 t) off size (some v)) s = .next (u.answer (.ok 0)).finish) ∧
      (∀ u x m, s.engStore e va (toBytes v.toNat (2 ^ size.val)) 2 = (u, .fail x, m) →
        exec (.hostBarAccess (.vfBar2 t) off size (some v)) s = .next (abort u).finish)) ∧
    (n ≠ 0 → exec (.hostDoorbell t w) s = .next (((s.setRf hval 63 32 w.toNat).raise (22 * 32 + n)).answer (.ok 0)).finish) ∧
    (n ≠ 0 → exec (.functionLevelReset t) s = .next (flr.raise (23 * 32 + n)).finish) ∧
    (n = 0 → exec (.functionLevelReset t) s = .next (s.raise (22 * 32)).finish)

/-- Requests of the devices below a root port (R359): they are translated for the port's tenant while BM is set; a write to the last
4 KiB of the port's share raises the source that its data names; a failed request is answered with an abort and recorded. A port
that the quad does not form does nothing; with nothing outstanding, a surprise removal raises its source alone. -/
def RootPortRequests : Prop :=
  ∀ (s : State) (q : QuadId) (p : Fin 4) (addr : Dword) (size : Fin 4) (wr : Option Dword) (v : Dword),
    let quad := s.reg ⟨.quadCfg, 0, q.val, 0⟩
    let ports := 2 ^ fld quad 10 8
    let there := fld quad 2 0 = 2 ∧ p.val < ports
    let cfg := s.reg ⟨.rpCfg, 0, q.val, p.val⟩
    let tid := fld cfg 36 32
    let share := 2 ^ 37 / ports
    let bell := 0x3C0000000000 + 0x2000000000 * q.val + share * p.val + share - 4096
    let rings := bell ≤ addr.toNat ∧ addr.toNat < bell + 4096
    let e : Eng := ⟨0x56, tid, fld cfg 63 52, false⟩
    let src := fun (i : Nat) => 32 * (14 + q.val) + 8 * p.val + i
    let abort := fun (u : State) => ((u.tidRecord tid 0x0F 0 0 [addr, 0]).answer (.err 0))
    let link := fun (up : Bool) => { s with links := { s.links with rpUp := setBit s.links.rpUp (4 * q.val + p.val) up } }
    let seen := fun (x : Bool) => { s with links := { s.links with rpThere := setBit s.links.rpThere (4 * q.val + p.val) x } }
    (¬ there → exec (.rootPortInbound q p addr size wr) s = .next s.finish ∧ exec (.dpcTrigger q p) s = .next s.finish ∧
      ∀ ch, exec (.rootPortLinkChange q p ch) s = .next s.finish) ∧
    (there → bit cfg 1 = false → exec (.rootPortInbound q p addr size wr) s = .next (abort s).finish) ∧
    (there → bit cfg 1 = true → rings →
      exec (.rootPortInbound q p addr size (some v)) s = .next ((s.raise (src (4 + fld v 1 0))).answer (.ok 0)).finish) ∧
    (there → bit cfg 1 = true → ¬ rings →
      (∀ u bs, s.engLoad e addr (2 ^ size.val) 2 = (u, .ok bs) →
        exec (.rootPortInbound q p addr size none) s = .next (u.answer (.ok (BitVec.ofNat 64 (ofBytes bs)))).finish) ∧
      (∀ u x, s.engLoad e addr (2 ^ size.val) 2 = (u, .fail x) →
        exec (.rootPortInbound q p addr size none) s = .next (abort u).finish) ∧
      (∀ u a m, s.engStore e addr (toBytes v.toNat (2 ^ size.val)) 2 = (u, .ok a, m) →
        exec (.rootPortInbound q p addr size (some v)) s = .next (u.answer (.ok 0)).finish) ∧
      (∀ u x m, s.engStore e addr (toBytes v.toNat (2 ^ size.val)) 2 = (u, .fail x, m) →
        exec (.rootPortInbound q p addr size (some v)) s = .next (abort u).finish)) ∧
    (there → s.cores = [] → s.trios = [] → exec (.dpcTrigger q p) s = .next (s.raise (src 2)).finish) ∧
    (there → bit cfg 0 = true → bit s.links.rpUp (4 * q.val + p.val) = false → s.safe = false →
      exec (.rootPortLinkChange q p (.link true)) s = .next ((link true).raise (src 0)).finish) ∧
    (s.safe = true → exec (.rootPortLinkChange q p (.link true)) s = .next s.finish) ∧
    (there → bit s.links.rpUp (4 * q.val + p.val) = true →
      exec (.rootPortLinkChange q p (.link false)) s = .next ((link false).raise (src 0)).finish) ∧
    (there → bit s.links.rpThere (4 * q.val + p.val) = false →
      exec (.rootPortLinkChange q p (.presence true)) s = .next ((seen true).raise (src 1)).finish) ∧
    (there → exec (.rootPortLinkChange q p .aer) s = .next (s.raise (src 3)).finish)

/-- The command port's link (R353, R371): each change raises source 0 of group 23, and the sizes of the windows are sampled when it
comes up; it stays down while CP_PERST_N is asserted. -/
def CommandPortEvents : Prop :=
  ∀ (s : State),
    (s.links.cpUp = false → s.links.cpPerst = false → exec (.commandPortLinkChange (.link true)) s =
      .next (({ s with links := { s.links with cpUp := true } }.sampleBars).raise (23 * 32)).finish) ∧
    (s.links.cpUp = true → exec (.commandPortLinkChange (.link false)) s =
      .next ({ s with links := { s.links with cpUp := false } }.raise (23 * 32)).finish) ∧
    (s.links.cpPerst = true → exec (.commandPortLinkChange (.link true)) s = .next s.finish) ∧
    (s.links.cpPerst = false → exec (.commandPortLinkChange (.perst true)) s =
      .next ({ s with links := { s.links with cpPerst := true, cpUp := false } }.raise (23 * 32)).finish) ∧
    exec (.commandPortLinkChange .hotReset) s = .next (s.raise (22 * 32)).finish

/-- Frames (R356, R358): one that arrives is counted and goes to the tenant of each valid filter entry with its destination address, in that tenant's
ring, and is dropped when there is none; one that a tenant sends leaves only from an address of its own whose mask holds its class,
and completes its descriptor with status 3 otherwise. -/
def EthernetFrames : Prop :=
  ∀ (s : State) (n : Fin 16) (t : Tid) (frame : List Byte) (ns : Dword) (p : Nat × Nat),
    let arrived := s.countLink (3 + n.val) 0x02
    let mine := (arrived.filters n.val).filter (fun f => decide (fld f 47 0 = macAddr frame 0))
    let fits := 64 ≤ frame.length ∧ frame.length ≤ 9216
    let dropped := { arrived with links := { arrived.links with
      ethDrop := SMap.put 0 arrived.links.ethDrop n.val (SMap.get 0 arrived.links.ethDrop n.val + 1) } }
    let on := s.macs[n.val]? = some p ∧ bit s.links.ethUp (laneBit p) = true
    let r := txRing n.val t.val
    let size := s.ringSize r
    let head := s.rf r.idx 11 0
    let e := s.ethEng r t.val
    let src := s.tickSrc = 1 ∧ s.macs[s.rf ftuCfgR 39 36]? = some p
    let lane := fun (up : Bool) => { s with links := { s.links with ethUp := setBit s.links.ethUp (laneBit p) up } }
    (s.macs[n.val]? = none → exec (.ethFrameReceive n frame ns) s = .next s.finish ∧ exec (.ethTransmit n t) s = .next s.finish) ∧
    (on → ¬ fits ∨ mine = [] → exec (.ethFrameReceive n frame ns) s = .next dropped.finish) ∧
    (on → fits → ∀ f, mine = [f] → exec (.ethFrameReceive n frame ns) s = 
      .next (arrived.ethDeliver n.val (fld f 62 58) frame ns).finish) ∧
    (on → s.ringOn r = false ∨ head % size = s.rf r.idx 43 32 % size → exec (.ethTransmit n t) s = .next s.finish) ∧
    (on → s.ringOn r = true → head % size ≠ s.rf r.idx 43 32 % size → ∀ u, s.ringEntry e.rq r head = (u, none) →
      exec (.ethTransmit n t) s = .next ((u.incRf r.idx 63 48).setRf r.idx 11 0 ((head + 1) % size)).finish) ∧
    (on → s.ringOn r = true → head % size ≠ s.rf r.idx 43 32 % size → ∀ u d, s.ringEntry e.rq r head = (u, some d) →
      let op := fld (d.getD 0 0) 7 0
      let len := fld (d.getD 1 0) 23 0
      let cls := fld (d.getD 0 0) 37 35
      let own := fun (f : List Byte) => (u.filters n.val).any (fun x =>
        decide (fld x 62 58 = t.val) && decide (fld x 47 0 = macAddr f 6) && bit x (50 + cls))
      let ends := fun (x : State) (status done' : Nat) => x.ethDone e r head d status done' (s.timebase * 10)
      let past := fun (x : State) => x.setRf r.idx 11 0 ((head + 1) % size)
      let failed := fun (x : State) (status : Nat) => past ((ends x status 0).incRf r.idx 63 48)
      (op ≠ 0x10 ∨ len < 64 ∨ 9216 < len → exec (.ethTransmit n t) s = .next (failed u 1).finish) ∧
      (op = 0x10 → 64 ≤ len → len ≤ 9216 →
        (∀ x f, u.engLoad e (d.getD 2 0) len (len / 64 + 2) = (x, .ok f) → x.filters n.val = u.filters n.val →
          (own f = true → exec (.ethTransmit n t) s = .next (past (ends (x.ethSend n cls f) 0 len)).finish) ∧
          (own f = false → exec (.ethTransmit n t) s = .next (failed x 3).finish)) ∧
        (∀ x c, c ≠ 0 → u.engLoad e (d.getD 2 0) len (len / 64 + 2) = (x, .fail c) →
          exec (.ethTransmit n t) s = .next (failed x c).finish))) ∧
    (s.safe = true → exec (.ethLinkChange n true) s = .next s.finish) ∧
    (s.macs[n.val]? = some p → bit s.links.ethUp (laneBit p) = false → s.safe = false →
      exec (.ethLinkChange n true) s = .next ((lane true).raise (32 * (14 + p.1) + 8 * p.2)).finish) ∧
    (on → ¬ src → exec (.ethLinkChange n false) s = .next ((lane false).raise (32 * (14 + p.1) + 8 * p.2)).finish) ∧
    (on → src → exec (.ethLinkChange n false) s = .next ((lane false).sourceLost.raise (32 * (14 + p.1) + 8 * p.2)).finish)

/-- The host's accesses, the root ports, the command port's link and Ethernet. -/
def Obligations.PortEvents : Prop := HostAccesses ∧ RootPortRequests ∧ CommandPortEvents ∧ EthernetFrames

/-! ### Memory channels -/

/-- The states of a channel (R328, R331, R336-R338): training takes it from Off into service, or fails; a channel in service that is
lost is covered by its mirrored partner, or its dirty lines are discarded, and the loss is resolved while a season runs. -/
def ChannelStates : Prop :=
  ∀ (s : State) (m : Chan) (pass : Bool) (gib : Nat) (why : LostCause),
    let n := m.val
    let st := s.chanState n
    let p := pairOf n
    let cause := match why with
      | .parity => 2
      | .crc => 3
      | .uelim => 4
      | .command => 5
      | .training => 1
    let train := (s.setChan n 1).raise (chanSrc n 4)
    let gone := ((s.setRf (mcStatusR n) 31 24 cause).setChan n 3).dropRequestsAt n
    let mirror := s.mirrored n = true ∧ s.chanState p = 2
    let discarded := if st = 4 then (gone.dropSlice n).dropSlice p else gone.dropSlice n
    let fitted := fun (u : Nat) => (((train.modMc n (fun k => { k with trained := some u })).trainLines n).spreadU).chanStart n
    let lost := exec (.channelLost m why) s
    (st ≠ 0 → exec (.channelTraining m pass gib) s = .next s.finish) ∧
    (st = 0 → pass = false ∨ train.chanRefused n gib = true → exec (.channelTraining m pass gib) s = .next (train.chanGone n 1).finish) ∧
    (st = 0 → train.chanRefused n gib = false →
      (train.rf (mcCfgR n) 13 13 = 0 → exec (.channelTraining m true gib) s = .next (fitted gib).finish) ∧
      (train.rf (mcCfgR n) 13 13 = 1 → exec (.channelTraining m true gib) s = .next (fitted (gib / 2)).finish)) ∧
    (st ≠ 2 → st ≠ 4 → lost = .next s.finish) ∧
    (st = 2 ∨ st = 4 → mirror →
      ((gone.setChan p 4).gce.live = false → lost = .next (gone.setChan p 4).finish) ∧
      ((gone.setChan p 4).gce.live = true → lost = .next ((gone.setChan p 4).coverChannel n p 1 (gone.setChan p 4).nextTick).finish)) ∧
    (st = 2 ∨ st = 4 → ¬ mirror →
      (discarded.gce.live = false → lost = .next discarded.finish) ∧
      (discarded.gce.live = true → lost = .next (discarded.loseChannel n 1 discarded.nextTick).finish)) ∧
    (∀ k : DramAlert,
      (st ≠ 2 → st ≠ 4 → exec (.dramAlert m k) s = .next s.finish) ∧
      (st = 2 ∨ st = 4 → (s.mc n).retries < 3 →
        exec (.dramAlert m k) s = .next (s.modMc n (fun q => { q with retries := q.retries + 1 })).finish) ∧
      (st = 2 ∨ st = 4 → 3 ≤ (s.mc n).retries → exec (.dramAlert m k) s =
        .next ((s.modMc n (fun q => { q with retries := 0 })).chanGone n (if k = .parity then 2 else 3)).finish)) ∧
    exec (.spdTemperatureAlert m true) s = .next (s.setLine (chanSrc n 8) true).finish ∧
    exec (.spdTemperatureAlert m false) s = .next (s.setLine (chanSrc n 8) false).finish

/-- The check of a burst (R330, R331): a corrected error is counted, logged first, written back, and raises source 0 at a multiple of
CETHR; an uncorrectable one poisons the line, is counted, logged, and recorded, and at UELIM within a second loses the channel. -/
def EccChecks : Prop :=
  ∀ (s : State) (m : Chan) (line : LineAddr) (dev : BitVec 4) (syn : BitVec 16),
    let n := m.val
    let l := line.toNat
    let serves := (s.chanState n = 2 ∨ s.chanState n = 4) ∧ s.servChan (chanOf l) = n
    let k := s.mc n
    let s0 := s.modMc n (fun q => { q with retries := 0 })
    let fixed := ((((s0.incRf (mcStatusR n) 63 48).countMc n 0x0B).eccLog n l false dev syn).queueWrite n l)
    let ce := fixed.rf (mcStatusR n) 63 48
    let cethr := fixed.rf (mcCfgR n) 23 16
    let marked := (((((s0.poisonInMem l).incRf (mcStatusR n) 47 40).eccLog n l true dev syn).raise (chanSrc n 1)).sysEvent 0x16
      [BitVec.ofNat 64 (l * 64)]).emitEvent (368 + n) 0x22 (localOf l)
    let timed := marked.modMc n (fun q => { q with
      ueTimes := q.ueTimes.filter (fun t => decide ((marked.timebase - t).toNat < 100000000)) ++ [marked.timebase] })
    let uelim := timed.rf (mcCfgR n) 31 24
    (¬ serves → ∀ e, exec (.dramReadComplete m line e) s = .next s.finish) ∧
    (serves → k.openReqs = [] → exec (.dramReadComplete m line .ok) s = .next s0.finish) ∧
    (serves → k.openReqs = [] → cethr = 0 ∨ ce % cethr ≠ 0 →
      exec (.dramReadComplete m line (.corrected dev syn)) s = .next fixed.finish) ∧
    (serves → k.openReqs = [] → cethr ≠ 0 → ce % cethr = 0 →
      exec (.dramReadComplete m line (.corrected dev syn)) s = .next (fixed.raise (chanSrc n 0)).finish) ∧
    (serves → k.openReqs = [] → uelim = 0 ∨ (timed.mc n).ueTimes.length < uelim →
      exec (.dramReadComplete m line (.uncorrectable dev syn)) s = .next timed.finish) ∧
    (serves → k.openReqs = [] → uelim ≠ 0 → uelim ≤ (timed.mc n).ueTimes.length →
      exec (.dramReadComplete m line (.uncorrectable dev syn)) s = .next (timed.chanGone n 4).finish) ∧
    (∀ port res, serves → k.openReqs = [(port, line, res)] → exec (.dramReadComplete m line .ok) s =
      .next (((s.mcCount n port.val res).modMc n (fun q => { q with
        openReqs := q.openReqs.erase (port, line, res)
        actives := if res then q.actives.erase line else q.actives
        resWait := if res then q.resWait.erase line else q.resWait
        owed := q.owed.erase line })).modMc n (fun q => { q with retries := 0 })).finish)

/-- Requests at a controller (R340, R341, R344): it charges the tenant, which may demote the request; a write joins its subchannel's
queue, a read that the Memory-Side Cache holds is answered there, and another waits for the DRAM; the channel counts them as R390 codes them. A reserved request of a port at
its limit, and a write to a full queue, wait outside. -/
def ControllerRequests : Prop :=
  ∀ (s : State) (m : Chan) (r : MemReq),
    let n := m.val
    let l := r.line.toNat
    let k := s.mc n
    let serves := s.chanServes n = true ∧ s.servChan (chanOf l) = n
    let full := 64 ≤ k.queued (subOf l)
    let limit := r.res = true ∧ k.atLimit r.port l = true
    let q := s.mcCharge { agent := (if r.port.val < 12 then 7 * r.port.val else 84), tid := r.tid.val, w := false, res := r.res } l
    let u := q.1
    let read := u.countMc n (if q.2 then 0x01 else 0x02)
    let hit := u.mscOn = true ∧ u.msc.find l ≠ none
    let missed := if u.mscOn then read.countMc n 0x09 else read
    (¬ serves ∨ limit ∨ (r.write = true ∧ full) → exec (.mcRequest m r) s = .next s.finish) ∧
    (serves → ¬ limit → r.write = true → ¬ full → exec (.mcRequest m r) s = 
      .next (((u.countMc n 0x03).mcCount n r.port.val q.2).queueWrite n l).finish) ∧
    (serves → ¬ limit → r.write = false → hit → exec (.mcRequest m r) s = 
      .next ((read.countMc n 0x08).mcCount n r.port.val q.2).finish) ∧
    (serves → ¬ limit → r.write = false → ¬ hit → exec (.mcRequest m r) s = .next (missed.modMc n (fun x => { x with
      openReqs := x.openReqs ++ [(r.port, r.line, q.2)]
      resWait := if q.2 then x.resWait ++ [r.line] else x.resWait })).finish)

/-- The scheduler, refresh and scrub (R332, R333, R343, R344): the oldest waiting reserved read whose bank no other one holds receives
its activate; writes drain up to four at a time when no reserved read of their subchannel waits, or 48 of them do; a refresh is
postponed for a waiting reserved read at most four times; scrub reads the channel's lines in turn. -/
def SchedulerEvents : Prop :=
  ∀ (s : State) (m : Chan) (sub : Bool) (bank : BitVec 7),
    let n := m.val
    let k := s.mc n
    let held := fun (l : LineAddr) => ∃ a ∈ k.actives, s.colour a.toNat = s.colour l.toNat
    let waiting := k.resWait.filter (fun l => decide (subOf l.toNat = sub))
    let batch := (k.writeQ.filter (fun e => decide (e.1 = sub))).take 4
    let owed := ∃ l ∈ k.owed, subOf l.toNat = sub
    let bankWaits := ∃ l ∈ k.resWait, s.colour l.toNat = bank.toNat
    let put := fun (x : Nat) => s.modMc n (fun q => { q with refreshPost := SMap.put 0 q.refreshPost bank.toNat x })
    let post := SMap.get 0 k.refreshPost bank.toNat
    let at' := k.scrubAt
    let total := s.usable * 2 ^ 24
    let scrubbing := s.chanServes n = true ∧ s.rf (mcCfgR n) 63 48 ≠ 0
    (∀ front l back, k.resWait = front ++ l :: back → (∀ x ∈ front, held x) → ¬ held l → exec (.dramActivate m) s =
      .next ((s.modMc n (fun q => { q with
        resWait := q.resWait.erase l, owed := q.owed.erase l, actives := q.actives ++ [l] })).countMc n 0x04).finish) ∧
    ((∀ x ∈ k.resWait, held x) → exec (.dramActivate m) s = .next s.finish) ∧
    (k.queued sub = 0 ∨ owed ∨ (waiting ≠ [] ∧ k.queued sub < 48) → exec (.writeBatch m sub) s = .next s.finish) ∧
    (k.queued sub ≠ 0 → ¬ owed → waiting = [] ∨ 48 ≤ k.queued sub → exec (.writeBatch m sub) s =
      .next ((s.modMc n (fun q => { q with
        writeQ := batch.foldl (fun (w : List (Bool × LineAddr)) e => w.erase e) q.writeQ, owed := q.owed ++ waiting
        retries := 0 })).writeLine n).finish) ∧
    (s.chanServes n = false → exec (.refreshDue m bank) s = .next s.finish) ∧
    (s.chanServes n = true → bankWaits → post < 4 → exec (.refreshDue m bank) s = .next (put (post + 1)).finish) ∧
    (s.chanServes n = true → bankWaits → 4 ≤ post → exec (.refreshDue m bank) s = .next (s.countMc n 0x05).finish) ∧
    (s.chanServes n = true → ¬ bankWaits → exec (.refreshDue m bank) s =
      .next (forN (post + 1) (fun _ x => x.countMc n 0x05) (put 0)).finish) ∧
    (¬ scrubbing → ∀ e, exec (.patrolScrub m e) s = .next s.finish) ∧
    (scrubbing → at' + 1 < total →
      exec (.patrolScrub m .ok) s = .next (s.modMc n (fun q => { q with scrubAt := at' + 1 })).finish) ∧
    (scrubbing → total ≤ at' + 1 → exec (.patrolScrub m .ok) s =
      .next ((s.modMc n (fun q => { q with scrubAt := 0 })).raise (chanSrc n 2)).finish)

/-- The events of the memory channels. -/
def Obligations.ChannelEvents : Prop := ChannelStates ∧ EccChecks ∧ ControllerRequests ∧ SchedulerEvents

/-! ### Redundancy and debugging -/

/-- Errors of one core (R108, R199-R203): in an Independent trio the context is Faulted, the core is reset and a record is written; in a
pair the error is a Divergence; in a Voted trio a dissent, which names the copy and lets the stream go on, led by core 1 where the
copy is core 0, and beside a dissenter a no majority. The copies that a Divergence or a no majority stops lose what they computed;
their context is Faulted. Errors that a core corrects or gets round are counted, and nothing else comes of them there. -/
def CoreErrors : Prop :=
  ∀ (s : State) (c : CoreId) (e : CoreErr),
    let t := trioOf c.val
    let k := coreIn c.val
    let mode := s.trioMode t
    let fatal := e = .regFile ∨ e = .control
    let sub := if e = .regFile then 1 else 2
    let runs := (s.core (s.leadOf c.val)).run ≠ .held
    let diss := s.rf (rstat t) 5 4
    let pc := s.leadPc t
    let noted := fun (x : State) (ln : Nat) => (x.setRf (rstat t) 20 16 17).setRf (rstat t) 22 21 ln
    let alone := (((s.loseUnits c.val).faultOn c.val true).coreReset c.val).noteContained 4 (s.coreWord c.val)
    let lane := if k = 2 then 1 else 0
    let left := if diss = 0 then 1 else if diss = 1 then 2 else 0
    let led := if k = 0 then s.passLead (coreNo t 0) (coreNo t 1) else s.copyInto t k
    let dissent := (noted (((led.setRf (rstat t) 5 4 k).setRf (rstat t) 6 6 1).setRf (rstat t) 3 2 (if k = 0 then 1 else 0))
      lane).incRf (rcnt t) 31 16
    let stop := fun (n ln : Nat) =>
      let x := (noted s ln).incRf (rcnt t) 15 0
      let x := (x.loseUnits (x.leadCore t)).faultOn (x.leadCore t) true
      forN n (fun i x => (x.coreReset (coreNo t i)).noteContained 4 (x.coreWord (coreNo t i))) x
    let full := fun (x : State) => ((x.setRf (rstat t) 5 4 3).setRf (rstat t) 6 6 0).setRf (rstat t) 3 2 0
    let ends := fun (x : State) =>
      let x := x.modTrio t (fun q => { q with skew := [] })
      Host.Outcome.next (if t = 84 then x.svcTrioError else x.redispatch t).finish
    let out := exec (.coreError c e) s
    ((s.core (s.leadOf c.val)).run = .held → out = .next s.finish) ∧
    (runs → fatal → mode = 0 ∨ (mode = 1 ∧ k = 2) →
      (∀ n, s.occupant t k = some n → out = .next ((alone.coreErrRecord t n sub k (s.core c.val).arch.pc).redispatch t).finish) ∧
      (s.occupant t k = none → out = .next (alone.redispatch t).finish)) ∧
    (runs → fatal → mode = 1 → k < 2 →
      (∀ n, s.occupant t 0 = some n → out = ends ((stop 2 0).stoppedRecord t n 1 17 0 pc)) ∧
      (s.occupant t 0 = none → out = ends ((stop 2 0).degraded t 1 3 17 0 pc))) ∧
    (runs → fatal → mode = 2 → diss = 3 → out = .next (dissent.degraded t 0 k 17 lane (dissent.leadPc t)).finish) ∧
    (runs → fatal → mode = 2 → diss = k → out = .next s.finish) ∧
    (runs → fatal → mode = 2 → diss ≠ 3 → diss ≠ k →
      (∀ n, s.occupant t 0 = some n → out = ends (full ((stop 3 left).stoppedRecord t n 2 17 left pc))) ∧
      (s.occupant t 0 = none → out = ends (full ((stop 3 left).degraded t 2 3 17 left pc)))) ∧
    (runs → e = .regFileSingle ∨ e = .controlSingle → out = .next (s.countCore c.val 0x0F).finish) ∧
    (runs → ¬ fatal → s.throughWelt c.val = false →
      ((s.core c.val).corrected e = none → out = .next s.finish) ∧
      (∀ q, (s.core c.val).corrected e = some q → (∀ i w, e ≠ .tlb2 i w) → out = .next ((s.setCore c.val q).countCore c.val 0x0F).finish) ∧
      (∀ q i w, e = .tlb2 i w → (s.core c.val).corrected e = some q → out = .next (s.setCore c.val q).finish)) ∧
    (∀ i q, (s.core c.val).corrected (.direction i) = some q → q = { s.core c.val with dirTab := SMap.put 1 (s.core c.val).dirTab i.toNat 1 }) ∧
    (∀ l q, (s.core c.val).corrected (.l1d l) = some q → (∀ x, x ∈ q.l1d ↔ x ∈ (s.core c.val).l1d ∧ x.line ≠ l) ∧
      q = { s.core c.val with l1d := q.l1d })

/-- The checking hardware (R212, R213, R215-R217): a fault in it counts an event of the comparison flagged in the same cycle, makes the
trio Independent for good, faults its redundant context, lets each copy keep its state, and sends one record to the partition
manager, Sole and each tenant whose requirement is no longer met; the service trio stays Voted and stops. The self-test passes, or
fails with the same withdrawal; none of this happens in Independent mode, nor when no self-test runs. -/
def CheckingEvents : Prop :=
  ∀ (s : State) (t : TrioId) (src : CfSrc) (other : Option Flagged) (g : Fin 32) (l : Fin 3),
    let n := t.val
    let r := rstat n
    let code := match src with
      | .dualRail => 1
      | .delayReg => 2
      | .laneIncons => 3
      | .selfTest => 4
      | .weltLanes => 5
    let pc := s.leadPc n
    let grp := s.rf r 20 16
    let lane := s.rf r 22 21
    let flagged := match other with
      | some .stop => s.incRf (rcnt n) 15 0
      | some .dissent => if s.trioMode n = 2 ∧ s.rf r 5 4 = 3 then s.incRf (rcnt n) 31 16 else s
      | none => s
    let losers := ((flagged.unmet n).map (fun e => e.2.tid.val)).eraseDups
    let split := (flagged.faultOn (flagged.leadCore n) true).splitCopies n
    let apart := (((((split.setRf r 1 0 0).setRf r 10 10 1).setRf r 15 12 code).setRf r 5 4 3).setRf r 6 6 0).setRf r 3 2 0
    let told := fun (x : State) (tids : List Nat) =>
      (x.emitEvent (256 + n) 0x03 5).record (32 :: tids) 0 (mkRec (recHdr 0x15 5 0 0 0x1FFF 0xFFF 0 false) x.timebase
        [BitVec.ofNat 64 (unitDie n ||| ((x.logOf n).getD 7) <<< 4 ||| unitPhys n <<< 7 ||| 3 <<< 10 ||| grp <<< 12 ||| lane <<< 17 |||
          x.rf r 1 0 <<< 19), x.reg r, pc])
    let notified := losers.foldl (fun (x : State) tid =>
      let note := x.reg ⟨.cxeNote, 0, tid, 0⟩
      if bit note 14 then x.notify tid (fld note 31 20) (fld note 19 15) else x) (told apart losers)
    let arises := s.trioMode n ≠ 0 ∧ (src = .selfTest → s.rf r 6 6 = 1)
    let after := if n = 84 then (told ((flagged.setRf r 10 10 1).setRf r 15 12 code) []).svcTrioError else notified.redispatch n
    let rec' := fun (k : Nat) => 6 * (n / 7) + k
    let failed := ((((((s.setRf r 9 8 3).setRf r 10 10 1).setRf r 15 12 4).setRf r 1 0 0).setRf r 20 16 g.val).setRf r 22 21 l.val).degraded
      n 6 3 g.val l.val 0
    let over' := failed.modTrio n (fun k => { k with modePend := false })
    (¬ arises → exec (.checkerFault t ⟨src, other⟩) s = .next s.finish) ∧
    (arises → after.gce.live = false ∨ (∀ k, after.logOf n = some k → after.withdrawn (rec' k) = false) →
      exec (.checkerFault t ⟨src, other⟩) s = .next after.finish) ∧
    (∀ k, arises → after.gce.live = true → after.logOf n = some k → after.withdrawn (rec' k) = true →
      exec (.checkerFault t ⟨src, other⟩) s = .next (after.loseTrio (rec' k) 4 4 after.nextTick).finish) ∧
    (s.rf r 9 8 ≠ 1 → ∀ f, exec (.selfTestComplete t f) s = .next s.finish) ∧
    (s.rf r 9 8 = 1 → (s.trio n).modePend = false → exec (.selfTestComplete t none) s = .next (s.setRf r 9 8 2).finish) ∧
    (s.rf r 9 8 = 1 → (s.trio n).modePend = true →
      exec (.selfTestComplete t none) s = .next ((s.setRf r 9 8 2).finishMode n).finish) ∧
    (s.rf r 9 8 = 1 → n ≠ 84 → (∀ x ∈ over'.gce.subst, spareOf x.die.val ≠ n) → exec (.selfTestComplete t (some (g, l))) s =
      .next (over'.withdrawNow n).finish) ∧
    (∀ x, s.rf r 9 8 = 1 → n ≠ 84 → over'.gce.subst = [x] → spareOf x.die.val = n → x.cause = .checker →
      exec (.selfTestComplete t (some (g, l))) s =
        .next ((({ over' with gce := { over'.gce with subst := [] } } : State).trioOff n).withdrawNow x.old.val).finish)

/-- Asynchronous inputs (R208-R210): an Independent stream takes one at once; that of a redundant stream waits at the Welt in order until
its delivery, which counts it; one lane outvoted is counted, and no majority is a Checker fault. The event bits and the timebase
pass the Welt with the instruction that takes them. -/
def WeltEvents : Prop :=
  ∀ (s : State) (t : TrioId) (st : Fin 3) (i : WeltIn) (lanes : WeltLanes) (k : IntClass),
    let n := t.val
    let w : RegRef := ⟨.weltStat, n, 0, 0⟩
    let c := s.leadOf (coreNo n st.val)
    let real := s.weltReal c i = true
    let counted := fun (x : State) => (x.setRf w 47 0 (x.rf w 47 0 + 1)).countTrio n 0x07
    let waits := (∀ b, i ≠ .event b) ∧ (∀ v, i ≠ .time v)
    let queue := fun (x : State) => x.modTrio n (fun q => { q with welt := q.welt ++ [(st, i)] })
    let rest := fun (q : List (Fin 3 × WeltIn)) => s.modTrio n (fun x => { x with welt := q })
    let calm := (s.trio (trioOf c)).inj = none
    (¬ real → exec (.weltInput t st i lanes) s = .next s.finish) ∧
    (real → s.throughWelt c = true → waits →
      exec (.weltInput t st i .agree) s = .next (queue s).finish ∧
      exec (.weltInput t st i .oneOut) s = .next (queue (s.incRf w 63 48)).finish) ∧
    (real → s.throughWelt c = true → ¬ waits →
      exec (.weltInput t st i .agree) s = .next s.finish ∧
      exec (.weltInput t st i .oneOut) s = .next (s.incRf w 63 48).finish) ∧
    (real → s.throughWelt c = true → exec (.weltInput t st i .none) s = .next (s.checkerFault n 5 none).finish) ∧
    (s.throughWelt c = false → calm →
      (exec (.weltInput t st .halt lanes) s = .next ((counted s).haltCore ((counted s).leadOf (coreNo n st.val))).finish) ∧
      (s.weltReal c (.interrupt k) = true → exec (.weltInput t st (.interrupt k) lanes) s =
        .next ((counted s).requestAt ((counted s).leadOf (coreNo n st.val)) k).finish)) ∧
    ((s.trio n).welt = [] → exec (.weltDelivery t) s = .next s.finish) ∧
    (∀ q bits, calm → (s.trio n).welt = (st, .event bits) :: q → exec (.weltDelivery t) s = .next (counted (rest q)).finish) ∧
    (∀ q, calm → (s.trio n).welt = (st, .interrupt k) :: q → exec (.weltDelivery t) s =
      .next ((counted (rest q)).requestAt ((counted (rest q)).leadOf (coreNo n st.val)) k).finish) ∧
    (∀ q, calm → (s.trio n).welt = (st, .halt) :: q → exec (.weltDelivery t) s =
      .next ((counted (rest q)).modCore ((counted (rest q)).leadOf (coreNo n st.val)) (fun x => { x with halted := true })).finish)

/-- The actions of the debugger (R219-R221, R310): they need power, the stream's first core and the enable of the core's world. A halt
stops the stream, or waits for W = 0; a register takes a value while halted; a store waits for resumption; a step or a resumption
lets the core go on. Of a redundant stream a halt passes the Welt, and at most 16 actions wait in its queue. -/
def DebugActions : Prop :=
  ∀ (s : State) (c l : CoreId) (n : BitVec 5) (csr : BitVec 12) (va v : Dword) (size : Fin 4), s.leadOf c.val = l.val →
    let x := l.val
    let k := s.core x
    let t := trioOf c.val
    let reached := s.down = false ∧ s.boot.tap = .debugPort
    let copy := s.throughWelt c.val = true ∧ coreIn c.val ≠ 0
    let first := s.powered t = true ∧ ¬ copy
    let may := reached ∧ first ∧ (if k.w then s.dbgEn 2 = true else s.dbgEn 0 = true)
    let all := fun (o : Host.Outcome State Fault Refusal) =>
      exec (.debugRegisterWrite c (.g n) v) s = o ∧ exec (.debugMemoryWrite c va size v) s = o ∧
      exec (.debugSingleStep c) s = o ∧ exec (.debugResume c) s = o
    let refused := fun (b : Byte) => Host.Outcome.next (s.answer (.err b)).finish
    let set := fun (f : Core → Core) => (s.modCore x f).answer (.ok 0)
    let go := fun (one : Bool) => (((s.modCore x (fun q => { q with debugStores := [] })).modCore x (fun q =>
      { q with halted := false, stepOne := one, replay := [] })).answer (.ok 0))
    let asked := s.modCore x (fun q => { q with haltWait := false })
    let solo := s.throughWelt x = false
    let room := solo ∨ k.replay.length + k.debugStores.length < 16
    (¬ reached → all (.next s.finish) ∧ exec (.debugHalt c) s = .next s.finish) ∧
    (reached → s.powered t = false → all (refused 6) ∧ exec (.debugHalt c) s = refused 6) ∧
    (reached → s.powered t = true → copy → all (refused 0) ∧ exec (.debugHalt c) s = refused 0) ∧
    (reached → first → s.dbgEn 0 = false → s.dbgEn 2 = false → all (refused 4) ∧ exec (.debugHalt c) s = refused 4) ∧
    (reached → first → k.w = true → s.dbgEn 0 = true → s.dbgEn 2 = false → all (refused 4) ∧
      exec (.debugHalt c) s = .next (s.modCore x (fun q => { q with haltWait := true })).finish) ∧
    (may → solo → exec (.debugHalt c) s = .next ((asked.modCore x (fun q => { q with halted := true })).answer (.ok 0)).finish) ∧
    (may → ¬ solo → room → exec (.debugHalt c) s =
      .next ((asked.modTrio (trioOf x) (fun q => { q with welt := q.welt ++ [(0, .halt)] })).answer (.ok 0)).finish) ∧
    (may → ¬ room → exec (.debugHalt c) s = .next s.finish ∧ exec (.debugRegisterWrite c (.g n) v) s = .next s.finish ∧
      exec (.debugMemoryWrite c va size v) s = .next s.finish ∧ exec (.debugSingleStep c) s = .next s.finish) ∧
    (may → k.halted = false → exec (.debugRegisterWrite c (.g n) v) s = .next s.finish ∧
      exec (.debugSingleStep c) s = .next s.finish ∧ exec (.debugResume c) s = .next s.finish) ∧
    (may → solo → k.halted = true →
      (n ≠ 0 → exec (.debugRegisterWrite c (.g n) v) s =
        .next (set (fun q => { q with arch := q.arch.wr (gKey q.infast n) v })).finish) ∧
      exec (.debugRegisterWrite c (.g 0) v) s = .next (set (fun q => q)).finish ∧
      exec (.debugRegisterWrite c (.f n) v) s = .next (set (fun q => { q with arch := q.arch.wr (32 + n.toNat) v })).finish ∧
      exec (.debugRegisterWrite c .pc v) s = .next (set (fun q => { q with arch := { q.arch with pc := canonPc v } })).finish ∧
      (csrLevel csr.toNat < 3 → exec (.debugRegisterWrite c (.csr csr) v) s = .next ((s.csrWrite x csr.toNat v).answer (.ok 0)).finish) ∧
      exec (.debugMemoryWrite c va size v) s =
        .next (set (fun q => { q with debugStores := q.debugStores ++ [(va, 2 ^ size.val, v)] })).finish) ∧
    (may → ¬ solo → room → k.halted = true → exec (.debugRegisterWrite c .pc v) s =
      .next (((s.modCore x (fun q => { q with replay := q.replay ++ [(q.arch.posn, .pc, v)] })).modCore x (fun q =>
        { q with arch := { q.arch with pc := canonPc v } })).answer (.ok 0)).finish) ∧
    (may → room → k.halted = false → s.issuing x = true → ∀ u, s.debugStore l va (2 ^ size.val) v = (u, some none) →
      exec (.debugMemoryWrite c va size v) s = .next (u.answer (.ok 0)).finish) ∧
    (may → room → k.halted = true → k.debugStores = [] →
      exec (.debugSingleStep c) s = .next (go true).finish ∧ exec (.debugResume c) s = .next (go false).finish)

/-- Errors of copies, the checking hardware, the Welt and the debugger. -/
def Obligations.RedundancyAndDebug : Prop := CoreErrors ∧ CheckingEvents ∧ WeltEvents ∧ DebugActions

/-! ### Time: ticks, the tick source, seasons, windows and events -/

/-- The Frame Tick Unit (R222, R225, R226, R457): a tick is raised where the timebase satisfies PERIOD and OFFSET, once; while seasons run
a frame's end moves the phase by one unit at most, and a frame is shortened by a unit while the timebase is behind; counters that
disagree are a chip-level error; the state follows the source and its measurements; a second and a PPS edge are signalled and
captured. -/
def FrameTicks : Prop :=
  ∀ (s : State) (err : Int) (ns : BitVec 63),
    let t := s.timebase
    let due := s.period ≠ 0 ∧ (t.toNat + s.period - s.ftu.phase % s.period) % s.period = 0
    let raised := fun (x : State) => (({ x.setRf ftuStatusR 21 16 ((x.timebase.toNat - x.ftu.phase) / x.period % x.frames) with
      ftu := { x.ftu with tickAt := x.timebase, ticks := x.ftu.ticks + 1, ticksB := x.ftu.ticksB + 1, arrived := [], corrected := false }
      power := { x.power with ftickOut := x.power.ftickOut + 1 } }).sendTicks x.timebase).raise 14
    let early := { s with timebase := t + 1, ftu := { s.ftu with slew := s.ftu.slew - 1 } }
    let goes := s.running = true ∧ s.fresh = true ∧ s.ftu.ticks = s.ftu.ticksB
    let phased := fun (x : State) => if x.ftu.phase < x.rf ftuAlignR 19 0 then
        { x with ftu := { x.ftu with phase := x.ftu.phase + 1, corrected := true } }
      else if x.rf ftuAlignR 19 0 < x.ftu.phase then { x with ftu := { x.ftu with phase := x.ftu.phase - 1, corrected := true } }
      else x
    let on := s.rf seasonCtlR 3 3 = 1
    let to' := fun (x : State) (st : Nat) => ((({ x with ftu := { x.ftu with good := 0, bad := 0, first := decide (st = 2) } }).setRf
      ftuStatusR 2 0 st).sysEvent 0x10 [BitVec.ofNat 64 (16 * x.ftuState + st)]).raise 13
    let seen := s.setRf ftuStatusR 63 32 (BitVec.ofInt 32 err).toNat
    let calm := { seen with ftu := { s.ftu with first := false, slew := if on then err.tdiv 10 else 0 } }
    (goes → ¬ on → due → exec .frameTick s = .next (raised s).finish) ∧
    (goes → ¬ on → ¬ due → exec .frameTick s = .next s.finish) ∧
    (goes → on → s.ftu.slew ≤ 0 → due → exec .frameTick s = .next (phased (raised s)).finish) ∧
    (goes → on → s.ftu.slew ≤ 0 → ¬ due → exec .frameTick s = .next s.finish) ∧
    (goes → on → 0 < s.ftu.slew → s.ftu.corrected = false → s.tickDue (t.toNat + 1) = true → t.toNat + 1 < 2 ^ 64 →
      exec .frameTick s = .next (phased (raised early)).finish) ∧
    (s.running = true → s.fresh = true → s.ftu.ticks ≠ s.ftu.ticksB → exec .frameTick s = .next (s.safeState 0x1F 0 false).finish) ∧
    (s.running = false ∨ s.fresh = false → exec .frameTick s = .next s.finish) ∧
    (s.tickSrc = 0 → exec (.phaseMeasurement err) s = .next s.finish ∧ exec .tickSourceLost s = .next s.finish) ∧
    (s.tickSrc ≠ 2 → exec (.ftickInEdge err) s = .next s.finish) ∧
    (s.tickSrc = 2 → 1000 < err.natAbs →
      exec (.ftickInEdge err) s = .next ({ s with ftu := { s.ftu with ignored := s.ftu.ignored + 1 } }).finish) ∧
    (s.tickSrc = 2 → err.natAbs ≤ 1000 → exec (.ftickInEdge err) s = exec (.phaseMeasurement err) s) ∧
    (s.tickSrc ≠ 0 → s.ftuState < 2 → exec (.phaseMeasurement err) s = .next s.finish) ∧
    (s.tickSrc ≠ 0 → s.ftuState = 2 → s.ftu.first = true → ¬ on → 0 ≤ err.tdiv 10 → exec (.phaseMeasurement err) s =
      .next (({ seen with ftu := { s.ftu with first := false } }).stepForward (err.tdiv 10).toNat).finish) ∧
    (s.tickSrc ≠ 0 → s.ftuState = 2 → s.ftu.first = true → ¬ on → err.tdiv 10 < 0 → exec (.phaseMeasurement err) s =
      .next ({ seen with ftu := { s.ftu with first := false, hold := s.ftu.hold + (-(err.tdiv 10)).toNat } }).finish) ∧
    (s.tickSrc ≠ 0 → s.ftuState = 2 → s.ftu.first = false → err.natAbs ≤ 40 → s.ftu.good < 15 → exec (.phaseMeasurement err) s =
      .next ({ calm with ftu := { calm.ftu with good := s.ftu.good + 1 } }).finish) ∧
    (s.tickSrc ≠ 0 → s.ftuState = 2 → s.ftu.first = false → err.natAbs ≤ 40 → 15 ≤ s.ftu.good →
      exec (.phaseMeasurement err) s = .next (to' calm 3).finish) ∧
    (s.tickSrc ≠ 0 → s.ftuState = 2 → s.ftu.first = false → 40 < err.natAbs →
      exec (.phaseMeasurement err) s = .next ({ calm with ftu := { calm.ftu with good := 0 } }).finish) ∧
    (s.tickSrc ≠ 0 → s.ftuState = 3 → 80 < err.natAbs → 3 ≤ s.ftu.bad → exec (.phaseMeasurement err) s = .next (to' calm 2).finish) ∧
    (s.tickSrc ≠ 0 → s.ftuState = 3 → err.natAbs ≤ 80 →
      exec (.phaseMeasurement err) s = .next ({ calm with ftu := { calm.ftu with bad := 0 } }).finish) ∧
    (s.tickSrc ≠ 0 → s.ftuState = 2 → exec .tickSourceLost s = .next (to' s 1).finish) ∧
    (s.tickSrc ≠ 0 → s.ftuState = 3 → exec .tickSourceLost s = .next (to' s (if s.rf ftuAlignR 63 48 = 0 then 1 else 4)).finish) ∧
    (s.tickSrc ≠ 0 → s.ftuState = 4 → ¬ on → 0 ≤ err.tdiv 10 → exec (.phaseMeasurement err) s =
      .next (({ to' seen 2 with ftu := { (to' seen 2).ftu with first := false } }).stepForward (err.tdiv 10).toNat).finish) ∧
    (s.ftuState ≠ 2 → s.ftuState ≠ 3 → exec .tickSourceLost s = .next s.finish) ∧
    (s.ftuState = 4 → exec .holdoverExpiry s = .next (to' s 1).finish) ∧
    (s.ftuState ≠ 4 → exec .holdoverExpiry s = .next s.finish) ∧
    exec (.ppsInEdge ns) s = .next (s.setReg ppsCapR (BitVec.ofNat 64 (2 ^ 63 + ns.toNat))).finish ∧
    (t.toNat % 100000000 = 0 → exec .ppsOutPulse s = .next s.pulse.finish) ∧
    (t.toNat % 100000000 ≠ 0 → exec .ppsOutPulse s = .next s.finish)

/-- A tick at each unit (R228, R229, R240): it arrives once; a controller latches its port counts and reloads every tenant's credit; a
trio checks deadlines, takes its new record, releases its contexts, opens its housekeeping window and decides; the Global Context
Engine activates a season that was sent out, or sends a pending one out. A tick that misses, or comes a second time, resets a trio, or
makes the module safe. -/
def TickArrivals : Prop :=
  ∀ (s : State) (t : TrioId) (m : Chan),
    let n := t.val
    let new := fun (u : TickUnit) => s.ftu.ticks ≠ 0 ∧ s.ftu.arrived.contains u = false
    let again := fun (u : TickUnit) => s.ftu.ticks ≠ 0 ∧ s.ftu.arrived.contains u = true
    let got := fun (u : TickUnit) => { s with ftu := { s.ftu with arrived := s.ftu.arrived ++ [u] } }
    let x := got (.trio t)
    let named := ((x.modTrio n (fun k => { k with tickAt := x.ftu.tickAt })).tickDeadlines n).swapRecord n
    let released := (named.trio n).live.foldl (fun (y : State) e => y.release n e.1) named
    let w := released.windowAt n
    let opened := (((((released.modTrio n (fun k => { k with window := w })).windowEvent n w).digest n).redispatch n).migrateAll n).resync n
    let moded := opened.changeMode n
    let slept := if moded.gce.live && !(moded.trio n).rcd.act then moded.retain n
      else if (moded.trio n).rcd.act && moded.rf (domR n) 3 2 ≠ 1 then moded.unretain n
      else moded
    let served := fun (y : State) =>
      ((y.modTrio svcTrio (fun k => { k with tickAt := y.ftu.tickAt, window := .housekeeping })).digest svcTrio).resync svcTrio
    let c := got (.mc m)
    let latched := (forN 13 (fun p (y : State) => y.setReg ⟨.mcPortbw, 0, m.val, p⟩ (BitVec.ofNat 64
      (SMap.get 0 (c.mc m.val).counts (2 * p + 1) % 2 ^ 32 ||| (SMap.get 0 (c.mc m.val).counts (2 * p) % 2 ^ 32) <<< 32))) c).modMc m.val
      (fun k => { k with counts := [], demoted := false })
    let g := got .gce
    let noted := { g with gce := { g.gce with tick := g.ftu.tickAt } }
    let cut := ((if noted.gce.leanOff then noted.leanWithdraw noted.ftu.tickAt else noted).cutsTakeEffect).spareSteps
    let booted := cut.rf ⟨.bootStat, 0, 0, 0⟩ 39 32 = 0 ∧ cut.safe = false
    let lean := cut.gce.lalt.isSome = true ∧ cut.frame = 0
    let acts := cut.ftu.ticks = cut.gce.actTick ∧ cut.gce.shadowCredits ≠ none
    (s.ftu.ticks = 0 → ∀ u, exec (.tickArrival u) s = .next s.finish) ∧
    (again (.trio t) → n ≠ 84 → exec (.tickArrival (.trio t)) s = .next (if s.dumpable n then s.blockError n else s).finish) ∧
    (again .svc → exec (.tickArrival .svc) s = .next (s.safeState 0x15 0 true).finish) ∧
    (again (.mc m) → exec (.tickArrival (.mc m)) s = .next s.finish) ∧
    (∀ u, u = .pcr ∨ u = .gce → again u → exec (.tickArrival u) s = .next s.finish) ∧
    (n = 84 → exec (.tickArrival (.trio t)) s = exec (.tickArrival .svc) s) ∧
    (new (.mc m) → exec (.tickArrival (.mc m)) s = .next (forN 32 (fun i (y : State) => y.setRf ⟨.mcTstat, 0, m.val, i⟩ 31 0
      (SMap.get 0 latched.creditsNow (12 * i + m.val)).toNat) latched).finish) ∧
    (new (.trio t) → n ≠ 84 → s.dumpable n = true → exec (.tickArrival (.trio t)) s = .next (slept.redispatch n).finish) ∧
    (new (.trio t) → n ≠ 84 → s.dumpable n = false → exec (.tickArrival (.trio t)) s = .next x.finish) ∧
    (new .svc → exec (.tickArrival .svc) s = .next (served (got .svc)).finish) ∧
    (new .pcr → exec (.tickArrival .pcr) s = .next (got .pcr).pcrTick.finish) ∧
    (new .gce → ¬ booted → exec (.tickArrival .gce) s = .next cut.finish) ∧
    (new .gce → booted → lean → exec (.tickArrival .gce) s = .next cut.leanBoundary.finish) ∧
    (new .gce → booted → ¬ lean → acts → exec (.tickArrival .gce) s = .next (cut.activate cut.nextSeason).cutsTakeEffect.finish) ∧
    (new .gce → booted → ¬ lean → ¬ acts → cut.changePending = true → cut.gce.pendFrames = 0 → exec (.tickArrival .gce) s =
      .next (({ cut with gce := { cut.gce with pendFrames := 1, lalt := none } }).sendShadows cut.nextSeason).finish) ∧
    (new .gce → booted → ¬ lean → ¬ acts → cut.changePending = false → exec (.tickArrival .gce) s = .next cut.finish) ∧
    (s.running = false → ∀ u, exec (.tickMissing u) s = .next s.finish) ∧
    (s.running = true → (s.dumpable n = true → exec (.tickMissing (.trio t)) s = .next (s.blockError n).finish) ∧
      (s.dumpable n = false → exec (.tickMissing (.trio t)) s = .next s.finish) ∧
      exec (.tickMissing (.mc m)) s = .next (s.safeState 0x1F 0 false).finish ∧
      exec (.tickMissing .pcr) s = .next s.finish ∧ exec (.tickMissing .gce) s = .next s.finish ∧
      exec (.tickMissing .svc) s = .next (s.safeState 0x15 0 true).finish)

/-- Within a frame (R234, R241, R252, R263, R266, R268, R269, R289): the window in force is the first entry whose time it is, outside the housekeeping
window; a change of it makes the trio decide; an error found in a slot's images then stops its context, and one in the control state is a
trio error. A deadline that passes without FDONE writes one record and no more; a budget that is
spent ends the context's turn as Dormant, with a record. -/
def FrameSchedule : Prop :=
  ∀ (s : State) (t : TrioId) (slot : Fin 64),
    let n := t.val
    let i := slot.val
    let k := s.trio n
    let b := s.slot n i
    let off := (s.timebase - k.tickAt).toNat
    let live := n ≠ 84 ∧ s.gce.live = true ∧ k.rcd.act = true ∧ k.parked = false
    let holds := fun (j : Nat) => let w := k.rcd.win.getD j 0
      wV w = true ∧ s.frame % wEvery w = wPhase w ∧ wStart w ≤ off ∧ off < wStart w + wLen w
    let now := s.windowAt n
    let missed := b.state ≠ .free ∧ b.dlen = true ∧ b.fdone = false ∧ b.late = false ∧ b.deadline ≠ 0 ∧
      (s.frame + 1) % s.frames % (b.pmul + 1) = b.pphase ∧ off = b.deadline
    let spent := b.state = .running ∧ s.remain n i = 0
    (n ≠ 84 → ¬ live → now = .none) ∧
    (n = 84 → now = if s.running = true ∧ 0 < s.ftu.ticks ∧ off < 1000 then .housekeeping else .none) ∧
    (live → off < k.rcd.hk → now = .housekeeping) ∧
    (live → k.rcd.hk ≤ off → (∀ j : Fin 16, holds j.val → (∀ h, h < j.val → ¬ holds h) → now = .entry j) ∧
      ((∀ j, j < 16 → ¬ holds j) → now = .outside)) ∧
    (k.window = now → exec (.windowBoundary ⟨t, none⟩) s = .next s.finish) ∧
    (k.window ≠ now → exec (.windowBoundary ⟨t, none⟩) s =
      .next ((((s.noteDelays n).modTrio n (fun q => { q with window := now })).windowEvent n now).redispatch n).finish) ∧
    ((∀ j, j < 3 → (s.core (coreNo n j)).maint = none) → s.noteDelays n = s) ∧
    exec (.windowBoundary ⟨t, some .control⟩) s = exec (.windowBoundary ⟨t, none⟩) (s.blockError n) ∧
    (b.state = .free → exec (.windowBoundary ⟨t, some (.image slot)⟩) s = exec (.windowBoundary ⟨t, none⟩) s) ∧
    (b.state ≠ .free → b.stream = none → exec (.windowBoundary ⟨t, some (.image slot)⟩) s = exec (.windowBoundary ⟨t, none⟩)
      (((s.modSlot n i (fun q => { q with state := .faulted })).coreErrRecord n i 3 3
        ((s.modSlot n i (fun q => { q with state := .faulted })).slot n i).arch.pc).redispatch n)) ∧
    (∀ st : Fin 3, b.state ≠ .free → b.stream = some st → exec (.windowBoundary ⟨t, some (.image slot)⟩) s = exec (.windowBoundary ⟨t, none⟩)
      (((s.leave n (coreIn (s.streamCore n st.val)) .faulted).coreErrRecord n i 3 st.val
        ((s.leave n (coreIn (s.streamCore n st.val)) .faulted).slot n i).arch.pc).redispatch n)) ∧
    (¬ missed → exec (.frameDeadline t slot) s = .next s.finish) ∧
    (missed → exec (.frameDeadline t slot) s = .next ((((s.ctxRecord n i 0x16 0 0 [s.timebase, BitVec.ofNat 64 (s.consumed n i),
      BitVec.ofNat 64 (s.remain n i)]).modSlot n i (fun q => { q with late := true })).incRf ⟨.cxeTstat, 0, b.tid.val, 0⟩ 15 0)).finish) ∧
    (¬ spent → exec (.budgetExhausted t slot) s = .next s.finish) ∧
    (∀ st : Fin 3, spent → b.stream = some st → exec (.budgetExhausted t slot) s =
      .next (((s.leave n (coreIn (s.streamCore n st.val)) .dormant).budgetRecord n i).redispatch n).finish) ∧
    (b.releasedAt s.frame = true → b.state = .dormant → s.budgetCap b.tid.val b.handle.toNat false = none →
      let u := (s.release n i).slot n i
      u.state = .ready ∧ u.remain = fld (b.desc.getD 2 0) 20 0 ∧ u.used = 0 ∧ u.fdone = false ∧ u.arch = b.arch) ∧
    (b.releasedAt s.frame = false → s.release n i = s)

/-- Events and responses at the slots (R260, R271, R272, R275): an event sets its bit unless the context is not there, or its mask or
another tenant forbids it, which is counted for whoever sent it; it readies a context that waits for it. A detached access
completes in the slot, and a failed one stays there for the context. -/
def SlotEvents : Prop :=
  ∀ (s : State) (f : Flight) (t : TrioId) (slot : Fin 64) (v : Dword) (ev : BitVec 5) (cid : BitVec 13),
    let n := t.val
    let i := slot.val
    let b := s.slot n i
    let went := { s with evg := { s.evg with flight := [] } }
    let mine := s.evg.flight = [f] ∧ f.cid = cid.toNat ∧ f.ev = ev.toNat
    let here := mine ∧ s.holderOf f.cid = some (n, i)
    let stranger := match f.org with
      | .signal tid high => tid ≠ b.tid.val ∧ high = false
      | _ => False
    let lost := fun (masked : Bool) (tid : Nat) => exec (.eventSet cid ev) s = .next (match f.org with
      | .signal q _ => went.incRf ⟨.cxeTstat, 0, q, 0⟩ 63 48
      | .route _ => if masked then went.incRf ⟨.cxeTstat, 0, tid, 0⟩ 47 32 else went.incRf ⟨.evgStat, 0, 0, 0⟩ 47 32
      | .note q => went.incRf ⟨.cxeTstat, 0, q, 0⟩ 47 32).finish
    let set := went.modSlot n i (fun q => { q with events := setBit q.events f.ev true })
    let hit := (setBit b.events f.ev true) &&& b.waitMask
    let woken := set.modSlot n i (fun q => { q with
      events := q.events &&& ~~~hit, waitMask := 0, state := .dormant
      arch := { q.arch with pend := q.arch.pend ++
        [⟨b.arch.posn + 2, if b.waitReg = 0 then none else some b.waitReg, hit.zeroExtend 64, 0, 0, none⟩] } })
    let det := fun (d : DetAcc) => (s.dropRemote b.tid d.acc.pa d.acc.store).modSlot n i
    let ends := b.killQ.isSome = false ∧ s.resetting b.tid.val = false ∧ s.running = true
    ((∀ x ∈ s.evg.flight, x.cid ≠ cid.toNat ∨ x.ev ≠ ev.toNat) → exec (.eventSet cid ev) s = .next s.finish) ∧
    (mine → s.holderOf f.cid = none → lost false 0) ∧
    (here → b.state = .free → lost false 0) ∧
    (here → b.state ≠ .free → stranger ∨ b.evmask f.ev = false → lost true b.tid.val) ∧
    (here → b.state ≠ .free → ¬ stranger → b.evmask f.ev = true → b.state ≠ .waiting ∨ hit = 0 →
      exec (.eventSet cid ev) s = .next set.finish) ∧
    (here → b.state = .waiting → ¬ stranger → b.evmask f.ev = true → hit ≠ 0 → exec (.eventSet cid ev) s =
      .next (if 0 < woken.remain n i then (woken.modSlot n i (fun q => { q with state := .ready, readyAt := woken.timebase })).redispatch n
        else woken).finish) ∧
    (b.det = none ∨ (∃ d, b.det = some d ∧ d.failed = true) → ∀ ok, exec (.detachedResponse t slot ok v) s = .next s.finish) ∧
    (∀ d, b.det = some d → d.failed = false → ends →
      exec (.detachedResponse t slot true v) s =
        .next ((det d (fun q => { q with det := none, arch := detachedDone q.arch d.acc v })).redispatch n).finish ∧
      exec (.detachedResponse t slot false v) s =
        .next ((det d (fun q => { q with det := some { d with failed := true } })).redispatch n).finish)

/-- The end of a season's load (R238, R239, R469): a table outside installed DRAM, or one that cannot be read, fails with code 0x05; the
checks follow in the rule's order, and a table that passes them enters the store; a slot that failed is not valid. -/
def SeasonLoads : Prop :=
  ∀ (s : State) (line slot : Nat), slot < 4 →
    let x := { s with gce := { s.gce with load := none } }
    let ended := fun (y : State) (c r w : Nat) =>
      (((y.setRf seasonStatR 63 56 c).setRf seasonStatR 55 48 r).setRf seasonStatR 47 43 w).setRf seasonStatR 0 0 0
    let failed := fun (y : State) (c r w : Nat) =>
      ((ended y c r w).sysEvent 0x11 [BitVec.ofNat 64 slot, (ended y c r w).reg seasonStatR]).raise 12
    let inDram := x.rangeInstalled (line * 64) (8 * tableDws) = true
    (s.gce.load = none → exec .seasonLoadComplete s = .next s.finish) ∧
    (s.gce.load = some (line, slot) →
      (¬ inDram → exec .seasonLoadComplete s = .next (failed x 0x05 0 0x1F).finish) ∧
      (inDram → exec .seasonLoadComplete s = .next (match x.unitLines (gceRq 0) line (tableDws / 8) with
        | (y, none) => failed y 0x05 0 0x1F
        | (y, some ls) =>
          let dws := ls.flatMap (fun d => (List.range 8).map (lineDw d))
          let crc := crc32 (dwBytes (dws.set 0 (setFld (dws.getD 0 0) 63 32 0)))
          let table := toTable dws
          match y.checkTable table slot (decide (fld (tdw table 0) 63 32 = crc.toNat)) with
          | some (c, r, w) => failed y c r w
          | none => (ended (({ y with gce := { y.gce with store := SMap.put [] y.gce.store slot table } }).setRf seasonCtlR
              (8 + slot) (8 + slot) 1) 0 0 0x1F).raise 12).finish))

/-- Ticks and their source, the tick at each unit, the schedule within a frame, events and responses at the slots, season loads. -/
def Obligations.TimeEvents : Prop := FrameTicks ∧ TickArrivals ∧ FrameSchedule ∧ SlotEvents ∧ SeasonLoads

/-! ### The Global Context Engine -/

/-- A context command (R251, R254, R255, R276-R281, R290): in its queue's turn the entry at the queue's head completes with the first
status of the rule's order that applies, and then nothing else has changed; or it has its effect: CREATE fills a free slot from the descriptor,
Suspended; START makes it Dormant; STOP and KILL take a context from its stream; MODIFY takes the new descriptor; MIGRATE marks it. -/
def ContextCommands : Prop :=
  ∀ (s : State) (q : Fin 33) (e : Dword),
    let op := fld e 7 0
    let tid := if q.val = 32 then fld e 50 46 else q.val
    let h := fld e 31 20
    let cid := fld e 44 32
    let serves := s.cxqTurn q.val = true ∧ (q.val = 32 → s.resetting (fld e 50 46) = false)
    let row := fun (o : Host.Outcome State Fault Refusal) =>
      (op = 1 → exec (.create q e) s = o) ∧ (op = 2 → exec (.start q e) s = o) ∧ (op = 3 → exec (.stop q e) s = o) ∧
      (op = 4 → exec (.kill q e) s = o) ∧ (op = 5 → exec (.modify q e) s = o) ∧ (op = 6 → exec (.migrate q e) s = o)
    let ends := fun (x : State) (status : Nat) (id : Option Nat) (ended : Bool) =>
      Host.Outcome.next ((x.cxqComplete q.val e status id ended).skipBad q 4096).finish
    let refused := fun (x : State) (status : Nat) => ends x status none false
    let badId := 12 ≤ cid / 512 ∨ 6 ≤ cid / 64 % 8
    let off := fun (x : State) (t n : Nat) (dest : CtxState) => match x.coreOf t n with
      | some c => x.leave t (coreIn c) dest
      | none => x
    (¬ serves → row (.next s.finish)) ∧
    (s.gce.turn = q.val → s.cxqWaits q.val = true → s.cxqStopped q.val = false → s.cxqTurn q.val = true) ∧
    (s.cxqWaits q.val = false ∨ s.cxqStopped q.val = true → s.cxqTurn q.val = false) ∧
    (serves → ∀ y o, s.cxqHead q.val = (y, o) → o ≠ some e → row (.next y.finish)) ∧
    (serves → ∀ was, s.cxqHead q.val = (was, some e) →
      let y := { was with gce := { was.gce with turn := (q.val + 1) % 33 } }
      let found := y.findHandle tid h
      (op = 1 → found ≠ none → exec (.create q e) s = refused y 0x08) ∧
      (op = 1 → found = none → badId → exec (.create q e) s = refused y 0x02) ∧
      (op = 1 → found = none → ¬ badId → y.target cid = none → exec (.create q e) s = refused y 0x09) ∧
      (∀ t, op = 1 → found = none → ¬ badId → y.target cid = some t →
        let room := if bit e 45 = true then y.lowFree t else if (y.slot t (cid % 64)).state = .free then some (cid % 64) else none
        (room = none → exec (.create q e) s = refused y 0x05) ∧
        (∀ n, room = some n →
          (∀ u, y.readDesc tid h = (u, none) → exec (.create q e) s = refused u 0x0A) ∧
          (∀ u d, y.readDesc tid h = (u, some d) →
            let id := u.cidOf t n
            let made := u.setSlot t n { state := .suspended, desc := withCid d id, eff := withCid d id, arch := newArch (withCid d id),
                                        fdone := true, handle := BitVec.ofNat 12 h, tid := (BitVec.ofNat 5 tid).toFin }
            (u.checkDesc tid d ≠ 0 → exec (.create q e) s = refused u (u.checkDesc tid d)) ∧
            (u.checkDesc tid d = 0 →
              exec (.create q e) s = ends ((made.resolve tid h id).writeCid tid h id) 0 (some id) false)))) ∧
      (2 ≤ op → op ≤ 6 → found = none → row (refused y 0x03)) ∧
      (∀ t n, found = some (t, n) →
        let b := y.slot t n
        let id := y.cidOf t n
        let held := (off y t n .suspended).modSlot t n (fun k => { k with killQ := some (Fin.ofNat 35 q.val), frame := none, watch := 0 })
        (2 ≤ op → op ≤ 6 → b.killQ.isSome = true → row (refused y 0x04)) ∧
        (b.killQ = none →
          (op = 2 → b.state ≠ .suspended → exec (.start q e) s = refused y 0x04) ∧
          (op = 2 → b.state = .suspended → exec (.start q e) s =
            ends (y.modSlot t n (fun k => { k with state := .dormant, fdone := true, late := true })) 0 (some id) false) ∧
          (op = 3 → b.state = .suspended → exec (.stop q e) s = refused y 0x04) ∧
          (op = 3 → b.state ≠ .suspended → exec (.stop q e) s = ends (y.suspend t n) 0 (some id) false) ∧
          (op = 4 → ((off y t n .suspended).slot t n).outstanding = false →
            exec (.kill q e) s = ends (((off y t n .suspended).freeSlot t n).redispatch t) 0 (some id) false) ∧
          (op = 4 → ((off y t n .suspended).slot t n).outstanding = true → exec (.kill q e) s =
            .next ((held.redispatch t).skipBad q 4096).finish) ∧
          (op = 5 → ∀ u, y.readDesc tid h = (u, none) → exec (.modify q e) s = refused u 0x0A) ∧
          (op = 5 → ∀ u d, y.readDesc tid h = (u, some d) →
            (u.checkDesc tid d ≠ 0 → exec (.modify q e) s = refused u (u.checkDesc tid d)) ∧
            (u.checkDesc tid d = 0 →
              exec (.modify q e) s = ends (u.modify t n d).1 0 (some (u.cidOf t n)) (u.modify t n d).2)) ∧
          (op = 6 → b.mig ≠ none → exec (.migrate q e) s = refused y 0x0C) ∧
          (op = 6 → b.mig = none → badId → exec (.migrate q e) s = refused y 0x02) ∧
          (op = 6 → b.mig = none → ¬ badId → y.target cid = none → exec (.migrate q e) s = refused y 0x09) ∧
          (op = 6 → b.mig = none → ¬ badId → y.target cid ≠ none →
            let marked := y.modSlot t n (fun k => { k with mig := some (Fin.ofNat 12 (cid / 512), Fin.ofNat 6 (cid / 64 % 8)) })
            let moved := ((off marked t n .ready).migrateAll t).redispatch t
            (y.running = true → exec (.migrate q e) s =
              ends marked 0 ((marked.findHandle tid h).map (fun p => marked.cidOf p.1 p.2)) false) ∧
            (y.running = false → exec (.migrate q e) s =
              ends moved 0 ((moved.findHandle tid h).map (fun p => moved.cidOf p.1 p.2)) false)))))

/-- What CREATE and MODIFY demand of a descriptor, and what a new context starts with (R254, R255). -/
def NewContexts : Prop :=
  ∀ (s : State) (tid : Nat) (d : List Dword),
    let redun := fld (d.getD 0 0) 28 27
    let budget := fld (d.getD 2 0) 20 0
    let pmul := fld (d.getD 2 0) 26 21
    let named := bit (d.getD 0 0) 63 = true ∧ fld (d.getD 0 0) 62 58 = tid
    let formed := redun ≠ 3 ∧ 1 ≤ budget ∧ budget ≤ 1048576 ∧ s.frames % (pmul + 1) = 0 ∧ fld (d.getD 2 0) 32 27 ≤ pmul ∧
      fld (d.getD 2 0) 52 33 < s.period ∧ fld (d.getD 4 0) 1 0 = 0 ∧ fld (d.getD 7 0) 11 0 = 0 ∧ fld (d.getD 8 0) 11 0 = 0 ∧
      (tid = 0 → fld (d.getD 0 0) 57 46 ≠ 0xFFF)
    let strong := (s.classOf tid = 0 → 2 ≤ redun) ∧ (s.classOf tid = 1 → 1 ≤ redun)
    let a := newArch d
    (¬ named → s.checkDesc tid d = 0x0B) ∧
    (named → ¬ formed → s.checkDesc tid d = 0x07) ∧
    (named → formed → ¬ strong → s.checkDesc tid d = 0x06) ∧
    (named → formed → strong → s.checkDesc tid d = 0) ∧
    a.pc = canonPc (d.getD 4 0) ∧ a.rd 30 = d.getD 5 0 ∧ a.rd 10 = d.getD 6 0 ∧ a.pend = [] ∧
    (∀ r, r ≠ 30 → r ≠ 10 → a.rd r = 0) ∧
    fld (SMap.get 0 a.csr 0x100) 4 3 = fld (d.getD 0 0) 22 22 ∧ fld (SMap.get 0 a.csr 0x100) 0 0 = fld (d.getD 0 0) 21 21 ∧
    fld (SMap.get 0 a.csr 0x100) 1 1 = fld (d.getD 0 0) 20 20 ∧
    (SMap.get 0 a.csr 0x106).toNat = fld (d.getD 7 0) 47 12 * 4096 ∧ (SMap.get 0 a.csr 0x116).toNat = fld (d.getD 8 0) 47 12 * 4096

/-- Spares and losses (R20, R287, R243, R468): a substitution begins for a trio that has failed or whose redundancy is withdrawn while the
die's spare is ready: the spare is powered and tested; once its copy has ended it takes its last step at the tick, or at once with
no ticks. A trio with no spare left is lost: its map shows none behind it, and the loss is resolved. A retired trio whose store is
empty is powered off. -/
def SpareEvents : Prop :=
  ∀ (s : State) (d : DieId) (k : Fin 6) (t : TrioId) (cause : SubstCause) (x : Subst),
    let t6 := 7 * d.val + 6
    let behind := s.physOf d.val k.val = some t.val
    let due := match cause with
      | .checker => s.rf (rstat t.val) 10 10 = 1
      | .block => s.failed t.val = true
      | .retire => True
    let ready := s.spareReady d.val (decide (cause = .checker)) = true
    let tested := (s.trioOn t6).setRf (rstat t6) 9 8 1
    let mapped := { x with copied := true }
    let told := { s with gce := { s.gce with subst := [mapped] } }
    let copying := s.gce.subst = [x] ∧ x.die = d ∧ x.copied = false
    let lost := (s.failed t.val = true ∨ s.dieState d.val ≠ 2) ∧ s.spareReady d.val false = false ∧
      ∀ y ∈ s.gce.subst, ¬ (y.die = d ∧ y.log = k)
    let gone := if s.dieState d.val = 2 then
        ((s.remap d.val k.val t.val 7).modTrio t.val (fun q => { q with wasLog := some (Fin.ofNat 6 k.val) })).holdTrio t.val
      else s
    (s.physOf d.val k.val = none → exec (.spareSubstitution d k cause) s = .next s.finish ∧ exec (.trioLost d k) s = .next s.finish) ∧
    (behind → ¬ (due ∧ ready) → exec (.spareSubstitution d k cause) s = .next s.finish) ∧
    (behind → due → ready → exec (.spareSubstitution d k cause) s =
      .next ({ tested with gce := { tested.gce with subst := tested.gce.subst ++ [(⟨d, k, t, cause, false⟩ : Subst)] } }).finish) ∧
    ((∀ y ∈ s.gce.subst, y.die ≠ d ∨ y.copied = true) → exec (.spareCopyComplete d) s = .next s.finish) ∧
    (copying → s.rf (rstat t6) 9 8 = 1 → exec (.spareCopyComplete d) s = .next s.finish) ∧
    (copying → s.rf (rstat t6) 9 8 ≠ 1 → s.running = true → exec (.spareCopyComplete d) s = .next told.finish) ∧
    (copying → s.rf (rstat t6) 9 8 ≠ 1 → s.running = false → exec (.spareCopyComplete d) s = .next (told.spareFinal mapped).finish) ∧
    (behind → ¬ lost → exec (.trioLost d k) s = .next s.finish) ∧
    (behind → lost → gone.gce.live = false → exec (.trioLost d k) s = .next gone.finish) ∧
    (behind → lost → gone.gce.live = true →
      exec (.trioLost d k) s = .next (gone.loseTrio (6 * d.val + k.val) 0 0 gone.nextTick).finish) ∧
    (t.val < 84 → bit (s.reg ⟨.trioMap, 0, t.val / 7, 0⟩) (24 + t.val % 7) = true → (s.trio t.val).live = [] → s.powered t.val = true →
      exec (.trioPowerOffRetired t) s = .next (s.trioOff t.val).finish) ∧
    (bit (s.reg ⟨.trioMap, 0, t.val / 7, 0⟩) (24 + t.val % 7) = false ∨ (s.trio t.val).live ≠ [] ∨ s.powered t.val = false ∨ t.val = 84 →
      exec (.trioPowerOffRetired t) s = .next s.finish)

/-- The Global Context Engine's commands, and the trios that come and go. -/
def Obligations.ContextEngine : Prop := ContextCommands ∧ NewContexts ∧ SpareEvents

/-! ### Queue DMA, security and event sources -/

/-- Queue DMA (R297-R299): the descriptor at HEAD, when it is the one that the command spells, is carried out in ascending address order
and completes with its status and the bytes written; ZERO writes zeros, FILL repeats a doubleword, COPY moves the source's bytes.
Anything else at HEAD leaves the queue as it is. -/
def QueueDma : Prop :=
  ∀ (s : State) (t : Tid) (dw0 src dst : Dword) (len : BitVec 24),
    let n := t.val
    let l := len.toNat
    let op := fld dw0 7 0
    let y := s.qLook n
    let row := fun (o : Host.Outcome State Fault Refusal) => (op = 1 → exec (.copy t dw0 len src dst) s = o) ∧
      (op = 2 → exec (.fill t dw0 len src dst) s = o) ∧ (op = 3 → exec (.zero t dw0 len src dst) s = o)
    let spells := fun (d : List Dword) => d.getD 0 0 = dw0 ∧ fld (d.getD 1 0) 23 0 = l ∧ d.getD 2 0 = src ∧ d.getD 3 0 = dst
    (∀ u, y.qHead n = (u, none) → row (.next u.finish)) ∧
    (∀ u d, y.qHead n = (u, some d) → ¬ spells d → row (.next u.finish)) ∧
    (∀ u d a p w, y.qHead n = (u, some d) → spells d → 1 ≤ l → u.engXlate (u.qEng n) .store dst = (a, .ok p) → l ≤ a.qStep p.pa →
      (op = 3 → a.qWritePa (u.qEng n) p.pa (List.replicate l 0) = (w, .ok ()) →
        exec (.zero t dw0 len src dst) s = .next ((w.qDone n d 0 l).qLook n).finish) ∧
      (op = 2 → a.qWritePa (u.qEng n) p.pa (fillBytes src 0 l) = (w, .ok ()) →
        exec (.fill t dw0 len src dst) s = .next ((w.qDone n d 0 l).qLook n).finish) ∧
      (∀ b bs, op = 1 → a.qGather (u.qEng n) src l (l + 1) = (b, bs, .ok ()) → bs ≠ [] →
        b.qWritePa (u.qEng n) p.pa bs = (w, .ok ()) →
        exec (.copy t dw0 len src dst) s = .next ((w.qDone n d 0 l).qLook n).finish) ∧
      (∀ x, op = 3 → a.qWritePa (u.qEng n) p.pa (List.replicate l 0) = (w, .fail x) →
        exec (.zero t dw0 len src dst) s = .next ((w.qDone n d x 0).qLook n).finish)) ∧
    (∀ u d a x, y.qHead n = (u, some d) → spells d → 1 ≤ l → u.engXlate (u.qEng n) .store dst = (a, .trap x) →
      row (.next ((a.qDone n d (dmaStatus x) 0).qLook n).finish)) ∧
    (∀ off i, i < 8 → (fillBytes src (8 * off) 8)[i]? = some ((src >>> (8 * i)).truncate 8))

/-- The Sealed monitor's start and the debug exchange (R307, R311): a start sets SVC, and ends a restart with its record and source; a
verified response sets the enables asked for, another counts and at the eighth locks the exchange, and each is recorded. -/
def SecurityEvents : Prop :=
  ∀ (s : State),
    let sec := secStatReg
    let v := verdict (s.regBytes .dbgChal 48) s.sec.dbgResp
    let bare := { s with sec := { s.sec with dbgResp := [] } }
    let told := fun (x : State) => (x.sysEvent 0x18 [x.reg dbgAuthR]).finish
    let fails := min 8 (s.rf dbgAuthR 15 12 + 1)
    (s.down = true ∨ s.rf sec 0 0 = 1 → exec .sealedRestartComplete s = .next s.finish) ∧
    (s.down = false → s.rf sec 0 0 = 0 → s.rf sec 1 1 = 1 → exec .sealedRestartComplete s =
      .next ((((s.setRf sec 1 1 0).setRf sec 0 0 1).sysEvent 0x17 [1, 0]).raise 16).finish) ∧
    (s.down = false → s.rf sec 0 0 = 0 → s.rf sec 1 1 = 0 → s.sec.started = false → exec .sealedRestartComplete s =
      .next (({ s with sec := { s.sec with started := true } }).setRf sec 0 0 1).finish) ∧
    (s.rf dbgAuthR 7 4 ≠ 2 → exec .debugVerifyComplete s = .next s.finish) ∧
    (s.rf dbgAuthR 7 4 = 2 → exec .debugVerifyComplete s = .next (told (match v with
      | .ok g => (bare.setReg dbgEnR (s.reg dbgEnR ||| BitVec.ofNat 64 g)).setRf dbgAuthR 7 4 3
      | .error e => (bare.setRf dbgAuthR 15 12 fails).setRf dbgAuthR 7 4 (if fails = 8 then 6 else e)))) ∧
    (∀ chal resp g, verdict chal resp ≠ .ok g ∨ (g < 16 ∧ g = ofBytes (resp.take 4) ∧
      Config.ecdsaOk ((resp.drop 4).take 97) (chal ++ resp.take 4) ((resp.drop 104).take 96) = true))

/-- Event sources (R312-R314, R321, R322, R324), with no other input and no line asserted: an edge is lost while E is 0, held while the
group's enable is 0, and otherwise sets P, or posts the event of a route to a context; a level line is sampled while it stands. -/
def SourceEvents : Prop :=
  ∀ (s : State) (n : BitVec 11) (g : Fin 64), s.refusals = [] → s.evg.raised = [] → s.evg.line = [] →
    let k := n.toNat
    let stat : RegRef := ⟨.evgStat, 0, 0, 0⟩
    let up := { s with evg := { s.evg with line := SMap.put 0 [] (k / 32) (setBit 0 (k % 32) true) } }
    let held := { s with evg := { s.evg with latch := setGrpBit s.evg.latch k true } }
    let edge := exec (.sourceInput n true) s
    let plain := neverPends k = false ∧ s.cutOff k = false ∧ levelSource k = false
    (neverPends k = true ∨ s.cutOff k = true → ∀ on, exec (.sourceInput n on) s = .next s.finish) ∧
    (plain → exec (.sourceInput n false) s = .next s.finish) ∧
    (plain → s.evE k = false → edge = .next s.dropRequests) ∧
    (plain → s.evE k = true → s.evGen k = false → edge = .next held.dropRequests) ∧
    (plain → s.evE k = true → s.evGen k = true → s.rf (routeR k) 63 62 ≠ 2 → 8 ≤ k →
      edge = .next (s.setRf (pendR (k / 32)) (k % 32) (k % 32) 1).dropRequests) ∧
    (plain → s.evE k = true → s.evGen k = true → s.rf (routeR k) 63 62 = 2 →
      edge = .next (s.postRoute k).dropRequests) ∧
    (neverPends k = false → s.cutOff k = false → levelSource k = true → edge = .next (up.sample k).dropRequests) ∧
    (s.rf (gctlR g.val) 31 16 = 1 → exec (.holdOffExpiry g) s = .next (s.setRf (gctlR g.val) 31 16 0).finish) ∧
    (s.rf (gctlR g.val) 31 16 ≠ 1 → exec (.holdOffExpiry g) s = .next s.finish) ∧
    exec (.evgCopyError false) s = .next (s.incRf stat 31 16).finish ∧
    exec (.evgCopyError true) s = .next (s.safeState 0x1F 0 false).finish

/-- Queue DMA, the Sealed monitor, the debug exchange, and the event sources. -/
def Obligations.ServiceEvents : Prop := QueueDma ∧ SecurityEvents ∧ SourceEvents

/-! ### Lace and Sole -/

/-- Trace packets on their way to the sink (R379-R381, R387, R392): a store to a trace page becomes a packet of its channel while the
source traces; a node takes a packet in its queue of 120, or discards the one of the lowest priority and counts it; a loss becomes a
LOST packet, which goes before the next packet of its source; the sink packs what the root funnel gives it into lines. -/
def TraceEvents : Prop :=
  ∀ (s : State) (c : CoreId) (t : Tid) (k : Fin 512) (v : Dword) (p : Packet) (n : FunnelNode),
    let page : RegRef := ⟨.swtPage, 0, t.val, k.val⟩
    let m := nodeNo n
    let src := pktSrc p
    let plain := pktType p ≠ 0x0E
    let started := s.lace.out = [p] ∧ homeNode src = m ∧ plain
    let left := { s with lace := { s.lace with out := [] } }
    let q := s.nodeQ m
    let pick := s.dropPick (q ++ [p])
    let room := s.keptRoom m p = true
    let lost := mkPkt src 0x0E (fld p.hdr 31 0) []
    let sink := s.rf laceSinkR 0 0 = 1
    let dws := p.hdr :: p.dws
    let space := (s.sinkSize - s.rf laceWptrR 34 0) / 8 - s.lace.partialLine.length
    let head := s.nodeQ 12 = [p] ∧ plain ∧ s.nodeKept 12 = [] ∧ s.lace.lost = []
    let taken := s.setNodeQ 12 []
    (Accepted s (.core c) page v → s.tracing (416 + t.val) = true → exec (.softwareTraceStore c t (BitVec.ofNat 12 (8 * k.val)) v) s =
      wrote (s.emit (mkPkt (416 + t.val) 0x0B (k.val <<< 39 ||| s.cidOn (s.leadOf c.val)) [v]))) ∧
    (Accepted s (.core c) page v → s.tracing (416 + t.val) = false →
      exec (.softwareTraceStore c t (BitVec.ofNat 12 (8 * k.val)) v) s = wrote s) ∧
    (started → m ≠ 12 ∨ sink → q.length < 120 → exec (.funnelPacket n p) s = .next (left.setNodeQ m (q ++ [p])).finish) ∧
    (started → m ≠ 12 ∨ sink → 120 ≤ q.length → ∀ d, (q ++ [p])[pick]? = some d →
      exec (.funnelPacket n p) s = .next ((left.setNodeQ m ((q ++ [p]).eraseIdx pick)).losePacket m d).finish) ∧
    (started → m = 12 → ¬ sink → exec (.funnelPacket n p) s = .next (left.losePacket 12 p).finish) ∧
    (m ≠ 12 → p ∉ s.lace.out → exec (.funnelPacket n p) s = .next s.finish) ∧
    ((∀ e ∈ s.lace.lost, e.1 ≠ m) → exec (.lostPacketEmit n) s = .next s.finish) ∧
    (∀ count, s.lace.lost = [(m, src, count)] → s.nodeKept m = [] → src < 512 → count < 2 ^ 32 → exec (.lostPacketEmit n) s =
      .next (({ s with lace := { s.lace with lost := [] } }).setNodeKept m [mkPkt src 0x0E count []]).finish) ∧
    (¬ room → exec (.funnelPacket n p) s = .next s.finish) ∧
    (¬ sink → exec (.sinkPacket p) s = .next s.finish) ∧
    (sink → head → s.lace.full = false → dws.length ≤ space →
      exec (.sinkPacket p) s = .next (dws.foldl State.sinkDw taken).finish) ∧
    (sink → head → s.lace.full = true → exec (.sinkPacket p) s = .next (taken.incRf ⟨.laceStat, 0, 0, 0⟩ 63 32).finish) ∧
    (sink → s.nodeQ 12 = [p] → plain → s.nodeKept 12 = [lost] → src < 512 → exec (.sinkPacket p) s = .next s.finish) ∧
    (s.lace.dumping = true → exec .pcrDumpComplete s =
      .next (((({ s with lace := { s.lace with dumping := false } }).incRf pcrStatR 63 32)).raise (32 * 27)).finish) ∧
    (s.lace.dumping = false → exec .pcrDumpComplete s = .next s.finish)

/-- Sole's own work (R419, R420, R422, R423, R425-R427): staging drains in order, and a line that fails three times is replaced; a
link that is open closes with its tag; a snapshot leaves its buffer for the next slot; a commit writes the snapshot, closes
every link and writes the configuration image; an hour, and the end of a refresh pass, are counted; a dead die takes nothing; a copy
ends with its status. -/
def SoleEvents : Prop :=
  ∀ (s : State) (good : Bool) (area : Fin 35) (bad : List Nat) (t : Tid) (w : Bool) (r : List Dword),
    let a := area.val
    let k := s.area a
    let dead := s.rf soleStatR 3 3 = 1
    let out := fun (x : State) => ({ x with sole := { x.sole with staging := [], failed := 0 } }).soleWrite a r
    let staged := s.sole.staging = [(a, r)]
    let ctr := s.sec.sealCounter
    let tag := Config.soleMac (ctr :: k.prevTag.1 :: k.prevTag.2 :: k.link.flatten)
    let closed := (({ s with sec := { s.sec with sealCounter := ctr + 1 } }).solePut a (mkRec (recHdr 0 0 15 (areaTid a) 0x1FFF 0xFFF 0 false)
      s.timebase [ctr, BitVec.ofNat 64 k.link.length, tag.1, tag.2, k.prevTag.1, k.prevTag.2])).modArea a (fun x =>
        { x with link := [], prevTag := tag })
    let hour := (s.incRf lifeModR 63 32).commitStart
    let freed := { s with power := { s.power with snapBuf := none } }
    let linked := forN 34 (fun i x => x.soleClose i) s.snapWrite
    let passed := ({ s with sole := { s.sole with lastRefresh := s.rf lifeModR 63 32 } }).setRf soleStatR 1 1 0
    let closes := fun (x : State) (st : Nat) => ((({ x with sole := { x.sole with reads := [] } }).setRf (soleCtl t.val) 11 8 st).setRf
      (soleCtl t.val) 1 1 0)
    (dead ∨ s.sole.staging = [] → exec (.soleStagingDrain good) s = .next s.finish) ∧
    (¬ dead → staged → ((out s).area 0).supp = 0 → exec (.soleStagingDrain true) s = .next (out s).finish) ∧
    (¬ dead → staged → s.sole.failed < 2 → exec (.soleStagingDrain false) s =
      .next ({ s with sole := { s.sole with failed := s.sole.failed + 1 } }).finish) ∧
    (¬ dead → staged → 2 ≤ s.sole.failed → ∀ x, s.badLine (recKey a k.next) = (x, true) → x.sole.staging = s.sole.staging →
      ((out x).area 0).supp = 0 → exec (.soleStagingDrain false) s = .next (out x).finish) ∧
    (k.link = [] → exec (.linkCloseTimeout area) s = .next s.finish) ∧
    (k.link ≠ [] → exec (.linkCloseTimeout area) s = .next closed.finish) ∧
    (s.rf soleStatR 0 0 = 1 → exec .commitComplete s = .next (linked.cfgWrite.setRf soleStatR 0 0 0).finish) ∧
    (s.rf soleStatR 0 0 = 0 → exec .commitComplete s = .next s.finish) ∧
    (s.sole.lastRefresh + 7300 ≤ hour.rf lifeModR 63 32 → hour.sole.lastRefresh = s.sole.lastRefresh → hour.rf soleStatR 3 3 = 0 →
      exec .hourlyCommit s = .next (hour.setRf soleStatR 1 1 1).finish) ∧
    (hour.rf lifeModR 63 32 < s.sole.lastRefresh + 7300 → hour.sole.lastRefresh = s.sole.lastRefresh →
      exec .hourlyCommit s = .next hour.finish) ∧
    (s.rf soleStatR 1 1 = 0 → exec (.refreshPassComplete bad) s = .next s.finish) ∧
    (s.rf soleStatR 1 1 = 1 → exec (.refreshPassComplete []) s =
      .next (passed.sysEvent 0x1B [BitVec.ofNat 64 (passed.rf soleStatR 31 16)]).finish) ∧
    exec .soleDead s = .next (s.setRf soleStatR 3 3 1).finish ∧
    (s.power.snapBuf = none → exec .snapshotCaptureComplete s = .next s.finish) ∧
    (∀ reason, s.power.snapBuf = some reason → exec .snapshotCaptureComplete s = .next
      (if freed.rf soleStatR 3 3 = 1 then freed
        else (snapList.map (s.snapRec reason.toNat)).foldl (fun x q => x.soleWrite 32 q) freed).finish) ∧
    (s.sole.reads = [] → exec (.soleReadComplete t) s = .next s.finish) ∧
    (s.sole.reads = [(t.val, w)] → ∀ x st, s.soleCopy t.val w 0 (s.rf (soleA t.val) 46 32) = (x, some st) →
      x.sole.reads = s.sole.reads → exec (.soleReadComplete t) s = .next (closes x st).finish)

/-- The trace funnel, the sink and the counter dump; Sole's staging, links, commits, refresh and read engines. -/
def Obligations.TraceAndSole : Prop := TraceEvents ∧ SoleEvents

/-! ### Power, resets and life -/

/-- Samples of VIN (R398, R399): a level is crossed at the second consecutive sample beyond it; the monitor then takes the state that
the table names, with the line, the record and the snapshot of that step, and VMIN follows the lowest sample of a dip. At 28.0 V and
90 V everything is shut down, Sole commits and the module is held in power-on reset. -/
def SupplySamples : Prop :=
  ∀ (s : State) (cv : BitVec 16),
    let v := cv.toNat
    let vin := BitVec.ofNat 64 v
    let last := s.rf supStatR 63 48
    let st := s.supState
    let sampled := s.setRf supStatR 63 48 v
    let met := (((((sampled.beyondNow 0 (decide (v < 3300))).beyondNow 1 (decide (3500 < v))).beyondNow 2 (decide (7800 < v))).beyondNow 3
      (decide (v < 7600))).beyondNow 4 (decide (v ≤ 2800))).beyondNow 5 (decide (9000 ≤ v))
    let x := if st = 1 ∨ st = 2 then met.setRf supStatR 47 32 (min v (met.rf supStatR 47 32)) else met
    let second := fun (level : Nat) => 1 ≤ SMap.get 0 s.power.beyond level
    let high := 9000 ≤ v ∧ second 5
    let low := v ≤ 2800 ∧ second 4
    let live := s.power.supplyReset = false
    let calm := live ∧ ¬ high ∧ ¬ low
    let below := v < 3300 ∧ second 0
    let lost := fun (o : Bool) =>
      let y := (((x.snapWrite.sysEvent 0x03 [vin, BitVec.ofNat 64 o.toNat]).shutDown).noteOff.drainAll 512).commitEnd
      let z := { y with power := { y.power with supplyReset := true, standby := false, overVolt := o, pwrGood := false } }
      (z.blank 0).setRf supStatR 63 48 (z.rf supStatR 63 48)
    let captured := ((x.setRf supStatR 2 0 1).setRf supStatR 47 32 (min v last)).snapshot 1
    let dip := { captured with power := { captured.power with dipStart := captured.timebase, warnings := 1 } }
    let again := { x with power := { x.power with warnings := x.power.warnings + 1 } }
    (s.power.supplyReset = true → exec (.supplySample cv) s = .next sampled.finish) ∧
    (live → high → exec (.supplySample cv) s = .next (lost true).finish) ∧
    (live → ¬ high → low → exec (.supplySample cv) s = .next (lost false).finish) ∧
    (calm → st = 0 → below → exec (.supplySample cv) s =
      .next (((dip.sysEvent 0x01 [vin, BitVec.ofNat 64 dip.snapSlot]).setLine 0 true).govern).finish) ∧
    (calm → st = 0 → 7800 < v → second 2 → exec (.supplySample cv) s =
      .next (((x.setRf supStatR 2 0 3).sysEvent 0x04 [vin]).setLine 2 true).finish) ∧
    (calm → st = 3 → v < 7600 → second 3 → exec (.supplySample cv) s = .next ((x.setRf supStatR 2 0 0).setLine 2 false).finish) ∧
    (calm → st = 1 → 3500 < v → second 1 → exec (.supplySample cv) s = .next ((x.setRf supStatR 2 0 2).setLine 0 false).finish) ∧
    (calm → st = 2 → below → exec (.supplySample cv) s = .next ((again.setRf supStatR 2 0 1).setLine 0 true).finish) ∧
    (calm → (st = 0 ∨ st = 2 → ¬ below) → (st = 0 → ¬ (7800 < v ∧ second 2)) → (st = 3 → ¬ (v < 7600 ∧ second 3)) →
      (st = 1 → ¬ (3500 < v ∧ second 1)) → exec (.supplySample cv) s = .next x.finish)

/-- The end of a dip and the governor (R399, R401, R402, R243, R245): a dip survived is counted, recorded with VMIN, its duration and
its Warning entries, and raises source 1; Lean in force sets the season's LEANPT, parks trios, sends LALT's season ahead and raises
source 4; Run restored sets POINT, withdraws the cuts and raises source 5. -/
def GovernorEvents : Prop :=
  ∀ s : State,
    let ended := (s.setRf supStatR 2 0 0).incRf supStatR 31 16
    let ns := (s.timebase - s.power.dipStart).toNat * 10
    let lean := { s with power := { s.power with lean := true, leanPend := false } }
    let cut := if s.gce.live then (lean.setPoint lean.leanPoint).leanPark 2 s.timebase else lean
    let head := cut.seasonDw cut.active 1
    let arms := cut.gce.live = true ∧ bit head 32 = true ∧ cut.changePending = false
    let armed := { cut with gce := { cut.gce with lalt := some (fld head 31 30) } }
    let run := { s with power := { s.power with lean := false, runPend := false } }
    let back := if s.gce.live then run.setPoint (run.seasonPoint run.active) else run
    let plain := if back.gce.lalt.isSome then ({ back with gce := { back.gce with lalt := none } }).dropShadows else back
    (s.supState = 2 → 3500 < s.rf supStatR 63 48 → exec .recoveryTimer s =
      .next (((ended.sysEvent 0x02 [BitVec.ofNat 64 (ended.rf supStatR 47 32), BitVec.ofNat 64 ns,
        BitVec.ofNat 64 s.power.warnings]).raise 1).govern).finish) ∧
    (s.supState ≠ 2 ∨ s.rf supStatR 63 48 ≤ 3500 → exec .recoveryTimer s = .next s.finish) ∧
    (s.power.leanPend = false → exec .leanInForce s = .next s.finish) ∧
    (s.power.leanPend = true → ¬ arms → exec .leanInForce s = .next (cut.raise 4).finish) ∧
    (s.power.leanPend = true → arms → armed.leanSeason = none → exec .leanInForce s = .next (armed.raise 4).finish) ∧
    (s.power.leanPend = true → arms → ∀ sl, armed.leanSeason = some sl →
      exec .leanInForce s = .next ((armed.sendShadows sl).raise 4).finish) ∧
    (s.power.runPend = false ∨ s.power.leanPend = true → exec .runRestored s = .next s.finish) ∧
    (s.power.runPend = true → s.power.leanPend = false → plain.running = true →
      exec .runRestored s = .next (({ plain with gce := { plain.gce with leanOff := plain.gce.lean } }).raise 5).finish) ∧
    (s.power.runPend = true → s.power.leanPend = false → plain.running = false →
      exec .runRestored s = .next ((plain.leanWithdraw plain.timebase).raise 5).finish)

/-- Temperatures and service life (R403, R414, R415): THERM_N and source 3 follow the hottest sensor, from TWARN and to 5 °C below it; at
125 °C a compute die goes offline with cause 5 and the I/O die is a chip-level error; a descent of 40 °C is a cycle; the accumulator
adds its weight each powered second and ends at 292,000 hours; a margin below its limit pends once. -/
def LifeEvents : Prop :=
  ∀ (s : State) (d : Fin 13) (tj : Int) (t : Fin 84) (ps : BitVec 16),
    let base := State.setRf { s with power := { s.power with hotDies := SMap.put (-274) s.power.hotDies d.val tj } }
      (lifeEmR d.val) 23 16 (min 255 (tj + 64).toNat)
    let met := fun (hot : Int) =>
      let w : Int := s.rf govR 23 16
      let on := if s.power.therm then decide (w - 5 < hot) else decide (w ≤ hot)
      let y := if on = s.power.therm then base else (State.setLine { base with power := { base.power with therm := on } } 3 on).govern
      let peak := max y.power.tjPeak hot
      if 40 ≤ peak - hot then
        let z := y.incRf lifeModR 31 16
        { z with power := { z.power with tjPeak := hot } }
      else { y with power := { y.power with tjPeak := peak } }
    let r := lifeEmR d.val
    let unit := 225 * 2 ^ 32
    let sum := SMap.get 0 s.power.eqFrac d.val + emWeight (s.rf r 23 16)
    let hours := min (2 ^ 40 - 1) (s.rf r 63 24 + sum / unit)
    let added := State.setRf { s with power := { s.power with eqFrac := SMap.put 0 s.power.eqFrac d.val (sum % unit) } } r 63 24 hours
    let l := lifeTrioR (t.val / 7) (t.val % 7)
    let first := if s.rf l 47 32 = 0 then (s.setRf l 63 48 ps.toNat).setRf l 47 32 ps.toNat else s.setRf l 63 48 ps.toNat
    let limit := s.rf l 31 16
    (s.down = true → exec (.thermalSample d tj) s = .next s.finish ∧ exec (.emAccumulate d) s = .next s.finish) ∧
    (s.down = false → ∀ hot, base.hottest = some hot →
      (tj < 125 → exec (.thermalSample d tj) s = .next (met hot).finish) ∧
      (125 ≤ tj → d.val < 12 → exec (.thermalSample d tj) s = .next ((met hot).dieOffline d.val 5 none).finish) ∧
      (125 ≤ tj → d.val = 12 → exec (.thermalSample d tj) s = .next ((met hot).safeState 0x1F 0 false).finish)) ∧
    (s.diePowered d.val = false → exec (.emAccumulate d) s = .next s.finish) ∧
    (s.down = false → s.diePowered d.val = true → hours < 4672000 ∨ s.rf r 0 0 = 1 → exec (.emAccumulate d) s = .next added.finish) ∧
    (s.down = false → s.diePowered d.val = true → 4672000 ≤ hours → s.rf r 0 0 = 0 → exec (.emAccumulate d) s =
      .next ((added.setRf r 0 0 1).raise (if d.val = 12 then 20 else 32 * (33 + 2 * d.val) + 17)).finish) ∧
    (s.powered t.val = false → exec (.marginMeasure t ps) s = .next s.finish) ∧
    (s.powered t.val = true → limit ≤ ps.toNat → exec (.marginMeasure t ps) s = .next (first.setRf l 0 0 0).finish) ∧
    (s.powered t.val = true → ps.toNat < limit → bit (s.reg l) 0 = true →
      exec (.marginMeasure t ps) s = .next (first.setRf l 0 0 1).finish) ∧
    (s.powered t.val = true → ps.toNat < limit → bit (s.reg l) 0 = false → exec (.marginMeasure t ps) s =
      .next ((first.setRf l 0 0 1).raise (32 * (33 + 2 * (t.val / 7)) + t.val % 7)).finish)

/-- Domains and low power (R404, R407-R409): a request in progress ends with its action done; an idle stream's core enters Nap or Off
only outside every window and with time enough before the next, its merging buffer drained, and Off keeps only what its latches
hold; Standby cleans every cache, commits Sole and leaves the always-on island. -/
def DomainEvents : Prop :=
  ∀ (s : State) (n : Fin 118) (c : CoreId),
    let act := s.rf (domR n.val) 3 2
    let busy := s.rf (domR n.val) 7 4 = 1
    let fin := fun (x : State) => x.setRf (domR n.val) 7 4 2
    let on := s.powered n.val = true
    let k := s.core c.val
    let idle' := fun (off : Bool) => c.val < 252 ∧ k.run = .idle ∧ s.leadOf c.val = c.val ∧
      bit (s.reg pwrIdleR) (if off then 1 else 0) = true ∧ s.quietFor (trioOf c.val) (if off then 10000 else 500) = true
    let drained := fun (off : Bool) => (s.drainMerge c.val).traceSleep c.val off
    let stopped := s.stopAll
    let cleaned := forN 85 (fun t x => if x.powered t then x.l2Clean t else x) stopped
    let evicted := cleaned.msc.lines.foldl (fun x l => x.mscEvict l) cleaned
    let left := ((evicted.noteOff.drainAll 512).commitEnd).blank keptM
    (¬ busy → exec (.powerRequestComplete n) s = .next s.finish) ∧
    (busy → n.val < 84 → act = 0 → (on → exec (.powerRequestComplete n) s = .next (fin (s.unretain n.val)).finish) ∧
      (¬ on → exec (.powerRequestComplete n) s = .next (fin (s.trioOn n.val)).finish)) ∧
    (busy → n.val < 84 → act = 1 → on → exec (.powerRequestComplete n) s = .next (fin (s.retain n.val)).finish) ∧
    (busy → n.val < 84 → act = 2 → on → exec (.powerRequestComplete n) s = .next (fin ((s.l2Clean n.val).trioOff n.val)).finish) ∧
    (busy → n.val < 84 → act ≠ 0 → ¬ on → exec (.powerRequestComplete n) s = .next (fin s).finish) ∧
    (busy → 84 ≤ n.val → n.val < 96 → act = 0 →
      (s.dieState (n.val - 84) = 2 → exec (.powerRequestComplete n) s = .next (fin s).finish) ∧
      (s.dieState (n.val - 84) ≠ 2 → exec (.powerRequestComplete n) s = .next s.finish)) ∧
    (busy → 84 ≤ n.val → n.val < 96 → act ≠ 0 → exec (.powerRequestComplete n) s = .next (fin (s.dieOff (n.val - 84))).finish) ∧
    (busy → 96 ≤ n.val → exec (.powerRequestComplete n) s = .next (fin (s.setRf (domR n.val) 1 0 act)).finish) ∧
    (∀ off, ¬ idle' off → exec (.napEntry c off) s = .next s.finish) ∧
    (idle' false → exec (.napEntry c false) s = .next ((drained false).modCore c.val (fun (q : Core) => { q with run := .nap })).finish) ∧
    (idle' true → exec (.napEntry c true) s = .next ((drained true).modCore c.val (fun (q : Core) => { (q.fresh .off) with
      own := q.own, intReq := q.intReq, lfsr := q.lfsr, invs := q.invs, invSeq := q.invSeq, halted := q.halted })).finish) ∧
    (k.run = .nap ∨ k.run = .off → exec (.napExit c) s =
      .next (((s.modCore c.val (fun (q : Core) => { q with run := s.restRun (trioOf c.val) })).traceWake c.val).redispatch (trioOf c.val)).finish) ∧
    (k.run ≠ .nap → k.run ≠ .off → exec (.napExit c) s = .next s.finish) ∧
    (s.power.standbyAsk = false ∨ s.down = true → exec .standbyEntry s = .next s.finish) ∧
    (s.power.standbyAsk = true → s.down = false → exec .standbyEntry s =
      .next (State.finish { left with power := { left.power with standby := true, standbyAsk := false, pwrGood := false } }))

/-- Containment, chip-level errors and the reference clocks (R18, R21, R22, R25, R27, R422): an error that its level cannot contain passes to
the next one up with a record; the chip's level is the safe state, which records the trigger and every containment below that it overtakes, stops every context, isolates the dies and commits Sole; it is
entered once. -/
def ContainmentEvents : Prop :=
  ∀ (s : State) (c : CoreId) (t : TrioId) (d : DieId) (b : Byte),
    let safe := s.rf ⟨.modIdent, 0, 0, 0⟩ 0 0 = 1
    let subsumed := fun (x : State) =>
      forN 12 (fun d (x : State) => if x.reclaims d then x.sysEvent 0x08 [2, unitWord d 7 7 3 none] else x)
        (forN 84 (fun t (x : State) => if x.failed t = true ∧ x.dieState (t / 7) = 2 then x.sysEvent 0x08 [1, x.trioWord t] else x) x)
    let entered := fun (cause : Nat) => ((((subsumed ((s.snapshot 2).sysEvent 0x09 [BitVec.ofNat 64 cause, 0])).shutDown).setRf
      ⟨.modIdent, 0, 0, 0⟩ 0 0 1).setRf ⟨.bootStat, 0, 0, 0⟩ 27 24 4).commitStart
    let noted := s.sysEvent 0x07 [1, s.trioWord t.val]
    let whole := s.sysEvent 0x07 [0, s.coreWord c.val]
    let dark := (List.range 32).foldl (fun (x : State) i => x.ethLink (i / 4, i % 4) false) s
    (exec (.containmentTimeout (.core c)) s = .next (whole.blockError (trioOf c.val)).finish) ∧
    (t.val < 84 → exec (.containmentTimeout (.trio t)) s = .next (noted.dieOffline (t.val / 7) 3 (some t.val)).finish) ∧
    (t.val = 84 → exec (.containmentTimeout (.trio t)) s = .next (noted.svcTrioError).finish) ∧
    (exec (.containmentTimeout (.die d)) s =
      .next (((s.snapshot 4).sysEvent 0x07 [2, unitWord d.val 7 7 3 none]).safeState 0x07 0 false).finish) ∧
    (exec (.containmentTimeout .chip) s = .next s.finish) ∧
    (¬ safe → exec (.chipError b) s = .next (entered b.toNat).finish) ∧
    (safe → exec (.chipError b) s = .next s.finish) ∧
    (s.down = true → ∀ r, exec (.refclkLost r) s = .next s.finish) ∧
    (s.down = false → exec (.refclkLost .clk100) s = .next (State.finish { s with power := { s.power with refLost := true } })) ∧
    (s.down = false → exec (.refclkLost .clk156) s = .next (dark.sysEvent 0x1D [1]).finish) ∧
    (s.power.refLost = true → exec .refclkRestored s =
      .next (State.sysEvent { s with power := { s.power with refLost := false } } 0x1D [0]).finish) ∧
    (s.power.refLost = true → ¬ safe → exec .refclkHoldExpiry s = .next (entered 0x1D).finish) ∧
    (s.power.refLost = true → safe → exec .refclkHoldExpiry s = .next s.finish) ∧
    (s.power.refLost = false → exec .refclkRestored s = .next s.finish ∧ exec .refclkHoldExpiry s = .next s.finish)

/-- Module and power-on resets (R397, R405, R406, R411, R456): MOD_RESET_N low for long enough resets the module, which keeps DRAM and
discards the Memory-Side Cache, with its cause; power-on reset is released when the input has recovered, with DRAM lost. -/
def ResetEvents : Prop :=
  ∀ (s : State) (ns : Nat) (x : Straps),
    let cause := if s.power.standby then 6 else 4
    let born := if s.power.everUp = false then 1 else if s.power.overVolt then 3 else 2
    (ns < 800 ∨ s.power.supplyReset = true → exec (.modResetNLow ns x) s = .next s.finish) ∧
    (800 ≤ ns → s.power.supplyReset = false → ∃ y : State, exec (.modResetNLow ns x) s = .next y.finish ∧
      y = s.moduleReset cause x ∧ y.mem = s.mem ∧ y.poison = s.poison ∧ y.msc.lines = [] ∧ y.timebase = 0 ∧
      y.rf rstCauseR 15 8 = cause ∧ y.rf rstCauseR 0 0 = 1 ∧ y.power.standby = false) ∧
    (s.power.supplyReset = false ∨ s.rf supStatR 63 48 ≤ 3500 → exec (.powerOnResetRelease x) s = .next s.finish) ∧
    (s.power.supplyReset = true → 3500 < s.rf supStatR 63 48 → ∃ y : State, exec (.powerOnResetRelease x) s = .next y.finish ∧
      y = s.bootFrom 0 born x ∧ y.power.supplyReset = false ∧ y.power.everUp = true ∧
      y.rf rstCauseR 15 8 = born ∧ y.rf rstCauseR 0 0 = 0)

/-- The supply monitor, the governor, temperatures and life, power domains, containment and the module's resets. -/
def Obligations.PowerEvents : Prop :=
  SupplySamples ∧ GovernorEvents ∧ LifeEvents ∧ DomainEvents ∧ ContainmentEvents ∧ ResetEvents

/-! ### Boot, the Policy Mailbox and Awl -/

/-- The rows of R440: each command with its OP. -/
def PolicyCommand (e : PmbEntry) (op : Nat) (i : Instr) : Prop :=
  (op = 0x01 ∧ i = .info e) ∨ (op = 0x02 ∧ i = .expertChal e) ∨ (op = 0x03 ∧ i = .expertResp e) ∨
    (op = 0x04 ∧ i = .expertDrop e) ∨ (op = 0x08 ∧ i = .regRead e) ∨ (op = 0x09 ∧ i = .regWrite e) ∨
    (op = 0x10 ∧ i = .seasonLoad e) ∨ (op = 0x11 ∧ i = .seasonActivate e) ∨ (op = 0x12 ∧ i = .cxe e) ∨
    (op = 0x13 ∧ i = .tenantReset e) ∨ (op = 0x20 ∧ i = .ppr e) ∨ (op = 0x21 ∧ i = .channelRemove e) ∨
    (op = 0x30 ∧ i = .standby e) ∨ (op = 0x31 ∧ i = .reset e) ∨ (op = 0x32 ∧ i = .retire e) ∨ (op = 0x40 ∧ i = .soleVerify e) ∨
    (op = 0x41 ∧ i = .soleCommit e) ∨ (op = 0x50 ∧ i = .imageWrite e) ∨ (op = 0x51 ∧ i = .imageCheck e) ∨
    (op = 0x52 ∧ i = .arbAdvance e) ∨ (op = 0x53 ∧ i = .sealedRestart e) ∨ (op = 0x58 ∧ i = .bootLoad e) ∨
    (op = 0x59 ∧ i = .bootGo e)

/-- Who serves an entry (R437-R440): nothing happens while it is not at HEAD of a ring that is served, or its ring is busy; the boot ROM
serves INFO, BOOT_LOAD and BOOT_GO alone, which Cobbler does not; the Sealed services need `SEC_STAT.SVC`. -/
def PolicyService : Prop :=
  ∀ (s : State) (e : PmbEntry) (op : Nat) (i : Instr), PolicyCommand e op i →
    let r := e.ring.val
    let ready := s.pmbServes = true ∧ s.pmbIs op e = true ∧ s.pmbBusy r = false ∧ (s.pmbRom = true → r = 0)
    (¬ ready → exec i s = .next s.finish) ∧
    (ready → s.pmbRom = true → op ≠ 0x01 → op ≠ 0x58 → op ≠ 0x59 → exec i s = .next (s.pmbEnd r 6 0 []).finish) ∧
    (ready → s.pmbRom = false → op = 0x58 ∨ op = 0x59 → exec i s = .next (s.pmbEnd r 6 0 []).finish) ∧
    (ready → s.pmbRom = false → op = 0x40 ∨ (0x50 ≤ op ∧ op ≤ 0x53) → s.sealedUp = false →
      exec i s = .next (s.pmbEnd r 7 0 []).finish)

/-- Cobbler is about to carry out the entry `e` of OP `op`. -/
def CobblerTakes (s : State) (op : Nat) (e : PmbEntry) : Prop :=
  s.pmbServes = true ∧ s.pmbIs op e = true ∧ s.pmbBusy e.ring.val = false ∧ s.pmbRom = false

/-- An entry completes, unless what it did has taken the mailbox out of service. -/
def answered (e : PmbEntry) (x : State) (status sub : Nat) (res : List Dword) : State :=
  (if x.pmbServes then x.pmbEnd e.ring.val status sub res else x).finish

/-- An entry has begun what a unit is to end. -/
def underWay (e : PmbEntry) (op : Nat) (x : State) : State :=
  State.finish { x with boot := { x.boot with busy := SMap.put 0 x.boot.busy e.ring.val op } }

/-- Registers, identity and the Expert level (R438-R442, R464): INFO and REG_READ answer values, REG_WRITE writes the masked bits or
answers the register's refusal, with a deferred request's status 8; a challenge serves one response, which sets `EXPERT_CTL.EN` or
completes with SUB 4 or 5 and is recorded. -/
def RegisterPolicies : Prop :=
  ∀ (s : State) (e : PmbEntry),
    let a := argOf e
    let m : Dword := BitVec.ofNat 64 (a 3)
    let v : Dword := (BitVec.ofNat 64 (a 2) &&& m) ||| (s.unmasked (a 1) &&& ~~~m)
    let serial := fitBytes (Config.nonce s.sec.nonces) 32 ++ fitBytes Config.serial 16
    let asked := { s with sec := { s.sec with nonces := s.sec.nonces + 1, expert := serial } }
    let used := { s with sec := { s.sec with expert := [] } }
    let told := fun (x : State) => x.sysEvent 0x18 [x.reg dbgAuthR]
    let resp := s.regBytes .pmbStage 200
    let key := (resp.drop 4).take 97
    let known := Config.sha384 key = Config.sdbgHash ∨ Config.sha384 key = Config.dbgHash
    let good := ofBytes (resp.take 4) = 0x10 ∧ Config.ecdsaOk key (s.sec.expert ++ resp.take 4) ((resp.drop 104).take 96) = true
    let domain := fun (off : Nat) => off = pwrReqR.off ∨ ∃ q, q < 8 ∧ off = (quadR q).off
    (CobblerTakes s 0x01 e → exec (.info e) s = .next (answered e s 0 0 [s.reg ⟨.modIdent, 0, 0, 0⟩, s.reg bootStatR,
      s.reg secStatReg, s.reg ⟨.expertCtl, 0, 0, 0⟩, s.reg ⟨.ftuStatus, 0, 0, 0⟩])) ∧
    (CobblerTakes s 0x08 e → (∀ x w, s.mcsRead cobbler (a 1) 3 = (x, .ok w) → exec (.regRead e) s = .next (answered e x 0 0 [w])) ∧
      (∀ x c, s.mcsRead cobbler (a 1) 3 = (x, .error c) → exec (.regRead e) s = .next (answered e s 4 c []))) ∧
    (CobblerTakes s 0x09 e →
      (∀ x, s.mcsWrite cobbler (a 1) 3 v = .ok x ∨ s.mcsWrite cobbler (a 1) 3 v = .wait x → ¬ domain (a 1) →
        exec (.regWrite e) s = .next (answered e x 0 0 [])) ∧
      (∀ x, s.mcsWrite cobbler (a 1) 3 v = .ok x → a 1 = pwrReqR.off →
        exec (.regWrite e) s = .next (answered e x (if x.rf (domR (x.rf pwrReqR 38 32)) 7 4 = 3 then 8 else 0) 0 [])) ∧
      (s.mcsWrite cobbler (a 1) 3 v = .err 8 → exec (.regWrite e) s = .next (answered e s 5 0 [])) ∧
      (s.mcsWrite cobbler (a 1) 3 v = .err 0 → exec (.regWrite e) s =
        .next (answered e s (if s.overLimit cobbler (a 1) v then 3 else 4) 0 [])) ∧
      (∀ c, c ≠ 8 → c ≠ 0 → s.mcsWrite cobbler (a 1) 3 v = .err c → exec (.regWrite e) s = .next (answered e s 4 c [])) ∧
      (s.mcsWrite cobbler (a 1) 3 v = .stay → exec (.regWrite e) s = .next s.finish)) ∧
    (CobblerTakes s 0x02 e → exec (.expertChal e) s =
      .next (answered e (forN 6 (fun i x => x.setReg ⟨.pmbStage, 0, i, 0⟩ (dwAt serial i)) asked) 0 0 [])) ∧
    (CobblerTakes s 0x03 e → s.sec.expert = [] → exec (.expertResp e) s = .next (answered e s 6 0 [])) ∧
    (CobblerTakes s 0x03 e → s.sec.expert ≠ [] → exec (.expertResp e) s = .next
      (if ¬ known then answered e (told used) 2 5 []
        else if ¬ good then answered e (told used) 2 4 []
        else answered e (told (used.setReg ⟨.expertCtl, 0, 0, 0⟩ 1)) 0 0 [])) ∧
    (CobblerTakes s 0x04 e → exec (.expertDrop e) s = .next (answered e (s.setReg ⟨.expertCtl, 0, 0, 0⟩ 0) 0 0 []))

/-- Seasons, contexts, tenants, channels, power and spares (R334, R336, R405, R409, R440, R441): each command does what the unit does
on a register write or a queue entry, refuses what its arguments or the present state do not allow, and waits while the unit is busy. -/
def ModulePolicies : Prop :=
  ∀ (s : State) (e : PmbEntry),
    let a := argOf e
    let no := fun (status sub : Nat) => answered e s status sub []
    let d : Dword := BitVec.ofNat 64 (a 1)
    let badLoad := 4 ≤ a 2 ∨ a 1 % 4096 ≠ 0 ∨ 2 ^ 46 ≤ a 1
    let badSeason := s.changePending = true ∨ s.valid (a 1) = false ∨ (s.seasonsOn = false ∧ s.running = false)
    let m := Config.pprChannel d
    let credit := s.gce.live = true ∧ ∃ t ∈ List.range 32, SMap.get 0 (s.seasonCredits s.active) (12 * t + m) ≠ 0
    let committed := if fld d 2 0 = 1 then (s.drainAll 512).commitEnd else s
    let u := Config.retireUnit d
    (CobblerTakes s 0x10 e → (badLoad → exec (.seasonLoad e) s = .next (no 2 0)) ∧
      (¬ badLoad → s.rf seasonStatR 0 0 = 1 → exec (.seasonLoad e) s = .next s.finish) ∧
      (¬ badLoad → s.rf seasonStatR 0 0 = 0 → exec (.seasonLoad e) s =
        .next (underWay e 0x10 (s.fwWrite false seasonLoadR (BitVec.ofNat 64 (a 1 ||| a 2 <<< 4 ||| 1))).1))) ∧
    (CobblerTakes s 0x11 e → (4 ≤ a 1 → exec (.seasonActivate e) s = .next (no 2 0)) ∧
      (a 1 < 4 → badSeason → exec (.seasonActivate e) s = .next (no 6 0)) ∧
      (a 1 < 4 → ¬ badSeason → exec (.seasonActivate e) s =
        .next (underWay e 0x11 (s.fwWrite false seasonCtlR (BitVec.ofNat 64 (a 1 <<< 6 ||| 0x18))).1))) ∧
    (CobblerTakes s 0x12 e → s.resetting (fld d 50 46) = true → exec (.cxe e) s = .next s.finish) ∧
    (CobblerTakes s 0x12 e → s.resetting (fld d 50 46) = false → ∀ q : Fin 35, q.val = 33 + e.ring.val →
      (∀ x st cid ended, s.command q (fld d 50 46) d = (x, .done st cid ended) →
        exec (.cxe e) s = .next (answered e x (if st = 0 then 0 else 6) st [cmdWord d st cid ended])) ∧
      (∀ x, s.command q (fld d 50 46) d = (x, .held) → exec (.cxe e) s = .next x.finish)) ∧
    (CobblerTakes s 0x13 e → (a 1 = 0 ∨ 32 ≤ a 1 → exec (.tenantReset e) s = .next (no 2 0)) ∧
      (a 1 ≠ 0 → a 1 < 32 → s.resetting (a 1) = true → exec (.tenantReset e) s = .next s.finish) ∧
      (a 1 ≠ 0 → a 1 < 32 → s.resetting (a 1) = false → exec (.tenantReset e) s = .next (underWay e 0x13 (s.tenantReset (a 1))))) ∧
    (CobblerTakes s 0x20 e → exec (.ppr e) s = .next
      (if 12 ≤ m ∨ 2 ≤ a 2 then no 2 0
        else if (a 2 = 1 ∧ 1 < s.chanState m) ∨ (a 2 = 0 ∧ credit) then no 6 0
        else no 0 0)) ∧
    (CobblerTakes s 0x21 e → (12 ≤ a 1 → exec (.channelRemove e) s = .next (no 2 0)) ∧
      (a 1 < 12 → s.chanState (a 1) = 2 ∨ s.chanState (a 1) = 4 →
        exec (.channelRemove e) s = .next (answered e (s.chanGone (a 1) 5) 0 0 [])) ∧
      (a 1 < 12 → s.chanState (a 1) ≠ 2 → s.chanState (a 1) ≠ 4 → exec (.channelRemove e) s = .next (no 6 0))) ∧
    (CobblerTakes s 0x30 e → exec (.standby e) s =
      .next (answered e { s with power := { s.power with standbyAsk := true } } 0 0 [])) ∧
    (CobblerTakes s 0x31 e →
      (∀ x, committed.writeRstCtl cobbler d = .ok x → exec (.reset e) s = .next (answered e x 0 0 [])) ∧
      (∀ c, committed.writeRstCtl cobbler d = .err c → exec (.reset e) s = .next (no 4 c))) ∧
    (CobblerTakes s 0x32 e → exec (.retire e) s = .next
      (if h : u.1 < 12 ∧ u.2 < 7 then
        match s.logOf (7 * u.1 + u.2) with
        | none => no 2 0
        | some k =>
          if s.spareReady u.1 false then
            underWay e 0x32 (s.substitute ⟨u.1, h.1⟩ (Fin.ofNat 6 k) ⟨7 * u.1 + u.2, by have := h.1; have := h.2; omega⟩ .retire)
          else no 6 0
      else no 2 0))

/-- Sealed services and the boot ROM's commands (R419, R423, R436, R438, R440): verified links are counted and the first failing one
named; an image is not written on the running set's chip select; ARB only rises, within 128 and the set's versions; a set is staged
in the upper 8 MiB of the boot store and booted. -/
def SealedPolicies : Prop :=
  ∀ (s : State) (e : PmbEntry),
    let a := argOf e
    let no := fun (status : Nat) => answered e s status 0 []
    let takes := fun (op : Nat) => CobblerTakes s op e ∧ s.sealedUp = true
    let rom := fun (op : Nat) => s.pmbServes = true ∧ s.pmbIs op e = true ∧ s.pmbBusy 0 = false ∧ s.pmbRom = true ∧ e.ring = 0
    let links := (List.range (min (a 3) ((s.tagsOf (a 1)).length + 1))).map (· + a 2)
    let good := fun (l : Nat) => match (s.tagsOf (a 1))[l]? with
      | some i => s.linkGood (a 1) i
      | none => false
    let running := s.boot.staged = false ∧ a 1 = s.rf bootStatR 16 16
    let burnt := ((s.regBytes .pmbStage (a 3)).zipIdx).foldl (fun f x => SMap.put 0xFF f (a 1 * 2 ^ 32 + a 2 + x.2) x.1) s.boot.flash
    let badWrite := 2 ≤ a 1 ∨ 0x8000 < a 3 ∨ 2 ^ 32 < a 2 + a 3
    let badArb := a 1 ≤ s.sec.arb ∨ 128 < a 1 ∨ ∃ i ∈ s.boot.images, leAt i.2.1 8 4 < a 1
    (takes 0x40 → (34 ≤ a 1 → exec (.soleVerify e) s = .next (no 2)) ∧
      (a 1 < 34 → ((∀ l ∈ links, good l = true) → exec (.soleVerify e) s =
          .next (answered e s 0 0 [BitVec.ofNat 64 links.length, BitVec.allOnes 64])) ∧
        (∀ x l y, links = x ++ l :: y → (∀ k ∈ x, good k = true) → good l = false → exec (.soleVerify e) s =
          .next (answered e s 0 0 [BitVec.ofNat 64 (links.filter good).length, BitVec.ofNat 64 l])))) ∧
    (CobblerTakes s 0x41 e → exec (.soleCommit e) s = .next (underWay e 0x41 s.commitStart)) ∧
    (takes 0x50 → (badWrite → exec (.imageWrite e) s = .next (no 2)) ∧ (¬ badWrite → running → exec (.imageWrite e) s = .next (no 6)) ∧
      (¬ badWrite → ¬ running → exec (.imageWrite e) s =
        .next (answered e { s with boot := { s.boot with flash := burnt } } 0 0 []))) ∧
    (takes 0x51 → (2 ≤ a 1 → exec (.imageCheck e) s = .next (no 2)) ∧
      (a 1 < 2 → exec (.imageCheck e) s = .next (answered e s 0 0 [match s.testSet (.flash (a 1)) with
        | .ok _ => 0
        | .error c => BitVec.ofNat 64 c]))) ∧
    (takes 0x52 → (badArb → exec (.arbAdvance e) s = .next (no 2)) ∧
      (¬ badArb → exec (.arbAdvance e) s = .next (answered e { s with sec := { s.sec with arb := a 1 } } 0 0 []))) ∧
    (takes 0x53 → exec (.sealedRestart e) s = .next (answered e s.sealedRestart 0 0 [])) ∧
    (rom 0x58 → (0x8000 < a 2 ∨ 0x800000 < a 1 + a 2 → exec (.bootLoad e) s = .next (no 2)) ∧
      (a 2 ≤ 0x8000 → a 1 + a 2 ≤ 0x800000 → exec (.bootLoad e) s = .next (answered e (s.physStore { agent := 84, tid := 0, w := false }
        (0xA00000 + a 1) (s.regBytes .pmbStage (a 2)) (a 2)).1 0 0 []))) ∧
    (rom 0x59 → exec (.bootGo e) s = .next (s.pmbEnd 0 0 0 []).bootStaged.finish)

/-- The rows of R445: each command with the debug enable that it needs, and whether Cobbler refuses it. -/
def AwlCommand (r : AwlReq) (need : Option Nat) (alone : Bool) (i : Instr) : Prop :=
  (need = none ∧ alone = false ∧ (i = .hello r ∨ i = .baud r ∨ i = .chal r ∨ i = .resp r)) ∨
    (need = some 1 ∧ alone = false ∧ (i = .read r ∨ i = .sole r ∨ i = .ctxlist r ∨ i = .linklist r)) ∨
    (need = some 0 ∧ alone = false ∧ (i = .write r)) ∨ (need = some 0 ∧ alone = true ∧ (i = .load r ∨ i = .boot r))

/-- A request that Awl does not execute (R310, R443-R445): no answer while Awl does not run; the last response again for the last SEQ;
status 3 without the debug enable; status 6 for LOAD and BOOT under Cobbler. -/
def AwlService : Prop :=
  ∀ (s : State) (r : AwlReq) (need : Option Nat) (alone : Bool) (i : Instr), AwlCommand r need alone i →
    let heard := s.awlServes = true ∧ r.payload.length ≤ 253
    let fresh := heard ∧ s.boot.lastSeq ≠ some r.seq
    let lacks := ∃ n, need = some n ∧ s.dbgEn n = false
    (¬ heard → exec i s = .next s.finish) ∧
    (heard → s.boot.lastSeq = some r.seq → exec i s =
      .next (State.finish { s with boot := { s.boot with awlOut := s.boot.awlOut ++ [s.boot.lastResp] } })) ∧
    (fresh → lacks → exec i s = .next (s.awlSend r.seq 3 []).finish) ∧
    (fresh → ¬ lacks → alone = true → s.awlAlone = false → exec i s = .next (s.awlSend r.seq 6 []).finish)

/-- What Awl's commands answer (R310, R311, R443-R445), as the service trio with W = 0 finds it, and the debug exchange that CHAL and
RESP carry; LOAD and BOOT stage a set and boot it. -/
def AwlCommands : Prop :=
  ∀ (s : State) (r : AwlReq),
    let p := r.payload
    let fresh := s.awlServes = true ∧ p.length ≤ 253 ∧ s.boot.lastSeq ≠ some r.seq
    let told := fun (x : State) (status : Nat) (q : List Byte) => (if x.awlServes then x.awlSend r.seq status q else x).finish
    let on := fresh ∧ s.dbgEn 1 = true
    let oi := fresh ∧ s.dbgEn 0 = true
    let busy := s.rf dbgAuthR 7 4 = 2
    let w := leAt p 8 1
    let data := p.drop 9
    let badRead := p.length ≠ 10 ∨ (w ≠ 4 ∧ w ≠ 8) ∨ leAt p 9 1 = 0 ∨ 30 < leAt p 9 1
    let badWrite := (w ≠ 4 ∧ w ≠ 8) ∨ data = [] ∨ 240 < data.length ∨ data.length % w ≠ 0
    let badSole := p.length ≠ 6 ∨ 33 < leAt p 0 1 ∨ leAt p 5 1 = 0 ∨ 3 < leAt p 5 1
    let t := 7 * leAt p 0 1 + leAt p 1 1
    let badList := p.length ≠ 3 ∨ 12 ≤ leAt p 0 1 ∨ 7 ≤ leAt p 1 1 ∨ 48 < leAt p 2 1
    let gone := s.dieState (leAt p 0 1) = 3 ∨ s.dieState (leAt p 0 1) = 4
    let badLoad := p.length < 5 ∨ 244 < p.length ∨ 0x800000 < leAt p 0 4 + (p.length - 4)
    let challenged := s.writeDbgAuth 1
    let responded := (forN 25 (fun i x => x.setReg ⟨.dbgResp, 0, i, 0⟩ (dwAt p i)) s).writeDbgAuth 2
    (fresh → exec (.hello r) s = .next (told s 0 (s.regLe ⟨.modIdent, 0, 0, 0⟩ ++ s.regLe bootStatR ++ s.regLe dbgEnR))) ∧
    (fresh → ∀ i, p = [i] → i.toNat ≤ 6 → exec (.baud r) s =
      .next (told { s with boot := { s.boot with baud := i.toNat } } 0 [])) ∧
    (fresh → (∀ i, p = [i] → 6 < i.toNat) → exec (.baud r) s = .next (told s 2 [])) ∧
    (fresh → (busy → exec (.chal r) s = .next (told s 5 [])) ∧
      (¬ busy → exec (.chal r) s = .next (told challenged 0 (challenged.regBytes .dbgChal 48)))) ∧
    (fresh → (p.length ≠ 200 → exec (.resp r) s = .next (told s 2 [])) ∧ (p.length = 200 → busy → exec (.resp r) s = .next (told s 5 [])) ∧
      (p.length = 200 → ¬ busy → exec (.resp r) s = .next (told responded 0 (responded.regLe dbgAuthR)))) ∧
    (on → (badRead → exec (.read r) s = .next (told s 2 [])) ∧
      (¬ badRead → ∀ x st q, s.awlReads (leAt p 0 8) w (leAt p 9 1) [] = (x, st, q) → exec (.read r) s = .next (told x st q))) ∧
    (oi → (badWrite → exec (.write r) s = .next (told s 2 [])) ∧
      (¬ badWrite → ∀ x st q, s.awlWrites (leAt p 0 8) w data (data.length / w) = (x, st, q) → exec (.write r) s = .next (told x st q))) ∧
    (on → (badSole → exec (.sole r) s = .next (told s 2 [])) ∧ (¬ badSole → exec (.sole r) s =
      .next (told s 0 ((List.range (leAt p 5 1)).flatMap (fun i => s.soleBytes (leAt p 0 1) (leAt p 1 4 + i)))))) ∧
    (on → (badList → exec (.ctxlist r) s = .next (told s 2 [])) ∧
      (¬ badList → s.powered t = false → exec (.ctxlist r) s = .next (told s 4 [6])) ∧
      (¬ badList → s.powered t = true → gone → exec (.ctxlist r) s = .next (told s 4 [7])) ∧
      (¬ badList → s.powered t = true → ¬ gone → exec (.ctxlist r) s =
        .next (told s 0 ((List.range 16).flatMap (fun i => toBytes (s.slotStat t (leAt p 2 1 + i)).toNat 8))))) ∧
    (on → exec (.linklist r) s = .next (told s 0 (((List.range 12).flatMap (fun d => s.regLe (plinkR d))) ++
      ((List.range 3).flatMap (fun k => s.regLe ⟨.xlStatus, 0, k, 0⟩)) ++ ((List.range 8).flatMap (fun q => s.regLe (quadR q)))))) ∧
    (oi → s.awlAlone = true → (badLoad → exec (.load r) s = .next (s.awlSend r.seq 2 []).finish) ∧
      (¬ badLoad → ∀ x, s.physStore { agent := 84, tid := 0, w := false } (0xA00000 + leAt p 0 4) (p.drop 4) (p.length - 4) = (x, .ok ()) →
        exec (.load r) s = .next (x.awlSend r.seq 0 []).finish) ∧
      (¬ badLoad → ∀ x y, s.physStore { agent := 84, tid := 0, w := false } (0xA00000 + leAt p 0 4) (p.drop 4) (p.length - 4) = (x, y) →
        (∀ u, y ≠ .ok u) → exec (.load r) s = .next (x.awlSend r.seq 4 [1]).finish)) ∧
    (oi → s.awlAlone = true → exec (.boot r) s = .next (s.bootStaged.awlSend r.seq 0 []).finish)

/-- A response frame (R444): it begins with 0x5A and LEN, echoes SEQ, and CHK makes the 8-bit sum from LEN to CHK zero. -/
def AwlFrames : Prop :=
  ∀ (seq : Byte) (status : Nat) (q : List Byte),
    let f := awlFrame seq status q
    f.take 4 = [0x5A, BitVec.ofNat 8 (q.length + 2), seq, BitVec.ofNat 8 status] ∧ (f.drop 4).take q.length = q ∧ f.length = q.length + 5 ∧
      (f.drop 1).foldl (· + ·) 0 = 0

/-- A failure of the boot, the UART's timers and the TAP (R432, R435, R443, R444, R446): a set of chip select 0 is followed once by that
of chip select 1; else FAIL and STAGE are set, ALARM_N is asserted and the failure recorded; 10 s without a frame return to 115,200
baud; EXTEST, CLAMP and HIGHZ act as BYPASS. -/
def BootAndTap : Prop :=
  ∀ (s : State) (code : Byte) (ir : JtagIr),
    let n := code.toNat
    let going := s.down = false ∧ s.boot.phase < 10 ∧ 1 ≤ n ∧ n ≤ 9
    let again := n ≤ 3 ∧ s.boot.staged = false ∧ (s.bootSrc = 0 ∨ s.bootSrc = 3) ∧ s.rf bootStatR 16 16 = 0
    let second := ((s.setRf bootStatR 16 16 1).setRf bootStatR 27 24 0).toPhase 3
    let marked := (((s.setRf bootStatR 39 32 n).setRf bootStatR 27 24 4).toPhase 10).setRf pmbStatR 1 0 0
    let alarmed := { marked with power := { marked.power with alarm := true } }
    let ended := alarmed.sysEvent 0x07 [3, alarmed.reg bootStatR]
    (¬ going → exec (.bootFailure code) s = .next s.finish) ∧
    (going → again → exec (.bootFailure code) s = .next second.finish) ∧
    (going → ¬ again → n ≠ 8 → exec (.bootFailure code) s = .next ended.finish) ∧
    (going → n = 8 → exec (.bootFailure code) s = .next (ended.safeState 0x15 0 true).finish) ∧
    (s.awlServes = true → exec .awlBaudTimeout s = .next (State.finish { s with boot := { s.boot with baud := 0 } })) ∧
    (s.awlServes = false → exec .awlBaudTimeout s = .next s.finish) ∧
    exec .awlFrameGapTimeout s = .next s.finish ∧
    (s.power.supplyReset = true → exec (.jtagInstruction ir) s = .next s.finish) ∧
    (s.power.supplyReset = false → ir = .extest ∨ ir = .clamp ∨ ir = .highz → exec (.jtagInstruction ir) s =
      .next (State.finish { s with boot := { s.boot with tap := .bypass } })) ∧
    (s.power.supplyReset = false → ir ≠ .extest → ir ≠ .clamp → ir ≠ .highz → exec (.jtagInstruction ir) s =
      .next (State.finish { s with boot := { s.boot with tap := ir } }))

/-- The boot, the Policy Mailbox, Awl and the TAP. -/
def Obligations.BootAndMailbox : Prop :=
  PolicyService ∧ RegisterPolicies ∧ ModulePolicies ∧ SealedPolicies ∧ AwlService ∧ AwlCommands ∧ AwlFrames ∧ BootAndTap
end

