-- ==== Sys2Proof/Laws/Fields.lean ====
section
/-! SUPPORT. The laws of bit fields: a field that is set reads back, and the others keep their values. -/

namespace Sys2Proof.Machine

theorem testBit_fld {n : Nat} (x : BitVec n) (hi lo i : Nat) :
    (fld x hi lo).testBit i = (decide (i < hi + 1 - lo) && x.getLsbD (lo + i)) := by
  simp [fld, Nat.testBit_mod_two_pow, Nat.testBit_shiftRight, BitVec.testBit_toNat]

theorem getLsbD_setFld {n : Nat} (x : BitVec n) (hi lo v i : Nat) (h : i < n) :
    (setFld x hi lo v).getLsbD i = if lo ≤ i ∧ i < hi + 1 then v.testBit (i - lo) else x.getLsbD i := by
  simp only [setFld, fldMask, BitVec.getLsbD_or, BitVec.getLsbD_and, BitVec.getLsbD_not, BitVec.getLsbD_shiftLeft,
    BitVec.getLsbD_ofNat, Nat.testBit_mod_two_pow, Nat.testBit_two_pow_sub_one, h, decide_true, Bool.true_and]
  by_cases h1 : i < lo
  · simp [h1, Nat.not_le.mpr h1]
  · have h2 : i - lo < n := by omega
    by_cases h3 : i < hi + 1
    · have h4 : i - lo < hi + 1 - lo := by omega
      simp [h1, h2, h3, h4, Nat.not_lt.mp h1]
    · have h4 : ¬ i - lo < hi + 1 - lo := by omega
      simp [h1, h3, h4]

theorem fld_setFld {n : Nat} (x : BitVec n) (hi lo v : Nat) (hn : hi < n) :
    fld (setFld x hi lo v) hi lo = v % 2 ^ (hi + 1 - lo) := by
  apply Nat.eq_of_testBit_eq
  intro i
  rw [testBit_fld, Nat.testBit_mod_two_pow]
  by_cases hi' : i < hi + 1 - lo
  · rw [getLsbD_setFld _ _ _ _ _ (by omega), if_pos (by omega)]; simp
  · simp [hi']

theorem fld_setFld_other {n : Nat} (x : BitVec n) (hi lo v hi' lo' : Nat) (hn : hi' < n) (h : hi' < lo ∨ hi < lo') :
    fld (setFld x hi lo v) hi' lo' = fld x hi' lo' := by
  apply Nat.eq_of_testBit_eq
  intro i
  rw [testBit_fld, testBit_fld]
  by_cases hi' : i < hi' + 1 - lo'
  · rw [getLsbD_setFld _ _ _ _ _ (by omega), if_neg (by omega)]
  · simp [hi']

theorem bit_setBit {n : Nat} (x : BitVec n) (i j : Nat) (b : Bool) (hj : j < n) :
    bit (setBit x i b) j = if j = i then b else bit x j := by
  unfold bit setBit
  rw [getLsbD_setFld _ _ _ _ _ hj]
  by_cases h : j = i
  · subst h; cases b <;> simp
  · rw [if_neg (by omega), if_neg h]

theorem fld_lt {n : Nat} (x : BitVec n) (hi lo : Nat) : fld x hi lo < 2 ^ (hi + 1 - lo) := Nat.mod_lt _ (Nat.two_pow_pos _)

theorem fld_bit {n : Nat} (x : BitVec n) (i : Nat) : fld x i i = (bit x i).toNat := by
  have h := testBit_fld x i i 0
  have hl := fld_lt x i i
  simp at h hl
  cases hb : bit x i <;> simp_all [bit] <;> omega

end Sys2Proof.Machine
end

