-- ==== Sys2Proof/Laws/Tables.lean ====
section
/-! SUPPORT. The laws of the sparse tables and of memory bytes: a read after a write, and the canonical form. -/

namespace Sys2Proof.Machine

variable {α : Type}

/-! ### Reading after writing -/

theorem SMap.get_erase_same (d : α) (m : SMap α) (i : Nat) : SMap.get d (SMap.erase m i) i = d := by
  induction m with
  | nil => rfl
  | cons e m ih =>
    obtain ⟨k, v⟩ := e
    by_cases h : k = i <;> simp [SMap.erase, SMap.get, h, ih]

theorem SMap.get_erase_other (d : α) (m : SMap α) {i j : Nat} (h : j ≠ i) :
    SMap.get d (SMap.erase m i) j = SMap.get d m j := by
  induction m with
  | nil => rfl
  | cons e m ih =>
    obtain ⟨k, v⟩ := e
    by_cases hk : k = i
    · subst hk; simp [SMap.erase, SMap.get, ih, Ne.symm h]
    · by_cases hj : k = j
      · subst hj; simp [SMap.erase, SMap.get, hk]
      · simp [SMap.erase, SMap.get, hk, hj, ih]

theorem SMap.get_ins_other (d : α) (m : SMap α) {i j : Nat} (w : α) (h : j ≠ i) :
    SMap.get d (SMap.ins m i w) j = SMap.get d m j := by
  induction m with
  | nil => simp [SMap.ins, SMap.get, Ne.symm h]
  | cons e m ih =>
    obtain ⟨k, v⟩ := e
    by_cases hl : i < k
    · simp [SMap.ins, SMap.get, hl, Ne.symm h]
    · by_cases hj : k = j
      · subst hj; simp [SMap.ins, SMap.get, hl]
      · simp [SMap.ins, SMap.get, hl, hj, ih]

variable [DecidableEq α]

@[simp] theorem SMap.get_put_same (d : α) (m : SMap α) (i : Nat) (w : α) : SMap.get d (SMap.put d m i w) i = w := by
  unfold SMap.put
  split
  · simp [*, SMap.get_erase_same]
  · induction m with
    | nil => simp [SMap.erase, SMap.ins, SMap.get]
    | cons e m ih =>
      obtain ⟨k, v⟩ := e
      by_cases hk : k = i
      · simpa [SMap.erase, hk] using ih
      · by_cases hl : i < k <;> simp [SMap.erase, SMap.ins, SMap.get, hk, hl, ih]

theorem SMap.get_put_other (d : α) (m : SMap α) {i j : Nat} (w : α) (h : j ≠ i) :
    SMap.get d (SMap.put d m i w) j = SMap.get d m j := by
  unfold SMap.put
  split
  · exact SMap.get_erase_other d m h
  · rw [SMap.get_ins_other d _ w h, SMap.get_erase_other d m h]

theorem SMap.get_put (d : α) (m : SMap α) (i j : Nat) (w : α) :
    SMap.get d (SMap.put d m i w) j = if j = i then w else SMap.get d m j := by
  split
  · subst_vars; simp
  · exact SMap.get_put_other d m w (by assumption)

/-! ### The canonical form -/

theorem SMap.wfFrom_mono (d : α) {lo lo' : Nat} {m : SMap α} (h : lo' ≤ lo) (hm : SMap.wfFrom d lo m = true) :
    SMap.wfFrom d lo' m = true := by
  cases m with
  | nil => rfl
  | cons e m => simp [SMap.wfFrom] at hm ⊢; exact ⟨⟨by omega, hm.1.2⟩, hm.2⟩

theorem SMap.wfFrom_erase (d : α) (i : Nat) {m : SMap α} : ∀ {lo : Nat}, SMap.wfFrom d lo m = true →
    SMap.wfFrom d lo (SMap.erase m i) = true := by
  induction m with
  | nil => intro lo h; exact h
  | cons e m ih =>
    obtain ⟨k, v⟩ := e
    intro lo h
    simp [SMap.wfFrom] at h
    by_cases hk : k = i
    · simp [SMap.erase, hk]; exact SMap.wfFrom_mono d (by omega) (ih h.2)
    · simp [SMap.erase, hk, SMap.wfFrom]; exact ⟨h.1, ih h.2⟩

theorem SMap.wfFrom_ins (d : α) (i : Nat) (w : α) (hw : w ≠ d) {m : SMap α} : ∀ {lo : Nat}, SMap.wfFrom d lo (SMap.erase m i) = true →
    lo ≤ i → SMap.wfFrom d lo (SMap.ins (SMap.erase m i) i w) = true := by
  induction m with
  | nil => intro lo _ hl; simp [SMap.erase, SMap.ins, SMap.wfFrom, hl, hw]
  | cons e m ih =>
    obtain ⟨k, v⟩ := e
    intro lo h hl
    by_cases hk : k = i
    · simp [SMap.erase, hk] at h ⊢; exact ih h hl
    · simp [SMap.erase, hk, SMap.wfFrom] at h ⊢
      by_cases hlt : i < k
      · simp [SMap.ins, hlt, SMap.wfFrom, hl, hw, h.1.2, h.2]
      · simp [SMap.ins, hlt, SMap.wfFrom, h.1]; exact ih h.2 (by omega)

/-- A write keeps the canonical form. -/
theorem SMap.wf_put (d : α) {m : SMap α} (i : Nat) (w : α) (h : SMap.wf d m = true) : SMap.wf d (SMap.put d m i w) = true := by
  unfold SMap.put
  split
  · exact SMap.wfFrom_erase d i h
  · exact SMap.wfFrom_ins d i w (by assumption) (SMap.wfFrom_erase d i h) (Nat.zero_le i)

end Sys2Proof.Machine
end

