-- ==== Sys2Proof/Laws/Memory.lean ====
section
/-! SUPPORT. The laws of memory: a byte written is read back, other bytes keep their values, and every write keeps the canonical
form. -/

namespace Sys2Proof.Machine

@[simp] theorem State.byte_setByte_same (s : State) (a : Nat) (b : Byte) : (s.setByte a b).byte a = b := by
  simp [State.byte, State.setByte]

theorem State.byte_setByte_other (s : State) {a x : Nat} (b : Byte) (h : x ≠ a) : (s.setByte a b).byte x = s.byte x := by
  simp [State.byte, State.setByte, SMap.get_put_other _ _ _ h]

/-- A byte after a string of bytes is written: the string's, or the byte that stood there. -/
theorem State.byte_setBytes (s : State) (a : Nat) (l : List Byte) (x : Nat) :
    (s.setBytes a l).byte x = if a ≤ x ∧ x < a + l.length then l.getD (x - a) 0 else s.byte x := by
  induction l generalizing s a with
  | nil => simp [State.setBytes]
  | cons b l ih =>
    rw [State.setBytes, ih]
    by_cases h : x = a
    · subst h; simp
    · rw [State.byte_setByte_other _ _ h]
      by_cases h1 : a + 1 ≤ x ∧ x < a + 1 + l.length
      · have h2 : x - a = (x - (a + 1)) + 1 := by omega
        rw [if_pos h1, if_pos (by simp; omega), h2, List.getD_cons_succ]
      · rw [if_neg h1, if_neg (by simp; omega)]

theorem Memory.wf_setByte (s : State) (a : Nat) (b : Byte) (h : Memory.wf s.mem = true) :
    Memory.wf (s.setByte a b).mem = true := SMap.wf_put _ _ _ h

theorem Memory.wf_setBytes (s : State) (a : Nat) (l : List Byte) (h : Memory.wf s.mem = true) :
    Memory.wf (s.setBytes a l).mem = true := by
  induction l generalizing s a with
  | nil => exact h
  | cons b l ih => exact ih _ _ (Memory.wf_setByte s a b h)

@[simp] theorem State.setPoison_mem (s : State) (l : Nat) (b : Bool) : (s.setPoison l b).mem = s.mem := rfl

theorem Memory.wf_dramWrite (s : State) (l : Nat) (d : LineData) (p : Bool) (h : Memory.wf s.mem = true) :
    Memory.wf (s.dramWrite l d p).mem = true := by
  unfold State.dramWrite
  split
  · exact h
  · split
    · exact h
    · exact Memory.wf_setBytes _ _ _ h

end Sys2Proof.Machine
end

