-- ==== Sys2Proof/Laws/State.lean ====
section
/-! SUPPORT. What each operation that changes a part of the state leaves as it was, and what it sets. -/

namespace Sys2Proof.Machine

@[simp] theorem State.setCore_pending (s : State) (c : Nat) (k : Core) : (s.setCore c k).pending = s.pending := rfl
@[simp] theorem State.setCore_timebase (s : State) (c : Nat) (k : Core) : (s.setCore c k).timebase = s.timebase := rfl
@[simp] theorem State.setCore_mcs (s : State) (c : Nat) (k : Core) : (s.setCore c k).mcs = s.mcs := rfl
@[simp] theorem State.setCore_trios (s : State) (c : Nat) (k : Core) : (s.setCore c k).trios = s.trios := rfl
@[simp] theorem State.setCore_mem (s : State) (c : Nat) (k : Core) : (s.setCore c k).mem = s.mem := rfl
@[simp] theorem State.setCore_poison (s : State) (c : Nat) (k : Core) : (s.setCore c k).poison = s.poison := rfl
@[simp] theorem State.setCore_msc (s : State) (c : Nat) (k : Core) : (s.setCore c k).msc = s.msc := rfl
@[simp] theorem State.setCore_homes (s : State) (c : Nat) (k : Core) : (s.setCore c k).homes = s.homes := rfl
@[simp] theorem State.setCore_net (s : State) (c : Nat) (k : Core) : (s.setCore c k).net = s.net := rfl
@[simp] theorem State.setCore_ioBuf (s : State) (c : Nat) (k : Core) : (s.setCore c k).ioBuf = s.ioBuf := rfl
@[simp] theorem State.setCore_refusals (s : State) (c : Nat) (k : Core) : (s.setCore c k).refusals = s.refusals := rfl
@[simp] theorem State.setCore_fills (s : State) (c : Nat) (k : Core) : (s.setCore c k).fills = s.fills := rfl
@[simp] theorem State.setCore_ftu (s : State) (c : Nat) (k : Core) : (s.setCore c k).ftu = s.ftu := rfl
@[simp] theorem State.setCore_gce (s : State) (c : Nat) (k : Core) : (s.setCore c k).gce = s.gce := rfl
@[simp] theorem State.setCore_evg (s : State) (c : Nat) (k : Core) : (s.setCore c k).evg = s.evg := rfl
@[simp] theorem State.setCore_mcc (s : State) (c : Nat) (k : Core) : (s.setCore c k).mcc = s.mcc := rfl
@[simp] theorem State.setCore_sec (s : State) (c : Nat) (k : Core) : (s.setCore c k).sec = s.sec := rfl
@[simp] theorem State.setCore_links (s : State) (c : Nat) (k : Core) : (s.setCore c k).links = s.links := rfl
@[simp] theorem State.setCore_lace (s : State) (c : Nat) (k : Core) : (s.setCore c k).lace = s.lace := rfl
@[simp] theorem State.setCore_power (s : State) (c : Nat) (k : Core) : (s.setCore c k).power = s.power := rfl
@[simp] theorem State.setCore_sole (s : State) (c : Nat) (k : Core) : (s.setCore c k).sole = s.sole := rfl
@[simp] theorem State.setCore_boot (s : State) (c : Nat) (k : Core) : (s.setCore c k).boot = s.boot := rfl
@[simp] theorem State.setCore_free (s : State) (c : Nat) (k : Core) : (s.setCore c k).free = s.free := rfl
@[simp] theorem State.setCore_resp (s : State) (c : Nat) (k : Core) : (s.setCore c k).resp = s.resp := rfl

@[simp] theorem State.modCore_pending (s : State) (c : Nat) (f : Core → Core) : (s.modCore c f).pending = s.pending := rfl
@[simp] theorem State.modCore_timebase (s : State) (c : Nat) (f : Core → Core) : (s.modCore c f).timebase = s.timebase := rfl
@[simp] theorem State.modCore_mcs (s : State) (c : Nat) (f : Core → Core) : (s.modCore c f).mcs = s.mcs := rfl
@[simp] theorem State.modCore_trios (s : State) (c : Nat) (f : Core → Core) : (s.modCore c f).trios = s.trios := rfl
@[simp] theorem State.modCore_mem (s : State) (c : Nat) (f : Core → Core) : (s.modCore c f).mem = s.mem := rfl
@[simp] theorem State.modCore_poison (s : State) (c : Nat) (f : Core → Core) : (s.modCore c f).poison = s.poison := rfl
@[simp] theorem State.modCore_msc (s : State) (c : Nat) (f : Core → Core) : (s.modCore c f).msc = s.msc := rfl
@[simp] theorem State.modCore_homes (s : State) (c : Nat) (f : Core → Core) : (s.modCore c f).homes = s.homes := rfl
@[simp] theorem State.modCore_net (s : State) (c : Nat) (f : Core → Core) : (s.modCore c f).net = s.net := rfl
@[simp] theorem State.modCore_ioBuf (s : State) (c : Nat) (f : Core → Core) : (s.modCore c f).ioBuf = s.ioBuf := rfl
@[simp] theorem State.modCore_refusals (s : State) (c : Nat) (f : Core → Core) : (s.modCore c f).refusals = s.refusals := rfl
@[simp] theorem State.modCore_fills (s : State) (c : Nat) (f : Core → Core) : (s.modCore c f).fills = s.fills := rfl
@[simp] theorem State.modCore_ftu (s : State) (c : Nat) (f : Core → Core) : (s.modCore c f).ftu = s.ftu := rfl
@[simp] theorem State.modCore_gce (s : State) (c : Nat) (f : Core → Core) : (s.modCore c f).gce = s.gce := rfl
@[simp] theorem State.modCore_evg (s : State) (c : Nat) (f : Core → Core) : (s.modCore c f).evg = s.evg := rfl
@[simp] theorem State.modCore_mcc (s : State) (c : Nat) (f : Core → Core) : (s.modCore c f).mcc = s.mcc := rfl
@[simp] theorem State.modCore_sec (s : State) (c : Nat) (f : Core → Core) : (s.modCore c f).sec = s.sec := rfl
@[simp] theorem State.modCore_links (s : State) (c : Nat) (f : Core → Core) : (s.modCore c f).links = s.links := rfl
@[simp] theorem State.modCore_lace (s : State) (c : Nat) (f : Core → Core) : (s.modCore c f).lace = s.lace := rfl
@[simp] theorem State.modCore_power (s : State) (c : Nat) (f : Core → Core) : (s.modCore c f).power = s.power := rfl
@[simp] theorem State.modCore_sole (s : State) (c : Nat) (f : Core → Core) : (s.modCore c f).sole = s.sole := rfl
@[simp] theorem State.modCore_boot (s : State) (c : Nat) (f : Core → Core) : (s.modCore c f).boot = s.boot := rfl
@[simp] theorem State.modCore_free (s : State) (c : Nat) (f : Core → Core) : (s.modCore c f).free = s.free := rfl
@[simp] theorem State.modCore_resp (s : State) (c : Nat) (f : Core → Core) : (s.modCore c f).resp = s.resp := rfl

@[simp] theorem State.setTrio_pending (s : State) (t : Nat) (k : Trio) : (s.setTrio t k).pending = s.pending := rfl
@[simp] theorem State.setTrio_timebase (s : State) (t : Nat) (k : Trio) : (s.setTrio t k).timebase = s.timebase := rfl
@[simp] theorem State.setTrio_mcs (s : State) (t : Nat) (k : Trio) : (s.setTrio t k).mcs = s.mcs := rfl
@[simp] theorem State.setTrio_cores (s : State) (t : Nat) (k : Trio) : (s.setTrio t k).cores = s.cores := rfl
@[simp] theorem State.setTrio_mem (s : State) (t : Nat) (k : Trio) : (s.setTrio t k).mem = s.mem := rfl
@[simp] theorem State.setTrio_poison (s : State) (t : Nat) (k : Trio) : (s.setTrio t k).poison = s.poison := rfl
@[simp] theorem State.setTrio_msc (s : State) (t : Nat) (k : Trio) : (s.setTrio t k).msc = s.msc := rfl
@[simp] theorem State.setTrio_homes (s : State) (t : Nat) (k : Trio) : (s.setTrio t k).homes = s.homes := rfl
@[simp] theorem State.setTrio_net (s : State) (t : Nat) (k : Trio) : (s.setTrio t k).net = s.net := rfl
@[simp] theorem State.setTrio_ioBuf (s : State) (t : Nat) (k : Trio) : (s.setTrio t k).ioBuf = s.ioBuf := rfl
@[simp] theorem State.setTrio_refusals (s : State) (t : Nat) (k : Trio) : (s.setTrio t k).refusals = s.refusals := rfl
@[simp] theorem State.setTrio_fills (s : State) (t : Nat) (k : Trio) : (s.setTrio t k).fills = s.fills := rfl
@[simp] theorem State.setTrio_ftu (s : State) (t : Nat) (k : Trio) : (s.setTrio t k).ftu = s.ftu := rfl
@[simp] theorem State.setTrio_gce (s : State) (t : Nat) (k : Trio) : (s.setTrio t k).gce = s.gce := rfl
@[simp] theorem State.setTrio_evg (s : State) (t : Nat) (k : Trio) : (s.setTrio t k).evg = s.evg := rfl
@[simp] theorem State.setTrio_mcc (s : State) (t : Nat) (k : Trio) : (s.setTrio t k).mcc = s.mcc := rfl
@[simp] theorem State.setTrio_sec (s : State) (t : Nat) (k : Trio) : (s.setTrio t k).sec = s.sec := rfl
@[simp] theorem State.setTrio_links (s : State) (t : Nat) (k : Trio) : (s.setTrio t k).links = s.links := rfl
@[simp] theorem State.setTrio_lace (s : State) (t : Nat) (k : Trio) : (s.setTrio t k).lace = s.lace := rfl
@[simp] theorem State.setTrio_power (s : State) (t : Nat) (k : Trio) : (s.setTrio t k).power = s.power := rfl
@[simp] theorem State.setTrio_sole (s : State) (t : Nat) (k : Trio) : (s.setTrio t k).sole = s.sole := rfl
@[simp] theorem State.setTrio_boot (s : State) (t : Nat) (k : Trio) : (s.setTrio t k).boot = s.boot := rfl
@[simp] theorem State.setTrio_free (s : State) (t : Nat) (k : Trio) : (s.setTrio t k).free = s.free := rfl
@[simp] theorem State.setTrio_resp (s : State) (t : Nat) (k : Trio) : (s.setTrio t k).resp = s.resp := rfl

@[simp] theorem State.modTrio_pending (s : State) (t : Nat) (f : Trio → Trio) : (s.modTrio t f).pending = s.pending := rfl
@[simp] theorem State.modTrio_timebase (s : State) (t : Nat) (f : Trio → Trio) : (s.modTrio t f).timebase = s.timebase := rfl
@[simp] theorem State.modTrio_mcs (s : State) (t : Nat) (f : Trio → Trio) : (s.modTrio t f).mcs = s.mcs := rfl
@[simp] theorem State.modTrio_cores (s : State) (t : Nat) (f : Trio → Trio) : (s.modTrio t f).cores = s.cores := rfl
@[simp] theorem State.modTrio_mem (s : State) (t : Nat) (f : Trio → Trio) : (s.modTrio t f).mem = s.mem := rfl
@[simp] theorem State.modTrio_poison (s : State) (t : Nat) (f : Trio → Trio) : (s.modTrio t f).poison = s.poison := rfl
@[simp] theorem State.modTrio_msc (s : State) (t : Nat) (f : Trio → Trio) : (s.modTrio t f).msc = s.msc := rfl
@[simp] theorem State.modTrio_homes (s : State) (t : Nat) (f : Trio → Trio) : (s.modTrio t f).homes = s.homes := rfl
@[simp] theorem State.modTrio_net (s : State) (t : Nat) (f : Trio → Trio) : (s.modTrio t f).net = s.net := rfl
@[simp] theorem State.modTrio_ioBuf (s : State) (t : Nat) (f : Trio → Trio) : (s.modTrio t f).ioBuf = s.ioBuf := rfl
@[simp] theorem State.modTrio_refusals (s : State) (t : Nat) (f : Trio → Trio) : (s.modTrio t f).refusals = s.refusals := rfl
@[simp] theorem State.modTrio_fills (s : State) (t : Nat) (f : Trio → Trio) : (s.modTrio t f).fills = s.fills := rfl
@[simp] theorem State.modTrio_ftu (s : State) (t : Nat) (f : Trio → Trio) : (s.modTrio t f).ftu = s.ftu := rfl
@[simp] theorem State.modTrio_gce (s : State) (t : Nat) (f : Trio → Trio) : (s.modTrio t f).gce = s.gce := rfl
@[simp] theorem State.modTrio_evg (s : State) (t : Nat) (f : Trio → Trio) : (s.modTrio t f).evg = s.evg := rfl
@[simp] theorem State.modTrio_mcc (s : State) (t : Nat) (f : Trio → Trio) : (s.modTrio t f).mcc = s.mcc := rfl
@[simp] theorem State.modTrio_sec (s : State) (t : Nat) (f : Trio → Trio) : (s.modTrio t f).sec = s.sec := rfl
@[simp] theorem State.modTrio_links (s : State) (t : Nat) (f : Trio → Trio) : (s.modTrio t f).links = s.links := rfl
@[simp] theorem State.modTrio_lace (s : State) (t : Nat) (f : Trio → Trio) : (s.modTrio t f).lace = s.lace := rfl
@[simp] theorem State.modTrio_power (s : State) (t : Nat) (f : Trio → Trio) : (s.modTrio t f).power = s.power := rfl
@[simp] theorem State.modTrio_sole (s : State) (t : Nat) (f : Trio → Trio) : (s.modTrio t f).sole = s.sole := rfl
@[simp] theorem State.modTrio_boot (s : State) (t : Nat) (f : Trio → Trio) : (s.modTrio t f).boot = s.boot := rfl
@[simp] theorem State.modTrio_free (s : State) (t : Nat) (f : Trio → Trio) : (s.modTrio t f).free = s.free := rfl
@[simp] theorem State.modTrio_resp (s : State) (t : Nat) (f : Trio → Trio) : (s.modTrio t f).resp = s.resp := rfl

@[simp] theorem State.modL2_pending (s : State) (t : Nat) (f : L2 → L2) : (s.modL2 t f).pending = s.pending := by unfold State.modL2; split <;> rfl
@[simp] theorem State.modL2_timebase (s : State) (t : Nat) (f : L2 → L2) : (s.modL2 t f).timebase = s.timebase := by unfold State.modL2; split <;> rfl
@[simp] theorem State.modL2_mcs (s : State) (t : Nat) (f : L2 → L2) : (s.modL2 t f).mcs = s.mcs := by unfold State.modL2; split <;> rfl
@[simp] theorem State.modL2_cores (s : State) (t : Nat) (f : L2 → L2) : (s.modL2 t f).cores = s.cores := by unfold State.modL2; split <;> rfl
@[simp] theorem State.modL2_mem (s : State) (t : Nat) (f : L2 → L2) : (s.modL2 t f).mem = s.mem := by unfold State.modL2; split <;> rfl
@[simp] theorem State.modL2_poison (s : State) (t : Nat) (f : L2 → L2) : (s.modL2 t f).poison = s.poison := by unfold State.modL2; split <;> rfl
@[simp] theorem State.modL2_msc (s : State) (t : Nat) (f : L2 → L2) : (s.modL2 t f).msc = s.msc := by unfold State.modL2; split <;> rfl
@[simp] theorem State.modL2_homes (s : State) (t : Nat) (f : L2 → L2) : (s.modL2 t f).homes = s.homes := by unfold State.modL2; split <;> rfl
@[simp] theorem State.modL2_net (s : State) (t : Nat) (f : L2 → L2) : (s.modL2 t f).net = s.net := by unfold State.modL2; split <;> rfl
@[simp] theorem State.modL2_refusals (s : State) (t : Nat) (f : L2 → L2) : (s.modL2 t f).refusals = s.refusals := by unfold State.modL2; split <;> rfl
@[simp] theorem State.modL2_fills (s : State) (t : Nat) (f : L2 → L2) : (s.modL2 t f).fills = s.fills := by unfold State.modL2; split <;> rfl
@[simp] theorem State.modL2_ftu (s : State) (t : Nat) (f : L2 → L2) : (s.modL2 t f).ftu = s.ftu := by unfold State.modL2; split <;> rfl
@[simp] theorem State.modL2_gce (s : State) (t : Nat) (f : L2 → L2) : (s.modL2 t f).gce = s.gce := by unfold State.modL2; split <;> rfl
@[simp] theorem State.modL2_evg (s : State) (t : Nat) (f : L2 → L2) : (s.modL2 t f).evg = s.evg := by unfold State.modL2; split <;> rfl
@[simp] theorem State.modL2_mcc (s : State) (t : Nat) (f : L2 → L2) : (s.modL2 t f).mcc = s.mcc := by unfold State.modL2; split <;> rfl
@[simp] theorem State.modL2_sec (s : State) (t : Nat) (f : L2 → L2) : (s.modL2 t f).sec = s.sec := by unfold State.modL2; split <;> rfl
@[simp] theorem State.modL2_links (s : State) (t : Nat) (f : L2 → L2) : (s.modL2 t f).links = s.links := by unfold State.modL2; split <;> rfl
@[simp] theorem State.modL2_lace (s : State) (t : Nat) (f : L2 → L2) : (s.modL2 t f).lace = s.lace := by unfold State.modL2; split <;> rfl
@[simp] theorem State.modL2_power (s : State) (t : Nat) (f : L2 → L2) : (s.modL2 t f).power = s.power := by unfold State.modL2; split <;> rfl
@[simp] theorem State.modL2_sole (s : State) (t : Nat) (f : L2 → L2) : (s.modL2 t f).sole = s.sole := by unfold State.modL2; split <;> rfl
@[simp] theorem State.modL2_boot (s : State) (t : Nat) (f : L2 → L2) : (s.modL2 t f).boot = s.boot := by unfold State.modL2; split <;> rfl
@[simp] theorem State.modL2_free (s : State) (t : Nat) (f : L2 → L2) : (s.modL2 t f).free = s.free := by unfold State.modL2; split <;> rfl
@[simp] theorem State.modL2_resp (s : State) (t : Nat) (f : L2 → L2) : (s.modL2 t f).resp = s.resp := by unfold State.modL2; split <;> rfl

@[simp] theorem State.modHome_pending (s : State) (h : Nat) (f : Home → Home) : (s.modHome h f).pending = s.pending := rfl
@[simp] theorem State.modHome_timebase (s : State) (h : Nat) (f : Home → Home) : (s.modHome h f).timebase = s.timebase := rfl
@[simp] theorem State.modHome_mcs (s : State) (h : Nat) (f : Home → Home) : (s.modHome h f).mcs = s.mcs := rfl
@[simp] theorem State.modHome_cores (s : State) (h : Nat) (f : Home → Home) : (s.modHome h f).cores = s.cores := rfl
@[simp] theorem State.modHome_trios (s : State) (h : Nat) (f : Home → Home) : (s.modHome h f).trios = s.trios := rfl
@[simp] theorem State.modHome_mem (s : State) (h : Nat) (f : Home → Home) : (s.modHome h f).mem = s.mem := rfl
@[simp] theorem State.modHome_poison (s : State) (h : Nat) (f : Home → Home) : (s.modHome h f).poison = s.poison := rfl
@[simp] theorem State.modHome_msc (s : State) (h : Nat) (f : Home → Home) : (s.modHome h f).msc = s.msc := rfl
@[simp] theorem State.modHome_net (s : State) (h : Nat) (f : Home → Home) : (s.modHome h f).net = s.net := rfl
@[simp] theorem State.modHome_ioBuf (s : State) (h : Nat) (f : Home → Home) : (s.modHome h f).ioBuf = s.ioBuf := rfl
@[simp] theorem State.modHome_refusals (s : State) (h : Nat) (f : Home → Home) : (s.modHome h f).refusals = s.refusals := rfl
@[simp] theorem State.modHome_fills (s : State) (h : Nat) (f : Home → Home) : (s.modHome h f).fills = s.fills := rfl
@[simp] theorem State.modHome_ftu (s : State) (h : Nat) (f : Home → Home) : (s.modHome h f).ftu = s.ftu := rfl
@[simp] theorem State.modHome_gce (s : State) (h : Nat) (f : Home → Home) : (s.modHome h f).gce = s.gce := rfl
@[simp] theorem State.modHome_evg (s : State) (h : Nat) (f : Home → Home) : (s.modHome h f).evg = s.evg := rfl
@[simp] theorem State.modHome_mcc (s : State) (h : Nat) (f : Home → Home) : (s.modHome h f).mcc = s.mcc := rfl
@[simp] theorem State.modHome_sec (s : State) (h : Nat) (f : Home → Home) : (s.modHome h f).sec = s.sec := rfl
@[simp] theorem State.modHome_links (s : State) (h : Nat) (f : Home → Home) : (s.modHome h f).links = s.links := rfl
@[simp] theorem State.modHome_lace (s : State) (h : Nat) (f : Home → Home) : (s.modHome h f).lace = s.lace := rfl
@[simp] theorem State.modHome_power (s : State) (h : Nat) (f : Home → Home) : (s.modHome h f).power = s.power := rfl
@[simp] theorem State.modHome_sole (s : State) (h : Nat) (f : Home → Home) : (s.modHome h f).sole = s.sole := rfl
@[simp] theorem State.modHome_boot (s : State) (h : Nat) (f : Home → Home) : (s.modHome h f).boot = s.boot := rfl
@[simp] theorem State.modHome_free (s : State) (h : Nat) (f : Home → Home) : (s.modHome h f).free = s.free := rfl
@[simp] theorem State.modHome_resp (s : State) (h : Nat) (f : Home → Home) : (s.modHome h f).resp = s.resp := rfl

@[simp] theorem State.modMc_pending (s : State) (m : Nat) (f : Mc → Mc) : (s.modMc m f).pending = s.pending := rfl
@[simp] theorem State.modMc_timebase (s : State) (m : Nat) (f : Mc → Mc) : (s.modMc m f).timebase = s.timebase := rfl
@[simp] theorem State.modMc_mcs (s : State) (m : Nat) (f : Mc → Mc) : (s.modMc m f).mcs = s.mcs := rfl
@[simp] theorem State.modMc_cores (s : State) (m : Nat) (f : Mc → Mc) : (s.modMc m f).cores = s.cores := rfl
@[simp] theorem State.modMc_trios (s : State) (m : Nat) (f : Mc → Mc) : (s.modMc m f).trios = s.trios := rfl
@[simp] theorem State.modMc_mem (s : State) (m : Nat) (f : Mc → Mc) : (s.modMc m f).mem = s.mem := rfl
@[simp] theorem State.modMc_poison (s : State) (m : Nat) (f : Mc → Mc) : (s.modMc m f).poison = s.poison := rfl
@[simp] theorem State.modMc_msc (s : State) (m : Nat) (f : Mc → Mc) : (s.modMc m f).msc = s.msc := rfl
@[simp] theorem State.modMc_homes (s : State) (m : Nat) (f : Mc → Mc) : (s.modMc m f).homes = s.homes := rfl
@[simp] theorem State.modMc_net (s : State) (m : Nat) (f : Mc → Mc) : (s.modMc m f).net = s.net := rfl
@[simp] theorem State.modMc_ioBuf (s : State) (m : Nat) (f : Mc → Mc) : (s.modMc m f).ioBuf = s.ioBuf := rfl
@[simp] theorem State.modMc_refusals (s : State) (m : Nat) (f : Mc → Mc) : (s.modMc m f).refusals = s.refusals := rfl
@[simp] theorem State.modMc_fills (s : State) (m : Nat) (f : Mc → Mc) : (s.modMc m f).fills = s.fills := rfl
@[simp] theorem State.modMc_ftu (s : State) (m : Nat) (f : Mc → Mc) : (s.modMc m f).ftu = s.ftu := rfl
@[simp] theorem State.modMc_gce (s : State) (m : Nat) (f : Mc → Mc) : (s.modMc m f).gce = s.gce := rfl
@[simp] theorem State.modMc_evg (s : State) (m : Nat) (f : Mc → Mc) : (s.modMc m f).evg = s.evg := rfl
@[simp] theorem State.modMc_sec (s : State) (m : Nat) (f : Mc → Mc) : (s.modMc m f).sec = s.sec := rfl
@[simp] theorem State.modMc_links (s : State) (m : Nat) (f : Mc → Mc) : (s.modMc m f).links = s.links := rfl
@[simp] theorem State.modMc_lace (s : State) (m : Nat) (f : Mc → Mc) : (s.modMc m f).lace = s.lace := rfl
@[simp] theorem State.modMc_power (s : State) (m : Nat) (f : Mc → Mc) : (s.modMc m f).power = s.power := rfl
@[simp] theorem State.modMc_sole (s : State) (m : Nat) (f : Mc → Mc) : (s.modMc m f).sole = s.sole := rfl
@[simp] theorem State.modMc_boot (s : State) (m : Nat) (f : Mc → Mc) : (s.modMc m f).boot = s.boot := rfl
@[simp] theorem State.modMc_free (s : State) (m : Nat) (f : Mc → Mc) : (s.modMc m f).free = s.free := rfl
@[simp] theorem State.modMc_resp (s : State) (m : Nat) (f : Mc → Mc) : (s.modMc m f).resp = s.resp := rfl

@[simp] theorem State.answer_pending (s : State) (r : Resp) : (s.answer r).pending = s.pending := rfl
@[simp] theorem State.answer_timebase (s : State) (r : Resp) : (s.answer r).timebase = s.timebase := rfl
@[simp] theorem State.answer_mcs (s : State) (r : Resp) : (s.answer r).mcs = s.mcs := rfl
@[simp] theorem State.answer_cores (s : State) (r : Resp) : (s.answer r).cores = s.cores := rfl
@[simp] theorem State.answer_trios (s : State) (r : Resp) : (s.answer r).trios = s.trios := rfl
@[simp] theorem State.answer_mem (s : State) (r : Resp) : (s.answer r).mem = s.mem := rfl
@[simp] theorem State.answer_poison (s : State) (r : Resp) : (s.answer r).poison = s.poison := rfl
@[simp] theorem State.answer_msc (s : State) (r : Resp) : (s.answer r).msc = s.msc := rfl
@[simp] theorem State.answer_homes (s : State) (r : Resp) : (s.answer r).homes = s.homes := rfl
@[simp] theorem State.answer_net (s : State) (r : Resp) : (s.answer r).net = s.net := rfl
@[simp] theorem State.answer_ioBuf (s : State) (r : Resp) : (s.answer r).ioBuf = s.ioBuf := rfl
@[simp] theorem State.answer_refusals (s : State) (r : Resp) : (s.answer r).refusals = s.refusals := rfl
@[simp] theorem State.answer_fills (s : State) (r : Resp) : (s.answer r).fills = s.fills := rfl
@[simp] theorem State.answer_ftu (s : State) (r : Resp) : (s.answer r).ftu = s.ftu := rfl
@[simp] theorem State.answer_gce (s : State) (r : Resp) : (s.answer r).gce = s.gce := rfl
@[simp] theorem State.answer_evg (s : State) (r : Resp) : (s.answer r).evg = s.evg := rfl
@[simp] theorem State.answer_mcc (s : State) (r : Resp) : (s.answer r).mcc = s.mcc := rfl
@[simp] theorem State.answer_sec (s : State) (r : Resp) : (s.answer r).sec = s.sec := rfl
@[simp] theorem State.answer_links (s : State) (r : Resp) : (s.answer r).links = s.links := rfl
@[simp] theorem State.answer_lace (s : State) (r : Resp) : (s.answer r).lace = s.lace := rfl
@[simp] theorem State.answer_power (s : State) (r : Resp) : (s.answer r).power = s.power := rfl
@[simp] theorem State.answer_sole (s : State) (r : Resp) : (s.answer r).sole = s.sole := rfl
@[simp] theorem State.answer_boot (s : State) (r : Resp) : (s.answer r).boot = s.boot := rfl
@[simp] theorem State.answer_free (s : State) (r : Resp) : (s.answer r).free = s.free := rfl

@[simp] theorem State.setReg_pending (s : State) (r : RegRef) (v : Dword) : (s.setReg r v).pending = s.pending := rfl
@[simp] theorem State.setReg_timebase (s : State) (r : RegRef) (v : Dword) : (s.setReg r v).timebase = s.timebase := rfl
@[simp] theorem State.setReg_cores (s : State) (r : RegRef) (v : Dword) : (s.setReg r v).cores = s.cores := rfl
@[simp] theorem State.setReg_trios (s : State) (r : RegRef) (v : Dword) : (s.setReg r v).trios = s.trios := rfl
@[simp] theorem State.setReg_mem (s : State) (r : RegRef) (v : Dword) : (s.setReg r v).mem = s.mem := rfl
@[simp] theorem State.setReg_poison (s : State) (r : RegRef) (v : Dword) : (s.setReg r v).poison = s.poison := rfl
@[simp] theorem State.setReg_msc (s : State) (r : RegRef) (v : Dword) : (s.setReg r v).msc = s.msc := rfl
@[simp] theorem State.setReg_homes (s : State) (r : RegRef) (v : Dword) : (s.setReg r v).homes = s.homes := rfl
@[simp] theorem State.setReg_net (s : State) (r : RegRef) (v : Dword) : (s.setReg r v).net = s.net := rfl
@[simp] theorem State.setReg_ioBuf (s : State) (r : RegRef) (v : Dword) : (s.setReg r v).ioBuf = s.ioBuf := rfl
@[simp] theorem State.setReg_refusals (s : State) (r : RegRef) (v : Dword) : (s.setReg r v).refusals = s.refusals := rfl
@[simp] theorem State.setReg_fills (s : State) (r : RegRef) (v : Dword) : (s.setReg r v).fills = s.fills := rfl
@[simp] theorem State.setReg_ftu (s : State) (r : RegRef) (v : Dword) : (s.setReg r v).ftu = s.ftu := rfl
@[simp] theorem State.setReg_gce (s : State) (r : RegRef) (v : Dword) : (s.setReg r v).gce = s.gce := rfl
@[simp] theorem State.setReg_evg (s : State) (r : RegRef) (v : Dword) : (s.setReg r v).evg = s.evg := rfl
@[simp] theorem State.setReg_mcc (s : State) (r : RegRef) (v : Dword) : (s.setReg r v).mcc = s.mcc := rfl
@[simp] theorem State.setReg_sec (s : State) (r : RegRef) (v : Dword) : (s.setReg r v).sec = s.sec := rfl
@[simp] theorem State.setReg_links (s : State) (r : RegRef) (v : Dword) : (s.setReg r v).links = s.links := rfl
@[simp] theorem State.setReg_lace (s : State) (r : RegRef) (v : Dword) : (s.setReg r v).lace = s.lace := rfl
@[simp] theorem State.setReg_power (s : State) (r : RegRef) (v : Dword) : (s.setReg r v).power = s.power := rfl
@[simp] theorem State.setReg_sole (s : State) (r : RegRef) (v : Dword) : (s.setReg r v).sole = s.sole := rfl
@[simp] theorem State.setReg_boot (s : State) (r : RegRef) (v : Dword) : (s.setReg r v).boot = s.boot := rfl
@[simp] theorem State.setReg_free (s : State) (r : RegRef) (v : Dword) : (s.setReg r v).free = s.free := rfl
@[simp] theorem State.setReg_resp (s : State) (r : RegRef) (v : Dword) : (s.setReg r v).resp = s.resp := rfl

@[simp] theorem State.setRf_pending (s : State) (r : RegRef) (hi lo v : Nat) : (s.setRf r hi lo v).pending = s.pending := rfl
@[simp] theorem State.setRf_timebase (s : State) (r : RegRef) (hi lo v : Nat) : (s.setRf r hi lo v).timebase = s.timebase := rfl
@[simp] theorem State.setRf_cores (s : State) (r : RegRef) (hi lo v : Nat) : (s.setRf r hi lo v).cores = s.cores := rfl
@[simp] theorem State.setRf_trios (s : State) (r : RegRef) (hi lo v : Nat) : (s.setRf r hi lo v).trios = s.trios := rfl
@[simp] theorem State.setRf_mem (s : State) (r : RegRef) (hi lo v : Nat) : (s.setRf r hi lo v).mem = s.mem := rfl
@[simp] theorem State.setRf_poison (s : State) (r : RegRef) (hi lo v : Nat) : (s.setRf r hi lo v).poison = s.poison := rfl
@[simp] theorem State.setRf_msc (s : State) (r : RegRef) (hi lo v : Nat) : (s.setRf r hi lo v).msc = s.msc := rfl
@[simp] theorem State.setRf_homes (s : State) (r : RegRef) (hi lo v : Nat) : (s.setRf r hi lo v).homes = s.homes := rfl
@[simp] theorem State.setRf_net (s : State) (r : RegRef) (hi lo v : Nat) : (s.setRf r hi lo v).net = s.net := rfl
@[simp] theorem State.setRf_ioBuf (s : State) (r : RegRef) (hi lo v : Nat) : (s.setRf r hi lo v).ioBuf = s.ioBuf := rfl
@[simp] theorem State.setRf_refusals (s : State) (r : RegRef) (hi lo v : Nat) : (s.setRf r hi lo v).refusals = s.refusals := rfl
@[simp] theorem State.setRf_fills (s : State) (r : RegRef) (hi lo v : Nat) : (s.setRf r hi lo v).fills = s.fills := rfl
@[simp] theorem State.setRf_ftu (s : State) (r : RegRef) (hi lo v : Nat) : (s.setRf r hi lo v).ftu = s.ftu := rfl
@[simp] theorem State.setRf_gce (s : State) (r : RegRef) (hi lo v : Nat) : (s.setRf r hi lo v).gce = s.gce := rfl
@[simp] theorem State.setRf_evg (s : State) (r : RegRef) (hi lo v : Nat) : (s.setRf r hi lo v).evg = s.evg := rfl
@[simp] theorem State.setRf_mcc (s : State) (r : RegRef) (hi lo v : Nat) : (s.setRf r hi lo v).mcc = s.mcc := rfl
@[simp] theorem State.setRf_sec (s : State) (r : RegRef) (hi lo v : Nat) : (s.setRf r hi lo v).sec = s.sec := rfl
@[simp] theorem State.setRf_links (s : State) (r : RegRef) (hi lo v : Nat) : (s.setRf r hi lo v).links = s.links := rfl
@[simp] theorem State.setRf_lace (s : State) (r : RegRef) (hi lo v : Nat) : (s.setRf r hi lo v).lace = s.lace := rfl
@[simp] theorem State.setRf_power (s : State) (r : RegRef) (hi lo v : Nat) : (s.setRf r hi lo v).power = s.power := rfl
@[simp] theorem State.setRf_sole (s : State) (r : RegRef) (hi lo v : Nat) : (s.setRf r hi lo v).sole = s.sole := rfl
@[simp] theorem State.setRf_boot (s : State) (r : RegRef) (hi lo v : Nat) : (s.setRf r hi lo v).boot = s.boot := rfl
@[simp] theorem State.setRf_free (s : State) (r : RegRef) (hi lo v : Nat) : (s.setRf r hi lo v).free = s.free := rfl
@[simp] theorem State.setRf_resp (s : State) (r : RegRef) (hi lo v : Nat) : (s.setRf r hi lo v).resp = s.resp := rfl

@[simp] theorem State.incRf_pending (s : State) (r : RegRef) (hi lo : Nat) : (s.incRf r hi lo).pending = s.pending := rfl
@[simp] theorem State.incRf_timebase (s : State) (r : RegRef) (hi lo : Nat) : (s.incRf r hi lo).timebase = s.timebase := rfl
@[simp] theorem State.incRf_cores (s : State) (r : RegRef) (hi lo : Nat) : (s.incRf r hi lo).cores = s.cores := rfl
@[simp] theorem State.incRf_trios (s : State) (r : RegRef) (hi lo : Nat) : (s.incRf r hi lo).trios = s.trios := rfl
@[simp] theorem State.incRf_mem (s : State) (r : RegRef) (hi lo : Nat) : (s.incRf r hi lo).mem = s.mem := rfl
@[simp] theorem State.incRf_poison (s : State) (r : RegRef) (hi lo : Nat) : (s.incRf r hi lo).poison = s.poison := rfl
@[simp] theorem State.incRf_msc (s : State) (r : RegRef) (hi lo : Nat) : (s.incRf r hi lo).msc = s.msc := rfl
@[simp] theorem State.incRf_homes (s : State) (r : RegRef) (hi lo : Nat) : (s.incRf r hi lo).homes = s.homes := rfl
@[simp] theorem State.incRf_net (s : State) (r : RegRef) (hi lo : Nat) : (s.incRf r hi lo).net = s.net := rfl
@[simp] theorem State.incRf_ioBuf (s : State) (r : RegRef) (hi lo : Nat) : (s.incRf r hi lo).ioBuf = s.ioBuf := rfl
@[simp] theorem State.incRf_refusals (s : State) (r : RegRef) (hi lo : Nat) : (s.incRf r hi lo).refusals = s.refusals := rfl
@[simp] theorem State.incRf_fills (s : State) (r : RegRef) (hi lo : Nat) : (s.incRf r hi lo).fills = s.fills := rfl
@[simp] theorem State.incRf_ftu (s : State) (r : RegRef) (hi lo : Nat) : (s.incRf r hi lo).ftu = s.ftu := rfl
@[simp] theorem State.incRf_gce (s : State) (r : RegRef) (hi lo : Nat) : (s.incRf r hi lo).gce = s.gce := rfl
@[simp] theorem State.incRf_evg (s : State) (r : RegRef) (hi lo : Nat) : (s.incRf r hi lo).evg = s.evg := rfl
@[simp] theorem State.incRf_mcc (s : State) (r : RegRef) (hi lo : Nat) : (s.incRf r hi lo).mcc = s.mcc := rfl
@[simp] theorem State.incRf_sec (s : State) (r : RegRef) (hi lo : Nat) : (s.incRf r hi lo).sec = s.sec := rfl
@[simp] theorem State.incRf_links (s : State) (r : RegRef) (hi lo : Nat) : (s.incRf r hi lo).links = s.links := rfl
@[simp] theorem State.incRf_lace (s : State) (r : RegRef) (hi lo : Nat) : (s.incRf r hi lo).lace = s.lace := rfl
@[simp] theorem State.incRf_power (s : State) (r : RegRef) (hi lo : Nat) : (s.incRf r hi lo).power = s.power := rfl
@[simp] theorem State.incRf_sole (s : State) (r : RegRef) (hi lo : Nat) : (s.incRf r hi lo).sole = s.sole := rfl
@[simp] theorem State.incRf_boot (s : State) (r : RegRef) (hi lo : Nat) : (s.incRf r hi lo).boot = s.boot := rfl
@[simp] theorem State.incRf_free (s : State) (r : RegRef) (hi lo : Nat) : (s.incRf r hi lo).free = s.free := rfl
@[simp] theorem State.incRf_resp (s : State) (r : RegRef) (hi lo : Nat) : (s.incRf r hi lo).resp = s.resp := rfl

@[simp] theorem State.writeReg_pending (s : State) (r : RegRef) (v : Dword) : (s.writeReg r v).pending = s.pending := rfl
@[simp] theorem State.writeReg_timebase (s : State) (r : RegRef) (v : Dword) : (s.writeReg r v).timebase = s.timebase := rfl
@[simp] theorem State.writeReg_cores (s : State) (r : RegRef) (v : Dword) : (s.writeReg r v).cores = s.cores := rfl
@[simp] theorem State.writeReg_trios (s : State) (r : RegRef) (v : Dword) : (s.writeReg r v).trios = s.trios := rfl
@[simp] theorem State.writeReg_mem (s : State) (r : RegRef) (v : Dword) : (s.writeReg r v).mem = s.mem := rfl
@[simp] theorem State.writeReg_poison (s : State) (r : RegRef) (v : Dword) : (s.writeReg r v).poison = s.poison := rfl
@[simp] theorem State.writeReg_msc (s : State) (r : RegRef) (v : Dword) : (s.writeReg r v).msc = s.msc := rfl
@[simp] theorem State.writeReg_homes (s : State) (r : RegRef) (v : Dword) : (s.writeReg r v).homes = s.homes := rfl
@[simp] theorem State.writeReg_net (s : State) (r : RegRef) (v : Dword) : (s.writeReg r v).net = s.net := rfl
@[simp] theorem State.writeReg_ioBuf (s : State) (r : RegRef) (v : Dword) : (s.writeReg r v).ioBuf = s.ioBuf := rfl
@[simp] theorem State.writeReg_refusals (s : State) (r : RegRef) (v : Dword) : (s.writeReg r v).refusals = s.refusals := rfl
@[simp] theorem State.writeReg_fills (s : State) (r : RegRef) (v : Dword) : (s.writeReg r v).fills = s.fills := rfl
@[simp] theorem State.writeReg_ftu (s : State) (r : RegRef) (v : Dword) : (s.writeReg r v).ftu = s.ftu := rfl
@[simp] theorem State.writeReg_gce (s : State) (r : RegRef) (v : Dword) : (s.writeReg r v).gce = s.gce := rfl
@[simp] theorem State.writeReg_evg (s : State) (r : RegRef) (v : Dword) : (s.writeReg r v).evg = s.evg := rfl
@[simp] theorem State.writeReg_mcc (s : State) (r : RegRef) (v : Dword) : (s.writeReg r v).mcc = s.mcc := rfl
@[simp] theorem State.writeReg_sec (s : State) (r : RegRef) (v : Dword) : (s.writeReg r v).sec = s.sec := rfl
@[simp] theorem State.writeReg_links (s : State) (r : RegRef) (v : Dword) : (s.writeReg r v).links = s.links := rfl
@[simp] theorem State.writeReg_lace (s : State) (r : RegRef) (v : Dword) : (s.writeReg r v).lace = s.lace := rfl
@[simp] theorem State.writeReg_power (s : State) (r : RegRef) (v : Dword) : (s.writeReg r v).power = s.power := rfl
@[simp] theorem State.writeReg_sole (s : State) (r : RegRef) (v : Dword) : (s.writeReg r v).sole = s.sole := rfl
@[simp] theorem State.writeReg_boot (s : State) (r : RegRef) (v : Dword) : (s.writeReg r v).boot = s.boot := rfl
@[simp] theorem State.writeReg_free (s : State) (r : RegRef) (v : Dword) : (s.writeReg r v).free = s.free := rfl
@[simp] theorem State.writeReg_resp (s : State) (r : RegRef) (v : Dword) : (s.writeReg r v).resp = s.resp := rfl

@[simp] theorem State.raise_pending (s : State) (n : Nat) : (s.raise n).pending = s.pending := rfl
@[simp] theorem State.raise_timebase (s : State) (n : Nat) : (s.raise n).timebase = s.timebase := rfl
@[simp] theorem State.raise_mcs (s : State) (n : Nat) : (s.raise n).mcs = s.mcs := rfl
@[simp] theorem State.raise_cores (s : State) (n : Nat) : (s.raise n).cores = s.cores := rfl
@[simp] theorem State.raise_trios (s : State) (n : Nat) : (s.raise n).trios = s.trios := rfl
@[simp] theorem State.raise_mem (s : State) (n : Nat) : (s.raise n).mem = s.mem := rfl
@[simp] theorem State.raise_poison (s : State) (n : Nat) : (s.raise n).poison = s.poison := rfl
@[simp] theorem State.raise_msc (s : State) (n : Nat) : (s.raise n).msc = s.msc := rfl
@[simp] theorem State.raise_homes (s : State) (n : Nat) : (s.raise n).homes = s.homes := rfl
@[simp] theorem State.raise_net (s : State) (n : Nat) : (s.raise n).net = s.net := rfl
@[simp] theorem State.raise_ioBuf (s : State) (n : Nat) : (s.raise n).ioBuf = s.ioBuf := rfl
@[simp] theorem State.raise_refusals (s : State) (n : Nat) : (s.raise n).refusals = s.refusals := rfl
@[simp] theorem State.raise_fills (s : State) (n : Nat) : (s.raise n).fills = s.fills := rfl
@[simp] theorem State.raise_ftu (s : State) (n : Nat) : (s.raise n).ftu = s.ftu := rfl
@[simp] theorem State.raise_gce (s : State) (n : Nat) : (s.raise n).gce = s.gce := rfl
@[simp] theorem State.raise_mcc (s : State) (n : Nat) : (s.raise n).mcc = s.mcc := rfl
@[simp] theorem State.raise_sec (s : State) (n : Nat) : (s.raise n).sec = s.sec := rfl
@[simp] theorem State.raise_links (s : State) (n : Nat) : (s.raise n).links = s.links := rfl
@[simp] theorem State.raise_lace (s : State) (n : Nat) : (s.raise n).lace = s.lace := rfl
@[simp] theorem State.raise_power (s : State) (n : Nat) : (s.raise n).power = s.power := rfl
@[simp] theorem State.raise_sole (s : State) (n : Nat) : (s.raise n).sole = s.sole := rfl
@[simp] theorem State.raise_boot (s : State) (n : Nat) : (s.raise n).boot = s.boot := rfl
@[simp] theorem State.raise_free (s : State) (n : Nat) : (s.raise n).free = s.free := rfl
@[simp] theorem State.raise_resp (s : State) (n : Nat) : (s.raise n).resp = s.resp := rfl

@[simp] theorem State.setLine_pending (s : State) (n : Nat) (on : Bool) : (s.setLine n on).pending = s.pending := rfl
@[simp] theorem State.setLine_timebase (s : State) (n : Nat) (on : Bool) : (s.setLine n on).timebase = s.timebase := rfl
@[simp] theorem State.setLine_mcs (s : State) (n : Nat) (on : Bool) : (s.setLine n on).mcs = s.mcs := rfl
@[simp] theorem State.setLine_cores (s : State) (n : Nat) (on : Bool) : (s.setLine n on).cores = s.cores := rfl
@[simp] theorem State.setLine_trios (s : State) (n : Nat) (on : Bool) : (s.setLine n on).trios = s.trios := rfl
@[simp] theorem State.setLine_mem (s : State) (n : Nat) (on : Bool) : (s.setLine n on).mem = s.mem := rfl
@[simp] theorem State.setLine_poison (s : State) (n : Nat) (on : Bool) : (s.setLine n on).poison = s.poison := rfl
@[simp] theorem State.setLine_msc (s : State) (n : Nat) (on : Bool) : (s.setLine n on).msc = s.msc := rfl
@[simp] theorem State.setLine_homes (s : State) (n : Nat) (on : Bool) : (s.setLine n on).homes = s.homes := rfl
@[simp] theorem State.setLine_net (s : State) (n : Nat) (on : Bool) : (s.setLine n on).net = s.net := rfl
@[simp] theorem State.setLine_ioBuf (s : State) (n : Nat) (on : Bool) : (s.setLine n on).ioBuf = s.ioBuf := rfl
@[simp] theorem State.setLine_refusals (s : State) (n : Nat) (on : Bool) : (s.setLine n on).refusals = s.refusals := rfl
@[simp] theorem State.setLine_fills (s : State) (n : Nat) (on : Bool) : (s.setLine n on).fills = s.fills := rfl
@[simp] theorem State.setLine_ftu (s : State) (n : Nat) (on : Bool) : (s.setLine n on).ftu = s.ftu := rfl
@[simp] theorem State.setLine_gce (s : State) (n : Nat) (on : Bool) : (s.setLine n on).gce = s.gce := rfl
@[simp] theorem State.setLine_mcc (s : State) (n : Nat) (on : Bool) : (s.setLine n on).mcc = s.mcc := rfl
@[simp] theorem State.setLine_sec (s : State) (n : Nat) (on : Bool) : (s.setLine n on).sec = s.sec := rfl
@[simp] theorem State.setLine_links (s : State) (n : Nat) (on : Bool) : (s.setLine n on).links = s.links := rfl
@[simp] theorem State.setLine_lace (s : State) (n : Nat) (on : Bool) : (s.setLine n on).lace = s.lace := rfl
@[simp] theorem State.setLine_power (s : State) (n : Nat) (on : Bool) : (s.setLine n on).power = s.power := rfl
@[simp] theorem State.setLine_sole (s : State) (n : Nat) (on : Bool) : (s.setLine n on).sole = s.sole := rfl
@[simp] theorem State.setLine_boot (s : State) (n : Nat) (on : Bool) : (s.setLine n on).boot = s.boot := rfl
@[simp] theorem State.setLine_free (s : State) (n : Nat) (on : Bool) : (s.setLine n on).free = s.free := rfl
@[simp] theorem State.setLine_resp (s : State) (n : Nat) (on : Bool) : (s.setLine n on).resp = s.resp := rfl

@[simp] theorem State.post_pending (s : State) (cid ev : Nat) (org : Origin) : (s.post cid ev org).pending = s.pending := rfl
@[simp] theorem State.post_timebase (s : State) (cid ev : Nat) (org : Origin) : (s.post cid ev org).timebase = s.timebase := rfl
@[simp] theorem State.post_mcs (s : State) (cid ev : Nat) (org : Origin) : (s.post cid ev org).mcs = s.mcs := rfl
@[simp] theorem State.post_cores (s : State) (cid ev : Nat) (org : Origin) : (s.post cid ev org).cores = s.cores := rfl
@[simp] theorem State.post_trios (s : State) (cid ev : Nat) (org : Origin) : (s.post cid ev org).trios = s.trios := rfl
@[simp] theorem State.post_mem (s : State) (cid ev : Nat) (org : Origin) : (s.post cid ev org).mem = s.mem := rfl
@[simp] theorem State.post_poison (s : State) (cid ev : Nat) (org : Origin) : (s.post cid ev org).poison = s.poison := rfl
@[simp] theorem State.post_msc (s : State) (cid ev : Nat) (org : Origin) : (s.post cid ev org).msc = s.msc := rfl
@[simp] theorem State.post_homes (s : State) (cid ev : Nat) (org : Origin) : (s.post cid ev org).homes = s.homes := rfl
@[simp] theorem State.post_net (s : State) (cid ev : Nat) (org : Origin) : (s.post cid ev org).net = s.net := rfl
@[simp] theorem State.post_ioBuf (s : State) (cid ev : Nat) (org : Origin) : (s.post cid ev org).ioBuf = s.ioBuf := rfl
@[simp] theorem State.post_refusals (s : State) (cid ev : Nat) (org : Origin) : (s.post cid ev org).refusals = s.refusals := rfl
@[simp] theorem State.post_fills (s : State) (cid ev : Nat) (org : Origin) : (s.post cid ev org).fills = s.fills := rfl
@[simp] theorem State.post_ftu (s : State) (cid ev : Nat) (org : Origin) : (s.post cid ev org).ftu = s.ftu := rfl
@[simp] theorem State.post_gce (s : State) (cid ev : Nat) (org : Origin) : (s.post cid ev org).gce = s.gce := rfl
@[simp] theorem State.post_mcc (s : State) (cid ev : Nat) (org : Origin) : (s.post cid ev org).mcc = s.mcc := rfl
@[simp] theorem State.post_sec (s : State) (cid ev : Nat) (org : Origin) : (s.post cid ev org).sec = s.sec := rfl
@[simp] theorem State.post_links (s : State) (cid ev : Nat) (org : Origin) : (s.post cid ev org).links = s.links := rfl
@[simp] theorem State.post_lace (s : State) (cid ev : Nat) (org : Origin) : (s.post cid ev org).lace = s.lace := rfl
@[simp] theorem State.post_power (s : State) (cid ev : Nat) (org : Origin) : (s.post cid ev org).power = s.power := rfl
@[simp] theorem State.post_sole (s : State) (cid ev : Nat) (org : Origin) : (s.post cid ev org).sole = s.sole := rfl
@[simp] theorem State.post_boot (s : State) (cid ev : Nat) (org : Origin) : (s.post cid ev org).boot = s.boot := rfl
@[simp] theorem State.post_free (s : State) (cid ev : Nat) (org : Origin) : (s.post cid ev org).free = s.free := rfl
@[simp] theorem State.post_resp (s : State) (cid ev : Nat) (org : Origin) : (s.post cid ev org).resp = s.resp := rfl

@[simp] theorem State.setByte_pending (s : State) (a : Nat) (b : Byte) : (s.setByte a b).pending = s.pending := rfl
@[simp] theorem State.setByte_timebase (s : State) (a : Nat) (b : Byte) : (s.setByte a b).timebase = s.timebase := rfl
@[simp] theorem State.setByte_mcs (s : State) (a : Nat) (b : Byte) : (s.setByte a b).mcs = s.mcs := rfl
@[simp] theorem State.setByte_cores (s : State) (a : Nat) (b : Byte) : (s.setByte a b).cores = s.cores := rfl
@[simp] theorem State.setByte_trios (s : State) (a : Nat) (b : Byte) : (s.setByte a b).trios = s.trios := rfl
@[simp] theorem State.setByte_poison (s : State) (a : Nat) (b : Byte) : (s.setByte a b).poison = s.poison := rfl
@[simp] theorem State.setByte_msc (s : State) (a : Nat) (b : Byte) : (s.setByte a b).msc = s.msc := rfl
@[simp] theorem State.setByte_homes (s : State) (a : Nat) (b : Byte) : (s.setByte a b).homes = s.homes := rfl
@[simp] theorem State.setByte_net (s : State) (a : Nat) (b : Byte) : (s.setByte a b).net = s.net := rfl
@[simp] theorem State.setByte_ioBuf (s : State) (a : Nat) (b : Byte) : (s.setByte a b).ioBuf = s.ioBuf := rfl
@[simp] theorem State.setByte_refusals (s : State) (a : Nat) (b : Byte) : (s.setByte a b).refusals = s.refusals := rfl
@[simp] theorem State.setByte_fills (s : State) (a : Nat) (b : Byte) : (s.setByte a b).fills = s.fills := rfl
@[simp] theorem State.setByte_ftu (s : State) (a : Nat) (b : Byte) : (s.setByte a b).ftu = s.ftu := rfl
@[simp] theorem State.setByte_gce (s : State) (a : Nat) (b : Byte) : (s.setByte a b).gce = s.gce := rfl
@[simp] theorem State.setByte_evg (s : State) (a : Nat) (b : Byte) : (s.setByte a b).evg = s.evg := rfl
@[simp] theorem State.setByte_mcc (s : State) (a : Nat) (b : Byte) : (s.setByte a b).mcc = s.mcc := rfl
@[simp] theorem State.setByte_sec (s : State) (a : Nat) (b : Byte) : (s.setByte a b).sec = s.sec := rfl
@[simp] theorem State.setByte_links (s : State) (a : Nat) (b : Byte) : (s.setByte a b).links = s.links := rfl
@[simp] theorem State.setByte_lace (s : State) (a : Nat) (b : Byte) : (s.setByte a b).lace = s.lace := rfl
@[simp] theorem State.setByte_power (s : State) (a : Nat) (b : Byte) : (s.setByte a b).power = s.power := rfl
@[simp] theorem State.setByte_sole (s : State) (a : Nat) (b : Byte) : (s.setByte a b).sole = s.sole := rfl
@[simp] theorem State.setByte_boot (s : State) (a : Nat) (b : Byte) : (s.setByte a b).boot = s.boot := rfl
@[simp] theorem State.setByte_free (s : State) (a : Nat) (b : Byte) : (s.setByte a b).free = s.free := rfl
@[simp] theorem State.setByte_resp (s : State) (a : Nat) (b : Byte) : (s.setByte a b).resp = s.resp := rfl

@[simp] theorem State.setCore_trio (s : State) (c : Nat) (k : Core) (x : Nat) : (s.setCore c k).trio x = s.trio x := rfl
@[simp] theorem State.setCore_home (s : State) (c : Nat) (k : Core) (x : Nat) : (s.setCore c k).home x = s.home x := rfl
@[simp] theorem State.setCore_mc (s : State) (c : Nat) (k : Core) (x : Nat) : (s.setCore c k).mc x = s.mc x := rfl
@[simp] theorem State.setCore_reg (s : State) (c : Nat) (k : Core) (x : RegRef) : (s.setCore c k).reg x = s.reg x := rfl
@[simp] theorem State.setCore_byte (s : State) (c : Nat) (k : Core) (x : Nat) : (s.setCore c k).byte x = s.byte x := rfl
@[simp] theorem State.modCore_trio (s : State) (c : Nat) (f : Core → Core) (x : Nat) : (s.modCore c f).trio x = s.trio x := rfl
@[simp] theorem State.modCore_home (s : State) (c : Nat) (f : Core → Core) (x : Nat) : (s.modCore c f).home x = s.home x := rfl
@[simp] theorem State.modCore_mc (s : State) (c : Nat) (f : Core → Core) (x : Nat) : (s.modCore c f).mc x = s.mc x := rfl
@[simp] theorem State.modCore_reg (s : State) (c : Nat) (f : Core → Core) (x : RegRef) : (s.modCore c f).reg x = s.reg x := rfl
@[simp] theorem State.modCore_byte (s : State) (c : Nat) (f : Core → Core) (x : Nat) : (s.modCore c f).byte x = s.byte x := rfl
@[simp] theorem State.setTrio_core (s : State) (t : Nat) (k : Trio) (x : Nat) : (s.setTrio t k).core x = s.core x := rfl
@[simp] theorem State.setTrio_home (s : State) (t : Nat) (k : Trio) (x : Nat) : (s.setTrio t k).home x = s.home x := rfl
@[simp] theorem State.setTrio_mc (s : State) (t : Nat) (k : Trio) (x : Nat) : (s.setTrio t k).mc x = s.mc x := rfl
@[simp] theorem State.setTrio_reg (s : State) (t : Nat) (k : Trio) (x : RegRef) : (s.setTrio t k).reg x = s.reg x := rfl
@[simp] theorem State.setTrio_byte (s : State) (t : Nat) (k : Trio) (x : Nat) : (s.setTrio t k).byte x = s.byte x := rfl
@[simp] theorem State.modTrio_core (s : State) (t : Nat) (f : Trio → Trio) (x : Nat) : (s.modTrio t f).core x = s.core x := rfl
@[simp] theorem State.modTrio_home (s : State) (t : Nat) (f : Trio → Trio) (x : Nat) : (s.modTrio t f).home x = s.home x := rfl
@[simp] theorem State.modTrio_mc (s : State) (t : Nat) (f : Trio → Trio) (x : Nat) : (s.modTrio t f).mc x = s.mc x := rfl
@[simp] theorem State.modTrio_reg (s : State) (t : Nat) (f : Trio → Trio) (x : RegRef) : (s.modTrio t f).reg x = s.reg x := rfl
@[simp] theorem State.modTrio_byte (s : State) (t : Nat) (f : Trio → Trio) (x : Nat) : (s.modTrio t f).byte x = s.byte x := rfl
@[simp] theorem State.modL2_core (s : State) (t : Nat) (f : L2 → L2) (x : Nat) : (s.modL2 t f).core x = s.core x := by unfold State.modL2; split <;> rfl
@[simp] theorem State.modL2_home (s : State) (t : Nat) (f : L2 → L2) (x : Nat) : (s.modL2 t f).home x = s.home x := by unfold State.modL2; split <;> rfl
@[simp] theorem State.modL2_mc (s : State) (t : Nat) (f : L2 → L2) (x : Nat) : (s.modL2 t f).mc x = s.mc x := by unfold State.modL2; split <;> rfl
@[simp] theorem State.modL2_reg (s : State) (t : Nat) (f : L2 → L2) (x : RegRef) : (s.modL2 t f).reg x = s.reg x := by unfold State.modL2; split <;> rfl
@[simp] theorem State.modL2_byte (s : State) (t : Nat) (f : L2 → L2) (x : Nat) : (s.modL2 t f).byte x = s.byte x := by unfold State.modL2; split <;> rfl
@[simp] theorem State.modHome_core (s : State) (h : Nat) (f : Home → Home) (x : Nat) : (s.modHome h f).core x = s.core x := rfl
@[simp] theorem State.modHome_trio (s : State) (h : Nat) (f : Home → Home) (x : Nat) : (s.modHome h f).trio x = s.trio x := rfl
@[simp] theorem State.modHome_mc (s : State) (h : Nat) (f : Home → Home) (x : Nat) : (s.modHome h f).mc x = s.mc x := rfl
@[simp] theorem State.modHome_reg (s : State) (h : Nat) (f : Home → Home) (x : RegRef) : (s.modHome h f).reg x = s.reg x := rfl
@[simp] theorem State.modHome_byte (s : State) (h : Nat) (f : Home → Home) (x : Nat) : (s.modHome h f).byte x = s.byte x := rfl
@[simp] theorem State.modMc_core (s : State) (m : Nat) (f : Mc → Mc) (x : Nat) : (s.modMc m f).core x = s.core x := rfl
@[simp] theorem State.modMc_trio (s : State) (m : Nat) (f : Mc → Mc) (x : Nat) : (s.modMc m f).trio x = s.trio x := rfl
@[simp] theorem State.modMc_home (s : State) (m : Nat) (f : Mc → Mc) (x : Nat) : (s.modMc m f).home x = s.home x := rfl
@[simp] theorem State.modMc_reg (s : State) (m : Nat) (f : Mc → Mc) (x : RegRef) : (s.modMc m f).reg x = s.reg x := rfl
@[simp] theorem State.modMc_byte (s : State) (m : Nat) (f : Mc → Mc) (x : Nat) : (s.modMc m f).byte x = s.byte x := rfl
@[simp] theorem State.answer_core (s : State) (r : Resp) (x : Nat) : (s.answer r).core x = s.core x := rfl
@[simp] theorem State.answer_trio (s : State) (r : Resp) (x : Nat) : (s.answer r).trio x = s.trio x := rfl
@[simp] theorem State.answer_home (s : State) (r : Resp) (x : Nat) : (s.answer r).home x = s.home x := rfl
@[simp] theorem State.answer_mc (s : State) (r : Resp) (x : Nat) : (s.answer r).mc x = s.mc x := rfl
@[simp] theorem State.answer_reg (s : State) (r : Resp) (x : RegRef) : (s.answer r).reg x = s.reg x := rfl
@[simp] theorem State.answer_byte (s : State) (r : Resp) (x : Nat) : (s.answer r).byte x = s.byte x := rfl
@[simp] theorem State.setReg_core (s : State) (r : RegRef) (v : Dword) (x : Nat) : (s.setReg r v).core x = s.core x := rfl
@[simp] theorem State.setReg_trio (s : State) (r : RegRef) (v : Dword) (x : Nat) : (s.setReg r v).trio x = s.trio x := rfl
@[simp] theorem State.setReg_home (s : State) (r : RegRef) (v : Dword) (x : Nat) : (s.setReg r v).home x = s.home x := rfl
@[simp] theorem State.setReg_mc (s : State) (r : RegRef) (v : Dword) (x : Nat) : (s.setReg r v).mc x = s.mc x := rfl
@[simp] theorem State.setReg_byte (s : State) (r : RegRef) (v : Dword) (x : Nat) : (s.setReg r v).byte x = s.byte x := rfl
@[simp] theorem State.setRf_core (s : State) (r : RegRef) (hi lo v : Nat) (x : Nat) : (s.setRf r hi lo v).core x = s.core x := rfl
@[simp] theorem State.setRf_trio (s : State) (r : RegRef) (hi lo v : Nat) (x : Nat) : (s.setRf r hi lo v).trio x = s.trio x := rfl
@[simp] theorem State.setRf_home (s : State) (r : RegRef) (hi lo v : Nat) (x : Nat) : (s.setRf r hi lo v).home x = s.home x := rfl
@[simp] theorem State.setRf_mc (s : State) (r : RegRef) (hi lo v : Nat) (x : Nat) : (s.setRf r hi lo v).mc x = s.mc x := rfl
@[simp] theorem State.setRf_byte (s : State) (r : RegRef) (hi lo v : Nat) (x : Nat) : (s.setRf r hi lo v).byte x = s.byte x := rfl
@[simp] theorem State.incRf_core (s : State) (r : RegRef) (hi lo : Nat) (x : Nat) : (s.incRf r hi lo).core x = s.core x := rfl
@[simp] theorem State.incRf_trio (s : State) (r : RegRef) (hi lo : Nat) (x : Nat) : (s.incRf r hi lo).trio x = s.trio x := rfl
@[simp] theorem State.incRf_home (s : State) (r : RegRef) (hi lo : Nat) (x : Nat) : (s.incRf r hi lo).home x = s.home x := rfl
@[simp] theorem State.incRf_mc (s : State) (r : RegRef) (hi lo : Nat) (x : Nat) : (s.incRf r hi lo).mc x = s.mc x := rfl
@[simp] theorem State.incRf_byte (s : State) (r : RegRef) (hi lo : Nat) (x : Nat) : (s.incRf r hi lo).byte x = s.byte x := rfl
@[simp] theorem State.writeReg_core (s : State) (r : RegRef) (v : Dword) (x : Nat) : (s.writeReg r v).core x = s.core x := rfl
@[simp] theorem State.writeReg_trio (s : State) (r : RegRef) (v : Dword) (x : Nat) : (s.writeReg r v).trio x = s.trio x := rfl
@[simp] theorem State.writeReg_home (s : State) (r : RegRef) (v : Dword) (x : Nat) : (s.writeReg r v).home x = s.home x := rfl
@[simp] theorem State.writeReg_mc (s : State) (r : RegRef) (v : Dword) (x : Nat) : (s.writeReg r v).mc x = s.mc x := rfl
@[simp] theorem State.writeReg_byte (s : State) (r : RegRef) (v : Dword) (x : Nat) : (s.writeReg r v).byte x = s.byte x := rfl
@[simp] theorem State.raise_core (s : State) (n : Nat) (x : Nat) : (s.raise n).core x = s.core x := rfl
@[simp] theorem State.raise_trio (s : State) (n : Nat) (x : Nat) : (s.raise n).trio x = s.trio x := rfl
@[simp] theorem State.raise_home (s : State) (n : Nat) (x : Nat) : (s.raise n).home x = s.home x := rfl
@[simp] theorem State.raise_mc (s : State) (n : Nat) (x : Nat) : (s.raise n).mc x = s.mc x := rfl
@[simp] theorem State.raise_reg (s : State) (n : Nat) (x : RegRef) : (s.raise n).reg x = s.reg x := rfl
@[simp] theorem State.raise_byte (s : State) (n : Nat) (x : Nat) : (s.raise n).byte x = s.byte x := rfl
@[simp] theorem State.setLine_core (s : State) (n : Nat) (on : Bool) (x : Nat) : (s.setLine n on).core x = s.core x := rfl
@[simp] theorem State.setLine_trio (s : State) (n : Nat) (on : Bool) (x : Nat) : (s.setLine n on).trio x = s.trio x := rfl
@[simp] theorem State.setLine_home (s : State) (n : Nat) (on : Bool) (x : Nat) : (s.setLine n on).home x = s.home x := rfl
@[simp] theorem State.setLine_mc (s : State) (n : Nat) (on : Bool) (x : Nat) : (s.setLine n on).mc x = s.mc x := rfl
@[simp] theorem State.setLine_reg (s : State) (n : Nat) (on : Bool) (x : RegRef) : (s.setLine n on).reg x = s.reg x := rfl
@[simp] theorem State.setLine_byte (s : State) (n : Nat) (on : Bool) (x : Nat) : (s.setLine n on).byte x = s.byte x := rfl
@[simp] theorem State.post_core (s : State) (cid ev : Nat) (org : Origin) (x : Nat) : (s.post cid ev org).core x = s.core x := rfl
@[simp] theorem State.post_trio (s : State) (cid ev : Nat) (org : Origin) (x : Nat) : (s.post cid ev org).trio x = s.trio x := rfl
@[simp] theorem State.post_home (s : State) (cid ev : Nat) (org : Origin) (x : Nat) : (s.post cid ev org).home x = s.home x := rfl
@[simp] theorem State.post_mc (s : State) (cid ev : Nat) (org : Origin) (x : Nat) : (s.post cid ev org).mc x = s.mc x := rfl
@[simp] theorem State.post_reg (s : State) (cid ev : Nat) (org : Origin) (x : RegRef) : (s.post cid ev org).reg x = s.reg x := rfl
@[simp] theorem State.post_byte (s : State) (cid ev : Nat) (org : Origin) (x : Nat) : (s.post cid ev org).byte x = s.byte x := rfl
@[simp] theorem State.setByte_core (s : State) (a : Nat) (b : Byte) (x : Nat) : (s.setByte a b).core x = s.core x := rfl
@[simp] theorem State.setByte_trio (s : State) (a : Nat) (b : Byte) (x : Nat) : (s.setByte a b).trio x = s.trio x := rfl
@[simp] theorem State.setByte_home (s : State) (a : Nat) (b : Byte) (x : Nat) : (s.setByte a b).home x = s.home x := rfl
@[simp] theorem State.setByte_mc (s : State) (a : Nat) (b : Byte) (x : Nat) : (s.setByte a b).mc x = s.mc x := rfl
@[simp] theorem State.setByte_reg (s : State) (a : Nat) (b : Byte) (x : RegRef) : (s.setByte a b).reg x = s.reg x := rfl

@[simp] theorem State.core_setCore (s : State) (c : Nat) (k : Core) : (s.setCore c k).core c = k := by
  simp [State.core, State.setCore]
theorem State.core_setCore_other (s : State) {c x : Nat} (k : Core) (h : x ≠ c) : (s.setCore c k).core x = s.core x := by
  simp [State.core, State.setCore, SMap.get_put_other _ _ _ h]
@[simp] theorem State.core_modCore (s : State) (c : Nat) (f : Core → Core) : (s.modCore c f).core c = f (s.core c) := by
  simp [State.modCore]
theorem State.core_modCore_other (s : State) {c x : Nat} (f : Core → Core) (h : x ≠ c) : (s.modCore c f).core x = s.core x :=
  State.core_setCore_other s _ h
@[simp] theorem State.trio_setTrio (s : State) (t : Nat) (k : Trio) : (s.setTrio t k).trio t = k := by
  simp [State.trio, State.setTrio]
theorem State.trio_setTrio_other (s : State) {t x : Nat} (k : Trio) (h : x ≠ t) : (s.setTrio t k).trio x = s.trio x := by
  simp [State.trio, State.setTrio, SMap.get_put_other _ _ _ h]
@[simp] theorem State.trio_modTrio (s : State) (t : Nat) (f : Trio → Trio) : (s.modTrio t f).trio t = f (s.trio t) := by
  simp [State.modTrio]
theorem State.trio_modTrio_other (s : State) {t x : Nat} (f : Trio → Trio) (h : x ≠ t) : (s.modTrio t f).trio x = s.trio x :=
  State.trio_setTrio_other s _ h
@[simp] theorem State.home_modHome (s : State) (h : Nat) (f : Home → Home) : (s.modHome h f).home h = f (s.home h) := by
  simp [State.home, State.modHome]
theorem State.home_modHome_other (s : State) {h x : Nat} (f : Home → Home) (hx : x ≠ h) : (s.modHome h f).home x = s.home x := by
  simp [State.home, State.modHome, SMap.get_put_other _ _ _ hx]
@[simp] theorem State.mc_modMc (s : State) (m : Nat) (f : Mc → Mc) : (s.modMc m f).mc m = f (s.mc m) := by
  simp [State.mc, State.modMc]
theorem State.mc_modMc_other (s : State) {m x : Nat} (f : Mc → Mc) (h : x ≠ m) : (s.modMc m f).mc x = s.mc x := by
  simp [State.mc, State.modMc, SMap.get_put_other _ _ _ h]
@[simp] theorem State.reg_setReg (s : State) (r : RegRef) (v : Dword) : (s.setReg r v).reg r = v := by
  simp [State.reg, State.setReg]
theorem State.reg_setReg_other (s : State) {r x : RegRef} (v : Dword) (h : x.off ≠ r.off) : (s.setReg r v).reg x = s.reg x := by
  unfold State.reg State.setReg SMap.put
  split
  · exact SMap.get_erase_other _ _ h
  · rw [SMap.get_ins_other _ _ _ h, SMap.get_erase_other _ _ h]
@[simp] theorem State.reg_setRf (s : State) (r : RegRef) (hi lo v : Nat) : (s.setRf r hi lo v).reg r = setFld (s.reg r) hi lo v :=
  State.reg_setReg s r _
theorem State.reg_setRf_other (s : State) {r x : RegRef} (hi lo v : Nat) (h : x.off ≠ r.off) : (s.setRf r hi lo v).reg x = s.reg x :=
  State.reg_setReg_other s _ h
@[simp] theorem State.reg_incRf (s : State) (r : RegRef) (hi lo : Nat) :
    (s.incRf r hi lo).reg r = setFld (s.reg r) hi lo (satAdd (s.rf r hi lo) 1 (hi + 1 - lo)) := State.reg_setReg s r _
theorem State.reg_incRf_other (s : State) {r x : RegRef} (hi lo : Nat) (h : x.off ≠ r.off) : (s.incRf r hi lo).reg x = s.reg x :=
  State.reg_setReg_other s _ h
@[simp] theorem State.reg_writeReg (s : State) (r : RegRef) (v : Dword) :
    (s.writeReg r v).reg r = writeFields r.reg.fields (s.locked r) (s.reg r) v := State.reg_setReg s r _
theorem State.reg_writeReg_other (s : State) {r x : RegRef} (v : Dword) (h : x.off ≠ r.off) : (s.writeReg r v).reg x = s.reg x :=
  State.reg_setReg_other s _ h

end Sys2Proof.Machine
end

