-- ==== Sys2Proof/Laws/Finish.lean ====
section
/-! SUPPORT. What the end of a step leaves as it was: everything but the Event Gatherer, the pending broadcast sources of the cores
and the requests that they hold. -/

namespace Sys2Proof.Machine

/-- Two states that the end of a step may turn one into the other. -/
structure Settles (s t : State) : Prop where
  core : ∀ c, ∃ p q, t.core c = { s.core c with bcastP := p, intReq := q }
  reg : ∀ r : RegRef, (∀ g, g < 64 → r.off ≠ (pendR g).off) → r.off ≠ (RegRef.mk .evgStat 0 0 0).off → t.reg r = s.reg r
  pending : t.pending = s.pending
  timebase : t.timebase = s.timebase
  trios : t.trios = s.trios
  mem : t.mem = s.mem
  poison : t.poison = s.poison
  msc : t.msc = s.msc
  homes : t.homes = s.homes
  net : t.net = s.net
  ioBuf : t.ioBuf = s.ioBuf
  refusals : t.refusals = s.refusals
  fills : t.fills = s.fills
  ftu : t.ftu = s.ftu
  gce : t.gce = s.gce
  mcc : t.mcc = s.mcc
  sec : t.sec = s.sec
  links : t.links = s.links
  lace : t.lace = s.lace
  power : t.power = s.power
  sole : t.sole = s.sole
  boot : t.boot = s.boot
  free : t.free = s.free
  resp : t.resp = s.resp

theorem Settles.refl (s : State) : Settles s s :=
  ⟨fun _ => ⟨_, _, rfl⟩, fun _ _ _ => rfl, rfl, rfl, rfl, rfl, rfl, rfl, rfl, rfl, rfl, rfl, rfl, rfl, rfl, rfl, rfl, rfl, rfl, rfl,
    rfl, rfl, rfl, rfl⟩

theorem Settles.trans {s t u : State} (h : Settles s t) (k : Settles t u) : Settles s u where
  core c := by
    obtain ⟨p, q, e⟩ := h.core c
    obtain ⟨p', q', e'⟩ := k.core c
    exact ⟨p', q', by rw [e', e]⟩
  reg r a b := (k.reg r a b).trans (h.reg r a b)
  pending := k.pending.trans h.pending
  timebase := k.timebase.trans h.timebase
  trios := k.trios.trans h.trios
  mem := k.mem.trans h.mem
  poison := k.poison.trans h.poison
  msc := k.msc.trans h.msc
  homes := k.homes.trans h.homes
  net := k.net.trans h.net
  ioBuf := k.ioBuf.trans h.ioBuf
  refusals := k.refusals.trans h.refusals
  fills := k.fills.trans h.fills
  ftu := k.ftu.trans h.ftu
  gce := k.gce.trans h.gce
  mcc := k.mcc.trans h.mcc
  sec := k.sec.trans h.sec
  links := k.links.trans h.links
  lace := k.lace.trans h.lace
  power := k.power.trans h.power
  sole := k.sole.trans h.sole
  boot := k.boot.trans h.boot
  free := k.free.trans h.free
  resp := k.resp.trans h.resp

/-- A change of the Event Gatherer alone. -/
theorem settles_evg (s : State) (e : Evg) : Settles s { s with evg := e } := { Settles.refl s with }

/-- A change of a core's pending broadcasts and requests alone. -/
theorem settles_core (s : State) (c : Nat) (f : Core → Core)
    (h : ∀ k, ∃ p q, f k = { k with bcastP := p, intReq := q }) : Settles s (s.modCore c f) :=
  { Settles.refl s with
    core := fun x => by
      by_cases hx : x = c
      · subst hx; rw [State.core_modCore]; exact h _
      · exact ⟨_, _, by rw [State.core_modCore_other s f hx]⟩ }

theorem settles_foldl {α : Type} (f : State → α → State) (h : ∀ s a, Settles s (f s a)) (l : List α) (s : State) :
    Settles s (l.foldl f s) := by
  induction l generalizing s with
  | nil => exact Settles.refl s
  | cons a l ih => exact (h s a).trans (ih _)

theorem settles_postRoute (s : State) (n : Nat) : Settles s (s.postRoute n) := by
  have h : Settles s (s.incRf ⟨.evgStat, 0, 0, 0⟩ 47 32) :=
    { Settles.refl s with reg := fun r _ b => State.reg_incRf_other s _ _ b }
  unfold State.postRoute
  simp only
  split <;> split <;> first | exact h | exact settles_evg s _

theorem settles_setP (s : State) (n : Nat) (h : n < 2048) : Settles s (s.setP n) := by
  unfold State.setP
  split
  · exact settles_postRoute s n
  · split
    · exact settles_foldl _ (fun s c => settles_core s c _ fun k => ⟨_, k.intReq, rfl⟩) _ _
    · exact { Settles.refl s with reg := fun r a _ => State.reg_setRf_other s _ _ _ (a _ (by omega)) }

theorem settles_edge (s : State) (n : Nat) : Settles s (s.edge n) := by
  unfold State.edge
  split
  · exact Settles.refl s
  · split
    · exact settles_evg s _
    · refine settles_setP s n ?_
      rename_i h _
      simp [State.evE] at h
      exact h.1

theorem settles_take (s : State) (r : Raised) : Settles s (s.take r) := by
  cases r with
  | edge n => exact settles_edge s n
  | level n on => exact settles_evg s _

theorem settles_sample (s : State) (n : Nat) : Settles s (s.sample n) := by
  unfold State.sample
  split
  · exact Settles.refl s
  · rename_i he
    have hn : n < 2048 := by simp [State.evE] at he; exact he.1
    split
    · split
      · exact Settles.refl s
      · exact (settles_evg s _).trans (settles_edge _ n)
    · split
      · split
        · split
          · exact Settles.refl s
          · exact settles_evg s _
        · refine settles_foldl _ (fun s c => settles_core s c _ fun k => ?_) _ _
          split
          · exact ⟨_, _, rfl⟩
          · exact ⟨_, k.intReq, rfl⟩
      · split
        · exact Settles.refl s
        · exact settles_edge s n

theorem settles_dropRequests (s : State) : Settles s s.dropRequests := by
  unfold State.dropRequests
  refine settles_foldl _ (fun s e => ?_) _ _
  split
  · exact Settles.refl s
  · exact settles_core s _ _ fun k => ⟨k.bcastP, _, rfl⟩

/-- A step in which no posted store is refused records none. -/
theorem recordRefusals_none {s : State} (h : s.refusals = []) : s.recordRefusals = s := by
  unfold State.recordRefusals
  rw [h]
  cases s
  cases h
  rfl

/-- What the end of a step may change where no posted store has been refused in it. -/
theorem settles_finish (s : State) (h : s.refusals = []) : Settles s s.finish := by
  unfold State.finish
  rw [recordRefusals_none h]
  exact ((settles_evg s _).trans (settles_foldl _ settles_take _ _)).trans
    ((settles_foldl _ settles_sample _ _).trans (settles_dropRequests _))

end Sys2Proof.Machine
end

