-- ==== Sys2Proof/Laws/PerInstr.lean ====
section
/-! SUPPORT. Statements about every command, one lemma for each constructor. -/

namespace Sys2Proof.Laws.Operands

open Sys2Proof.Machine

/-- A command completes: in every state it answers a next state, whatever its operands. -/
def Statement (i : Instr) : Prop := ∀ s : State, ∃ t, exec i s = .next t

theorem add (c : CoreId) (o : OpsA) : Statement (.add c o) := fun _ => ⟨_, rfl⟩
theorem sub (c : CoreId) (o : OpsA) : Statement (.sub c o) := fun _ => ⟨_, rfl⟩
theorem and (c : CoreId) (o : OpsA) : Statement (.and c o) := fun _ => ⟨_, rfl⟩
theorem or (c : CoreId) (o : OpsA) : Statement (.or c o) := fun _ => ⟨_, rfl⟩
theorem xor (c : CoreId) (o : OpsA) : Statement (.xor c o) := fun _ => ⟨_, rfl⟩
theorem andn (c : CoreId) (o : OpsA) : Statement (.andn c o) := fun _ => ⟨_, rfl⟩
theorem orn (c : CoreId) (o : OpsA) : Statement (.orn c o) := fun _ => ⟨_, rfl⟩
theorem xnor (c : CoreId) (o : OpsA) : Statement (.xnor c o) := fun _ => ⟨_, rfl⟩
theorem sll (c : CoreId) (o : OpsA) : Statement (.sll c o) := fun _ => ⟨_, rfl⟩
theorem srl (c : CoreId) (o : OpsA) : Statement (.srl c o) := fun _ => ⟨_, rfl⟩
theorem sra (c : CoreId) (o : OpsA) : Statement (.sra c o) := fun _ => ⟨_, rfl⟩
theorem ror (c : CoreId) (o : OpsA) : Statement (.ror c o) := fun _ => ⟨_, rfl⟩
theorem slt (c : CoreId) (o : OpsA) : Statement (.slt c o) := fun _ => ⟨_, rfl⟩
theorem sltu (c : CoreId) (o : OpsA) : Statement (.sltu c o) := fun _ => ⟨_, rfl⟩
theorem min (c : CoreId) (o : OpsA) : Statement (.min c o) := fun _ => ⟨_, rfl⟩
theorem max (c : CoreId) (o : OpsA) : Statement (.max c o) := fun _ => ⟨_, rfl⟩
theorem minu (c : CoreId) (o : OpsA) : Statement (.minu c o) := fun _ => ⟨_, rfl⟩
theorem maxu (c : CoreId) (o : OpsA) : Statement (.maxu c o) := fun _ => ⟨_, rfl⟩
theorem addw (c : CoreId) (o : OpsA) : Statement (.addw c o) := fun _ => ⟨_, rfl⟩
theorem subw (c : CoreId) (o : OpsA) : Statement (.subw c o) := fun _ => ⟨_, rfl⟩
theorem sllw (c : CoreId) (o : OpsA) : Statement (.sllw c o) := fun _ => ⟨_, rfl⟩
theorem srlw (c : CoreId) (o : OpsA) : Statement (.srlw c o) := fun _ => ⟨_, rfl⟩
theorem sraw (c : CoreId) (o : OpsA) : Statement (.sraw c o) := fun _ => ⟨_, rfl⟩
theorem clz (c : CoreId) (o : OpsA) : Statement (.clz c o) := fun _ => ⟨_, rfl⟩
theorem ctz (c : CoreId) (o : OpsA) : Statement (.ctz c o) := fun _ => ⟨_, rfl⟩
theorem popc (c : CoreId) (o : OpsA) : Statement (.popc c o) := fun _ => ⟨_, rfl⟩
theorem sexb (c : CoreId) (o : OpsA) : Statement (.sexb c o) := fun _ => ⟨_, rfl⟩
theorem sexh (c : CoreId) (o : OpsA) : Statement (.sexh c o) := fun _ => ⟨_, rfl⟩
theorem sexw (c : CoreId) (o : OpsA) : Statement (.sexw c o) := fun _ => ⟨_, rfl⟩
theorem zexw (c : CoreId) (o : OpsA) : Statement (.zexw c o) := fun _ => ⟨_, rfl⟩
theorem selnz (c : CoreId) (o : OpsA) : Statement (.selnz c o) := fun _ => ⟨_, rfl⟩
theorem selz (c : CoreId) (o : OpsA) : Statement (.selz c o) := fun _ => ⟨_, rfl⟩
theorem mul (c : CoreId) (o : OpsA) : Statement (.mul c o) := fun _ => ⟨_, rfl⟩
theorem mulh (c : CoreId) (o : OpsA) : Statement (.mulh c o) := fun _ => ⟨_, rfl⟩
theorem mulhu (c : CoreId) (o : OpsA) : Statement (.mulhu c o) := fun _ => ⟨_, rfl⟩
theorem mulhsu (c : CoreId) (o : OpsA) : Statement (.mulhsu c o) := fun _ => ⟨_, rfl⟩
theorem mulw (c : CoreId) (o : OpsA) : Statement (.mulw c o) := fun _ => ⟨_, rfl⟩
theorem div (c : CoreId) (o : OpsA) : Statement (.div c o) := fun _ => ⟨_, rfl⟩
theorem divu (c : CoreId) (o : OpsA) : Statement (.divu c o) := fun _ => ⟨_, rfl⟩
theorem rem (c : CoreId) (o : OpsA) : Statement (.rem c o) := fun _ => ⟨_, rfl⟩
theorem remu (c : CoreId) (o : OpsA) : Statement (.remu c o) := fun _ => ⟨_, rfl⟩
theorem getq (c : CoreId) (o : OpsA) : Statement (.getq c o) := fun _ => ⟨_, rfl⟩
theorem dadd (c : CoreId) (o : OpsA) : Statement (.dadd c o) := fun _ => ⟨_, rfl⟩
theorem dsub (c : CoreId) (o : OpsA) : Statement (.dsub c o) := fun _ => ⟨_, rfl⟩
theorem lrW (c : CoreId) (o : OpsA) : Statement (.lrW c o) := fun _ => ⟨_, rfl⟩
theorem scW (c : CoreId) (o : OpsA) : Statement (.scW c o) := fun _ => ⟨_, rfl⟩
theorem lrD (c : CoreId) (o : OpsA) : Statement (.lrD c o) := fun _ => ⟨_, rfl⟩
theorem scD (c : CoreId) (o : OpsA) : Statement (.scD c o) := fun _ => ⟨_, rfl⟩
theorem tasB (c : CoreId) (o : OpsA) : Statement (.tasB c o) := fun _ => ⟨_, rfl⟩
theorem fadd (c : CoreId) (dbl : Bool) (o : OpsA) : Statement (.fadd c dbl o) := fun _ => ⟨_, rfl⟩
theorem fsub (c : CoreId) (dbl : Bool) (o : OpsA) : Statement (.fsub c dbl o) := fun _ => ⟨_, rfl⟩
theorem fmul (c : CoreId) (dbl : Bool) (o : OpsA) : Statement (.fmul c dbl o) := fun _ => ⟨_, rfl⟩
theorem fdiv (c : CoreId) (dbl : Bool) (o : OpsA) : Statement (.fdiv c dbl o) := fun _ => ⟨_, rfl⟩
theorem fsqrt (c : CoreId) (dbl : Bool) (o : OpsA) : Statement (.fsqrt c dbl o) := fun _ => ⟨_, rfl⟩
theorem fmin (c : CoreId) (dbl : Bool) (o : OpsA) : Statement (.fmin c dbl o) := fun _ => ⟨_, rfl⟩
theorem fmax (c : CoreId) (dbl : Bool) (o : OpsA) : Statement (.fmax c dbl o) := fun _ => ⟨_, rfl⟩
theorem fsgnj (c : CoreId) (dbl : Bool) (o : OpsA) : Statement (.fsgnj c dbl o) := fun _ => ⟨_, rfl⟩
theorem fsgnjn (c : CoreId) (dbl : Bool) (o : OpsA) : Statement (.fsgnjn c dbl o) := fun _ => ⟨_, rfl⟩
theorem fsgnjx (c : CoreId) (dbl : Bool) (o : OpsA) : Statement (.fsgnjx c dbl o) := fun _ => ⟨_, rfl⟩
theorem fmadd (c : CoreId) (dbl : Bool) (o : OpsFma) : Statement (.fmadd c dbl o) := fun _ => ⟨_, rfl⟩
theorem fmsub (c : CoreId) (dbl : Bool) (o : OpsFma) : Statement (.fmsub c dbl o) := fun _ => ⟨_, rfl⟩
theorem fnmadd (c : CoreId) (dbl : Bool) (o : OpsFma) : Statement (.fnmadd c dbl o) := fun _ => ⟨_, rfl⟩
theorem fnmsub (c : CoreId) (dbl : Bool) (o : OpsFma) : Statement (.fnmsub c dbl o) := fun _ => ⟨_, rfl⟩
theorem feq (c : CoreId) (dbl : Bool) (o : OpsA) : Statement (.feq c dbl o) := fun _ => ⟨_, rfl⟩
theorem flt (c : CoreId) (dbl : Bool) (o : OpsA) : Statement (.flt c dbl o) := fun _ => ⟨_, rfl⟩
theorem fle (c : CoreId) (dbl : Bool) (o : OpsA) : Statement (.fle c dbl o) := fun _ => ⟨_, rfl⟩
theorem fcvtSD (c : CoreId) (o : OpsA) : Statement (.fcvtSD c o) := fun _ => ⟨_, rfl⟩
theorem fcvtDS (c : CoreId) (o : OpsA) : Statement (.fcvtDS c o) := fun _ => ⟨_, rfl⟩
theorem fcvtLD (c : CoreId) (o : OpsA) : Statement (.fcvtLD c o) := fun _ => ⟨_, rfl⟩
theorem fcvtLuD (c : CoreId) (o : OpsA) : Statement (.fcvtLuD c o) := fun _ => ⟨_, rfl⟩
theorem fcvtLS (c : CoreId) (o : OpsA) : Statement (.fcvtLS c o) := fun _ => ⟨_, rfl⟩
theorem fcvtDL (c : CoreId) (o : OpsA) : Statement (.fcvtDL c o) := fun _ => ⟨_, rfl⟩
theorem fcvtDLu (c : CoreId) (o : OpsA) : Statement (.fcvtDLu c o) := fun _ => ⟨_, rfl⟩
theorem fcvtSL (c : CoreId) (o : OpsA) : Statement (.fcvtSL c o) := fun _ => ⟨_, rfl⟩
theorem fmvXD (c : CoreId) (o : OpsA) : Statement (.fmvXD c o) := fun _ => ⟨_, rfl⟩
theorem fmvDX (c : CoreId) (o : OpsA) : Statement (.fmvDX c o) := fun _ => ⟨_, rfl⟩
theorem fclass (c : CoreId) (dbl : Bool) (o : OpsA) : Statement (.fclass c dbl o) := fun _ => ⟨_, rfl⟩
theorem getf (c : CoreId) (o : OpsA) : Statement (.getf c o) := fun _ => ⟨_, rfl⟩
theorem addi (c : CoreId) (m2 : BitVec 2) (o : OpsB) : Statement (.addi c m2 o) := fun _ => ⟨_, rfl⟩
theorem andi (c : CoreId) (o : OpsB) : Statement (.andi c o) := fun _ => ⟨_, rfl⟩
theorem ori (c : CoreId) (o : OpsB) : Statement (.ori c o) := fun _ => ⟨_, rfl⟩
theorem xori (c : CoreId) (o : OpsB) : Statement (.xori c o) := fun _ => ⟨_, rfl⟩
theorem slli (c : CoreId) (o : OpsB) : Statement (.slli c o) := fun _ => ⟨_, rfl⟩
theorem srli (c : CoreId) (o : OpsB) : Statement (.srli c o) := fun _ => ⟨_, rfl⟩
theorem srai (c : CoreId) (o : OpsB) : Statement (.srai c o) := fun _ => ⟨_, rfl⟩
theorem rori (c : CoreId) (o : OpsB) : Statement (.rori c o) := fun _ => ⟨_, rfl⟩
theorem slti (c : CoreId) (o : OpsB) : Statement (.slti c o) := fun _ => ⟨_, rfl⟩
theorem sltiu (c : CoreId) (o : OpsB) : Statement (.sltiu c o) := fun _ => ⟨_, rfl⟩
theorem shori (c : CoreId) (o : OpsB) : Statement (.shori c o) := fun _ => ⟨_, rfl⟩
theorem addpc (c : CoreId) (o : OpsB) : Statement (.addpc c o) := fun _ => ⟨_, rfl⟩
theorem addpch (c : CoreId) (o : OpsB) : Statement (.addpch c o) := fun _ => ⟨_, rfl⟩
theorem jalr (c : CoreId) (m2 : BitVec 2) (o : OpsB) : Statement (.jalr c m2 o) := fun _ => ⟨_, rfl⟩
theorem lb (c : CoreId) (o : OpsC) : Statement (.lb c o) := fun _ => ⟨_, rfl⟩
theorem lbu (c : CoreId) (o : OpsC) : Statement (.lbu c o) := fun _ => ⟨_, rfl⟩
theorem lh (c : CoreId) (o : OpsC) : Statement (.lh c o) := fun _ => ⟨_, rfl⟩
theorem lhu (c : CoreId) (o : OpsC) : Statement (.lhu c o) := fun _ => ⟨_, rfl⟩
theorem lw (c : CoreId) (o : OpsC) : Statement (.lw c o) := fun _ => ⟨_, rfl⟩
theorem lwu (c : CoreId) (o : OpsC) : Statement (.lwu c o) := fun _ => ⟨_, rfl⟩
theorem ld (c : CoreId) (o : OpsC) (u : Option Upset) : Statement (.ld c o u) := fun _ => ⟨_, rfl⟩
theorem flw (c : CoreId) (o : OpsC) : Statement (.flw c o) := fun _ => ⟨_, rfl⟩
theorem fld (c : CoreId) (o : OpsC) : Statement (.fld c o) := fun _ => ⟨_, rfl⟩
theorem sb (c : CoreId) (o : OpsC) : Statement (.sb c o) := fun _ => ⟨_, rfl⟩
theorem sh (c : CoreId) (o : OpsC) : Statement (.sh c o) := fun _ => ⟨_, rfl⟩
theorem sw (c : CoreId) (o : OpsC) : Statement (.sw c o) := fun _ => ⟨_, rfl⟩
theorem sd (c : CoreId) (o : OpsC) : Statement (.sd c o) := fun _ => ⟨_, rfl⟩
theorem fsw (c : CoreId) (o : OpsC) : Statement (.fsw c o) := fun _ => ⟨_, rfl⟩
theorem fsd (c : CoreId) (o : OpsC) : Statement (.fsd c o) := fun _ => ⟨_, rfl⟩
theorem beqz (c : CoreId) (o : OpsD) : Statement (.beqz c o) := fun _ => ⟨_, rfl⟩
theorem bnez (c : CoreId) (o : OpsD) : Statement (.bnez c o) := fun _ => ⟨_, rfl⟩
theorem bltz (c : CoreId) (o : OpsD) : Statement (.bltz c o) := fun _ => ⟨_, rfl⟩
theorem bgez (c : CoreId) (o : OpsD) : Statement (.bgez c o) := fun _ => ⟨_, rfl⟩
theorem blez (c : CoreId) (o : OpsD) : Statement (.blez c o) := fun _ => ⟨_, rfl⟩
theorem bgtz (c : CoreId) (o : OpsD) : Statement (.bgtz c o) := fun _ => ⟨_, rfl⟩
theorem j (c : CoreId) (o : OpsE) : Statement (.j c o) := fun _ => ⟨_, rfl⟩
theorem jal (c : CoreId) (o : OpsE) : Statement (.jal c o) := fun _ => ⟨_, rfl⟩
theorem csrrd (c : CoreId) (o : OpsF) : Statement (.csrrd c o) := fun _ => ⟨_, rfl⟩
theorem csrwr (c : CoreId) (o : OpsF) : Statement (.csrwr c o) := fun _ => ⟨_, rfl⟩
theorem divsave (c : CoreId) (o : OpsF) : Statement (.divsave c o) := fun _ => ⟨_, rfl⟩
theorem divrestore (c : CoreId) (o : OpsF) : Statement (.divrestore c o) := fun _ => ⟨_, rfl⟩
theorem eclaim (c : CoreId) (k : IntClass) (o : OpsF) : Statement (.eclaim c k o) := fun _ => ⟨_, rfl⟩
theorem ecomp (c : CoreId) (k : IntClass) (o : OpsF) : Statement (.ecomp c k o) := fun _ => ⟨_, rfl⟩
theorem scall (c : CoreId) (o : OpsF) : Statement (.scall c o) := fun _ => ⟨_, rfl⟩
theorem pcall (c : CoreId) (o : OpsF) : Statement (.pcall c o) := fun _ => ⟨_, rfl⟩
theorem mcall (c : CoreId) (o : OpsF) : Statement (.mcall c o) := fun _ => ⟨_, rfl⟩
theorem rfe (c : CoreId) (o : OpsF) : Statement (.rfe c o) := fun _ => ⟨_, rfl⟩
theorem brk (c : CoreId) (o : OpsF) : Statement (.brk c o) := fun _ => ⟨_, rfl⟩
theorem wait (c : CoreId) (o : OpsF) : Statement (.wait c o) := fun _ => ⟨_, rfl⟩
theorem waite (c : CoreId) (o : OpsF) : Statement (.waite c o) := fun _ => ⟨_, rfl⟩
theorem yield (c : CoreId) (o : OpsF) : Statement (.yield c o) := fun _ => ⟨_, rfl⟩
theorem fdone (c : CoreId) (o : OpsF) : Statement (.fdone c o) := fun _ => ⟨_, rfl⟩
theorem signal (c : CoreId) (o : OpsF) : Statement (.signal c o) := fun _ => ⟨_, rfl⟩
theorem fence (c : CoreId) (o : OpsF) : Statement (.fence c o) := fun _ => ⟨_, rfl⟩
theorem tlbinv (c : CoreId) (o : OpsF) : Statement (.tlbinv c o) := fun _ => ⟨_, rfl⟩
theorem tlbsync (c : CoreId) (o : OpsF) : Statement (.tlbsync c o) := fun _ => ⟨_, rfl⟩
theorem cinv (c : CoreId) (o : OpsF) : Statement (.cinv c o) := fun _ => ⟨_, rfl⟩
theorem ccln (c : CoreId) (o : OpsF) : Statement (.ccln c o) := fun _ => ⟨_, rfl⟩
theorem cflsh (c : CoreId) (o : OpsF) : Statement (.cflsh c o) := fun _ => ⟨_, rfl⟩
theorem customInstruction (c : CoreId) (slot : BitVec 5) (o : OpsB) : Statement (.customInstruction c slot o) :=
  fun _ => ⟨_, rfl⟩
theorem reservedInstruction (c : CoreId) (w : Word) : Statement (.reservedInstruction c w) := fun _ => ⟨_, rfl⟩
theorem resultBecomesVisible (c : CoreId) : Statement (.resultBecomesVisible c) := fun _ => ⟨_, rfl⟩
theorem pendingResultApply (c : CoreId) : Statement (.pendingResultApply c) := fun _ => ⟨_, rfl⟩
theorem iterativeUnitReady (c : CoreId) (fp : Bool) : Statement (.iterativeUnitReady c fp) := fun _ => ⟨_, rfl⟩
theorem mergeEntryTimeout (c : CoreId) (line : LineAddr) : Statement (.mergeEntryTimeout c line) := fun _ => ⟨_, rfl⟩
theorem mergeEntryDrain (c : CoreId) : Statement (.mergeEntryDrain c) := fun _ => ⟨_, rfl⟩
theorem interruptAccept (c : CoreId) (k : IntClass) : Statement (.interruptAccept c k) := fun _ => ⟨_, rfl⟩
theorem coreError (c : CoreId) (e : CoreErr) : Statement (.coreError c e) := fun _ => ⟨_, rfl⟩
theorem mcallWatchdogExpiry (c : CoreId) : Statement (.mcallWatchdogExpiry c) := fun _ => ⟨_, rfl⟩
theorem sealedForcedReturn (c : CoreId) : Statement (.sealedForcedReturn c) := fun _ => ⟨_, rfl⟩
theorem l2CleanStart (who : Requester) (t : TrioId) (v : Dword) : Statement (.l2CleanStart who t v) := fun _ => ⟨_, rfl⟩
theorem l2Enable (who : Requester) (t : TrioId) (v : Dword) : Statement (.l2Enable who t v) := fun _ => ⟨_, rfl⟩
theorem l2CleanComplete (t : TrioId) : Statement (.l2CleanComplete t) := fun _ => ⟨_, rfl⟩
theorem l2InitComplete (t : TrioId) : Statement (.l2InitComplete t) := fun _ => ⟨_, rfl⟩
theorem l1dDisable (who : Requester) (c : CoreId) (v : Dword) : Statement (.l1dDisable who c v) := fun _ => ⟨_, rfl⟩
theorem mscCleanStart (who : Requester) (v : Dword) : Statement (.mscCleanStart who v) := fun _ => ⟨_, rfl⟩
theorem mscCleanComplete : Statement .mscCleanComplete := fun _ => ⟨_, rfl⟩
theorem maskChangeArrives (u : CacheUnit) : Statement (.maskChangeArrives u) := fun _ => ⟨_, rfl⟩
theorem hitCfgWrite (who : Requester) (v : Dword) : Statement (.hitCfgWrite who v) := fun _ => ⟨_, rfl⟩
theorem adUpdate (entry : BitVec 46) (dw0 : Dword) (setD : Bool) : Statement (.adUpdate entry dw0 setD) := fun _ => ⟨_, rfl⟩
theorem demandAllocation (entry : BitVec 46) (dw0 : Dword) (store : Bool) : Statement (.demandAllocation entry dw0 store) :=
  fun _ => ⟨_, rfl⟩
theorem zeroFillComplete (frame : BitVec 34) : Statement (.zeroFillComplete frame) := fun _ => ⟨_, rfl⟩
theorem tqQuotaWrite (who : Requester) (t : Tid) (v : Dword) : Statement (.tqQuotaWrite who t v) := fun _ => ⟨_, rfl⟩
theorem tqRelease (who : Requester) (t : Tid) (v : Dword) : Statement (.tqRelease who t v) := fun _ => ⟨_, rfl⟩
theorem tlbinvBroadcast (c : CoreId) (issuer : CoreId) (seq : Nat) : Statement (.tlbinvBroadcast c issuer seq) :=
  fun _ => ⟨_, rfl⟩
theorem tlbinvAck (issuer : CoreId) (seq : Nat) (c : CoreId) : Statement (.tlbinvAck issuer seq c) := fun _ => ⟨_, rfl⟩
theorem flitReceive (l : LinkEnd) (f : Flit) : Statement (.flitReceive l f) := fun _ => ⟨_, rfl⟩
theorem plinkTrainComplete (d : DieId) (spareTx : BitVec 5) (spareRx : BitVec 5) : Statement (.plinkTrainComplete d spareTx spareRx) :=
  fun _ => ⟨_, rfl⟩
theorem plinkTrainTimeout (d : DieId) : Statement (.plinkTrainTimeout d) := fun _ => ⟨_, rfl⟩
theorem laneLockLost (l : LinkEnd) : Statement (.laneLockLost l) := fun _ => ⟨_, rfl⟩
theorem plinkRetrain (who : Requester) (d : DieId) (v : Dword) : Statement (.plinkRetrain who d v) := fun _ => ⟨_, rfl⟩
theorem plinkClrcnt (who : Requester) (d : DieId) (v : Dword) : Statement (.plinkClrcnt who d v) := fun _ => ⟨_, rfl⟩
theorem rdshared (m : Msg) : Statement (.rdshared m) := fun _ => ⟨_, rfl⟩
theorem rdown (m : Msg) : Statement (.rdown m) := fun _ => ⟨_, rfl⟩
theorem upgrade (m : Msg) : Statement (.upgrade m) := fun _ => ⟨_, rfl⟩
theorem wbdirty (m : Msg) : Statement (.wbdirty m) := fun _ => ⟨_, rfl⟩
theorem homeAccept (h : Chan) : Statement (.homeAccept h) := fun _ => ⟨_, rfl⟩
theorem chainBegin (line : LineAddr) : Statement (.chainBegin line) := fun _ => ⟨_, rfl⟩
theorem snpshare (a : AgentId) (line : LineAddr) : Statement (.snpshare a line) := fun _ => ⟨_, rfl⟩
theorem snpown (a : AgentId) (line : LineAddr) : Statement (.snpown a line) := fun _ => ⟨_, rfl⟩
theorem snpinv (a : AgentId) (line : LineAddr) : Statement (.snpinv a line) := fun _ => ⟨_, rfl⟩
theorem snoopAnswer (a : AgentId) (line : LineAddr) : Statement (.snoopAnswer a line) := fun _ => ⟨_, rfl⟩
theorem rspi (m : Msg) : Statement (.rspi m) := fun _ => ⟨_, rfl⟩
theorem rsps (m : Msg) : Statement (.rsps m) := fun _ => ⟨_, rfl⟩
theorem rspfwd (m : Msg) : Statement (.rspfwd m) := fun _ => ⟨_, rfl⟩
theorem rspdirty (m : Msg) : Statement (.rspdirty m) := fun _ => ⟨_, rfl⟩
theorem memoryReadData (line : LineAddr) : Statement (.memoryReadData line) := fun _ => ⟨_, rfl⟩
theorem datas (m : Msg) : Statement (.datas m) := fun _ => ⟨_, rfl⟩
theorem datae (m : Msg) : Statement (.datae m) := fun _ => ⟨_, rfl⟩
theorem datam (m : Msg) : Statement (.datam m) := fun _ => ⟨_, rfl⟩
theorem cmp (m : Msg) : Statement (.cmp m) := fun _ => ⟨_, rfl⟩
theorem wback (a : AgentId) (line : LineAddr) : Statement (.wback a line) := fun _ => ⟨_, rfl⟩
theorem agentdead (h : Chan) (a : AgentId) (cls : Fin 4) : Statement (.agentdead h a cls) := fun _ => ⟨_, rfl⟩
theorem reclaimScanComplete (h : Chan) : Statement (.reclaimScanComplete h) := fun _ => ⟨_, rfl⟩
theorem directoryError (line : LineAddr) (e : DirErr) : Statement (.directoryError line e) := fun _ => ⟨_, rfl⟩
theorem checkerFault (t : TrioId) (e : CheckerEvent) : Statement (.checkerFault t e) :=
  fun _ => ⟨_, rfl⟩
theorem stgo (who : Requester) (t : TrioId) (v : Dword) : Statement (.stgo who t v) := fun _ => ⟨_, rfl⟩
theorem selfTestComplete (t : TrioId) (fail : Option (Fin 32 × Fin 3)) : Statement (.selfTestComplete t fail) :=
  fun _ => ⟨_, rfl⟩
theorem trioInjGo (who : Requester) (t : TrioId) (v : Dword) : Statement (.trioInjGo who t v) := fun _ => ⟨_, rfl⟩
theorem weltInput (t : TrioId) (stream : Fin 3) (inp : WeltIn) (lanes : WeltLanes) : Statement (.weltInput t stream inp lanes) :=
  fun _ => ⟨_, rfl⟩
theorem weltDelivery (t : TrioId) : Statement (.weltDelivery t) := fun _ => ⟨_, rfl⟩
theorem debugHalt (c : CoreId) : Statement (.debugHalt c) := fun _ => ⟨_, rfl⟩
theorem debugRegisterWrite (c : CoreId) (r : DebugReg) (v : Dword) : Statement (.debugRegisterWrite c r v) :=
  fun _ => ⟨_, rfl⟩
theorem debugMemoryWrite (c : CoreId) (va : Dword) (size : Fin 4) (v : Dword) : Statement (.debugMemoryWrite c va size v) :=
  fun _ => ⟨_, rfl⟩
theorem debugSingleStep (c : CoreId) : Statement (.debugSingleStep c) := fun _ => ⟨_, rfl⟩
theorem debugResume (c : CoreId) : Statement (.debugResume c) := fun _ => ⟨_, rfl⟩
theorem frameTick : Statement .frameTick := fun _ => ⟨_, rfl⟩
theorem tickArrival (u : TickUnit) : Statement (.tickArrival u) := fun _ => ⟨_, rfl⟩
theorem frameDeadline (t : TrioId) (slot : Fin 64) : Statement (.frameDeadline t slot) := fun _ => ⟨_, rfl⟩
theorem phaseMeasurement (err : Int) : Statement (.phaseMeasurement err) := fun _ => ⟨_, rfl⟩
theorem tickSourceLost : Statement .tickSourceLost := fun _ => ⟨_, rfl⟩
theorem holdoverExpiry : Statement .holdoverExpiry := fun _ => ⟨_, rfl⟩
theorem ftuCfgWrite (who : Requester) (v : Dword) : Statement (.ftuCfgWrite who v) := fun _ => ⟨_, rfl⟩
theorem ftuAlignWrite (who : Requester) (v : Dword) : Statement (.ftuAlignWrite who v) := fun _ => ⟨_, rfl⟩
theorem ftickInEdge (err : Int) : Statement (.ftickInEdge err) := fun _ => ⟨_, rfl⟩
theorem ppsInEdge (ns : BitVec 63) : Statement (.ppsInEdge ns) := fun _ => ⟨_, rfl⟩
theorem ppsOutPulse : Statement .ppsOutPulse := fun _ => ⟨_, rfl⟩
theorem seasonLoadGo (who : Requester) (v : Dword) : Statement (.seasonLoadGo who v) := fun _ => ⟨_, rfl⟩
theorem seasonLoadComplete : Statement .seasonLoadComplete := fun _ => ⟨_, rfl⟩
theorem seasonRequest (who : Requester) (v : Dword) : Statement (.seasonRequest who v) := fun _ => ⟨_, rfl⟩
theorem seasonEnable (who : Requester) (v : Dword) : Statement (.seasonEnable who v) := fun _ => ⟨_, rfl⟩
theorem trioLost (d : DieId) (k : Fin 6) : Statement (.trioLost d k) := fun _ => ⟨_, rfl⟩
theorem cxqDoorbell (who : Requester) (q : Fin 33) (v : Dword) : Statement (.cxqDoorbell who q v) := fun _ => ⟨_, rfl⟩
theorem create (q : Fin 33) (e : Dword) : Statement (.create q e) := fun _ => ⟨_, rfl⟩
theorem start (q : Fin 33) (e : Dword) : Statement (.start q e) := fun _ => ⟨_, rfl⟩
theorem stop (q : Fin 33) (e : Dword) : Statement (.stop q e) := fun _ => ⟨_, rfl⟩
theorem kill (q : Fin 33) (e : Dword) : Statement (.kill q e) := fun _ => ⟨_, rfl⟩
theorem modify (q : Fin 33) (e : Dword) : Statement (.modify q e) := fun _ => ⟨_, rfl⟩
theorem migrate (q : Fin 33) (e : Dword) : Statement (.migrate q e) := fun _ => ⟨_, rfl⟩
theorem windowBoundary (b : BoundaryAt) : Statement (.windowBoundary b) := fun _ => ⟨_, rfl⟩
theorem budgetExhausted (t : TrioId) (slot : Fin 64) : Statement (.budgetExhausted t slot) := fun _ => ⟨_, rfl⟩
theorem eventSet (cid : BitVec 13) (ev : BitVec 5) : Statement (.eventSet cid ev) := fun _ => ⟨_, rfl⟩
theorem detachedResponse (t : TrioId) (slot : Fin 64) (ok : Bool) (v : Dword) : Statement (.detachedResponse t slot ok v) :=
  fun _ => ⟨_, rfl⟩
theorem slotImageWrite (who : Requester) (t : TrioId) (slot : Fin 64) (off : BitVec 12) (v : Dword) : Statement (.slotImageWrite who t slot off v) :=
  fun _ => ⟨_, rfl⟩
theorem spareSubstitution (d : DieId) (k : Fin 6) (cause : SubstCause) : Statement (.spareSubstitution d k cause) :=
  fun _ => ⟨_, rfl⟩
theorem spareCopyComplete (d : DieId) : Statement (.spareCopyComplete d) := fun _ => ⟨_, rfl⟩
theorem trioPowerOffRetired (t : TrioId) : Statement (.trioPowerOffRetired t) := fun _ => ⟨_, rfl⟩
theorem tntRstGo (who : Requester) (v : Dword) : Statement (.tntRstGo who v) := fun _ => ⟨_, rfl⟩
theorem tntCfgWrite (who : Requester) (t : Tid) (v : Dword) : Statement (.tntCfgWrite who t v) := fun _ => ⟨_, rfl⟩
theorem qdmaDoorbell (who : Requester) (t : Tid) (v : Dword) : Statement (.qdmaDoorbell who t v) := fun _ => ⟨_, rfl⟩
theorem copy (t : Tid) (dw0 : Dword) (len : BitVec 24) (src : Dword) (dst : Dword) : Statement (.copy t dw0 len src dst) :=
  fun _ => ⟨_, rfl⟩
theorem fill (t : Tid) (dw0 : Dword) (len : BitVec 24) (src : Dword) (dst : Dword) : Statement (.fill t dw0 len src dst) :=
  fun _ => ⟨_, rfl⟩
theorem zero (t : Tid) (dw0 : Dword) (len : BitVec 24) (src : Dword) (dst : Dword) : Statement (.zero t dw0 len src dst) :=
  fun _ => ⟨_, rfl⟩
theorem secStatRestart (who : Requester) (v : Dword) : Statement (.secStatRestart who v) := fun _ => ⟨_, rfl⟩
theorem sealedRestartComplete : Statement .sealedRestartComplete := fun _ => ⟨_, rfl⟩
theorem sealHoldWrite (who : Requester) (hi : Bool) (v : Dword) : Statement (.sealHoldWrite who hi v) := fun _ => ⟨_, rfl⟩
theorem debugChallenge (who : Requester) (v : Dword) : Statement (.debugChallenge who v) := fun _ => ⟨_, rfl⟩
theorem debugVerify (who : Requester) (v : Dword) : Statement (.debugVerify who v) := fun _ => ⟨_, rfl⟩
theorem debugVerifyComplete : Statement .debugVerifyComplete := fun _ => ⟨_, rfl⟩
theorem sourceInput (n : BitVec 11) (level : Bool) : Statement (.sourceInput n level) := fun _ => ⟨_, rfl⟩
theorem evgTrig (who : Requester) (g : Fin 64) (v : Dword) : Statement (.evgTrig who g v) := fun _ => ⟨_, rfl⟩
theorem evgPendWrite (who : Requester) (g : Fin 64) (v : Dword) : Statement (.evgPendWrite who g v) := fun _ => ⟨_, rfl⟩
theorem evgGctlWrite (who : Requester) (g : Fin 64) (v : Dword) : Statement (.evgGctlWrite who g v) := fun _ => ⟨_, rfl⟩
theorem evgRouteWrite (who : Requester) (n : BitVec 11) (v : Dword) : Statement (.evgRouteWrite who n v) :=
  fun _ => ⟨_, rfl⟩
theorem holdOffExpiry (g : Fin 64) : Statement (.holdOffExpiry g) := fun _ => ⟨_, rfl⟩
theorem interruptRequest (c : CoreId) (k : IntClass) : Statement (.interruptRequest c k) := fun _ => ⟨_, rfl⟩
theorem evgCopyError (both : Bool) : Statement (.evgCopyError both) := fun _ => ⟨_, rfl⟩
theorem channelTraining (m : Chan) (pass : Bool) (gib : Nat) : Statement (.channelTraining m pass gib) := fun _ => ⟨_, rfl⟩
theorem mcRequest (m : Chan) (r : MemReq) : Statement (.mcRequest m r) := fun _ => ⟨_, rfl⟩
theorem dramActivate (m : Chan) : Statement (.dramActivate m) := fun _ => ⟨_, rfl⟩
theorem dramReadComplete (m : Chan) (line : LineAddr) (e : Ecc) : Statement (.dramReadComplete m line e) :=
  fun _ => ⟨_, rfl⟩
theorem writeBatch (m : Chan) (sub : Bool) : Statement (.writeBatch m sub) := fun _ => ⟨_, rfl⟩
theorem refreshDue (m : Chan) (bank : BitVec 7) : Statement (.refreshDue m bank) := fun _ => ⟨_, rfl⟩
theorem patrolScrub (m : Chan) (e : Ecc) : Statement (.patrolScrub m e) := fun _ => ⟨_, rfl⟩
theorem channelLost (m : Chan) (cause : LostCause) : Statement (.channelLost m cause) := fun _ => ⟨_, rfl⟩
theorem spdTemperatureAlert (m : Chan) (asserted : Bool) : Statement (.spdTemperatureAlert m asserted) := fun _ => ⟨_, rfl⟩
theorem hostBarAccess (b : HostBar) (off : BitVec 36) (size : Fin 4) (wr : Option Dword) : Statement (.hostBarAccess b off size wr) :=
  fun _ => ⟨_, rfl⟩
theorem hostDoorbell (t : Tid) (v : Word) : Statement (.hostDoorbell t v) := fun _ => ⟨_, rfl⟩
theorem functionLevelReset (t : Tid) : Statement (.functionLevelReset t) := fun _ => ⟨_, rfl⟩
theorem cpVfdbMsi (who : Requester) (t : Tid) (v : Dword) : Statement (.cpVfdbMsi who t v) := fun _ => ⟨_, rfl⟩
theorem quadCfgWrite (who : Requester) (q : QuadId) (v : Dword) : Statement (.quadCfgWrite who q v) := fun _ => ⟨_, rfl⟩
theorem ethFrameReceive (n : Fin 16) (frame : List Byte) (ns : Dword) : Statement (.ethFrameReceive n frame ns) :=
  fun _ => ⟨_, rfl⟩
theorem ethTransmit (n : Fin 16) (t : Tid) : Statement (.ethTransmit n t) := fun _ => ⟨_, rfl⟩
theorem rootPortInbound (q : QuadId) (p : Fin 4) (addr : Dword) (size : Fin 4) (wr : Option Dword) : Statement (.rootPortInbound q p addr size wr) :=
  fun _ => ⟨_, rfl⟩
theorem dpcTrigger (q : QuadId) (p : Fin 4) : Statement (.dpcTrigger q p) := fun _ => ⟨_, rfl⟩
theorem partnerIdentityBlock (k : XLink) (blk : LineData) : Statement (.partnerIdentityBlock k blk) := fun _ => ⟨_, rfl⟩
theorem accept (k : XLink) : Statement (.accept k) := fun _ => ⟨_, rfl⟩
theorem refuse (k : XLink) (code : BitVec 4) : Statement (.refuse k code) := fun _ => ⟨_, rfl⟩
theorem depart (k : XLink) : Statement (.depart k) := fun _ => ⟨_, rfl⟩
theorem echo (k : XLink) (rtt : Nat) (turn : Nat) : Statement (.echo k rtt turn) := fun _ => ⟨_, rfl⟩
theorem xlLinkTimeout (k : XLink) : Statement (.xlLinkTimeout k) := fun _ => ⟨_, rfl⟩
theorem remoteRead (k : XLink) (tid : Tid) (off : BitVec 34) (size : Fin 4) : Statement (.remoteRead k tid off size) :=
  fun _ => ⟨_, rfl⟩
theorem remoteWrite (k : XLink) (tid : Tid) (off : BitVec 34) (size : Fin 4) (v : Dword) : Statement (.remoteWrite k tid off size v) :=
  fun _ => ⟨_, rfl⟩
theorem remoteCompletion (k : XLink) (tag : Nat) (ok : Bool) (v : Dword) : Statement (.remoteCompletion k tag ok v) :=
  fun _ => ⟨_, rfl⟩
theorem mailboxGo (who : Requester) (t : Tid) (v : Dword) : Statement (.mailboxGo who t v) := fun _ => ⟨_, rfl⟩
theorem mailboxMessage (k : XLink) (t : Tid) (payload : List Dword) : Statement (.mailboxMessage k t payload) :=
  fun _ => ⟨_, rfl⟩
theorem voteRound (who : Requester) (ch : Fin 64) (v : Dword) : Statement (.voteRound who ch v) := fun _ => ⟨_, rfl⟩
theorem voteContribution (k : XLink) (ch : Fin 64) (round : Word) (value : BitVec 256) : Statement (.voteContribution k ch round value) :=
  fun _ => ⟨_, rfl⟩
theorem voteTimeout (ch : Fin 64) : Statement (.voteTimeout ch) := fun _ => ⟨_, rfl⟩
theorem tick (k : XLink) (ns : Int) (arrival : Int) (frame : BitVec 6) : Statement (.tick k ns arrival frame) :=
  fun _ => ⟨_, rfl⟩
theorem lsrcCtlWrite (who : Requester) (id : BitVec 9) (v : Dword) : Statement (.lsrcCtlWrite who id v) := fun _ => ⟨_, rfl⟩
theorem softwareTraceStore (c : CoreId) (t : Tid) (off : BitVec 12) (v : Dword) : Statement (.softwareTraceStore c t off v) :=
  fun _ => ⟨_, rfl⟩
theorem funnelPacket (n : FunnelNode) (p : Packet) : Statement (.funnelPacket n p) := fun _ => ⟨_, rfl⟩
theorem lostPacketEmit (n : FunnelNode) : Statement (.lostPacketEmit n) := fun _ => ⟨_, rfl⟩
theorem laceSinkWrite (who : Requester) (v : Dword) : Statement (.laceSinkWrite who v) := fun _ => ⟨_, rfl⟩
theorem sinkPacket (p : Packet) : Statement (.sinkPacket p) := fun _ => ⟨_, rfl⟩
theorem pcrDumpComplete : Statement .pcrDumpComplete := fun _ => ⟨_, rfl⟩
theorem supplySample (cv : BitVec 16) : Statement (.supplySample cv) := fun _ => ⟨_, rfl⟩
theorem recoveryTimer : Statement .recoveryTimer := fun _ => ⟨_, rfl⟩
theorem snapshotCaptureComplete : Statement .snapshotCaptureComplete := fun _ => ⟨_, rfl⟩
theorem leanInForce : Statement .leanInForce := fun _ => ⟨_, rfl⟩
theorem runRestored : Statement .runRestored := fun _ => ⟨_, rfl⟩
theorem thermalSample (d : Fin 13) (tj : Int) : Statement (.thermalSample d tj) := fun _ => ⟨_, rfl⟩
theorem powerRequest (who : Requester) (v : Dword) : Statement (.powerRequest who v) := fun _ => ⟨_, rfl⟩
theorem powerRequestComplete (n : Fin 118) : Statement (.powerRequestComplete n) := fun _ => ⟨_, rfl⟩
theorem moduleReset (who : Requester) (v : Dword) : Statement (.moduleReset who v) := fun _ => ⟨_, rfl⟩
theorem dieReset (who : Requester) (v : Dword) : Statement (.dieReset who v) := fun _ => ⟨_, rfl⟩
theorem trioReset (who : Requester) (v : Dword) : Statement (.trioReset who v) := fun _ => ⟨_, rfl⟩
theorem coreReset (who : Requester) (v : Dword) : Statement (.coreReset who v) := fun _ => ⟨_, rfl⟩
theorem modResetNLow (ns : Nat) (straps : Straps) : Statement (.modResetNLow ns straps) := fun _ => ⟨_, rfl⟩
theorem powerOnResetRelease (straps : Straps) : Statement (.powerOnResetRelease straps) := fun _ => ⟨_, rfl⟩
theorem containmentTimeout (u : Contained) : Statement (.containmentTimeout u) := fun _ => ⟨_, rfl⟩
theorem chipError (cause : Byte) : Statement (.chipError cause) := fun _ => ⟨_, rfl⟩
theorem refclkLost (r : RefClk) : Statement (.refclkLost r) := fun _ => ⟨_, rfl⟩
theorem refclkHoldExpiry : Statement .refclkHoldExpiry := fun _ => ⟨_, rfl⟩
theorem napEntry (c : CoreId) (off : Bool) : Statement (.napEntry c off) := fun _ => ⟨_, rfl⟩
theorem napExit (c : CoreId) : Statement (.napExit c) := fun _ => ⟨_, rfl⟩
theorem standbyEntry : Statement .standbyEntry := fun _ => ⟨_, rfl⟩
theorem emAccumulate (d : Fin 13) : Statement (.emAccumulate d) := fun _ => ⟨_, rfl⟩
theorem marginMeasure (t : Fin 84) (ps : BitVec 16) : Statement (.marginMeasure t ps) := fun _ => ⟨_, rfl⟩
theorem soleStagingDrain (good : Bool) : Statement (.soleStagingDrain good) := fun _ => ⟨_, rfl⟩
theorem linkCloseTimeout (area : Fin 35) : Statement (.linkCloseTimeout area) := fun _ => ⟨_, rfl⟩
theorem soleCtlCommit (who : Requester) (v : Dword) : Statement (.soleCtlCommit who v) := fun _ => ⟨_, rfl⟩
theorem commitComplete : Statement .commitComplete := fun _ => ⟨_, rfl⟩
theorem hourlyCommit : Statement .hourlyCommit := fun _ => ⟨_, rfl⟩
theorem snap (who : Requester) (v : Dword) : Statement (.snap who v) := fun _ => ⟨_, rfl⟩
theorem refresh (who : Requester) (v : Dword) : Statement (.refresh who v) := fun _ => ⟨_, rfl⟩
theorem refreshPassComplete (bad : List Nat) : Statement (.refreshPassComplete bad) := fun _ => ⟨_, rfl⟩
theorem soleDead : Statement .soleDead := fun _ => ⟨_, rfl⟩
theorem soleReadGo (who : Requester) (t : Tid) (v : Dword) : Statement (.soleReadGo who t v) := fun _ => ⟨_, rfl⟩
theorem soleReadComplete (t : Tid) : Statement (.soleReadComplete t) := fun _ => ⟨_, rfl⟩
theorem bootStoreEnd (who : Requester) (v : Dword) : Statement (.bootStoreEnd who v) := fun _ => ⟨_, rfl⟩
theorem bootFailure (code : Byte) : Statement (.bootFailure code) := fun _ => ⟨_, rfl⟩
theorem cdtLock (who : Requester) (v : Dword) : Statement (.cdtLock who v) := fun _ => ⟨_, rfl⟩
theorem pmbDoorbell (who : Requester) (ring : Fin 2) (v : Dword) : Statement (.pmbDoorbell who ring v) := fun _ => ⟨_, rfl⟩
theorem info (e : PmbEntry) : Statement (.info e) := fun _ => ⟨_, rfl⟩
theorem expertChal (e : PmbEntry) : Statement (.expertChal e) := fun _ => ⟨_, rfl⟩
theorem expertResp (e : PmbEntry) : Statement (.expertResp e) := fun _ => ⟨_, rfl⟩
theorem expertDrop (e : PmbEntry) : Statement (.expertDrop e) := fun _ => ⟨_, rfl⟩
theorem regRead (e : PmbEntry) : Statement (.regRead e) := fun _ => ⟨_, rfl⟩
theorem regWrite (e : PmbEntry) : Statement (.regWrite e) := fun _ => ⟨_, rfl⟩
theorem seasonLoad (e : PmbEntry) : Statement (.seasonLoad e) := fun _ => ⟨_, rfl⟩
theorem seasonActivate (e : PmbEntry) : Statement (.seasonActivate e) := fun _ => ⟨_, rfl⟩
theorem cxe (e : PmbEntry) : Statement (.cxe e) := fun _ => ⟨_, rfl⟩
theorem tenantReset (e : PmbEntry) : Statement (.tenantReset e) := fun _ => ⟨_, rfl⟩
theorem ppr (e : PmbEntry) : Statement (.ppr e) := fun _ => ⟨_, rfl⟩
theorem channelRemove (e : PmbEntry) : Statement (.channelRemove e) := fun _ => ⟨_, rfl⟩
theorem standby (e : PmbEntry) : Statement (.standby e) := fun _ => ⟨_, rfl⟩
theorem reset (e : PmbEntry) : Statement (.reset e) := fun _ => ⟨_, rfl⟩
theorem retire (e : PmbEntry) : Statement (.retire e) := fun _ => ⟨_, rfl⟩
theorem soleVerify (e : PmbEntry) : Statement (.soleVerify e) := fun _ => ⟨_, rfl⟩
theorem soleCommit (e : PmbEntry) : Statement (.soleCommit e) := fun _ => ⟨_, rfl⟩
theorem imageWrite (e : PmbEntry) : Statement (.imageWrite e) := fun _ => ⟨_, rfl⟩
theorem imageCheck (e : PmbEntry) : Statement (.imageCheck e) := fun _ => ⟨_, rfl⟩
theorem arbAdvance (e : PmbEntry) : Statement (.arbAdvance e) := fun _ => ⟨_, rfl⟩
theorem sealedRestart (e : PmbEntry) : Statement (.sealedRestart e) := fun _ => ⟨_, rfl⟩
theorem bootLoad (e : PmbEntry) : Statement (.bootLoad e) := fun _ => ⟨_, rfl⟩
theorem bootGo (e : PmbEntry) : Statement (.bootGo e) := fun _ => ⟨_, rfl⟩
theorem hello (r : AwlReq) : Statement (.hello r) := fun _ => ⟨_, rfl⟩
theorem baud (r : AwlReq) : Statement (.baud r) := fun _ => ⟨_, rfl⟩
theorem awlBaudTimeout : Statement .awlBaudTimeout := fun _ => ⟨_, rfl⟩
theorem chal (r : AwlReq) : Statement (.chal r) := fun _ => ⟨_, rfl⟩
theorem resp (r : AwlReq) : Statement (.resp r) := fun _ => ⟨_, rfl⟩
theorem read (r : AwlReq) : Statement (.read r) := fun _ => ⟨_, rfl⟩
theorem write (r : AwlReq) : Statement (.write r) := fun _ => ⟨_, rfl⟩
theorem sole (r : AwlReq) : Statement (.sole r) := fun _ => ⟨_, rfl⟩
theorem ctxlist (r : AwlReq) : Statement (.ctxlist r) := fun _ => ⟨_, rfl⟩
theorem linklist (r : AwlReq) : Statement (.linklist r) := fun _ => ⟨_, rfl⟩
theorem load (r : AwlReq) : Statement (.load r) := fun _ => ⟨_, rfl⟩
theorem boot (r : AwlReq) : Statement (.boot r) := fun _ => ⟨_, rfl⟩
theorem jtagInstruction (ir : JtagIr) : Statement (.jtagInstruction ir) := fun _ => ⟨_, rfl⟩
theorem registerWrite (who : Requester) (off : Word) (size : Fin 4) (v : Dword) : Statement (.registerWrite who off size v) :=
  fun _ => ⟨_, rfl⟩
theorem refclkRestored : Statement .refclkRestored := fun _ => ⟨_, rfl⟩
theorem tickMissing (u : TickUnit) : Statement (.tickMissing u) := fun _ => ⟨_, rfl⟩
theorem plinkRetrainComplete (d : DieId) (badTx : Option (BitVec 5)) (badRx : Option (BitVec 5)) : Statement (.plinkRetrainComplete d badTx badRx) :=
  fun _ => ⟨_, rfl⟩
theorem xlReceiversDetected (k : XLink) : Statement (.xlReceiversDetected k) := fun _ => ⟨_, rfl⟩
theorem xlLanesLocked (k : XLink) : Statement (.xlLanesLocked k) := fun _ => ⟨_, rfl⟩
theorem ethLinkChange (n : Fin 16) (up : Bool) : Statement (.ethLinkChange n up) := fun _ => ⟨_, rfl⟩
theorem rootPortLinkChange (q : QuadId) (p : Fin 4) (ch : RpChange) : Statement (.rootPortLinkChange q p ch) :=
  fun _ => ⟨_, rfl⟩
theorem commandPortLinkChange (ch : CpChange) : Statement (.commandPortLinkChange ch) := fun _ => ⟨_, rfl⟩
theorem dramAlert (m : Chan) (k : DramAlert) : Statement (.dramAlert m k) := fun _ => ⟨_, rfl⟩
theorem awlFrameGapTimeout : Statement .awlFrameGapTimeout := fun _ => ⟨_, rfl⟩
theorem deviceCompletion (c : CoreId) (ok : Bool) (v : Dword) : Statement (.deviceCompletion c ok v) := fun _ => ⟨_, rfl⟩

end Sys2Proof.Laws.Operands
end

