-- ==== Sys2Proof/Laws/Trace.lean ====
section
/-! SUPPORT. What tracing and counting leave as they were: they change trace units, counters, trigger states, the packets on their way
and what the step raises, and nothing else. -/

namespace Sys2Proof.Machine

/-- Two states that tracing and counting at core `c` may turn one into the other. -/
structure Observes (c : Nat) (s t : State) : Prop where
  core : ∀ x, ∃ e a n w l, t.core x = { s.core x with excl := e, atoms := a, sinceSync := n, stamp := w, lfsr := l }
  reg : ∀ r : RegRef, (∀ id, id < 512 → r.off ≠ (lsrc id).off) → (∀ n, n < 6 → r.off ≠ ((PmcBlock.core c).cnt n).off) →
    t.reg r = s.reg r
  evg : ∃ l, t.evg = { s.evg with raised := l }
  lace : ∃ l, t.lace = { s.lace with out := l }
  pending : t.pending = s.pending
  timebase : t.timebase = s.timebase
  trios : t.trios = s.trios
  mem : t.mem = s.mem
  poison : t.poison = s.poison
  msc : t.msc = s.msc
  homes : t.homes = s.homes
  net : t.net = s.net
  ioBuf : t.ioBuf = s.ioBuf
  refusals : t.refusals = s.refusals
  fills : t.fills = s.fills
  ftu : t.ftu = s.ftu
  gce : t.gce = s.gce
  mcc : t.mcc = s.mcc
  sec : t.sec = s.sec
  links : t.links = s.links
  power : t.power = s.power
  sole : t.sole = s.sole
  boot : t.boot = s.boot
  resp : t.resp = s.resp

theorem Observes.refl (c : Nat) (s : State) : Observes c s s :=
  ⟨fun _ => ⟨_, _, _, _, _, rfl⟩, fun _ _ _ => rfl, ⟨_, rfl⟩, ⟨_, rfl⟩, rfl, rfl, rfl, rfl, rfl, rfl, rfl, rfl, rfl, rfl, rfl, rfl,
    rfl, rfl, rfl, rfl, rfl, rfl, rfl, rfl⟩

theorem Observes.trans {c : Nat} {s t u : State} (h : Observes c s t) (k : Observes c t u) : Observes c s u where
  core x := by
    obtain ⟨e, a, n, w, l, q⟩ := h.core x
    obtain ⟨e', a', n', w', l', q'⟩ := k.core x
    exact ⟨e', a', n', w', l', by rw [q', q]⟩
  reg r a b := (k.reg r a b).trans (h.reg r a b)
  evg := by
    obtain ⟨l, e⟩ := h.evg
    obtain ⟨l', e'⟩ := k.evg
    exact ⟨l', by rw [e', e]⟩
  lace := by
    obtain ⟨l, e⟩ := h.lace
    obtain ⟨l', e'⟩ := k.lace
    exact ⟨l', by rw [e', e]⟩
  pending := k.pending.trans h.pending
  timebase := k.timebase.trans h.timebase
  trios := k.trios.trans h.trios
  mem := k.mem.trans h.mem
  poison := k.poison.trans h.poison
  msc := k.msc.trans h.msc
  homes := k.homes.trans h.homes
  net := k.net.trans h.net
  ioBuf := k.ioBuf.trans h.ioBuf
  refusals := k.refusals.trans h.refusals
  fills := k.fills.trans h.fills
  ftu := k.ftu.trans h.ftu
  gce := k.gce.trans h.gce
  mcc := k.mcc.trans h.mcc
  sec := k.sec.trans h.sec
  links := k.links.trans h.links
  power := k.power.trans h.power
  sole := k.sole.trans h.sole
  boot := k.boot.trans h.boot
  resp := k.resp.trans h.resp

variable {c : Nat}

theorem observes_emit (s : State) (p : Packet) : Observes c s (s.emit p) := { Observes.refl c s with lace := ⟨_, rfl⟩ }

theorem observes_raise (s : State) (n : Nat) : Observes c s (s.raise n) := { Observes.refl c s with evg := ⟨_, rfl⟩ }

theorem observes_core (s : State) (x : Nat) (f : Core → Core)
    (h : ∀ k, ∃ e a n w l, f k = { k with excl := e, atoms := a, sinceSync := n, stamp := w, lfsr := l }) :
    Observes c s (s.modCore x f) :=
  { Observes.refl c s with
    core := fun y => by
      by_cases hy : y = x
      · subst hy; rw [State.core_modCore]; exact h _
      · exact ⟨_, _, _, _, _, by rw [State.core_modCore_other s f hy]⟩ }

theorem observes_setReg_lsrc (s : State) (id : Nat) (v : Dword) (h : id < 512) : Observes c s (s.setReg (lsrc id) v) :=
  { Observes.refl c s with reg := fun _ a _ => State.reg_setReg_other s _ (a _ h) }

theorem observes_setReg_cnt (s : State) (n : Nat) (v : Dword) (h : n < 6) : Observes c s (s.setReg ((PmcBlock.core c).cnt n) v) :=
  { Observes.refl c s with reg := fun _ _ b => State.reg_setReg_other s _ (b _ h) }

theorem observes_foldl {α : Type} (f : State → α → State) (l : List α) (s : State)
    (h : ∀ s a, a ∈ l → Observes c s (f s a)) : Observes c s (l.foldl f s) := by
  induction l generalizing s with
  | nil => exact Observes.refl c s
  | cons a l ih => exact (h s a (by simp)).trans (ih _ fun s b hb => h s b (by simp [hb]))

theorem observes_emitOwn (s : State) (x : Nat) (p : Packet) : Observes c s (s.emitOwn x p) :=
  (observes_emit s _).trans (observes_core _ x _ fun k => ⟨k.excl, k.atoms, k.sinceSync + 1, k.stamp, k.lfsr, rfl⟩)

theorem observes_flushAtom (s : State) (x : Nat) : Observes c s (s.flushAtom x) := by
  unfold State.flushAtom
  split
  · exact Observes.refl c s
  · exact (observes_emitOwn s x _).trans (observes_core _ x _ fun k => ⟨k.excl, [], k.sinceSync, k.stamp, k.lfsr, rfl⟩)

theorem observes_sync (s : State) (x : Nat) : Observes c s (s.sync x) :=
  ((observes_flushAtom s x).trans (observes_emit _ _)).trans
    (observes_core _ x _ fun k => ⟨k.excl, k.atoms, 0, (s.flushAtom x).timebase, k.lfsr, rfl⟩)

theorem observes_emitCore (s : State) (x ty p : Nat) (d : List Dword) : Observes c s (s.emitCore x ty p d) := by
  unfold State.emitCore
  split
  · refine (observes_flushAtom s x).trans ?_
    have h : ∀ s : State, Observes c s (if bit (s.reg (ltCore x)) 4 && decide (100 ≤ (s.timebase - (s.core x).stamp).toNat) then
        (s.emitOwn x (mkPkt (s.traceId x) 0x07 s.timebase.toNat [])).modCore x (fun k => { k with stamp := s.timebase }) else s) := by
      intro s
      split
      · exact (observes_emitOwn s x _).trans (observes_core _ x _ fun k => ⟨k.excl, k.atoms, _, _, k.lfsr, rfl⟩)
      · exact Observes.refl c s
    have h' : ∀ s : State, Observes c s (if 4096 ≤ (s.core x).sinceSync then s.sync x else s) := by
      intro s
      split
      · exact observes_sync s x
      · exact Observes.refl c s
    exact ((h _).trans (observes_emitOwn _ _ _)).trans (h' _)
  · exact Observes.refl c s

theorem observes_syncSource (s : State) (id : Nat) : Observes c s (s.syncSource id) := by
  unfold State.syncSource
  split
  · exact observes_sync s _
  · exact Observes.refl c s

theorem observes_flushSource (s : State) (id : Nat) : Observes c s (s.flushSource id) := by
  unfold State.flushSource
  split
  · exact observes_flushAtom s _
  · exact Observes.refl c s

theorem observes_setTrig (s : State) (id st n : Nat) (h : id < 512) : Observes c s (s.setTrig id st n) := by
  have h2 : ∀ v, Observes c s ((s.flushSource id).setReg (lsrc id) v) := fun v =>
    (observes_flushSource s id).trans (observes_setReg_lsrc _ id v h)
  unfold State.setTrig
  split
  · exact Observes.refl c s
  · simp only
    split
    · exact (observes_setReg_lsrc s id _ h).trans (observes_emit _ _)
    · split
      · exact (h2 _).trans (observes_emitOwn _ _ _)
      · exact h2 _

theorem observes_fireAt (s : State) (id n : Nat) (h : id < 512) : Observes c s (s.fireAt id n) := by
  unfold State.fireAt
  simp only
  split
  · exact (observes_setTrig s id _ _ h).trans (observes_syncSource _ _)
  · split
    · exact observes_setTrig s id _ _ h
    · exact Observes.refl c s

theorem observes_fireAll (s : State) (ids hits : List Nat) (h : ∀ id ∈ ids, id < 512) : Observes c s (s.fireAll ids hits) := by
  unfold State.fireAll
  refine (observes_foldl _ _ _ fun s n _ => observes_raise s _).trans (observes_foldl _ _ _ fun s id hi => ?_)
  refine observes_foldl _ _ _ fun s n _ => ?_
  split
  · exact observes_fireAt s id n (h id hi)
  · exact Observes.refl c s

theorem observes_fireWhere (s : State) (id : Nat) (p : Nat → Dword → Dword → Bool) (h : id < 512) :
    Observes c s (s.fireWhere id p) :=
  observes_fireAll s [id] _ fun x hx => by simp at hx; omega

theorem observes_fireOverflow (s : State) : Observes c s s.fireOverflow := by
  unfold State.fireOverflow
  simp only
  split
  · exact Observes.refl c s
  · exact observes_fireAll s _ _ fun id h => by simp [State.liveSrcs] at h; exact h.1

theorem observes_bump (fuel : Nat) (s : State) (n k : Nat) : Observes c s (s.bump (.core c) fuel n k) := by
  induction fuel generalizing s n k with
  | zero => exact Observes.refl c s
  | succ fuel ih =>
    unfold State.bump
    split
    · exact Observes.refl c s
    · rename_i h
      have hn : n < 6 := by simpa [PmcBlock.size] using h
      extract_lets v total u w
      split
      · exact observes_setReg_cnt s n _ hn
      · have h1 : Observes c s w := (observes_setReg_cnt s n _ hn).trans (observes_setReg_cnt u n _ hn)
        rename_i x up _
        have h2 : Observes c w x := by
          by_cases hb : bit (w.reg ((PmcBlock.core c).sel n)) 45 = true
          · simp only [x, hb, if_true]; exact observes_fireOverflow w
          · simp only [x, hb]; exact Observes.refl c w
        split
        · exact (h1.trans h2).trans (ih _ _ _)
        · exact h1.trans h2

theorem observes_countCore (s : State) (code : Nat) : Observes c s (s.countCore c code) := by
  unfold State.countCore State.count forN
  simp only
  split
  · exact Observes.refl c s
  · refine observes_foldl _ _ _ fun s n _ => ?_
    split
    · exact observes_bump _ _ _ _
    · exact Observes.refl c s

theorem observes_exclude (s : State) : Observes c s (s.exclude c) := by
  unfold State.exclude
  simp only
  split
  · exact Observes.refl c s
  · have h : Observes c s (s.modCore c (fun k => { k with excl := s.withheld c })) :=
      observes_core s c _ fun k => ⟨s.withheld c, k.atoms, k.sinceSync, k.stamp, k.lfsr, rfl⟩
    refine h.trans ?_
    split
    · split
      · exact (observes_flushAtom _ _).trans (observes_emitOwn _ _ _)
      · exact observes_sync _ _
    · exact Observes.refl c _

/-- A core's trace identifier is one of its trio's. -/
theorem traceId_lt (s : State) (h : c < 255) : s.traceId c < 512 := by
  unfold State.traceId trioOf
  split <;> omega

theorem observes_comparePos (s : State) (pc : Dword) (h : Happened) (hc : c < 255) : Observes c s (s.comparePos c pc h) :=
  observes_fireWhere s _ _ (traceId_lt s hc)

theorem observes_traceBranch (s : State) (h : Happened) : Observes c s (s.traceBranch c h) := by
  unfold State.traceBranch
  split
  · rename_i b _
    simp only
    have ha : Observes c s (s.modCore c (fun k => { k with atoms := k.atoms ++ [b] })) :=
      observes_core s c _ fun k => ⟨k.excl, k.atoms ++ [b], k.sinceSync, k.stamp, k.lfsr, rfl⟩
    split
    · split
      · exact ha.trans (observes_flushAtom _ _)
      · exact ha
    · exact Observes.refl c s
  · exact Observes.refl c s

theorem observes_traceIndir (s : State) (h : Happened) : Observes c s (s.traceIndir c h) := by
  unfold State.traceIndir
  split
  · split
    · exact observes_emitCore _ _ _ _ _
    · exact Observes.refl c s
  · exact Observes.refl c s

theorem observes_traceAcc (s : State) (h : Happened) : Observes c s (s.traceAcc c h) := by
  unfold State.traceAcc
  split
  · split
    · exact observes_emitCore _ _ _ _ _
    · exact Observes.refl c s
  · exact Observes.refl c s

theorem observes_countPos (s : State) (h : Happened) : Observes c s (s.countPos c h) := by
  have h1 : Observes c s (if h.trapped = true then s else s.countCore c 0x01) := by
    split
    · exact Observes.refl c s
    · exact observes_countCore s _
  have h2 : ∀ u : State, Observes c u (if h.taken = true then u.countCore c 0x06 else u) := by
    intro u
    split
    · exact observes_countCore u _
    · exact Observes.refl c u
  exact h1.trans (h2 _)

theorem observes_free (s : State) (n : Nat) : Observes c s { s with free := n } := { Observes.refl c s with }

theorem observes_tagEmit (s : State) (pc : Dword) (h : Happened) : Observes c s (s.tagEmit c pc h) :=
  ((observes_flushAtom s c).trans (observes_emitOwn _ c _)).trans (observes_free _ _)

theorem observes_tagPos (s : State) (pc : Dword) (h : Happened) : Observes c s (s.tagPos c pc h) := by
  have h1 : ∀ x : BitVec 20, Observes c s (s.modCore c (fun k => { k with lfsr := x })) := fun x =>
    observes_core s c _ fun k => ⟨k.excl, k.atoms, k.sinceSync, k.stamp, x, rfl⟩
  unfold State.tagPos
  simp only
  split
  · split
    · exact (h1 _).trans (observes_tagEmit _ pc h)
    · exact h1 _
  · exact Observes.refl c s

/-- The trace, the comparators, the counters and the tagging of a position change nothing else; the counter of free values may
count on. -/
theorem observes_afterPos (s : State) (pc : Dword) (h : Happened) (hc : c < 255) : Observes c s (s.afterPos c pc h) :=
  ((((((observes_exclude s).trans (observes_comparePos _ pc h hc)).trans (observes_traceBranch _ h)).trans
    (observes_traceIndir _ h)).trans (observes_traceAcc _ h)).trans (observes_countPos _ h)).trans (observes_tagPos _ pc h)

end Sys2Proof.Machine
end

