-- ==== Sys2Proof/Laws/Position.lean ====
section
/-! SUPPORT. One position of a core: what a position comes to when the core is ready, and what its end leaves as it was. -/

namespace Sys2Proof.Machine

/-! ### Results that fall due -/

@[simp] theorem Core.setCsr_pc (k : Core) (n : Nat) (v : Dword) : (k.setCsr n v).arch.pc = k.arch.pc := by
  unfold Core.setCsr; split <;> rfl
@[simp] theorem Core.setCsr_posn (k : Core) (n : Nat) (v : Dword) : (k.setCsr n v).arch.posn = k.arch.posn := by
  unfold Core.setCsr; split <;> rfl
@[simp] theorem Core.setCsr_slot (k : Core) (n : Nat) (v : Dword) : (k.setCsr n v).arch.slot = k.arch.slot := by
  unfold Core.setCsr; split <;> rfl

theorem Core.orFlags_keeps (k : Core) (ff : BitVec 5) (af : BitVec 3) :
    (k.orFlags ff af).arch.pc = k.arch.pc ∧ (k.orFlags ff af).arch.posn = k.arch.posn ∧
      (k.orFlags ff af).arch.slot = k.arch.slot := by
  unfold Core.orFlags
  simp only
  split <;> split <;> simp

theorem Core.applyRes_keeps (k : Core) (r : PendRes) :
    (k.applyRes r).arch.pc = k.arch.pc ∧ (k.applyRes r).arch.posn = k.arch.posn ∧ (k.applyRes r).arch.slot = k.arch.slot := by
  have hw : ∀ (a : Arch) (key : Nat) (v : Dword),
      (a.wr key v).pc = a.pc ∧ (a.wr key v).posn = a.posn ∧ (a.wr key v).slot = a.slot := by
    intro a key v
    unfold Arch.wr
    split <;> simp
  unfold Core.applyRes
  simp only
  cases r.reg <;> cases r.rcd <;> simp [Core.orFlags_keeps, hw]

/-- Results that reach their registers change neither the PC, nor the position number, nor the delay slot. -/
theorem Core.settle_keeps (k : Core) (p : Nat) :
    (k.settle p).arch.pc = k.arch.pc ∧ (k.settle p).arch.posn = k.arch.posn ∧ (k.settle p).arch.slot = k.arch.slot := by
  unfold Core.settle
  simp only
  generalize byVis _ = l
  generalize hk : ({ k with arch := { k.arch with pend := k.arch.pend.filter (fun r => decide (p < r.vis)) } } : Core) = k'
  have h0 : k'.arch.pc = k.arch.pc ∧ k'.arch.posn = k.arch.posn ∧ k'.arch.slot = k.arch.slot := by rw [← hk]; simp
  rw [← h0.1, ← h0.2.1, ← h0.2.2]
  clear hk h0
  induction l generalizing k' with
  | nil => simp
  | cons r l ih =>
    rw [List.foldl_cons]
    have h1 := Core.applyRes_keeps k' r
    have h2 := ih (k'.applyRes r)
    exact ⟨h2.1.trans h1.1, h2.2.1.trans h1.2.1, h2.2.2.trans h1.2.2⟩

/-! ### The position -/

/-- With no wrong item pending nothing disagrees. -/
theorem compared_agreed {s : State} (t : State) (c : Nat) (x : Items) (h : (s.trio (trioOf c)).inj = none) : s.compared t c x = t := by
  unfold State.compared
  simp only [h]

/-- A position with no wrong item pending on its trio comes to what it runs to. -/
theorem position_agreed {s : State} {c : Nat} (hi : (s.trio (trioOf c)).inj = none) (hs : s.issuing c = true) (w : Word)
    (forbid : Bool) (body : State → State × PosRes) : s.position c w forbid body = (s.positionRun c w forbid body).1 := by
  unfold State.position
  simp only [hs, Bool.not_true, if_false, Bool.false_eq_true]
  split <;> simp_all [compared_agreed]

/-- What a position of a ready core comes to. -/
theorem position_ready {s s1 : State} {c : CoreId} (h : Ready s c s1) (w : Word)
    (forbid : Bool) (body : State → State × PosRes) (hf : forbid = true → (s.core c.val).arch.slot = none) :
    s.position c.val w forbid body = match body s1 with
      | (s, .stay) => s.freeze c.val
      | (s, .pause) => s.modCore c.val (fun k => { k with frozen := false })
      | (s, .ended _) => s
      | (s, .trap x) => s.trapPos c.val w x
      | (t, .next e slot) => (t.modCore c.val (fun k => k.advance slot)).endPos c.val (s.core c.val).arch.pc e
      | (t, .moved e) => t.endPos c.val (s.core c.val).arch.pc e := by
  have hk := Core.settle_keeps (s.core c.val) (s.core c.val).arch.posn
  have hs : (forbid && (s.core c.val).arch.slot.isSome) = false := by
    cases forbid with
    | false => rfl
    | true => simp [hf rfl]
  rw [position_agreed h.agreed h.issuing]
  unfold State.positionRun
  simp only [h.fetched, State.core_modCore, hk.1, hk.2.2, h.live, hs, if_false, Bool.false_eq_true]
  rcases body s1 with ⟨t, _ | _ | _ | _ | _ | _⟩ <;> rfl

/-- A branch, a call or a departure in a delay slot is a Slot fault (R55). -/
theorem position_slotFault {s s1 : State} {c : CoreId} (h : Ready s c s1) (w : Word)
    (body : State → State × PosRes) (hs : (s.core c.val).arch.slot.isSome = true) :
    s.position c.val w true body = s1.trapPos c.val w { cause := 0x07 } := by
  have hk := Core.settle_keeps (s.core c.val) (s.core c.val).arch.posn
  rw [position_agreed h.agreed h.issuing]
  unfold State.positionRun
  simp only [h.fetched, State.core_modCore, hk.1, hk.2.2, h.live, hs, if_false, Bool.true_and, if_true]

/-! ### The end of a position -/

/-- Two states that the end of a position of core `c`, in which no posted store is refused, may turn one into the other: the trace, the counters and a single step, then the end of the step. -/
structure Ends (c : Nat) (s t : State) : Prop where
  arch : ∀ x, (t.core x).arch = (s.core x).arch
  own : ∀ x, (t.core x).own = (s.core x).own
  run : ∀ x, (t.core x).run = (s.core x).run
  ctx : ∀ x, (t.core x).ctx = (s.core x).ctx
  resv : ∀ x, (t.core x).resv = (s.core x).resv
  merge : ∀ x, (t.core x).merge = (s.core x).merge
  l1 : ∀ x, (t.core x).l1i = (s.core x).l1i ∧ (t.core x).l1d = (s.core x).l1d
  tlbs : ∀ x, (t.core x).itlb = (s.core x).itlb ∧ (t.core x).dtlb = (s.core x).dtlb ∧ (t.core x).tlb2 = (s.core x).tlb2
  frame : ∀ x, (t.core x).frame = (s.core x).frame
  halted : ∀ x, x ≠ c → (t.core x).halted = (s.core x).halted
  reg : ∀ r : RegRef, (∀ id, id < 512 → r.off ≠ (lsrc id).off) → (∀ n, n < 6 → r.off ≠ ((PmcBlock.core c).cnt n).off) →
    (∀ g, g < 64 → r.off ≠ (pendR g).off) → r.off ≠ (RegRef.mk .evgStat 0 0 0).off → t.reg r = s.reg r
  pending : t.pending = s.pending
  timebase : t.timebase = s.timebase
  trios : t.trios = s.trios
  mem : t.mem = s.mem
  poison : t.poison = s.poison
  msc : t.msc = s.msc
  homes : t.homes = s.homes
  net : t.net = s.net
  ioBuf : t.ioBuf = s.ioBuf
  fills : t.fills = s.fills
  ftu : t.ftu = s.ftu
  gce : t.gce = s.gce
  mcc : t.mcc = s.mcc
  sec : t.sec = s.sec
  links : t.links = s.links
  power : t.power = s.power
  sole : t.sole = s.sole
  boot : t.boot = s.boot
  resp : t.resp = s.resp

/-- The end of a position in which no posted store is refused. -/
theorem ends_endPos (s : State) (c : CoreId) (pc : Dword) (h : Happened) (hr : s.refusals = []) :
    Ends c.val s (s.endPos c.val pc h).finish := by
  have ho := observes_afterPos (c := c.val) s pc h c.isLt
  generalize hu : s.afterPos c.val pc h = u at ho
  have hq : s.endPos c.val pc h = u.modCore c.val Core.endStep := by
    unfold State.endPos
    rw [hu]
  rw [hq]
  have hf := settles_finish (u.modCore c.val Core.endStep) ((State.modCore_refusals _ _ _).trans (ho.refusals.trans hr))
  generalize (u.modCore c.val Core.endStep).finish = t at hf
  have hc : ∀ x, ∃ e a n w l p q fr ha so, t.core x =
      { s.core x with
        excl := e, atoms := a, sinceSync := n, stamp := w, lfsr := l, bcastP := p, intReq := q, frozen := fr, halted := ha, stepOne := so }
      ∧ (x ≠ c.val → ha = (s.core x).halted) := by
    intro x
    obtain ⟨e, a, n, w, l, h1⟩ := ho.core x
    obtain ⟨p, q, h2⟩ := hf.core x
    by_cases hx : x = c.val
    · subst hx
      rw [State.core_modCore] at h2
      exact ⟨e, a, n, w, l, p, q, false, _, false, by rw [h2, h1]; rfl, fun h => absurd rfl h⟩
    · rw [State.core_modCore_other _ _ hx] at h2
      exact ⟨e, a, n, w, l, p, q, (s.core x).frozen, (s.core x).halted, (s.core x).stepOne, by rw [h2, h1], fun _ => rfl⟩
  refine {
    arch := fun x => ?_, own := fun x => ?_, run := fun x => ?_, ctx := fun x => ?_, resv := fun x => ?_, merge := fun x => ?_
    l1 := fun x => ?_, tlbs := fun x => ?_, frame := fun x => ?_, halted := fun x hx => ?_
    reg := fun r a b d e => (hf.reg r d e).trans ((State.modCore_reg _ _ _ _).trans (ho.reg r a b))
    pending := hf.pending.trans ho.pending, timebase := hf.timebase.trans ho.timebase, trios := hf.trios.trans ho.trios
    mem := hf.mem.trans ho.mem, poison := hf.poison.trans ho.poison, msc := hf.msc.trans ho.msc, homes := hf.homes.trans ho.homes
    net := hf.net.trans ho.net, ioBuf := hf.ioBuf.trans ho.ioBuf, fills := hf.fills.trans ho.fills, ftu := hf.ftu.trans ho.ftu
    gce := hf.gce.trans ho.gce
    mcc := hf.mcc.trans ho.mcc, sec := hf.sec.trans ho.sec, links := hf.links.trans ho.links, power := hf.power.trans ho.power
    sole := hf.sole.trans ho.sole, boot := hf.boot.trans ho.boot, resp := hf.resp.trans ho.resp }
  all_goals
    obtain ⟨e, a, n, w, l, p, q, fr, ha, so, h1, h2⟩ := hc x
    rw [h1]
  · exact ⟨rfl, rfl⟩
  · exact ⟨rfl, rfl, rfl⟩
  · exact h2 hx

end Sys2Proof.Machine
end

