-- ==== Sys2Proof/Tests/Slice0.lean ====
section
/-! SUPPORT. Tests: ill-formed commands are refused, values of the specification's worked examples come out, and every clause of the
statements that has hypotheses has a state and operands that meet them. -/

namespace Sys2Proof.Tests

open Sys2Proof.Machine

set_option Elab.async false

/-! ### The states of the witnesses

Each witness shows operands and a state that meet all the hypotheses of a clause of a statement together. -/

/-- Core 252, which runs in the boot ROM right after reset, as the lead of the service trio. -/
def c252 : CoreId := ⟨252, by decide⟩
/-- The reset state with core 252 changed. -/
def lead (f : Core → Core) : State := State.reset.modCore 252 f
/-- Core 252 with registers by key. -/
def withRegs (l : SMap Dword) : State := lead (fun k => { k with arch := { k.arch with regs := l } })
/-- Compute die 0 is Online and its trio 0 powered and Independent. -/
def dieUp : State := (State.reset.setRf (dieStatR 0) 2 0 2).setRf (dieStatR 0) 8 8 1
/-- Core 0 of that trio runs in the boot ROM with a `CSTAT` and registers by key. -/
def comp (cstat : Dword) (regs : SMap Dword) : State :=
  dieUp.setCore 0 { arch := { pc := 0x3FFFFFF00000, csr := [(0x100, cstat)], regs := regs }, run := .running }

/-- Core 0 at PL2 with W = 0 and its translations: a page of code in the boot ROM, and at 0x2000 to 0x6000 a page of the boot store
that is WB, one that is UC, a page of registers, and one of a root port's window. -/
def user (regs : SMap Dword) : State :=
  let s := (comp 0x10 regs).setRf hitCfgR 0 0 1
  let s := s.modCore 0 (fun k => { k with arch := { k.arch with pc := 0x1000 } })
  let add := fun (s : State) (k : Acc') (v f mt : Nat) =>
    s.installTlb 0 (s.keyOf 0 (BitVec.ofNat 64 (v * 4096))) k (BitVec.ofNat 64 (v * 4096))
      (BitVec.ofNat 64 (1 <<< 63 ||| 0xFFF <<< 44 ||| v <<< 8)) (BitVec.ofNat 64 (f <<< 30 ||| 7 <<< 27 ||| mt <<< 23 ||| 0x36 <<< 16))
  add (add (add (add (add s .fetch 1 0x3FFFFFF00 0) .load 2 0x200 0) .load 3 0x201 2) .load 4 0x3F003E000 4) .load 5 0x3C0000000 4

/-- The fetch succeeds. -/
def fetches (s : State) (c : CoreId) : Bool :=
  match ((s.modCore c.val (fun k => k.settle k.arch.posn)).fetch c.val).2 with
  | .ok () => true
  | _ => false
/-- Core `c` executes an instruction now. -/
def goes (s : State) (c : CoreId) : Bool :=
  s.issuing c.val && decide ((s.core c.val).arch.slot.map (·.annul) ≠ some true) && fetches s c && decide ((s.trio (trioOf c.val)).inj = none)
/-- The state in which the instruction's own part runs. -/
def fetched (s : State) (c : CoreId) : State := ((s.modCore c.val (fun k => k.settle k.arch.posn)).fetch c.val).1

theorem ready_of_goes (s : State) (c : CoreId) (h : goes s c = true) : Ready s c (fetched s c) := by
  simp only [goes, Bool.and_eq_true, decide_eq_true_eq] at h
  refine ⟨h.1.1.1, h.1.1.2, ?_, h.2⟩
  have f := h.1.2
  unfold fetches at f
  unfold fetched
  split at f
  · next e => rw [← e]
  · cases f

/-- A translation that succeeds, and what follows from it. -/
def okPage (x : State × Got Page) (f : State → Page → Bool) : Bool :=
  match x.2 with
  | .ok p => f x.1 p
  | _ => false
/-- A computation that succeeds, and what follows from it. -/
def okE {ε α : Type} (x : State × Except ε α) (f : State → α → Bool) : Bool :=
  match x.2 with
  | .ok a => f x.1 a
  | .error _ => false

/-- Channel 0 is Active with 16 GiB, every other one Off; the boot store has ended; memory holds the cells given. -/
def dram (cells : List Host.Cell) : State :=
  { ((State.reset.setRf ⟨.mcStatus, 0, 0, 0⟩ 2 0 2).setRf ⟨.mcStatus, 0, 0, 0⟩ 23 16 16).setRf ⟨.bootStat, 0, 0, 0⟩ 2 2 0 with mem := cells }

/-- Trio 0 of an Online die, and channel 0 Active with 16 GiB. -/
def sysUp : State := ((dram []).setRf (dieStatR 0) 2 0 2).setRf (dieStatR 0) 8 8 1

/-- The write passes every check that stands before the register's own rules. -/
def acc (s : State) (who : Requester) (r : RegRef) (v : Dword) : Bool :=
  !s.down && !s.dapAbsent who && decide (mcsUnit r.off = .reg r) && decide (r.off % 8 = 0) &&
    decide (s.mcsAnswers who r.off (.reg r) = none) && decide (s.writerRefused who r v = none) && !s.dapRefused who true &&
    (!r.reg.expert || decide (s.rf ⟨.expertCtl, 0, 0, 0⟩ 0 0 ≠ 0))

theorem accepted_of_acc (s : State) (who : Requester) (r : RegRef) (v : Dword) (h : acc s who r v = true) : Accepted s who r v := by
  simp only [acc, Bool.and_eq_true, Bool.or_eq_true, Bool.not_eq_true', decide_eq_true_eq] at h
  obtain ⟨⟨⟨⟨⟨⟨⟨h1, h2⟩, h3⟩, h4⟩, h5⟩, h6⟩, h7⟩, h8⟩ := h
  refine ⟨h1, h2, h3, h4, h5, h6, h7, fun he => ?_⟩
  rcases h8 with h8 | h8
  · rw [he] at h8; cases h8
  · exact h8

/-- The lead of the service trio, which is answered at every level. -/
def svc : Requester := .core c252

/-- Doublewords in memory. -/
def poke (s : State) (a : Nat) (l : List Dword) : State := s.setBytes a (l.flatMap (fun d => toBytes d.toNat 8))
/-- The Hashed Inverted Table lies at 2 MiB and gives the page `va` of a tenant's address space the page `pa`, with every right. -/
def mapped (s : State) (tid asid va pa : Nat) : State :=
  let s := s.setReg hitCfgR 0x2000E1
  let h := (hashOf 14 (va / 4096) tid asid).1
  poke s (s.bucketPa h) [BitVec.ofNat 64 (1 <<< 63 ||| tid <<< 56 ||| asid <<< 44 ||| (va / 4096) <<< 8),
    BitVec.ofNat 64 ((pa / 4096) <<< 30 ||| 15 <<< 26 ||| 3 <<< 20 ||| 1 <<< 18)]
/-- A unit's access succeeds. -/
def okEng {α : Type} (x : State × EngRes α) : Bool :=
  match x.2 with
  | .ok _ => true
  | _ => false
/-- A unit's access fails with a status. -/
def failEng {α : Type} (x : State × EngRes α) (p : Nat → Bool) : Bool :=
  match x.2 with
  | .fail n => p n
  | _ => false
/-- A store of a unit, without the bytes it wrote. -/
def putEng {α β : Type} (x : State × EngRes α × β) : State × EngRes α := (x.1, x.2.1)

/-! ### Steps and computational instructions -/

/-- The boot has ended and no mailbox is served. -/
def quiet : State := { State.reset with boot := { phase := 10 } }

theorem witness_idle : (quiet.pending = [] ∧ (pass quiet).firmware.isNone ∧ quiet.ftu.hold = 0) ∧
    (pass { quiet with ftu := { quiet.ftu with hold := 1 } }).firmware.isNone := by decide

theorem witness_wellFormed : wf (.add c252 ⟨0, 1, 2, 3⟩) = true ∧ wf (.l2Enable .pf0 0 1) = true := by decide

/-- A machine of which no core holds anything. -/
def bare : State := { State.reset with cores := [], pending := [.tickSourceLost] }

theorem witness_requests : RequestsRaised bare ∧ ∃ t, step bare = .next t := by
  refine ⟨⟨rfl, ?_⟩, _, rfl⟩
  intro c k h
  have e : (bare.core c).intReq = [] := rfl
  rw [e] at h
  cases h

theorem witness_positionEnd : State.reset.refusals = [] ∧ (255 : Nat) ≠ c252.val := by decide

theorem witness_ready : goes State.reset c252 = true ∧ goes (comp 0x38 []) 0 = true ∧ goes (user []) 0 = true := by decide +kernel

/-- The least packed magnitudes: +123 and -0; and a doubleword that is no packed number. -/
theorem witness_decimal :
    (let s := withRegs [(1, 0x123C), (2, 0x0D)]
     let k := (fetched s c252).core 252
     goes s c252 = true ∧ decValid (k.g 1) = true ∧ decValid (k.g 2) = true) ∧
    (goes State.reset c252 = true ∧ decValid (((fetched State.reset c252).core 252).g 1) = false) := by decide +kernel

theorem witness_float : goes State.reset c252 = true ∧ fld (0 : BitVec 5) 4 2 ≠ 5 ∧ fld (0 : BitVec 5) 4 2 ≠ 6 := by decide +kernel
theorem witness_fused : ((0 : BitVec 3) ≠ 5 ∧ (0 : BitVec 3) ≠ 6) ∧ ((5 : BitVec 3) = 5) := by decide

theorem witness_sums : (4 : Nat) < 5 ∧ 0 < 1 ∧ 1 < (fmtOf true).inf ∧ (fmtOf false).inf - 1 < (fmtOf false).inf := by decide

theorem witness_compares :
    let f := fmtOf false
    0 < 2 * f.signBit ∧ 0x7FFFFFFF < 2 * f.signBit ∧ (f.unpack 0).isNan = false ∧ f.unpack 0x7FC00000 = .nan false ∧
      f.unpack 0x7F800001 = .nan true ∧ (f.unpack 0x7F800001).isNan = true := by decide

/-- The signed corner of R68 and the operands around it. -/
theorem witness_divisions : ((1 : Dword) ≠ 0 ∧ ¬((0x8000000000000000 : Dword) = 0x8000000000000000 ∧ (1 : Dword) = BitVec.allOnes 64)) ∧
    ((0x8000000000000000 : Dword) = 0x8000000000000000 ∧ BitVec.allOnes 64 = (0xFFFFFFFFFFFFFFFF : Dword)) := by decide

/-- Core 252 with its units busy, and their controls. -/
def busyUnits : State := lead (fun k => { k with arch := { k.arch with iu := { k.arch.iu with ctl := 1 }, fu := { k.arch.fu with ctl := 1 } } })

theorem witness_collects :
    (let k := (fetched State.reset c252).core 252
     goes State.reset c252 = true ∧ bit k.arch.iu.ctl 0 = false ∧ bit k.arch.fu.ctl 0 = false) ∧
    (let k := (fetched busyUnits c252).core 252
     goes busyUnits c252 = true ∧ bit k.arch.iu.ctl 0 = true ∧ bit k.arch.fu.ctl 0 = true ∧ bit k.arch.iu.ctl 1 = false ∧
       bit k.arch.fu.ctl 1 = false) := by decide +kernel

/-- Two results for g5, the first produced due at position 0 and the second at 1. -/
def twoResults : List PendRes := [⟨0, some 5, 7, 0, 0, none⟩, ⟨1, some 5, 9, 0, 0, none⟩]

theorem witness_oldValue :
    (0 < 5 ∧ twoResults.filter (fun r => decide (r.vis ≤ 0) && decide (r.reg = some 6)) = []) ∧
    (let due := twoResults.filter (fun r => decide (r.vis ≤ 1) && decide (r.reg = some 5))
     due = [⟨0, some 5, 7, 0, 0, none⟩] ++ ⟨1, some 5, 9, 0, 0, none⟩ :: [] ∧
      (∀ x ∈ [(⟨0, some 5, 7, 0, 0, none⟩ : PendRes)], x.vis ≤ 1)) := by decide

/-- An armed record that is due. -/
def armedDue : State := lead (fun k => { k with arch := { k.arch with pend := [⟨0, none, 0, 0, 0, some (.pl1, 3)⟩] } })

theorem witness_armed : ∃ r ∈ (armedDue.core 252).arch.pend, r.rcd.isSome = true ∧ r.vis ≤ (armedDue.core 252).arch.posn := by decide

/-! ### Loads and stores -/

/-- Core 0 at PL2 with the address in g1 and a value in g2. -/
def addr (a : Dword) : State := user [(1, a), (2, 0xA5)]
/-- An operand record whose base is g1 and which loads or stores g2. -/
def baseG1 : OpsC := ⟨2, 1, false, false, 0⟩
/-- A byte access, a doubleword at a line's end. -/
def ldRef (va : Dword) (n : Nat) : Mref := { word := wordC 0x16 baseG1, va := va, size := n, signed := false, dst := some 2, h := false }

theorem witness_cacheableLoads : goes (addr 0x2038) 0 = true ∧ (0x2038 % 64 + 8 ≤ 64) ∧
    (let s1 := fetched (addr 0x2038) 0
     okPage (s1.translate 0 .load 0x2038) (fun s2 p => decide (p.region = .dram ∧ p.ty = .wb) &&
       okE (s2.loadLine 0 (mrefOf (s1.core 0) 0x16 baseG1 8 false ((s1.core 0).dest false 2)) p.pa) (fun _ r => !r.2.1)) = true) := by
  decide +kernel

/-- Trio 0 with a line of the boot store in its L2, alone and clean. -/
def l2Has (s : State) : State :=
  (s.setRf ⟨.l2Ctl, 0, 0, 0⟩ 2 0 1).modTrio 0 (fun k => { k with l2 := { k.l2 with
    lines := [{ line := 0x8000, way := 0, st := .e, tid := 0, w := false, data := 0x5A, poison := false, age := 0 }] } })

theorem witness_l2Hit : (let s := (l2Has (user [])).setRf (coreCacheR 0) 3 3 0
    (((s.trio 0).l2.find 0x8000).map (·.w) = some false ∧ s.l2On 0 = true ∧ bit (s.reg (coreCacheR 0)) 3 = false)) := by decide +kernel

theorem witness_stores : goes (addr 0x203F) 0 = true ∧ 0x203F % 64 + 1 ≤ 64 ∧
    (let s1 := fetched (addr 0x203F) 0
     okPage (s1.translate 0 .store 0x203F) (fun s2 p => decide (p.region = .dram ∧ p.ty = .wb ∧ p.trans = true) && !s2.fenced 0 &&
       decide ((s2.core 0).w = (s1.core 0).w) && !(s2.core 0).mergeFull (p.pa / 64) p.ty) = true) := by decide +kernel

theorem witness_buffer : 63 < 64 ∧ 2 ^ 40 - 1 < 2 ^ 40 ∧ ({} : Core).merge = [] := by decide

/-- An entry of the merging buffer for the first byte of that line. -/
def entry0 (o : Bool) : MergeEntry := { line := 0x8000, data := 0xFF, mask := 1, isOpen := o, ty := .wb, tid := 0, w := false }

theorem witness_drains :
    (let s := (user []).modCore 0 (fun k => { k with merge := [entry0 true] })
     s.refusals = [] ∧ (s.core 0).merge = [] ++ entry0 true :: [] ∧ (entry0 true).isOpen = true) ∧
    (let s := (l2Has (user [])).modCore 0 (fun k => { k with merge := [entry0 false] })
     s.refusals = [] ∧ (s.core 0).merge = entry0 false :: [] ∧ (entry0 false).ty = .wb ∧ s.region ((entry0 false).line.toNat * 64 + maskLow (entry0 false).mask) = .dram ∧
       s.l2Alloc 0 = true ∧ ((s.trio 0).l2.find 0x8000).map (fun l => (l.st, l.w)) = some (.e, false) ∧ (s.trio 0).inj = none) := by
  decide +kernel

/-- LR of a doubleword; SC with the reservation held and without; TAS.B. -/
def atomic (a : Dword) (r : Option Resv) : State := (l2Has (user [(1, a), (2, 0xA5)])).modCore 0 (fun k => { k with resv := r })
def opsAtom : OpsA := ⟨3, 1, 2, 0⟩

theorem witness_atomics :
    (let s := atomic 0x2038 none
     let s1 := fetched s 0
     goes s 0 = true ∧ bit opsAtom.ext 0 = false ∧ 0x2038 % 8 = 0 ∧
     okPage (s1.translate 0 .load 0x2038) (fun s2 p => decide (p.region = .dram ∧ p.ty = .wb) && s2.l2On 0 &&
       okE (s2.loadLine 0 (ldRef 0x2038 8) p.pa) (fun _ r => !r.2.1)) = true ∧
     okPage (s1.translate 0 .store 0x2038) (fun s2 p => !s2.fenced 0 &&
       decide ((((s2.drainMerge 0).ready 0 (p.pa / 64)).core 0).resv ≠ some ⟨BitVec.ofNat 46 p.pa, 8⟩)) = true) ∧
    (let s := atomic 0x2038 (some ⟨0x200038, 8⟩)
     let s1 := fetched s 0
     goes s 0 = true ∧ okPage (s1.translate 0 .store 0x2038) (fun s2 p =>
       let s3 := (s2.drainMerge 0).ready 0 (p.pa / 64)
       let s4 := s3.modCore 0 (fun q => { q with resv := none, wfence := false })
       let patch := linePatch (p.pa % 64) 8 0xA5
       decide ((s3.core 0).resv = some ⟨BitVec.ofNat 46 p.pa, 8⟩) &&
         okE (s4.drainBytes 0 0 (s4.atomRq 0 (p.pa / 64)) p.ty (p.pa / 64) patch.1 patch.2) (fun _ _ => true)) = true) ∧
    (let s := atomic 0x203F none
     let s1 := fetched s 0
     goes s 0 = true ∧ okPage (s1.translate 0 .tas 0x203F) (fun s2 p =>
       let s2' := (s2.drainMerge 0).modCore 0 (fun q =>
         { q with resv := q.resv.filter (fun r => decide (r.pa.toNat / 64 ≠ p.pa / 64)), wfence := false })
       decide (p.region = .dram ∧ p.ty = .wb) && !s2.fenced 0 && s2'.l2On 0 &&
         okE (s2'.loadLine 0 (ldRef 0x203F 1) p.pa) (fun s3 r => !r.2.1 &&
           okE (s3.drainBytes 0 0 (s2'.atomRq 0 (p.pa / 64)) p.ty (p.pa / 64) (linePatch (p.pa % 64) 1 0xFF).1
             (linePatch (p.pa % 64) 1 0xFF).2) (fun _ _ => true))) = true) := by decide +kernel

theorem witness_misaligned :
    (goes (addr 0x2039) 0 = true ∧ 64 < 0x2039 % 64 + 8) ∧
    (goes (addr 0x3004) 0 = true ∧ 0x3004 % 64 + 8 ≤ 64 ∧ 0x3004 % 8 ≠ 0 ∧
      okPage ((fetched (addr 0x3004) 0).translate 0 .load 0x3004) (fun _ p => decide (p.ty ≠ .wb ∧ p.ty ≠ .wt)) = true ∧
      okPage ((fetched (addr 0x3004) 0).translate 0 .store 0x3004) (fun _ p => decide (p.ty ≠ .wb ∧ p.ty ≠ .wt)) = true) ∧
    ((fetched (addr 0x2001) 0).core 0).g 1 = 0x2001 := by decide +kernel

theorem witness_uncached :
    (let s1 := fetched (addr 0x3038) 0
     goes (addr 0x3038) 0 = true ∧ okPage (s1.translate 0 .load 0x3038) (fun s2 p => decide (p.region = .dram ∧ p.ty = .uc) &&
       okE (s2.rdShared (s2.rq 0 (s2.tidOn 0) (s2.core 0).w (p.pa / 64) false) (p.pa / 64) true false)
         (fun s3 r => !r.2.1 && !s3.throughWelt 0)) = true) ∧
    (let s1 := fetched (addr 0x4000) 0
     goes (addr 0x4000) 0 = true ∧ okPage (s1.translate 0 .load 0x4000) (fun s2 p => decide (p.region = .mcs ∧ p.ty = .devStrict) &&
       okE ((s2.drainMerge 0).mcsRead (.core 0) (p.pa - 0x3F0000000000) 3) (fun s3 _ => !s3.throughWelt 0)) = true) ∧
    (let s1 := fetched (addr 0x5000) 0
     goes (addr 0x5000) 0 = true ∧ okPage (s1.translate 0 .load 0x5000) (fun _ p => decide (p.region = .pcie ∧ p.ty = .devStrict)) = true ∧
       okPage (s1.translate 0 .store 0x5000) (fun s2 p => decide (p.region = .pcie ∧ p.ty = .devStrict) && !s2.fenced 0) = true) := by
  decide +kernel

/-- A store to a register: `DIE_STATUS[0]` completes a write and ignores it. -/
theorem witness_registerStore :
    (let s1 := fetched (addr 0x4100) 0
     okPage (s1.translate 0 .store 0x4100) (fun s2 p =>
       let s3 := ((s2.drainMerge 0).modCore 0 (fun q =>
         { q with resv := q.resv.filter (fun r => decide (r.pa.toNat / 64 ≠ p.pa / 64)), wfence := false })).modCore 0
         (fun q => { q with dev := some { pa := BitVec.ofNat 46 p.pa, va := 0x4100, size := 8, store := true, signed := false, reg := 0
                                          word := wordC 0x1B baseG1 } })
       match s3.mcsWrite (.core 0) (p.pa - 0x3F0000000000) 3 0xA5 with
       | .ok t => (t.core 0).dev.isSome
       | _ => false)) = true := by decide +kernel

/-- Core 0 waits for a device, or has a posted store. -/
def waiting (pa : BitVec 46) : State := (user []).modCore 0 (fun k =>
  { k with dev := some { pa := pa, va := 0x5000, size := 8, store := false, signed := false, reg := 2, word := 0 } })

theorem witness_responses :
    (let s := waiting 0x3C0000000000
     (s.core 0).dev.map (·.pa) = some 0x3C0000000000 ∧ s.region 0x3C0000000000 = .pcie ∧ s.throughWelt 0 = false) ∧
    (let s := (user []).modCore 0 (fun k => { k with posted := [(0x3C0000000000, 1)] })
     (s.core 0).dev = none ∧ (s.core 0).posted = (0x3C0000000000, 1) :: []) := by decide +kernel

/-! ### Branches, traps and control registers -/

theorem witness_branches : goes (user []) 0 = true ∧ ((user []).core 0).arch.slot = none := by decide +kernel

/-- Core 0 in the delay slot of a branch. -/
def inSlot (annul : Bool) : State := (user []).modCore 0 (fun k => { k with arch := { k.arch with slot := some ⟨0xFFC, !annul, 0x1000, annul⟩ } })

theorem witness_slots :
    (((inSlot true).trio (trioOf 0)).inj = none ∧ ((inSlot false).trio (trioOf 0)).inj = none) ∧
    ((inSlot true).issuing 0 = true ∧ ((inSlot true).core 0).arch.slot = some ⟨0xFFC, false, 0x1000, true⟩) ∧
    ((inSlot false).issuing 0 = true ∧ ((inSlot false).core 0).arch.slot = some ⟨0xFFC, true, 0x1000, false⟩ ∧
      fetches (inSlot false) 0 = true) := by decide +kernel

/-- A call two positions ago. -/
theorem witness_predictor : ((4 : Nat) < 2 + 3 ∧ ¬ (5 : Nat) < 2 + 3 ∧ (0x7FFFFFFFFFFC : Dword).toNat % 4 = 0) ∧ ({ ras := [1, 2, 3, 4, 5, 6, 7, 8] : Core }).ras.length ≤ 8 ∧ ({} : Core).ras.length ≤ 8 := by decide

/-- Sealed services available or not, with core 0 at a level and world. -/
def sealing (cstat : Dword) (svc : Nat) : State := (comp cstat []).setRf secStatR 0 0 svc

theorem witness_calls :
    (goes (sealing 0x30 0) 0 = true ∧ 1 ≤ ((fetched (sealing 0x30 0) 0).core 0).pl ∧
      ((fetched (sealing 0x30 0) 0).countCore 0 0x01).rf secStatR 0 0 = 0) ∧
    (goes (sealing 0x28 1) 0 = true ∧ 1 ≤ ((fetched (sealing 0x28 1) 0).core 0).pl ∧ ((fetched (sealing 0x28 1) 0).core 0).w = true ∧
      ((fetched (sealing 0x28 1) 0).countCore 0 0x01).rf secStatR 0 0 ≠ 0) ∧
    (let s := (user []).setRf secStatR 0 0 1
     goes s 0 = true ∧ 1 ≤ ((fetched s 0).core 0).pl ∧ ((fetched s 0).core 0).w = false ∧
      ((fetched s 0).countCore 0 0x01).rf secStatR 0 0 ≠ 0) ∧
    (goes (comp 0x20 []) 0 = true ∧ ((fetched (comp 0x20 []) 0).core 0).pl = 0) ∧
    (let k := (fetched (user []) 0).core 0
     1 ≤ k.pl ∧ k.rfeRefused = false ∧ IntClass.normal ∉ k.intReq) ∧
    (let s := (user []).modCore 0 (fun k => k.setCsr 0x202 0x30000)
     goes s 0 = true ∧ ((fetched s 0).core 0).rfeRefused = true) := by decide +kernel

theorem witness_trapSets : (((comp 0x38 []).core 0).w = true) ∧
    (((user []).core 0).w = false ∧ ((user []).core 0).infast = false ∧ (0x0E : Nat) ≠ 0x12) ∧
    (let k := ((user []).modCore 0 (fun k => { k with arch := { k.arch with csr := [(0x100, 0x48)] } })).core 0
     k.w = false ∧ k.infast = true) := by decide +kernel

theorem witness_trapEntry : (0x21 < 256 ∧ 0x05 < 256) ∧ (((user []).core 0).w = true ↔ TrapSet.pl2 = .pl3) ∧
    (((comp 0x38 []).core 0).w = true ↔ TrapSet.pl3 = .pl3) := by decide +kernel

theorem witness_return :
    (let h := ((user []).core 0).settleAll
     ((h.csr (h.rfeSet.base + 2)).getLsbD 18 = h.w ∧ (h.csr (h.rfeSet.base + 2)).getLsbD 21 = false)) ∧
    (let h := (((user []).modCore 0 (fun k => k.setCsr 0x202 0x200000)).core 0).settleAll
     ((h.csr (h.rfeSet.base + 2)).getLsbD 18 = h.w ∧ (h.csr (h.rfeSet.base + 2)).getLsbD 21 = true)) := by decide +kernel

theorem witness_worlds : ((comp 0x38 []).core 0).w = true ∧
    (let k := ((user []).modCore 0 (fun k => { k with ctx := some 63 })).core 0
     k.w = false ∧ k.ctx = some 63) := by decide +kernel

/-- Core 0 with a context, at a level with interrupts enabled, and requests that have reached it. -/
def asked (cstat : Dword) (l : List IntClass) : State := (comp cstat []).modCore 0 (fun k => { k with ctx := some 0, intReq := l })

/-- Source 0 pends at core `c`, enabled and routed to PL1. -/
def pends (s : State) (c : Nat) : State :=
  (((s.setRf (enR 0) 0 0 1).setRf (gctlR 0) 0 0 1).setReg (routeR 0) (BitVec.ofNat 64 (1 <<< 62 ||| 1 <<< 55))).modCore c (fun k =>
    { (k.setCsr 0x222 1) with bcastP := 1 })

theorem witness_interrupts :
    (let k := (asked 0x07 [.fast, .normal]).core 0
     k.run = .running ∧ k.halted = false ∧ k.frozen = false ∧ ((asked 0x07 [.fast, .normal]).trio (trioOf 0)).inj = none ∧ k.dev = none ∧ k.ctx.isSome = true ∧ (asked 0x07 [.fast]).leadOf 0 = 0 ∧
       IntClass.fast ∈ k.intReq ∧ k.w = false ∧ k.infast = false ∧ k.pl ≤ 1 ∧ k.fie = true) ∧
    (let k := ((asked 0x10 [.pl2]).modCore 0 (fun k => k.setCsr 0x200 1)).core 0
     IntClass.pl2 ∈ k.intReq ∧ k.w = false ∧ k.infast = false ∧ k.pl ≤ 2 ∧ k.pie = true ∧ IntClass.fast ∉ k.intReq) ∧
    (let k := (asked 0x01 [.normal]).core 0
     IntClass.normal ∈ k.intReq ∧ k.w = false ∧ k.infast = false ∧ k.pl ≤ 1 ∧ k.nie = true ∧ IntClass.pl2 ∉ k.intReq) ∧
    ((State.reset.core 252).ctx.isSome = false) ∧
    (let s := pends (user []) 0
     s.leadOf 0 = 0 ∧ s.throughWelt 0 = false ∧ s.requested 0 .normal = true) ∧
    (let s := pends State.reset 252
     s.throughWelt 252 = true ∧ s.requested (s.leadOf 252) .normal = true) := by decide +kernel

theorem witness_csrs : (goes (comp 0x38 []) 0 = true ∧ 0x30C / 256 ≤ ((fetched (comp 0x38 []) 0).core 0).pl) ∧
    ((0x001 : Nat) ∈ [0x001, 0x002]) ∧ (0x100 ≤ 0x10C ∧ 0x10C ≤ 0x10C) ∧
    (((fetched (comp 0x20 []) 0).core 0).pl < 0x100 / 256) ∧ ¬ (0x301 ≤ 0x30D ∧ 0x30D ≤ 0x30C) := by decide +kernel

theorem witness_csrValues : ((user []).throughWelt 0 = false ∧ State.reset.throughWelt 252 = true) ∧ ((4 : Nat) < 8 ∧ (7 : Nat) < 8) ∧ (fld (0x9F : Dword) 7 5 < 5 ∧ 5 ≤ fld (0xA0 : Dword) 7 5) ∧
    ((1 : Dword).getLsbD 0 = true ∧ (1 : Dword).getLsbD 1 = false) ∧ ((3 : Dword).getLsbD 1 = true) ∧ ((0 : Dword).getLsbD 0 = false) := by decide

/-! ### Contexts, fences, maintenance, custom instructions -/

/-- Core 0 runs the context of slot 63 of its trio, with registers. -/
def inCtx (cstat : Dword) (regs : SMap Dword) (f : Slot → Slot) : State :=
  ((comp cstat regs).modCore 0 (fun k => { k with ctx := some 63 })).setSlot 0 63 (f { state := .running, stream := some 0 })

theorem witness_contexts :
    (let s := inCtx 0x28 [] id
     let s1 := fetched s 0
     goes s 0 = true ∧ (s.core 0).arch.slot = none ∧ (s1.core 0).ctx = some 63 ∧ 1 ≤ (s1.core 0).pl ∧ s1.anyPending 0 = false) ∧
    (let s := pends (inCtx 0x28 [] id) 0
     goes s 0 = true ∧ 1 ≤ ((fetched s 0).core 0).pl ∧ (fetched s 0).anyPending 0 = true) ∧
    (let s := inCtx 0x20 [] id
     goes s 0 = true ∧ ((fetched s 0).core 0).pl = 0 ∧ (((fetched s 0).core 0).g 1).truncate 32 = (0 : Word)) ∧
    (let s := inCtx 0x20 [(1, 1)] id
     goes s 0 = true ∧ s.throughWelt 0 = false) ∧
    (let s := inCtx 0x20 [(1, 1)] id
     let m : Word := (((fetched s 0).core 0).g 1).truncate 32
     ((fetched s 0).slot 0 63).events &&& m = 0 ∧ m ≠ 0 ∧ ((fetched s 0).countCore 0 0x01).remain 0 63 = 0) ∧
    (let s := inCtx 0x20 [(1, 1)] (fun b => { b with remain := 5 })
     ((fetched s 0).countCore 0 0x01).remain 0 63 ≠ 0 ∧
       (((fetched s 0).countCore 0 0x01).modCore 0 (fun q => q.advance none)).remain 0 63 ≠ 0) ∧
    (State.reset.throughWelt 252 = true) ∧ (fld (0x177F : Dword) 12 9 < 12 ∧ fld (0x177F : Dword) 8 6 < 6) ∧ (12 ≤ fld (0x1800 : Dword) 12 9) ∧ (6 ≤ fld (0x180 : Dword) 8 6) := by
  decide +kernel

theorem witness_leaving : (inCtx 0x30 [] id).leadOf 0 = 0 ∧ ((inCtx 0x30 [] id).core 0).ctx = some 63 ∧ 2 ≤ ((inCtx 0x30 [] id).core 0).pl := by decide +kernel

/-- Core 0 at PL2 with TLBINVs outstanding. -/
def invsOut (n : Nat) (aw : List Nat) : State := (user []).modCore 0 (fun k => { k with invs := List.replicate n ⟨7, .all, aw, []⟩ })
def sysOps (v : BitVec 12) : OpsF := ⟨2, 1, v⟩

theorem witness_fences :
    (goes (user []) 0 = true ∧ fld (sysOps 1).sys 1 0 = 1 ∧ fld (sysOps 2).sys 1 0 = 2 ∧ fld (sysOps 3).sys 1 0 = 3 ∧ fld (sysOps 0).sys 1 0 = 0) ∧
    (let s1 := fetched (user []) 0
     ((s1.drainMerge 0).wbsAcked 0).storesDone 0 = true ∧ 2 ≤ (s1.core 0).pl ∧ (s1.core 0).invs.length < 8) ∧
    (let s := (user []).modCore 0 (fun k => { k with posted := [(0x3C0000000000, 1)] })
     goes s 0 = true ∧ (((fetched s 0).drainMerge 0).wbsAcked 0).storesDone 0 = false) ∧
    (let s := invsOut 8 [252]
     goes s 0 = true ∧ 2 ≤ ((fetched s 0).core 0).pl ∧
       8 ≤ (((fetched s 0).core 0).invs.filter (fun v => (v.await ++ v.acks).any (fun d => (fetched s 0).awaited d))).length) ∧
    (goes (comp 0x20 []) 0 = true ∧ ((fetched (comp 0x20 []) 0).core 0).pl < 1) ∧
    (goes (comp 0x28 []) 0 = true ∧ ((fetched (comp 0x28 []) 0).core 0).pl = 1) ∧
    (∀ v ∈ ((fetched (user []) 0).core 0).invs, ∀ d ∈ v.await ++ v.acks, (fetched (user []) 0).awaited d = false) ∧
    (let s := invsOut 1 [252]
     goes s 0 = true ∧ ∃ v ∈ ((fetched s 0).core 0).invs, ∃ d ∈ v.await ++ v.acks, (fetched s 0).awaited d = true) := by decide +kernel

theorem witness_invalidations : ((invsOut 1 [252]).core 0).invs = [⟨7, .all, [252], []⟩] ∧ c252 ≠ 0 ∧ c252.val ∈ [252] := by decide +kernel

theorem witness_maintenance :
    (let s := comp 0x38 [(1, 0x200038), (2, 8)]
     let s1 := fetched s 0
     goes s 0 = true ∧ 2 ≤ (s1.core 0).pl ∧ 0 < ((s1.core 0).g 2).toNat ∧ ((s1.core 0).g 1).toNat % 64 + ((s1.core 0).g 2).toNat ≤ 64 ∧
     okPage (s1.translate 0 .maint 0x200038) (fun _ p => decide (p.pa = 0x200038)) = true) ∧
    (let s := comp 0x38 [(1, 0x200038), (2, 8)]
     okPage ((fetched s 0).translate 0 .maint 0x200038) (fun _ _ => true) = true) ∧
    (let s := (user [(1, 0x2038), (2, 9)]).modCore 0 (fun k => { k.setCsr 0x200 1 with ctx := some 63, intReq := [.pl2] })
     let s1 := fetched s 0
     goes s 0 = true ∧ 0 ≤ (s1.core 0).pl ∧ 64 < ((s1.core 0).g 1).toNat % 64 + ((s1.core 0).g 2).toNat ∧
       okPage (s1.translate 0 .maint 0x2038) (fun s2 p =>
         ((s2.lineMaint 0 .cln 1 p.pa).core 0).intReq.any (fun i => ((s2.lineMaint 0 .cln 1 p.pa).core 0).acceptsNow i)) = true) ∧
    (fld (0xC00 : BitVec 12) 11 10 = 3 ∧ fld (0x100 : BitVec 12) 9 8 = 1 ∧ fld (0x300 : BitVec 12) 9 8 = 3) ∧
    (let s := comp 0x20 []
     goes s 0 = true ∧ ((fetched s 0).core 0).pl < 1 ∧ ((fetched s 0).core 0).g 2 = 0) := by decide +kernel

theorem witness_lineMaintenance :
    ((l2Has (comp 0x38 [])).core 0).w = true ∧ ((l2Has (comp 0x38 [])).core 0).merge = [] ∧
      (((l2Has (comp 0x38 [])).trio 0).l2.find 0x8000).isSome = true ∧
      (let s := l2Has (comp 0x38 [])
       (s.calm 0x8000).msc = s.msc ∧ (s.calm 0x8000).net = s.net ∧ (s.calm 0x8000).cores = s.cores ∧ (s.calm 0x8000).homes = s.homes ∧
         (s.calm 0x8000).trios = s.trios ∧ (s.calm 0x8000).mem = s.mem) := by decide +kernel

/-- Slot 31 of the decode table locked with an entry; its sequence 255 is one addition. -/
def custom (cstat v : Dword) : State :=
  (((comp cstat []).setReg cdtCtlR 1).setReg (cdtSlotR 31) v).setReg (cdtUopR 255) 0xD100000000

theorem witness_custom :
    (let s1 := fetched (comp 0x38 []) 0
     goes (comp 0x38 []) 0 = true ∧ ¬ (bit (s1.reg cdtCtlR) 0 = true ∧ bit (s1.reg (cdtSlotR 31)) 0 = true)) ∧
    (let s1 := fetched (custom 0x20 0x21FF) 0
     goes (custom 0x20 0x21FF) 0 = true ∧ bit (s1.reg cdtCtlR) 0 = true ∧ bit (s1.reg (cdtSlotR 31)) 0 = true ∧
       bit (s1.reg (cdtSlotR 31)) 13 = true ∧ (s1.core 0).pl = 0) ∧
    (let s1 := fetched (custom 0x38 0x01FF) 0
     goes (custom 0x38 0x01FF) 0 = true ∧ bit (s1.reg cdtCtlR) 0 = true ∧ bit (s1.reg (cdtSlotR 31)) 0 = true ∧
       bit (s1.reg (cdtSlotR 31)) 13 = false ∧ fld (s1.reg (cdtSlotR 31)) 12 9 = 0 ∧
       s1.reg (cdtUopR (fld (s1.reg (cdtSlotR 31)) 8 1)) = 0xD100000000 ∧
       (match (s1.runSeq 0 0xFC000000 ⟨0, 0, 0⟩ (s1.reg (cdtSlotR 31))).2 with
        | .next _ none => true
        | _ => false) = true) ∧
    (reservedWord 0x3C000000 = true ∧ wfld 0x3C000000 31 26 ∈ [0x0F, 0x37]) ∧ (wfld 0xFFFFFFFF 31 26 ∈ [0x3F]) := by decide +kernel

/-- Core 0 in a Sealed call of a caller at PL1. -/
def inCall (lim svc watch : Nat) : State :=
  (((comp 0x38 []).setRf secStatR 0 0 svc).setRf secCtlR 19 0 lim).modCore 0 (fun k =>
    { k with frame := some { level := 1 }, watch := watch })

theorem witness_forcedReturns :
    (let s := inCall 5 1 5
     (s.core 0).frame.map (·.level) = some 1 ∧ (s.core 0).w = true ∧ (s.core 0).run = .running ∧ 0 < s.rf secCtlR 19 0 ∧
       s.rf secCtlR 19 0 ≤ s.watchNow 0 ∧ ((s.lostRecord 0).forceReturn 0 0).rf secStatR 0 0 = 1) ∧
    (let s := inCall 5 0 5
     s.rf secCtlR 19 0 ≤ s.watchNow 0 ∧ ((s.lostRecord 0).forceReturn 0 0).rf secStatR 0 0 = 0 ∧ s.rf secStatR 0 0 = 0) ∧
    ((inCall 5 1 4).watchNow 0 < (inCall 5 1 4).rf secCtlR 19 0) ∧ ((inCall 0 1 9).rf secCtlR 19 0 = 0) := by decide +kernel

/-! ### Caches and coherence -/

theorem witness_mergingEvents :
    (let m := (((user []).modCore 0 (fun k => { k with merge := [entry0 false, entry0 true] })).core 0).merge
     m = [entry0 false] ++ entry0 true :: [] ∧ (entry0 true).isOpen = true ∧ (entry0 true).line = 0x8000) ∧
    (∀ x ∈ [entry0 false], x.isOpen = true → x.line ≠ 0x8000) ∧
    (((user []).core 0).merge = []) ∧ ((user []).trio (trioOf 0)).inj = none := by decide +kernel

/-- Register writes that nobody waits for, on cleans and clears in progress. -/
def cleaning : State := ((dieUp.setRf (l2CtlR 0) 2 0 2).setRf mscCtlR 1 0 2)

/-- A line of the Memory-Side Cache, dirty, with `n` writes in each write queue of channel 0. -/
def mscLine7 : MscLine := { line := 7, way := 0, dirty := true, data := 0, age := 0, w := false, tid := 1, poison := false }
def mscBusy (n : Nat) : State := { cleaning with msc := { cleaning.msc with lines := [mscLine7] }
                                                 }.modMc 0 (fun k => { k with writeQ := List.replicate n (false, 7) })

theorem witness_mscClean :
    (let s := mscBusy 48
     s.rf mscCtlR 1 1 = 1 ∧ s.msc.cleanNext = none ∧ s.refusals = [] ∧ mscLine7 ∈ s.msc.lines ∧ (∀ x ∈ s.msc.lines, x.line = mscLine7.line → x = mscLine7) ∧
       mscLine7.dirty = true ∧ 48 ≤ (s.mc (s.servChan (chanOf 7))).queued (subOf 7) + 0) ∧
    (let s := mscBusy 46
     s.rf mscCtlR 1 1 = 1 ∧ s.refusals = [] ∧ ∀ l ∈ s.msc.lines, (s.mc (s.servChan (chanOf l.line.toNat))).queued (subOf l.line.toNat) + s.msc.lines.length < 48) := by
  decide +kernel

theorem witness_cacheControl :
    (cleaning.cores.all (fun e => e.2.dev.isNone) = true ∧ cleaning.trios.all (fun e => e.2.slots.all (fun x => x.2.det.isNone)) = true) ∧
    (cleaning.rf (l2CtlR 0) 1 1 = 1 ∧ (cleaning.trio 0).l2.cleanNext = none ∧ cleaning.rf mscCtlR 1 1 = 1 ∧ cleaning.msc.cleanNext = none) ∧
    (dieUp.rf (l2CtlR 0) 1 1 = 0 ∧ dieUp.rf mscCtlR 1 1 = 0) ∧
    (let s := dieUp.setRf (l2CtlR 0) 2 0 4
     s.powered 0 = true ∧ s.rf (l2CtlR 0) 2 1 = 2 ∧ (s.trio 0).l2.cleanNext = none) ∧
    ((dieUp.setRf (l2CtlR 0) 2 0 1).rf (l2CtlR 0) 2 2 = 0) ∧ cleaning.refusals = [] := by decide +kernel

/-- A valid entry of tenant 1 at address 16 of channel 0, without a frame; with one in `framed`. -/
def entryDw : Dword := 0x8100000000000000
def tables (d1 : List Host.Cell) (quota used : Nat) : State :=
  ((dram ([(0x17, 0x81)] ++ d1)).setRf (tqQuotaR 1) 31 0 quota).setRf (tqStatusR 1) 31 0 used

theorem witness_tables :
    (let s := tables [] 1 1
     let h := s.homeEntry 1 16
     (16 : Nat) % 16 = 0 ∧ s.inInstalled 16 = true ∧ fld entryDw 60 56 = 1 ∧ h.2.1 = entryDw ∧ h.2.1.getLsbD 63 = true ∧ s.fills = [] ∧
       h.2.2.getLsbD 18 = false ∧ h.1.rf (tqQuotaR 1) 31 0 ≤ h.1.rf (tqStatusR 1) 31 0) ∧
    ((tables [] 1 1).homeEntry 1 32).2.1 ≠ entryDw ∧
    (((tables [(0x1A, 0x04)] 1 1).homeEntry 1 16).2.2.getLsbD 18 = true) ∧
    (let h := (tables [] 1 0).homeEntry 1 16
     h.1.rf (tqStatusR 1) 31 0 < h.1.rf (tqQuotaR 1) 31 0 ∧
       h.1.rf (fpoolIdxR 1) 19 0 % 2 ^ h.1.rf (fpoolBaseR 1) 4 0 = h.1.rf (fpoolIdxR 1) 51 32 % 2 ^ h.1.rf (fpoolBaseR 1) 4 0 ∧ h.1.fills = []) ∧
    (let h := (((tables [(0x80, 0x00), (0x81, 0x10)] 1 0).setRf (fpoolBaseR 1) 45 0 129).setRf (fpoolIdxR 1) 51 32 1).homeEntry 1 16
     h.1.rf (tqStatusR 1) 31 0 < h.1.rf (tqQuotaR 1) 31 0 ∧ ({ h.1 with fills := [{ frame := 0, entry := 16, store := true, tid := 1, popping := true }] }.popFrame 1 (2 ^ 20)).2 = some 1) ∧
    (let y : ZeroFill := { frame := 0x10, entry := 16, store := true, tid := 1, chained := [entryDw] }
     { tables [] 1 0 with fills := [y] }.fills = [y] ∧ y.ea = 16) := by decide +kernel

/-- Trio 0 with a line in a state, and a line in its writeback buffer. -/
def l2In (st : LState) : State :=
  dieUp.modTrio 0 (fun k => { k with l2 := { k.l2 with
    lines := [{ line := 0x8000, way := 0, st := st, tid := 0, w := false, data := 0x5A, poison := false, age := 0 }] } })

theorem witness_snoops :
    (0x8000 < 2 ^ 40 ∧ (dieUp.trio 0).retention = false ∧ (dieUp.trio 0).l2.findWp 0x8000 = none ∧ (dieUp.trio 0).l2.find 0x8000 = none) ∧
    (((l2In .m).trio 0).l2.findWp 0x8000 = none ∧ (((l2In .m).trio 0).l2.find 0x8000).map (·.st) = some .m) ∧
    ((((l2In .o).trio 0).l2.find 0x8000).map (·.st) = some .o ∧ (((l2In .e).trio 0).l2.find 0x8000).map (·.st) = some .e ∧
      (((l2In .s).trio 0).l2.find 0x8000).map (·.st) = some .s) ∧
    ((((l2In .wp).trio 0).l2.findWp 0x8000).isSome = true ∧ (0x8000 : LineAddr) ∉ ((l2In .wp).trio 0).l2.superseded) := by decide +kernel

/-- A request of the service trio's agent, the highest that a trio has, in the highest tenant. -/
def lastRq : Rq := { agent := 84, tid := 31, w := true }

theorem witness_grants : 2 ^ 40 - 1 < 2 ^ 40 ∧ lastRq.agent ≤ 84 ∧ lastRq.tid < 32 ∧ ((dram []).turn lastRq 7).refused lastRq.w 7 = false ∧
    ((dram []).turn lastRq 7).deadAt (chanOf 7) = [] ∧ (((dram []).turn lastRq 7).home (chanOf 7)).entry 7 = none ∧
    ((dram []).turn lastRq 7).dirFull 7 = false := by decide +kernel

theorem witness_memory : (dram []).chanLost (chanOf 7) = false ∧ lastRq.w = true ∧ (8 : Nat) ≠ 7 ∧ (dram []).msc.find 8 = none := by decide +kernel

/-- A message of trio 0's agent about line 7. -/
def msg (res : Bool) : Msg := ⟨7, 0, 1, false, res, false, false, false, false, 0, 0, 0⟩
/-- Home 0 with a queue, a chain and transactions. -/
def homes0 (q c : List HomeReq) (t : List Txn) : State := (dram []).modHome 0 (fun k => { k with queue := q, chain := c, txns := t })
def req0 : HomeReq := ⟨0, .rdShared, msg true⟩
def txn0 (aw : List (AgentId × Snp)) : Txn := { req := req0, await := aw, listed := false }

/-- Trio 0 with line 7 in its L2. -/
def l2At7 (st : LState) : State := (dram []).modTrio 0 (fun k => { k with l2 := { k.l2 with
  lines := [{ line := 7, way := 0, st := st, tid := 0, w := false, data := 0, poison := false, age := 0 }] } })

theorem witness_requestsArrive :
    ((msg false).agent.val ≤ 0x57 ∧ ((dram []).home 0).queue = []) ∧
    ((dram []).maySend .rdShared (msg true) = true ∧ (dram []).maySend .rdOwn (msg true) = true ∧
      (dram []).maySend .upgrade (msg true) = false ∧ ({ msg true with nc := true }).nc = true) ∧
    (let s := l2At7 .s
     s.maySend .upgrade (msg true) = true ∧ s.maySend .rdShared (msg true) = false ∧ s.maySend .rdOwn (msg true) = false) ∧
    ((l2At7 .e).maySend .upgrade (msg true) = false) ∧
    (let s := (dram []).modTrio 0 (fun k => { k with l2 := { k.l2 with miss := (List.range 32).map (fun i => ⟨BitVec.ofNat 40 (i + 8), 0, []⟩) } })
     s.maySend .rdShared (msg true) = false) ∧
    (let k := (homes0 [req0] [] []).home 0
     k.winner ((homes0 [req0] [] []).rf ⟨.haStatus, 0, 0, 0⟩ 35 32) = some req0 ∧ (homes0 [req0] [] []).lineBusy 7 = false ∧ k.chain = [] ∧
       k.txns.length < 256) ∧
    ((homes0 [req0] [] [txn0 []]).lineBusy 7 = true) ∧ (((homes0 [req0] [req0] []).home 0).chain = [req0]) ∧ chanOf 7 = 0 ∧
    256 ≤ ((homes0 [req0] [] (List.replicate 256 { txn0 [] with req := { req0 with msg := { msg true with line := 9 } } })).home 0).txns.length := by
  decide +kernel

/-- One message on its way to or from trio 0 about line 7. -/
def inFlight (k : MsgKind) (s : State) : State := { s with net := [{ kind := k, agent := 0, line := 7 }] }

theorem witness_messages :
    ((msg false).nc = false ∧ (inFlight .snpOwn dieUp).net = [{ kind := .snpOwn, agent := 0, line := 7 }] ∧
      (inFlight .snpOwn dieUp).refusals = [] ∧ (inFlight .snpOwn dieUp).snoopsAt 0 < 16 ∧ ∀ i ∈ [0, 1, 2], (dieUp.core (coreNo 0 i)).merge = []) ∧
    (16 ≤ ((dieUp.modTrio 0 (fun k => { k with l2 := { k.l2 with answers := List.replicate 16 (9, .share) } })).snoopsAt 0)) ∧
    (let s := inFlight .dataS ((dieUp.setRf (l2CtlR 0) 2 0 1).modTrio 0 (fun k => { k with l2 := { k.l2 with miss := [⟨7, 0, []⟩] } }))
     s.refusals = [] ∧ (∃ q ∈ (s.trio 0).l2.miss, q.line = 7) ∧ (s.trio 0).l2.find 7 = none ∧ s.l2Room 0 { agent := 0, tid := 0, w := false } = true) := by decide +kernel

theorem witness_dataArrive :
    (let s := inFlight .dataE (dieUp.modTrio 0 (fun k => { k with l2 := { k.l2 with
       lines := [{ line := 7, way := 0, st := .s, tid := 0, w := false, data := 0, poison := false, age := 0 }] } }))
     s.refusals = [] ∧ ((s.trio 0).l2.find 7).isSome = true) ∧
    (let s := inFlight .memRead (homes0 [] [] [txn0 []])
     s.refusals = [] ∧ (s.home 0).txns = [txn0 []] ∧ (txn0 []).req.msg.line = 7) ∧
    ((dieUp.modTrio 0 (fun k => { k with l2 := { k.l2 with answers := [(7, .inv)] } })).trio 0).l2.answers = [(7, .inv)] := by decide +kernel

theorem witness_deaths :
    ((msg false).agent.val ≤ 0x57 ∧ ((dram []).l2At 0).find 7 = none ∧ (dram []).refusals = [] ∧ (dram []).net = [] ∧ ((dram []).home 0).txns = [] ∧ ((dram []).home 0).evict = [] ∧
      ((dram []).home 0).entry 7 = none) ∧
    (let k := ((dram []).modHome 0 (fun k => { k with dir := [{ line := 7, way := 0, st := .x, ptrs := [0], bc := false, dies := 0, tid := 1 }] })).home 0
     (k.entry 7).map (·.owner) = some (some 0)) ∧
    (((homes0 [] [] [txn0 [(0, .own)]]).home 0).txns = [txn0 [(0, .own)]] ∧ ∃ x ∈ (txn0 [(0, .own)]).await, x = ((msg false).agent, .own)) ∧
    (let s := { (dram []).modHome 0 (fun k => { k with notices := [(5, 0), (5, 1), (5, 2)] }) with
                net := [{ kind := .agentDead, agent := 5, line := BitVec.ofNat 40 (noticeKey 0 3) }] }
     s.refusals = [] ∧ ((s.home 0).notices.filter (fun n => decide (n.1 = (5 : AgentId)))).length = 3 ∧ (s.home 0).txns = [] ∧ (s.home 0).dead = []) ∧
    ((((dram []).home 0).notices.filter (fun n => decide (n.1 = (5 : AgentId)))).length < 3) ∧
    ((dram []).rf ⟨.haStatus, 0, 0, 0⟩ 36 36 = 0) ∧
    (let s := (((dram []).setRf ⟨.haStatus, 0, 0, 0⟩ 36 36 1).setRf ⟨.haStatus, 0, 0, 0⟩ 43 37 5).modHome 0 (fun k => { k with dead := [5] })
     s.refusals = [] ∧ s.rf ⟨.haStatus, 0, 0, 0⟩ 36 36 = 1 ∧ (s.home 0).dir = [] ∧ (s.home 0).txns = [] ∧ (s.home 0).poisoned = [] ∧
       (s.home 0).dead = [agentId (s.rf ⟨.haStatus, 0, 0, 0⟩ 43 37)]) := by decide +kernel

/-! ### Registers -/

/-- A register without a rule of its own. -/
def plainR : RegRef := soleA 1

theorem witness_registerWrites :
    (cdtCtlR.off < 2 ^ 32 ∧ dieUp.down = false ∧ dieUp.dapAbsent .pf0 = false ∧ mcsUnit cdtCtlR.off = .reg cdtCtlR ∧
      dieUp.mcsAnswers .pf0 cdtCtlR.off (.reg cdtCtlR) = none ∧ dieUp.writerRefused .pf0 cdtCtlR 1 = some 9) ∧
    (dieUp.mcsAnswers (.qdma 1) cdtCtlR.off (mcsUnit cdtCtlR.off) = some 3) ∧
    (dieUp.writerRefused svc cdtCtlR 1 = none ∧ dieUp.dapRefused svc true = false ∧ (2 : Fin 4) ≠ 3) ∧
    (acc dieUp .pf0 plainR 0 = true ∧ plainR.reg ∉ actingRegs) ∧
    (∃ f ∈ Reg.secStat.fields, (∀ g ∈ Reg.secStat.fields, g = f ∨ g.hi < f.lo ∨ f.hi < g.lo) ∧ f.lo ≤ f.hi ∧ f.hi < 64) ∧
    (∀ f ∈ Reg.secStat.fields, f.lo ≤ f.hi ∧ f.hi < 64 ∧ (63 < f.lo ∨ f.hi < 63)) ∧ cdtCtlR.off ≠ plainR.off := by decide +kernel

theorem witness_cacheRegisters :
    (acc (sysUp.setRf (l2CtlR 0) 1 0 1) svc (l2CtlR 0) 0 = true ∧ (sysUp.setRf (l2CtlR 0) 1 0 1).rf (l2CtlR 0) 1 0 = 1) ∧
    (let s := (sysUp.setRf (l2CtlR 0) 2 0 0)
     acc s svc (l2CtlR 0) 1 = true ∧ s.rf (l2CtlR 0) 1 1 = 0 ∧ s.rf (l2CtlR 0) 2 2 = 0) ∧
    (let s := (sysUp.setRf (l2CtlR 0) 2 0 4)
     acc s svc (l2CtlR 0) 1 = true ∧ (s.trio 0).l2.cleanNext = none ∧ s.rf (l2CtlR 0) 2 0 = 4) ∧
    (acc sysUp svc (coreCacheR 0) 0 = true) ∧
    (acc (sysUp.setRf mscCtlR 1 0 1) svc mscCtlR 0 = true ∧ (sysUp.setRf mscCtlR 1 0 1).rf mscCtlR 1 0 = 1) ∧
    (acc sysUp svc hitCfgR 0xE1 = true ∧ 14 ≤ fld (0xE1 : Dword) 8 4 ∧ sysUp.rangeInstalled 0 (2 ^ 21) = true) ∧
    (acc sysUp svc hitCfgR 0xD1 = true ∧ fld (0xD1 : Dword) 0 0 ≠ 0 ∧ ¬ 14 ≤ fld (0xD1 : Dword) 8 4) ∧
    (acc sysUp svc (tqQuotaR 31) 0 = true ∧ sysUp.rf (tqStatusR 31) 31 0 ≤ ((sysUp.writeReg (tqQuotaR 31) 0).reg (tqQuotaR 31)).toNat) ∧
    (let s := sysUp.setRf (tqStatusR 1) 31 0 1
     acc s svc (tqQuotaR 1) 0 = true ∧ ((s.writeReg (tqQuotaR 1) 0).reg (tqQuotaR 1)).toNat < s.rf (tqStatusR 1) 31 0 ∧
       s.rf (tqStatusR 1) 63 63 = 0 ∧ (s.setRf (tqStatusR 1) 63 63 1).rf (tqStatusR 1) 63 63 = 1) ∧
    (let s := sysUp.setRf (tqStatusR 1) 31 0 2
     acc s svc ⟨.tqRelease, 0, 1, 0⟩ 1 = true ∧ s.rf (tqQuotaR 1) 31 0 < s.rf (tqStatusR 1) 31 0 - fld (1 : Dword) 31 0 ∧
       s.rf (tqStatusR 1) 31 0 - fld (2 : Dword) 31 0 ≤ s.rf (tqQuotaR 1) 31 0) := by decide +kernel

/-- `EXPERT_CTL` is set; the injector is enabled, and package link 0 is up. -/
def expert : State := sysUp.setRf ⟨.expertCtl, 0, 0, 0⟩ 0 0 1
def testing : State := (expert.setRf ⟨.linkTest, 0, 0, 0⟩ 0 0 1).setRf (plinkR 0) 2 0 2

theorem witness_checkingRegisters :
    (acc testing svc ⟨.plinkCtl, 0, 0, 0⟩ 1 = true ∧ testing.plinkState 0 = 2 ∧ expert.plinkState 0 ≠ 2) ∧
    (acc expert svc ⟨.plinkCtl, 0, 0, 0⟩ 1 = true ∧ acc testing svc ⟨.plinkCtl, 0, 0, 0⟩ 2 = true) ∧
    (acc sysUp svc ⟨.trioRctl, 0, 0, 0⟩ 2 = true ∧ sysUp.trioMode 0 = 0 ∧ sysUp.rf (rstat 0) 9 8 ≠ 1 ∧
      (sysUp.setRf (rstat 0) 9 8 1).rf (rstat 0) 9 8 = 1) ∧
    (acc testing svc ⟨.trioInj, 0, 0, 0⟩ 0xDF = true ∧ bit (0xDF : Dword) 7 = true ∧ fld (0xDF : Dword) 6 5 = 2 ∧ fld (0xDF : Dword) 4 0 = 31 ∧
      bit (testing.reg ⟨.linkTest, 0, 0, 0⟩) 0 = true) ∧
    (acc expert svc ⟨.trioInj, 0, 0, 0⟩ 0x80 = true ∧ bit (expert.reg ⟨.linkTest, 0, 0, 0⟩) 0 = false) := by decide +kernel

/-- A frame period of 5000 units from the free-running source; of 5001; from source 3. -/
def per (n : Nat) (on : Nat) : Dword := BitVec.ofNat 64 (n <<< 8 ||| on)
def ticking : State := sysUp.setReg ftuCfgR (per 5000 1)
def seasonal : State := ticking.setRf seasonCtlR 3 3 1

theorem witness_timeRegisters :
    (let new := writeFields Reg.ftuCfg.fields (sysUp.locked ftuCfgR) (sysUp.reg ftuCfgR) (per 5000 1)
     acc sysUp svc ftuCfgR (per 5000 1) = true ∧ 5000 ≤ fld new 27 8 ∧ fld new 27 8 ≤ 1000000 ∧ fld new 35 34 ≠ 3 ∧
       bit (sysUp.reg ftuCfgR) 0 = false ∧ bit new 0 = true) ∧
    (let new := writeFields Reg.ftuCfg.fields (sysUp.locked ftuCfgR) (sysUp.reg ftuCfgR) (per 1000000 0)
     fld new 27 8 = 1000000 ∧ bit new 0 = false) ∧
    (let new := writeFields Reg.ftuCfg.fields (sysUp.locked ftuCfgR) (sysUp.reg ftuCfgR) (per 1000001 0)
     ¬ fld new 27 8 ≤ 1000000) ∧
    (let old := ticking.reg ftuCfgR
     let w := fun v => writeFields Reg.ftuCfg.fields (ticking.locked ftuCfgR) old v
     acc ticking svc ftuCfgR (per 5000 1) = true ∧ bit old 0 = true ∧ bit (w (per 5000 1)) 0 = true ∧
       fld (w (per 5000 1)) 39 34 = fld old 39 34 ∧ fld (w (per 5000 1)) 27 8 = fld old 27 8 ∧ fld (w (per 5000 1)) 33 28 = fld old 33 28 ∧
       fld (w (per 5000 (2 ^ 34 + 1))) 39 34 ≠ fld old 39 34 ∧ fld (w (per 5000 (2 ^ 34 + 1))) 27 8 = fld old 27 8 ∧
       fld (w (per 5000 (2 ^ 34 + 1))) 35 34 ≠ 3 ∧ bit (w (per 5000 0)) 0 = false ∧ fld (w (per 5001 1)) 27 8 ≠ fld old 27 8) ∧
    (acc ticking svc ftuAlignR 4999 = true ∧ ticking.period ≤ fld (5000 : Dword) 19 0 ∧ fld (4999 : Dword) 19 0 < ticking.period ∧
      seasonal.seasonsOn = true ∧ ticking.seasonsOn = false ∧ acc seasonal svc ftuAlignR 4999 = true) ∧
    (let load : RegRef := ⟨.seasonLoad, 0, 0, 0⟩
     acc seasonal svc load 1 = true ∧ (sysUp.setRf seasonStatR 0 0 1).rf seasonStatR 0 0 = 1 ∧ seasonal.rf seasonStatR 0 0 = 0 ∧
       ((seasonal.writeReg load 1).rf load 5 4 = seasonal.active) ∧ ((seasonal.writeReg load 0x31).rf load 5 4 ≠ seasonal.active) ∧
       seasonal.changePending = false ∧ seasonal.gce.lalt = none ∧
       (let s := { seasonal.setValid 3 true with gce := { (seasonal.setValid 3 true).gce with lalt := some 3 } }
        s.gce.lalt = some 3 ∧ s.valid 3 = true ∧ (s.writeReg load 0x31).rf load 5 4 = 3)) ∧
    (acc seasonal svc seasonCtlR 0x10 = true ∧ seasonal.changePending = false ∧ (seasonal.setValid 0 true).valid 0 = true ∧
      seasonal.valid 0 = false ∧ (seasonal.setRf seasonCtlR 5 5 1).changePending = true) ∧
    (acc ticking svc seasonCtlR 8 = true ∧ ticking.seasonsOn = false ∧ (ticking.setFtu 1).running = true ∧
      ((ticking.setFtu 1).setValid 0 true).valid 0 = true ∧ sysUp.running = false) := by decide +kernel

/-- Trio 0's slot 63 holds a context that is Suspended and not sealed. -/
def suspended : State := sysUp.modSlot 0 63 (fun b => { b with state := .suspended })
/-- The offset of doubleword `i` of that slot's page. -/
def slotOff (i : Nat) : Nat := trioBase 0 + 0x80000 + 0x1000 * 63 + 8 * i

theorem witness_tenantRegisters :
    (acc sysUp svc (cxqIdxR 32) 0 = true) ∧
    (suspended.down = false ∧ suspended.dapAbsent svc = false ∧ suspended.dapRefused svc true = false ∧ suspended.mcsAnswers svc (slotOff 0) (.slot 0 63 0) = none ∧
      suspended.slotSealed svc 0 63 0 = false ∧ imgItem 0 ≠ .nothing ∧ imgItem 0 ≠ .stat ∧ (suspended.slot 0 63).state = .suspended ∧
      (sysUp.slot 0 63).state ≠ .suspended ∧ (sysUp.slot 0 63).state ≠ .faulted ∧ imgItem 480 = .stat ∧ imgItem 511 = .nothing) ∧
    (acc sysUp svc ⟨.tntRst, 0, 0, 0⟩ 0x1F00000001 = true ∧ fld (0x1F00000001 : Dword) 36 32 = 31) ∧
    (acc sysUp svc ⟨.tntCfg, 0, 0, 0⟩ 2 = true ∧ acc sysUp svc ⟨.tntCfg, 0, 31, 0⟩ 6 = true ∧ fld (6 : Dword) 2 1 = sysUp.classOf 31 ∧
      fld (2 : Dword) 2 1 ≠ sysUp.classOf 31 ∧
      (List.range 4).any (fun sl => sysUp.valid sl && bit (sysUp.tenantRec sl 31) 0) = false) ∧
    (let u := { sysUp.setValid 3 true with gce := { (sysUp.setValid 3 true).gce with store := [(3, [(8 + 16 * 31, 1)])] } }
     (List.range 4).any (fun sl => u.valid sl && bit (u.tenantRec sl 31) 0) = true ∧ acc u svc ⟨.tntCfg, 0, 31, 0⟩ 2 = true) ∧
    (acc sysUp svc ⟨.qdmaIdx, 0, 31, 0⟩ 0 = true) := by decide +kernel

theorem witness_imageKinds (k : Nat) : imgItem 0 ≠ .desc k := by intro h; cases h

theorem witness_securityRegisters :
    (acc sysUp svc ⟨.secCtl, 0, 0, 0⟩ 0x100000 = true ∧ (∃ e ∈ (sysUp.writeReg ⟨.secCtl, 0, 0, 0⟩ 0x100000).cores, e.2.w = true)) ∧
    (acc sysUp svc secStatReg 4 = true ∧ sysUp.rf secStatReg 0 0 = 0 ∧ (sysUp.setRf secStatReg 0 0 1).rf secStatReg 0 0 ≠ 0 ∧
      acc (sysUp.setRf secStatReg 0 0 1) svc secStatReg 4 = true) ∧
    (let hold : RegRef := ⟨.sealHoldHi, 0, 0, 0⟩
     let s := sysUp.setReg hold 8
     acc sysUp svc hold 0 = true ∧ sysUp.reg hold &&& ~~~((sysUp.writeReg hold 0).reg hold) = 0 ∧ acc s svc hold 0 = true ∧
       s.reg hold &&& ~~~((s.writeReg hold 0).reg hold) = BitVec.ofNat 64 (2 ^ 3)) ∧
    (acc sysUp svc dbgAuthR 1 = true ∧ sysUp.rf dbgAuthR 7 4 ≠ 2 ∧ sysUp.rf dbgAuthR 7 4 ≠ 6) ∧
    (let s := sysUp.setRf dbgAuthR 7 4 2
     acc s svc dbgAuthR 1 = true ∧ s.rf dbgAuthR 7 4 = 2 ∧ acc s svc dbgAuthR 2 = true ∧ s.rf dbgAuthR 7 4 ≠ 1) ∧
    (let s := sysUp.setRf dbgAuthR 7 4 1
     acc s svc dbgAuthR 2 = true ∧ s.rf dbgAuthR 7 4 = 1) := by decide +kernel

/-- Context 1 of tenant 31 with handle 5 in trio 0's slot 63. -/
def handled : State := suspended.modSlot 0 63 (fun b => { b with tid := 31, handle := 5 })

theorem witness_eventRegisters :
    (let trig : RegRef := ⟨.evgTrig, 0, 63, 0⟩
     acc sysUp svc trig 0 = true ∧ acc sysUp svc trig 0x80000000 = true ∧ fld (0x80000000 : Dword) 31 0 = 2 ^ 31) ∧
    (acc sysUp svc (pendR 63) 0 = true ∧ acc sysUp svc (pendR 0) 0 = true ∧ sysUp.refusals = [] ∧ sysUp.evg.raised = [] ∧ sysUp.evg.line = [] ∧
      ∃ e ∈ sysUp.cores, e.1 = 252) ∧
    (acc sysUp svc (gctlR 63) 0 = true ∧ bit (sysUp.reg (gctlR 63)) 0 = true ∧ acc (sysUp.setReg (gctlR 63) 0) svc (gctlR 63) 1 = true ∧
      bit ((sysUp.setReg (gctlR 63) 0).reg (gctlR 63)) 0 = false) ∧
    (let r := routeR 2047
     let v : Nat → Dword := fun n => BitVec.ofNat 64 n
     (acc sysUp svc r (v (1 <<< 62 ||| 12 <<< 44)) = true ∧ fld (v (1 <<< 62 ||| 12 <<< 44)) 63 62 = 1 ∧ fld (v (1 <<< 62 ||| 12 <<< 44)) 47 44 = 12) ∧
     (acc sysUp svc r (v (1 <<< 62 ||| 11 <<< 44 ||| 5 <<< 41)) = true ∧ fld (v (1 <<< 62 ||| 11 <<< 44 ||| 5 <<< 41)) 47 44 = 11 ∧
       fld (v (1 <<< 62 ||| 11 <<< 44 ||| 5 <<< 41)) 43 41 = 5 ∧ fld (v (1 <<< 62 ||| 11 <<< 44 ||| 5 <<< 41)) 40 39 < 3) ∧
     (let w := v (2 <<< 62 ||| 31 <<< 56 ||| 5 <<< 27)
      acc sysUp svc r w = true ∧ fld w 63 62 = 2 ∧ fld w 40 39 < 3 ∧ (sysUp.writeReg r w).findHandle (fld w 60 56) (fld w 38 27) = none ∧
        acc handled svc r w = true ∧ (handled.writeReg r w).findHandle (fld w 60 56) (fld w 38 27) = some (0, 63))) := by decide +kernel

/-- External link 2 is up to module 1. -/
def linked : State := (((sysUp.setRf (xlStatusR 2) 2 0 4).setRf (xlStatusR 2) 31 30 1).setRf (vcfgR 63) 63 63 1).setRf (vcfgR 63) 40 37 1

theorem witness_linkRegisters :
    (acc sysUp svc ⟨.cpVfdb, 0, 31, 0⟩ 8 = true ∧ fld (8 : Dword) 3 0 = 2 ^ 3) ∧
    (let v : Dword := 7
     acc sysUp svc (quadR 7) v = true ∧ sysUp.quadRefused 7 v = true) ∧
    (acc sysUp svc (quadR 7) 0 = true ∧ sysUp.quadRefused 7 0 = false ∧ fld (sysUp.reg (quadR 7)) 2 0 = 0) ∧
    (let s := (sysUp.setReg (quadR 7) 1).setReg ⟨.sealHoldHi, 0, 0, 0⟩ (BitVec.ofNat 64 (2 ^ (115 - 64)))
     acc s .pf0 (quadR 7) 0 = true ∧ s.quadRefused 7 0 = false ∧ fld (s.reg (quadR 7)) 2 0 ≠ 0 ∧ s.held (108 + 7) = true ∧ s.reqW .pf0 = false ∧
       sysUp.held (108 + 7) = false) ∧
    (acc sysUp svc ⟨.mbGo, 0, 31, 0⟩ 1 = true ∧ sysUp.linkTo 1 = none ∧ acc linked svc ⟨.mbGo, 0, 31, 0⟩ 1 = true ∧ linked.linkTo 1 = some 2) ∧
    (acc linked svc ⟨.voteRound, 0, 63, 0⟩ 9 = true ∧ bit (linked.reg (vcfgR 63)) 63 = true ∧ linked.votes 63 linked.modId = true ∧
      (linked.vote 63).older 9 = false ∧ (linked.vote 63).round = none ∧ bit (sysUp.reg (vcfgR 63)) 63 = false) := by decide +kernel

/-- Source 0 with a trigger of its own, and the sink on with a buffer of 64 KiB at 0. -/
def tracedSrc : State := sysUp.setReg (lsrc 0) (BitVec.ofNat 64 (1 <<< 21))
def sinkDw (on dest log base : Nat) : Dword := BitVec.ofNat 64 (base <<< 12 ||| log <<< 7 ||| dest <<< 2 ||| on)

theorem witness_laceRegisters :
    (srcUsed 348 = false ∧ srcUsed 0 = true ∧ acc sysUp svc (lsrc 348) 0 = true ∧ acc sysUp svc (lsrc 0) 0 = true) ∧
    (let n := fun (k v : Nat) => (sysUp.writeReg (lsrc k) (BitVec.ofNat 64 v)).reg (lsrc k)
     bit (n 0 0) 21 = false ∧ (let fired := (tracedSrc.setRf (lsrc 0) 25 24 3)
      let m := (fired.writeReg (lsrc 0) (BitVec.ofNat 64 (1 <<< 21))).reg (lsrc 0)
      bit m 21 = true ∧ fld m 25 24 = 3) ∧
       fld (n 0 (1 <<< 21 ||| 1 <<< 48)) 63 48 ≠ 0 ∧ fld (n 0 (1 <<< 21)) 63 48 = 0 ∧ fld (n 0 (1 <<< 21)) 25 24 = 0 ∧ bit (sysUp.reg (lsrc 0)) 21 = false ∧
       bit (n 254 (1 <<< 21)) 21 = true ∧ bit (n 256 (1 <<< 21)) 21 = true ∧ srcUsed 254 = true ∧ srcUsed 256 = true ∧ bit (tracedSrc.reg (lsrc 0)) 21 = true) ∧
    (let new := fun (s : State) v => writeFields Reg.laceSink.fields false (s.reg laceSinkR) v
     acc sysUp svc laceSinkR (sinkDw 1 1 16 0) = true ∧ bit (sysUp.reg laceSinkR) 0 = false ∧ bit (new sysUp (sinkDw 1 1 15 0)) 2 = true ∧
       fld (new sysUp (sinkDw 1 1 15 0)) 11 7 < 16 ∧ fld (new sysUp (sinkDw 1 1 16 0)) 11 7 = 16 ∧ bit (new sysUp (sinkDw 1 1 16 0)) 0 = true ∧
       sysUp.rangeInstalled 0 (2 ^ 16) = true ∧
       (let on := sysUp.setReg laceSinkR (sinkDw 1 1 16 0)
        acc on svc laceSinkR (sinkDw 1 1 16 0) = true ∧ bit (on.reg laceSinkR) 0 = true ∧ bit (new on (sinkDw 0 1 16 0)) 0 = false ∧
          setFld (on.reg laceSinkR) 0 0 0 = setFld (new on (sinkDw 0 1 16 0)) 0 0 0 ∧
          setFld (on.reg laceSinkR) 0 0 0 ≠ setFld (new on (sinkDw 0 1 17 0)) 0 0 0)) := by decide +kernel

/-- Domain 107 is held by the Vasco Seal. -/
def sealedDomain : State := sysUp.setReg ⟨.sealHoldHi, 0, 0, 0⟩ (BitVec.ofNat 64 (2 ^ (107 - 64)))

theorem witness_platformRegisters :
    (let v := fun (p a : Nat) => (BitVec.ofNat 64 (p <<< 32 ||| a <<< 1 ||| 1) : Dword)
     acc sysUp svc pwrReqR (v 118 0) = true ∧ fld (v 118 0) 38 32 = 118 ∧ fld (v 117 2) 38 32 = 117 ∧ fld (v 117 2) 2 1 = 2 ∧ fld (v 0 3) 2 1 = 3 ∧
       acc sysUp svc pwrReqR (v 117 2) = true ∧ (sysUp.writeReg pwrReqR (v 117 2)).held 117 = false ∧ acc sealedDomain .pf0 pwrReqR (v 107 1) = true ∧
       sealedDomain.reqW .pf0 = false ∧ (sealedDomain.writeReg pwrReqR (v 107 1)).held 107 = true) ∧
    (let v := fun (d t c k : Nat) => (BitVec.ofNat 64 (d <<< 44 ||| t <<< 41 ||| c <<< 39 ||| k) : Dword)
     acc expert svc rstCtlR (v 0 0 0 1) = true ∧ acc expert svc rstCtlR (v 11 6 2 4) = true ∧ fld (v 12 0 0 2) 47 44 = 12 ∧ fld (v 11 6 2 4) 43 41 = 6 ∧
       fld (v 11 6 2 4) 40 39 = 2 ∧ fld (v 11 6 2 4) 2 0 = 4 ∧ acc expert svc rstCtlR (v 0 0 0 4) = true ∧ (expert.writeReg rstCtlR (v 0 0 0 4)).powered 0 = true) ∧
    (acc sysUp svc ⟨.soleCtl, 0, 0, 0⟩ 1 = true ∧ acc sysUp svc ⟨.soleCtl, 0, 0, 0⟩ 4 = true) ∧
    (let s := sysUp.setRf (soleA 31) 46 32 16384
     acc s svc (soleCtl 31) 1 = true ∧ s.rf (soleCtl 31) 1 1 = 0 ∧ s.rf (soleA 31) 46 32 = 16384 ∧ s.soleArea 31 < 34 ∧
       (sysUp.setRf (soleA 31) 46 32 16385).rf (soleA 31) 46 32 = 16385 ∧ sysUp.rf (soleA 31) 46 32 = 0) ∧
    (let s := (sysUp.setRf (soleA 0) 46 32 1).setRf (soleA 0) 57 52 34
     s.soleArea 0 = 34 ∧ acc s .pf0 (soleCtl 0) 1 = true ∧ s.reqW .pf0 = false) ∧
    (let boot : RegRef := ⟨.bootStat, 0, 0, 0⟩
     let s := sysUp.setRf boot 2 2 1
     acc sysUp svc boot 4 = true ∧ sysUp.bootStore = false ∧ s.bootStore = true ∧ s.boot.store = [] ∧
       ({ s.boot with store := [(5, 1)] } : Boot).store = [(5, 1)] ∧ s.inInstalled 5 = true) ∧
    (acc sysUp svc cdtCtlR 1 = true ∧ bit (sysUp.reg cdtCtlR) 0 = false ∧
      (List.range 32).filter (fun n => bit (sysUp.reg (cdtSlotR n)) 0 && !sysUp.cdtPasses n) = [] ∧
      bit ((sysUp.setReg cdtCtlR 1).reg cdtCtlR) 0 = true ∧ acc (sysUp.setReg cdtCtlR 1) svc cdtCtlR 1 = true) ∧
    (acc sysUp svc ⟨.pmbIdx, 0, 0, 0⟩ 0 = true ∧ acc (user []) (.core 0) ⟨.pmbIdx, 0, 1, 0⟩ 0 = true) := by decide +kernel

/-! ### Links -/

/-- The package link of die 11 in a state, with what its flits left. -/
def pl (st : Nat) (q : Plink) : State :=
  { sysUp.setRf (plinkR 11) 2 0 st with links := { sysUp.links with plinkIo := [(11, q)] } }
/-- A flit with its CRC, and one without. -/
def goodFlit : Flit := ⟨BitVec.ofNat 64 (flitCrc ⟨0, 5⟩).toNat, 5⟩
def badFlit : Flit := ⟨BitVec.ofNat 64 ((flitCrc ⟨0, 5⟩).toNat ^^^ 1), 5⟩

theorem witness_packageLinks :
    ((pl 0 {}).plinkState 11 = 0 ∧ (pl 1 {}).plinkState 11 = 1 ∧ (pl 2 {}).plinkState 11 = 2 ∧ (pl 3 {}).plinkState 11 = 3 ∧
      (pl 4 {}).plinkState 11 = 4 ∧ 4 ≤ (pl 5 {}).plinkState 11) ∧
    (fld goodFlit.ctl 15 0 = (flitCrc goodFlit).toNat ∧ fld goodFlit.ctl 63 52 = 0 ∧ bit goodFlit.ctl 39 = false ∧
      ((SMap.get {} (pl 2 {}).links.plinkIo 11).expect).toNat = 0) ∧
    (fld badFlit.ctl 15 0 ≠ (flitCrc badFlit).toNat) ∧
    ((SMap.get {} (pl 3 { naks := 7 }).links.plinkIo 11).naks = 7 ∧ (SMap.get {} (pl 3 { naks := 6 }).links.plinkIo 11).nakIn = 0) ∧
    ((pl 2 {}).rf (fiCtlR 11) 0 0 = 0) ∧
    ((15 : BitVec 5).toNat < 16 ∧ (pl 1 {}).rf (plinkR 11) 21 17 = 31 ∧ (pl 1 {}).rf (plinkR 11) 16 12 = 31) ∧
    (let s := ((pl 1 {}).setRf (plinkR 11) 21 17 15).setRf (plinkR 11) 16 12 0
     s.plinkState 11 = 1 ∧ s.rf (plinkR 11) 16 12 < 31 ∧ s.rf (plinkR 11) 16 12 ≠ (15 : BitVec 5).toNat ∧ s.rf (plinkR 11) 21 17 < 31 ∧
       s.rf (plinkR 11) 21 17 ≠ (0 : BitVec 5).toNat) := by decide +kernel

/-- External link 2 in a state, with more of what it holds. -/
def xl2 (st : Nat) (x : Xl) : State := { sysUp.setRf (xlStatusR 2) 3 0 st with links := { sysUp.links with xl := [(2, x)] } }

/-- A good flit whose NAK bit is set, and one at the next sequence number. -/
def flitOf (ctl : Nat) : Flit := ⟨BitVec.ofNat 64 (ctl + (flitCrc ⟨BitVec.ofNat 64 ctl, 5⟩).toNat), 5⟩

theorem witness_flits :
    (let f := flitOf (2 ^ 39)
     fld f.ctl 15 0 = (flitCrc f).toNat ∧ fld f.ctl 63 52 = 0 ∧ bit f.ctl 39 = true ∧ (pl 2 {}).plinkState 11 = 2 ∧
       ((pl 2 {}).plinkEnd 11 true).expect = 0 ∧ ¬ 256 ≤ ((pl 2 {}).plinkEnd 11 false).unacked.length) ∧
    (let s := (pl 2 {}).setPlinkEnd 11 false { unacked := List.replicate 256 goodFlit }
     (0 : BitVec 12) = (s.plinkEnd 11 false).next ∧ 256 ≤ (s.plinkEnd 11 false).unacked.length) ∧
    (((pl 3 { nakSent := true }).plinkEnd 11 true).nakSent = true ∧ ((pl 3 {}).plinkEnd 11 true).nakSent = false) ∧
    (((pl 3 { naks := 7 }).plinkEnd 11 true).naks = 7 ∧ ((pl 3 { naks := 6, nakIn := 7 }).plinkEnd 11 true).nakIn < 8) ∧
    (let f := flitOf (2 ^ 39)
     fld f.ctl 63 52 = ((xl2 4 {}).xl 2).flits.expect.toNat ∧ (xl2 4 {}).xlState 2 = 4) := by decide +kernel

theorem witness_externalLinks :
    ((List.range 8).map (fun n => (xl2 n {}).xlState 2) = List.range 8) ∧
    (((xl2 3 {}).xl 2).partner = 0 ∧ ((xl2 3 { partner := 1 }).xl 2).partner ≠ 0) ∧
    ((xl2 4 {}).quadOfXl 2 = none ∧ (let s := (xl2 4 {}).setReg (quadR 7) (BitVec.ofNat 64 (2 <<< 14 ||| 3)); s.quadOfXl 2 = some 7 ∧ s.xlState 2 = 4)) ∧
    (fld goodFlit.ctl 63 52 = ((xl2 4 {}).xl 2).flits.expect.toNat) ∧
    (((xl2 5 { flits := { nakSent := true } }).xl 2).flits.nakSent = true ∧
      BitVec.ofNat 12 (fld goodFlit.ctl 51 40) = ((xl2 5 {}).xl 2).flits.acked ∧ ((xl2 5 {}).xl 2).flits.nakSent = false) ∧
    (((xl2 5 { flits := { naks := 7 } }).xl 2).flits.naks = 7) := by decide +kernel

/-- The identity block of module `m` of system 0 (R362). -/
def partnerBody (m : Nat) : Nat := 0x7A300001 + 2 ^ 32 + m * 2 ^ 48 + 0x00D8 * 2 ^ 256
def partnerBlk (m : Nat) : LineData := BitVec.ofNat 512 (partnerBody m +
  (crc32 ((List.range 60).map (lineByte (BitVec.ofNat 512 (partnerBody m))))).toNat * 2 ^ 480)

theorem witness_identification :
    (blkNum (partnerBlk 1) 0 4 = 0x7A300001 ∧ blkNum (partnerBlk 1) 4 2 = 1 ∧
      blkNum (partnerBlk 1) 60 4 = (crc32 ((List.range 60).map (lineByte (partnerBlk 1)))).toNat ∧ blkNum (partnerBlk 1) 8 8 = (sysUp.reg ⟨.xlSys, 0, 0, 0⟩).toNat ∧
      (sysUp.setReg ⟨.xlSys, 0, 0, 0⟩ 7).reg ⟨.xlSys, 0, 0, 0⟩ ≠ 0 ∧ blkNum (partnerBlk 0) 6 1 % 4 = sysUp.modId) ∧
    ((xl2 3 {}).refuseCode 2 (partnerBlk 1) = none ∧ (xl2 3 {}).refuseCode 2 (partnerBlk 0) = some 3 ∧ (xl2 3 {}).xlState 2 = 3) ∧
    (blkNum (partnerBlk 1) 36 4 % 2 ^ 26 ≠ (xl2 3 {}).rf ftuCfgR 27 8 + (xl2 3 {}).rf ftuCfgR 33 28 * 2 ^ 20 ∧ (xl2 3 {}).tickSrc ≠ 3) ∧
    (let s := ((xl2 3 {}).setRf ftuCfgR 27 8 0).setRf ftuCfgR 33 28 0
     blkNum (partnerBlk 1) 36 4 % 2 ^ 26 = s.rf ftuCfgR 27 8 + s.rf ftuCfgR 33 28 * 2 ^ 20 ∧ s.refuseCode 2 (partnerBlk 1) = none) ∧
    (((xl2 3 { gotAccept := true }).xl 2).gotAccept = true ∧ ((xl2 3 { sentAccept := true }).xl 2).sentAccept = true ∧
      ((xl2 7 {}).xl 2).gotRefuse = false) ∧
    (1 ≤ (6 : BitVec 4).toNat ∧ (6 : BitVec 4).toNat ≤ 6) ∧
    (((xl2 3 { echoes := 14 }).xl 2).echoes < 15 ∧ ((xl2 3 { echoes := 15, echoSum := 131000 }).xl 2).echoes = 15 ∧ (131000 + (100 - 29)) / 32 < 4096) := by
  decide +kernel

/-- Link 2 is Active; segment 15 of the module is open to tenant 31, for writes too; its mailbox ring has four entries. -/
def remoteUp : State :=
  ((xl2 4 {}).setReg ⟨.xlSeg, 0, 15, 0⟩ (BitVec.ofNat 64 (3 <<< 62 ||| 31 <<< 57))).setReg ⟨.xlMbcfg, 0, 31, 0⟩ (BitVec.ofNat 64 (1 <<< 8 ||| 2))

theorem witness_remote :
    (let s := remoteUp
     let seg := s.reg ⟨.xlSeg, 0, 15, 0⟩
     (15 * 2 ^ 30 : Nat) % 2 ^ 3 = 0 ∧ s.xlUp 2 = true ∧ (xl2 1 {}).xlUp 2 = false ∧ bit seg 63 = true ∧ bit seg 62 = true ∧ fld seg 61 57 = 31 ∧
       s.region (fld seg 45 30 * 2 ^ 30) = .dram ∧ bit (s.reg ⟨.xlSeg, 0, 0, 0⟩) 63 = false) ∧
    ((remoteUp.engLine (portRq 31) 0).2 = .ok 0 ∧ ∃ a, (remoteUp.engPut (portRq 31) 0 (toBytes 7 8)).2 = .ok a) ∧
    ((15 * 2 ^ 30 + 1 : Nat) % 2 ^ 3 ≠ 0 ∧ (15 * 2 ^ 30 + 1 : Nat) % 2 ^ 0 = 0) ∧
    (let s := remoteUp.setRf ⟨.mcStatus, 0, 0, 0⟩ 2 0 0
     ∀ a, (s.engPut (portRq 31) 0 (toBytes 7 8)).2 ≠ .ok a) ∧
    (let s := { remoteUp with poison := [0] }
     (s.engLine (portRq 31) 0).2 ≠ .ok 0) ∧
    (let q : Remote := ⟨9, 0, 1, false, 64⟩
     let s := (xl2 4 { remote := [q] }).modCore 0 (fun k => { k with dev := some { pa := 64, va := 0x5000, size := 8, store := false, signed := false, reg := 2, word := 0 } })
     (s.xl 2).remote = [q] ∧ q.tag = 9 ∧ s.waiter q = some (.load 0)) ∧
    (((xl2 4 { mbox := [(9, 31)] }).xl 2).mbox = [(9, 31)] ∧ ((xl2 4 { mbox := [(9, 31)] }).xl 2).remote = [] ∧ fld (3 : Dword) 1 0 ≠ 0) ∧
    ((List.replicate 7 (0 : Dword)).length = 7 ∧ bit (remoteUp.reg ⟨.xlMbcfg, 0, 31, 0⟩) 8 = true ∧ bit ((xl2 4 {}).reg ⟨.xlMbcfg, 0, 31, 0⟩) 8 = false ∧
      2 ^ fld (remoteUp.reg ⟨.xlMbcfg, 0, 31, 0⟩) 4 0 = 4 ∧ remoteUp.rf ⟨.xlMbidx, 0, 31, 0⟩ 15 0 = 0 ∧ remoteUp.rf ⟨.xlMbidx, 0, 31, 0⟩ 47 32 = 0) ∧
    ((remoteUp.setRf ⟨.xlMbidx, 0, 31, 0⟩ 15 0 3).rf ⟨.xlMbidx, 0, 31, 0⟩ 15 0 = 3) := by decide +kernel

/-- Modules 0 and 1 vote on channel 63, with a value of module 0 in round 4; link 2 is up to module 1 and is the tick source. -/
def voting : State :=
  let s := ((xl2 4 {}).setRf (xlStatusR 2) 31 30 1).setReg (vcfgR 63) (BitVec.ofNat 64 (1 <<< 63 ||| 3 <<< 37 ||| 1))
  s.modVote 63 (fun v => { v with round := some 4, undecided := true, contrib := [(0, 4, 9)] })
def ticked : State := (((xl2 4 {}).setRf ftuCfgR 35 34 3).setRf ftuCfgR 39 36 2).setRf (xlStatusR 2) 29 29 0

theorem witness_votes :
    (let v := voting.vote 63
     voting.rf (xlStatusR 2) 31 30 = 1 ∧ voting.xlUp 2 = true ∧ bit (voting.reg (vcfgR 63)) 63 = true ∧ voting.votes 63 1 = true ∧
       v.older 4 = false ∧ v.contrib.any (fun x => decide (x.1.toNat = 1) && decide (x.2.1 = 4)) = false ∧ v.older 3 = true ∧
       v.undecided = true ∧ voting.rf (vcfgR 63) 19 0 ≠ 0) ∧
    ((voting.modVote 63 (fun q => { q with contrib := q.contrib ++ [(1, 4, 9)] })).voteReady 63 = true) ∧
    ((voting.modVote 63 (fun q => { q with contrib := [(1, 4, 9)] })).voteReady 63 = false) ∧
    (ticked.tickSrc = 3 ∧ ticked.rf ftuCfgR 39 36 = 2 ∧ ticked.xlUp 2 = true ∧ ticked.rf (xlStatusR 2) 29 29 = 0 ∧ sysUp.tickSrc ≠ 3) := by decide +kernel

/-! ### Ports -/

/-- The command port is up, and tenant 31's window is open at 0 with address space 5. -/
def hosted : State :=
  let s := mapped (sysUp.setReg ⟨.cpVfcfg, 0, 31, 0⟩ (BitVec.ofNat 64 (5 <<< 52 ||| 1 <<< 6))) 31 5 0 0x400000
  { s with links := { s.links with cpUp := true } }

theorem witness_host :
    (hosted.down = false ∧ hosted.links.cpUp = true ∧ sysUp.links.cpUp = false) ∧
    (okE (hosted.mcsRead .pf0 (soleA 1).off 3) (fun _ _ => true) = true ∧ okE (hosted.mcsRead .pf0 0 0) (fun _ _ => true) = false) ∧
    (okE (hosted.mcsRead (.vf 31) (0x30140000 + 0x1000 * 31) 3) (fun _ _ => true) = true ∧
      okE (hosted.mcsRead (.vf 31) (0x338E0000 + 0x1000 * 31) 3) (fun _ _ => true) = true ∧
      okE (hosted.mcsRead (.vf 31) (0x35040000 + 0x1000 * 31) 3) (fun _ _ => true) = true ∧
      okE (hosted.mcsRead (.vf 31) (0x35040000 + 0x1000 * 31 + 0xFF8) 3) (fun _ _ => true) = false) ∧
    (bit (hosted.reg ⟨.cpVfcfg, 0, 31, 0⟩) 6 = true ∧ bit (hosted.reg ⟨.cpVfcfg, 0, 1, 0⟩) 6 = false ∧ SMap.get 20 hosted.links.vfBar 31 = 20) ∧
    (okEng (hosted.engLoad ⟨0x56, 31, 5, false⟩ 0xFF8 8 2) = true ∧ okEng (putEng (hosted.engStore ⟨0x56, 31, 5, false⟩ 0 (toBytes 7 8) 2)) = true) ∧
    (failEng (hosted.engLoad ⟨0x56, 31, 5, false⟩ 0x1000 8 2) (fun _ => true) = true ∧
      failEng (putEng (hosted.engStore ⟨0x56, 31, 5, false⟩ 0x1000 (toBytes 7 8) 2)) (fun _ => true) = true) := by decide +kernel

/-- Quad 7 forms four root ports; the third of them serves tenant 31, and its bus mastering is on. -/
def rooted (ctl : Nat) : State :=
  (mapped ((sysUp.setReg (quadR 7) (BitVec.ofNat 64 (2 <<< 8 ||| 2))).setReg ⟨.rpCfg, 0, 7, 3⟩ (BitVec.ofNat 64 (5 <<< 52 ||| 31 <<< 32 ||| ctl))) 31 5 0
    0x400000)

theorem witness_rootPorts :
    (let quad := (rooted 3).reg ⟨.quadCfg, 0, 7, 0⟩
     fld quad 2 0 = 2 ∧ 3 < 2 ^ fld quad 10 8 ∧ fld (sysUp.reg ⟨.quadCfg, 0, 7, 0⟩) 2 0 ≠ 2) ∧
    (let cfg := (rooted 3).reg ⟨.rpCfg, 0, 7, 3⟩
     bit cfg 1 = true ∧ fld cfg 36 32 = 31 ∧ fld cfg 63 52 = 5 ∧ bit cfg 0 = true ∧ bit ((rooted 1).reg ⟨.rpCfg, 0, 7, 3⟩) 1 = false) ∧
    (okEng ((rooted 3).engLoad ⟨0x56, 31, 5, false⟩ 0 8 2) = true ∧ okEng (putEng ((rooted 3).engStore ⟨0x56, 31, 5, false⟩ 0 (toBytes 7 8) 2)) = true ∧
      failEng ((rooted 3).engLoad ⟨0x56, 31, 5, false⟩ 0x1000 8 2) (fun _ => true) = true ∧
      failEng (putEng ((rooted 3).engStore ⟨0x56, 31, 5, false⟩ 0x1000 (toBytes 7 8) 2)) (fun _ => true) = true) ∧
    (bit (rooted 3).links.rpUp 31 = false ∧ bit (rooted 3).links.rpThere 31 = false) ∧
    (let s := { rooted 3 with cores := [], trios := [], links := { (rooted 3).links with rpUp := setBit (rooted 3).links.rpUp 31 true } }
     fld (s.reg ⟨.quadCfg, 0, 7, 0⟩) 2 0 = 2 ∧ s.cores = [] ∧ s.trios = [] ∧ bit s.links.rpUp 31 = true) := by decide +kernel

theorem witness_portsSafe : ((rooted 3).safe = false ∧ ((rooted 3).setRf ⟨.modIdent, 0, 0, 0⟩ 0 0 1).safe = true) ∧
    (bit (sysUp.setReg (quadR 0) 1).links.ethUp (laneBit (0, 3)) = false ∧ (sysUp.setReg (quadR 0) 1).safe = false) := by decide +kernel

theorem witness_commandPort :
    (sysUp.links.cpUp = false ∧ sysUp.links.cpPerst = true ∧ hosted.links.cpUp = true) ∧
    (let s := { sysUp with links := { sysUp.links with cpPerst := false } }
     s.links.cpUp = false ∧ s.links.cpPerst = false) := by decide +kernel

/-- Quad 0 forms MACs 0 to 3; MAC 3 is up, its filter gives tenant 31 the address 1 for class 7, and tenant 31's ring has two entries
at 4 KiB, the first of them to be sent from `va`. -/
def meshed (op len va : Nat) : State :=
  let s := (sysUp.setReg (quadR 0) 1).setReg ⟨.ethFilt, 0, 3, 255⟩ (BitVec.ofNat 64 (1 <<< 63 ||| 31 <<< 58 ||| 0x80 <<< 50 ||| 1))
  let s := (s.setReg (txRing 3 31).cfg (BitVec.ofNat 64 (5 <<< 52 ||| 4096 ||| 1 <<< 8 ||| 1))).setReg (txRing 3 31).idx (BitVec.ofNat 64 (1 <<< 32))
  let s := poke (mapped s 31 5 0 0x400000) 4096 [BitVec.ofNat 64 (7 <<< 35 ||| op), BitVec.ofNat 64 len, BitVec.ofNat 64 va, 0]
  { s with links := { s.links with ethUp := setBit s.links.ethUp 3 true } }
/-- A frame to the address 1. -/
def frameTo (n : Nat) : List Byte := [0, 0, 0, 0, 0, 1] ++ List.replicate n 0

theorem witness_ethernet :
    (sysUp.macs[3]? = none ∧ (meshed 16 64 0).macs[3]? = some (0, 3) ∧ bit (meshed 16 64 0).links.ethUp (laneBit (0, 3)) = true) ∧
    (let s := (meshed 16 64 0).countLink 6 0x02
     64 ≤ (frameTo 58).length ∧ (frameTo 58).length ≤ 9216 ∧
       ((s.filters 3).filter (fun f => decide (fld f 47 0 = macAddr (frameTo 58) 0))).length = 1 ∧
       (s.filters 3).filter (fun f => decide (fld f 47 0 = macAddr (List.replicate 64 0) 0)) = [] ∧ ¬ 64 ≤ (frameTo 57).length) ∧
    (let s := meshed 16 64 0
     let r := txRing 3 31
     s.ringOn r = true ∧ s.ringSize r = 2 ∧ s.rf r.idx 11 0 % 2 ≠ s.rf r.idx 43 32 % 2 ∧
       s.rf (txRing 3 0).idx 11 0 % s.ringSize (txRing 3 0) = s.rf (txRing 3 0).idx 43 32 % s.ringSize (txRing 3 0) ∧
       (match s.ringEntry (s.ethEng r 31).rq r 0 with
        | (u, some d) => decide (fld (d.getD 0 0) 7 0 = 0x10) && decide (fld (d.getD 1 0) 23 0 = 64) && decide (fld (d.getD 0 0) 37 35 = 7) &&
            (match u.engLoad (s.ethEng r 31) (d.getD 2 0) 64 3 with
             | (x, .ok f) => decide (macAddr f 6 = 0) && decide (x.filters 3 = u.filters 3)
             | _ => false)
        | _ => false) = true) ∧
    (let s := poke (meshed 16 64 0) 0x400000 [0, BitVec.ofNat 64 (1 <<< 24)]
     okEng (s.engLoad (s.ethEng (txRing 3 31) 31) 0 64 3) = true ∧ (s.filters 3).any (fun x => decide (fld x 62 58 = 31) && decide (fld x 47 0 = macAddr
       (match (s.engLoad (s.ethEng (txRing 3 31) 31) 0 64 3).2 with | .ok f => f | _ => []) 6) && bit x (50 + 7)) = true) ∧
    (let s := meshed 16 64 0x1000
     failEng (s.engLoad (s.ethEng (txRing 3 31) 31) 0x1000 64 3) (fun c => decide (c ≠ 0)) = true) ∧
    (let s := meshed 17 63 0
     (s.ringEntry (s.ethEng (txRing 3 31) 31).rq (txRing 3 31) 0).2.any (fun d =>
       decide (fld (d.getD 0 0) 7 0 ≠ 0x10) && decide (fld (d.getD 1 0) 23 0 < 64)) = true) ∧
    (let s := (meshed 16 64 0).setRf ⟨.mcStatus, 0, 0, 0⟩ 2 0 0
     s.ringOn (txRing 3 31) = true ∧ (s.ringEntry (s.ethEng (txRing 3 31) 31).rq (txRing 3 31) 0).2 = none) ∧
    (bit sysUp.links.ethUp 3 = false ∧ (meshed 16 64 0).tickSrc ≠ 1) ∧
    (let s := ((meshed 16 64 0).setRf ftuCfgR 35 34 1).setRf ftuCfgR 39 36 3
     s.tickSrc = 1 ∧ s.macs[s.rf ftuCfgR 39 36]? = some (0, 3)) := by decide +kernel

/-! ### Channels -/

/-- Channel 11 in a state, with more of what it holds. -/
def chan (st : Nat) (k : Mc) : State := ((dram []).setRf (mcStatusR 11) 2 0 st).modMc 11 (fun _ => k)
/-- Channels 10 and 11 mirror each other, and 10 is in a state. -/
def mirror (st : Nat) : State :=
  (((chan 2 {}).setRf (mcStatusR 10) 2 0 st).setRf (mcCfgR 10) 13 13 1).setRf (mcCfgR 11) 13 13 1

theorem witness_channels :
    ((chan 0 {}).chanState 11 = 0 ∧ (chan 2 {}).chanState 11 = 2 ∧ (chan 4 {}).chanState 11 = 4 ∧ (chan 3 {}).chanState 11 = 3) ∧
    (let t := ((chan 0 {}).setChan 11 1).raise (chanSrc 11 4)
     t.chanRefused 11 64 = false ∧ t.chanRefused 11 65 = true ∧ t.rf (mcCfgR 11) 13 13 = 0 ∧
       ((((chan 0 {}).setRf (mcCfgR 11) 13 13 1).setChan 11 1).raise (chanSrc 11 4)).rf (mcCfgR 11) 13 13 = 1) ∧
    ((mirror 2).mirrored 11 = true ∧ (mirror 2).chanState (pairOf 11) = 2 ∧ (chan 2 {}).mirrored 11 = false) ∧
    (let gone := (((mirror 2).setRf (mcStatusR 11) 31 24 4).setChan 11 3).dropRequestsAt 11
     (gone.setChan 10 4).gce.live = false ∧ (let on := { gone with gce := { gone.gce with live := true } }; (on.setChan 10 4).gce.live = true)) ∧
    (let gone := (((chan 2 {}).setRf (mcStatusR 11) 31 24 4).setChan 11 3).dropRequestsAt 11
     (gone.dropSlice 11).gce.live = false) ∧
    (((chan 2 { retries := 2 }).mc 11).retries < 3 ∧ 3 ≤ ((chan 4 { retries := 3 }).mc 11).retries) := by decide +kernel

theorem witness_ecc :
    ((chan 2 {}).servChan (chanOf (11 * 64)) = 11 ∧ chanOf (11 * 64) = 11 ∧ ((chan 2 {}).mc 11).openReqs = [] ∧ (chan 3 {}).chanState 11 = 3) ∧
    (let fixed := fun (s : State) => (((((s.modMc 11 (fun q => { q with retries := 0 })).incRf (mcStatusR 11) 63 48).countMc 11 0x0B).eccLog 11 (11 * 64) false 1
       2).queueWrite 11 (11 * 64))
     (fixed ((chan 2 {}).setRf (mcCfgR 11) 23 16 0)).rf (mcCfgR 11) 23 16 = 0 ∧
       (let f := fixed ((chan 2 {}).setRf (mcCfgR 11) 23 16 1)
        f.rf (mcCfgR 11) 23 16 = 1 ∧ f.rf (mcStatusR 11) 63 48 % 1 = 0) ∧
       (let f := fixed ((chan 2 {}).setRf (mcCfgR 11) 23 16 2)
        f.rf (mcCfgR 11) 23 16 = 2 ∧ f.rf (mcStatusR 11) 63 48 % 2 ≠ 0)) ∧
    (let timed := fun (s : State) =>
       let marked := ((((((s.modMc 11 (fun q => { q with retries := 0 })).poisonInMem (11 * 64)).incRf (mcStatusR 11) 47 40).eccLog 11 (11 * 64) true 1 2).raise
         (chanSrc 11 1)).sysEvent 0x16 [BitVec.ofNat 64 (11 * 64 * 64)]).emitEvent (368 + 11) 0x22 (localOf (11 * 64))
       marked.modMc 11 (fun q => { q with
         ueTimes := q.ueTimes.filter (fun t => decide ((marked.timebase - t).toNat < 100000000)) ++ [marked.timebase] })
     let u := timed ((chan 2 {}).setRf (mcCfgR 11) 31 24 1)
     let v := timed ((chan 2 {}).setRf (mcCfgR 11) 31 24 2)
     u.rf (mcCfgR 11) 31 24 = 1 ∧ 1 ≤ (u.mc 11).ueTimes.length ∧ v.rf (mcCfgR 11) 31 24 = 2 ∧ (v.mc 11).ueTimes.length < 2) ∧
    (((chan 2 { openReqs := [(12, 704, true)] }).mc 11).openReqs = [(12, 704, true)]) := by decide +kernel

/-- A request for line 704, which is channel 11's. -/
def mreq (write res : Bool) : MemReq := ⟨704, 31, 12, res, write⟩

theorem witness_controller :
    ((chan 2 {}).chanServes 11 = true ∧ (chan 2 {}).servChan (chanOf (mreq true true).line.toNat) = 11 ∧ (chan 3 {}).chanServes 11 = false) ∧
    ((({} : Mc).queued (subOf 704)) < 64 ∧ 64 ≤ ({ writeQ := List.replicate 64 (subOf 704, 704) } : Mc).queued (subOf 704)) ∧
    (({ openReqs := List.replicate 4 (12, 704, true) } : Mc).atLimit 12 704 = true ∧ ({ openReqs := List.replicate 3 (12, 704, true) } : Mc).atLimit 12 704 = false) ∧
    (let s := (chan 2 {}).setRf mscCtlR 1 0 1
     let q := (s.mcCharge { agent := 84, tid := 31, w := false, res := true } 704).1
     q.mscOn = true ∧ q.msc.find 704 = none) ∧
    (let s := { (chan 2 {}).setRf mscCtlR 1 0 1 with msc := { (chan 2 {}).msc with lines := [{ line := 704, way := 0, data := 7, poison := false, dirty := true, tid := 31, w := false, age := 0 }] } }
     let q := (s.mcCharge { agent := 84, tid := 31, w := false, res := true } 704).1
     q.mscOn = true ∧ q.msc.find 704 ≠ none) := by decide +kernel

theorem witness_scheduler :
    (let s := chan 2 { resWait := [704, 1472], actives := [704] }
     (s.mc 11).resWait = [704] ++ 1472 :: [] ∧ s.colour 704 ≠ s.colour 1472) ∧
    (let s := chan 2 { resWait := [704], actives := [704] }
     (s.mc 11).resWait = [704] ∧ (s.mc 11).actives = [704]) ∧
    (({} : Mc).queued true = 0 ∧ ({ writeQ := [(subOf 704, 704)] } : Mc).queued (subOf 704) ≠ 0 ∧
      ({ writeQ := List.replicate 48 (subOf 704, 704), resWait := [704] } : Mc).resWait.filter (fun l => decide (subOf l.toNat = subOf 704)) ≠ [] ∧
      48 ≤ ({ writeQ := List.replicate 48 (subOf 704, 704) } : Mc).queued (subOf 704)) ∧
    (let s := chan 2 { resWait := [704], refreshPost := [(0, 4)] }
     (chan 2 {}).chanServes 11 = true ∧ s.colour 704 = 0 ∧ SMap.get 0 (s.mc 11).refreshPost 0 = 4 ∧ SMap.get 0 ((chan 2 {}).mc 11).refreshPost 0 = 0) ∧
    (let s := (chan 2 {}).setRf (mcCfgR 11) 63 48 1
     s.chanServes 11 = true ∧ s.rf (mcCfgR 11) 63 48 ≠ 0 ∧ (s.mc 11).scrubAt + 1 < s.usable * 2 ^ 24) ∧
    (let s := (chan 2 { scrubAt := 16 * 2 ^ 24 - 1 }).setRf (mcCfgR 11) 63 48 1
     s.chanServes 11 = true ∧ s.usable * 2 ^ 24 ≤ (s.mc 11).scrubAt + 1) := by decide +kernel

/-! ### Redundancy and debugging -/

/-- Trio 83 in a mode, with a field of its status, its cores running. -/
def trio (mode diss : Nat) : State :=
  let s := ((dram []).setRf (rstat 83) 1 0 mode).setRf (rstat 83) 5 4 diss
  forN 3 (fun i s => s.setCore (coreNo 83 i) { run := .running }) s
/-- The same with a context in slot 63 on each of its streams. -/
def held (mode diss : Nat) : State :=
  (forN 3 (fun i s => s.modCore (coreNo 83 i) (fun k => { k with ctx := some 63 })) (trio mode diss)).modSlot 83 63
    (fun b => { b with state := .running, tid := 31 })

theorem witness_coreErrors :
    (((dram []).core ((dram []).leadOf 0)).run = .held) ∧
    (let s := held 0 3
     (s.core (s.leadOf 251)).run = .running ∧ s.trioMode (trioOf 251) = 0 ∧ coreIn 251 = 2 ∧ s.occupant 83 2 = some 63 ∧ (trio 0 3).occupant 83 2 = none) ∧
    (let s := held 1 3
     (s.core (s.leadOf 250)).run = .running ∧ s.trioMode 83 = 1 ∧ coreIn 250 = 1 ∧ s.occupant 83 0 = some 63 ∧ (trio 1 3).occupant 83 0 = none) ∧
    ((held 2 3).trioMode 83 = 2 ∧ (held 2 3).rf (rstat 83) 5 4 = 3 ∧ (held 2 2).rf (rstat 83) 5 4 = 2 ∧ (held 2 0).rf (rstat 83) 5 4 = 0 ∧
      (held 2 0).occupant 83 0 = some 63 ∧ ((held 2 0).core ((held 2 0).leadOf 251)).run = .running) := by decide +kernel

theorem witness_corrected :
    (let s := trio 0 3
     (s.core (s.leadOf 250)).run ≠ .held ∧ s.throughWelt 250 = false ∧ (s.core 250).corrected (.ret 0) = none ∧
       ((s.core 250).corrected (.direction 7)).isSome = true ∧ CoreErr.direction 7 ≠ .tlb2 0 0) ∧
    (let s := (trio 0 3).modCore 250 (fun k => { k with ras := [4], l1d := [⟨7, 0, false⟩] })
     ((s.core 250).corrected (.ret 0)).isSome = true ∧ ((s.core 250).corrected (.ret 1)) = none ∧ ((s.core 250).corrected (.l1d 7)).isSome = true) := by
  decide +kernel

/-- A season is in force in which logical trio 5 of die 11 runs Voted; its spare is retired. -/
def votedSeason : State :=
  let s := ((dram []).setRf (rstat 82) 1 0 2).setRf ⟨.trioMap, 0, 11, 0⟩ 30 30 1
  let s := forN 3 (fun i s => s.setCore (coreNo 82 i) { run := .running }) s
  { s with gce := { s.gce with live := true, eff := [(71, { hdr := 0xFFFFFFFFFFFFFFFF, win := [] })] } }

theorem witness_checkerFaults :
    (let s := trio 2 3
     s.trioMode 83 ≠ 0 ∧ (∀ t, exec (.checkerFault 83 ⟨.dualRail, none⟩) s = .next t → t.gce.live = false) ∧ (s.setRf (rstat 83) 6 6 1).rf (rstat 83) 6 6 = 1) ∧
    (let s := votedSeason
     s.trioMode 82 ≠ 0 ∧ s.gce.live = true ∧ s.logOf 82 = some 5 ∧ (s.setRf (rstat 82) 10 10 1).withdrawn 71 = true) := by
  refine ⟨⟨by decide +kernel, fun t h => ?_, by decide +kernel⟩, by decide +kernel⟩
  have e : (match exec (.checkerFault 83 ⟨.dualRail, none⟩) (trio 2 3) with
    | .next t => t.gce.live
    | _ => true) = false := by decide +kernel
  rw [h] at e
  exact e

theorem witness_checking :
    ((trio 0 3).trioMode 83 = 0 ∧ (trio 2 3).trioMode 83 = 2 ∧ ((trio 2 3).setRf (rstat 83) 6 6 1).rf (rstat 83) 6 6 = 1) ∧
    (let s := trio 2 3
     s.rf (rstat 83) 5 4 = 3 ∧ s.unmet 83 = []) ∧
    ((trio 2 3).rf (rstat 83) 9 8 ≠ 1 ∧ ((trio 2 3).setRf (rstat 83) 9 8 1).rf (rstat 83) 9 8 = 1 ∧ ((trio 2 3).trio 83).modePend = false ∧
      (((trio 2 3).modTrio 83 (fun k => { k with modePend := true })).trio 83).modePend = true) ∧
    (let s := (trio 0 3).setRf (rstat 83) 9 8 1
     ((((((s.setRf (rstat 83) 9 8 3).setRf (rstat 83) 10 10 1).setRf (rstat 83) 15 12 4).setRf (rstat 83) 1 0 0).noteEvent 83 31 2).degraded 83 6 3 31 2 0).gce.subst
       = []) := by decide +kernel

theorem witness_welt :
    (let s := trio 2 3
     let c := s.leadOf (coreNo 83 0)
     s.weltReal c .halt = true ∧ s.throughWelt c = true ∧ s.weltReal c (.interrupt .fast) = false) ∧
    ((trio 2 3).weltReal (coreNo 83 0) (.event 1) = true ∧ ((trio 2 3).trio 83).inj = none ∧ ((trio 0 3).trio 83).inj = none) ∧
    ((trio 0 3).throughWelt (coreNo 83 2) = false ∧ ((trio 2 3).trio 83).welt = []) ∧
    (((trio 2 3).modTrio 83 (fun k => { k with welt := [(0, .event 1), (0, .halt)] })).trio 83).welt = [(0, .event 1), (0, .halt)] ∧
    (((trio 1 3).modTrio 83 (fun k => { k with welt := [(2, .halt)] })).trio 83).welt = [(2, .halt)] := by decide +kernel

/-- Core 0 of the user state under the debugger, with the enables given. -/
def debugged (en : Nat) (f : Core → Core) : State :=
  let s := ((user []).modCore 0 f).setReg dbgEnR (BitVec.ofNat 64 en)
  { s with boot := { s.boot with tap := .debugPort } }

/-- A redundant stream under the debugger, with `n` actions that wait for its resumption. -/
def votedDebug (n : Nat) (f : Core → Core) : State :=
  let s := (((trio 2 3).setRf (dieStatR 11) 14 14 1).modCore (coreNo 83 0) (fun k => f { k with replay := List.replicate n (0, .pc, 0) })).setReg dbgEnR 0xF
  { s with boot := { s.boot with tap := .debugPort } }

theorem witness_debugQueue :
    (let s := votedDebug 15 id
     s.powered 83 = true ∧ s.leadOf 249 = 249 ∧ s.throughWelt 249 = true ∧ (s.core 249).replay.length + (s.core 249).debugStores.length < 16 ∧
       (s.core 249).halted = false ∧ s.down = false ∧ s.dbgEn 0 = true ∧ s.dbgEn 2 = true) ∧
    (let s := votedDebug 16 id
     ¬ (s.core 249).replay.length + (s.core 249).debugStores.length < 16) ∧
    ((votedDebug 15 (fun k => { k with halted := true })).core 249).halted = true := by decide +kernel

theorem witness_debug :
    ((user []).boot.tap ≠ .debugPort ∧ (debugged 0xF id).down = false ∧ (debugged 0xF id).boot.tap = .debugPort) ∧
    ((debugged 0xF id).powered (trioOf 251) = false ∧ (debugged 0xF id).powered (trioOf 0) = true ∧ (debugged 0xF id).leadOf 0 = 0) ∧
    (let s := (debugged 0xF id).setRf (rstat 0) 1 0 2
     s.powered (trioOf 1) = true ∧ s.leadOf 1 ≠ 1) ∧
    ((debugged 0 id).dbgEn 0 = false ∧ (debugged 0 id).dbgEn 2 = false) ∧
    (let s := debugged 1 (fun k => { k with arch := { k.arch with csr := [(0x100, 0x30)] } })
     (s.core 0).w = true ∧ s.dbgEn 0 = true ∧ s.dbgEn 2 = false) ∧
    (let s := debugged 0xF id
     ((s.core 0).w = false ∧ s.dbgEn 0 = true ∧ s.throughWelt 0 = false ∧ (s.core 0).halted = false ∧ s.issuing 0 = true) ∧
       ((s.debugStore 0 0x2000 8 7).2 = some none)) ∧
    (let s := debugged 0xF (fun k => { k with halted := true })
     (s.core 0).halted = true ∧ (s.core 0).debugStores = [] ∧ csrLevel 0x2FF < 3) := by decide +kernel

/-! ### Time -/

/-- The Frame Tick Unit runs with a period of 5000 units and 64 frames from a source, in a state, with more of what it holds. -/
def ftu (src st : Nat) (f : Ftu) : State :=
  { ((sysUp.setReg ftuCfgR (BitVec.ofNat 64 (src <<< 34 ||| 63 <<< 28 ||| 5000 <<< 8 ||| 1))).setRf ftuStatusR 2 0 st) with ftu := f }

/-- An idle step in a frame that is lengthened, and at a multiple of 10 units with a hold-off counter running. -/
theorem witness_idleClauses :
    (let s := { (ftu 0 1 { slew := -1 }).setRf seasonCtlR 3 3 1 with timebase := 4999, boot := { phase := 10 }, pending := [] }
     s.pending = [] ∧ (pass s).firmware.isNone ∧ s.ftu.hold = 0 ∧ s.lengthens = true) ∧
    (let s := { quiet.setRf (gctlR 5) 31 16 7 with timebase := 9 }
     (pass s).firmware.isNone ∧ s.lengthens = false ∧ (s.timebase + 1).toNat % 10 = 0 ∧ (pass s).rf (gctlR 5) 31 16 = 6) := by
  decide +kernel

theorem witness_frameTicks :
    (let s := ftu 0 1 {}
     s.running = true ∧ s.fresh = true ∧ s.rf seasonCtlR 3 3 ≠ 1 ∧ s.period = 5000 ∧ (s.timebase.toNat + 5000 - 0 % 5000) % 5000 = 0 ∧
       ({ s with timebase := 4999 }.timebase.toNat + 5000 - 0 % 5000) % 5000 ≠ 0 ∧ (s.setRf seasonCtlR 3 3 1).rf seasonCtlR 3 3 = 1 ∧
       sysUp.running = false ∧ s.tickSrc = 0) ∧
    ((ftu 2 2 {}).tickSrc = 2 ∧ 1000 < (1001 : Int).natAbs ∧ (-1000 : Int).natAbs ≤ 1000 ∧ (ftu 1 1 {}).tickSrc ≠ 0 ∧ (ftu 1 1 {}).ftuState < 2) ∧
    ((ftu 1 2 { first := true }).ftuState = 2 ∧ (ftu 1 2 { first := true }).ftu.first = true ∧ (0 : Int) ≤ (-9 : Int).tdiv 10 ∧ (-10 : Int).tdiv 10 < 0) ∧
    ((ftu 1 2 { good := 14 }).ftu.good < 15 ∧ 15 ≤ (ftu 1 2 { good := 15 }).ftu.good ∧ (-40 : Int).natAbs ≤ 40 ∧ 40 < (41 : Int).natAbs) ∧
    ((ftu 1 3 { bad := 3 }).ftuState = 3 ∧ 3 ≤ (ftu 1 3 { bad := 3 }).ftu.bad ∧ 80 < (-81 : Int).natAbs ∧ (80 : Int).natAbs ≤ 80) ∧
    ((ftu 1 4 {}).ftuState = 4 ∧ (100000000 : Dword).toNat % 100000000 = 0 ∧ (1 : Dword).toNat % 100000000 ≠ 0) := by decide +kernel

/-- A tick that has reached no unit yet, with what the Global Context Engine holds. -/
def ticking' (f : Gce → Gce) : State := let s := ftu 0 1 { ticks := 1 }; { s with gce := f s.gce }

theorem witness_ticksRaised :
    (let s := ftu 0 1 {}
     s.ftu.ticks = s.ftu.ticksB ∧ (ftu 0 1 { ticks := 1 }).ftu.ticks ≠ (ftu 0 1 { ticks := 1 }).ftu.ticksB) ∧
    (let s := { (ftu 1 3 { slew := 1 }).setRf seasonCtlR 3 3 1 with timebase := 4999 }
     s.running = true ∧ s.fresh = true ∧ s.ftu.slew = (1 : Int) ∧ s.ftu.corrected = false ∧ s.tickDue (s.timebase.toNat + 1) = true ∧
       s.timebase.toNat + 1 < 2 ^ 64) ∧
    (let s := (ftu 1 3 { slew := -1 }).setRf seasonCtlR 3 3 1
     s.rf seasonCtlR 3 3 = 1 ∧ s.ftu.slew = (-1 : Int)) ∧
    (let s := { ftu 0 1 { ticks := 1, ticksB := 1, tickAt := 0 } with timebase := 0 }
     s.running = true ∧ s.fresh = false) := by decide +kernel

theorem witness_tickArrivals :
    (let s := ticking' id
     s.ftu.ticks ≠ 0 ∧ s.ftu.arrived.contains TickUnit.gce = false ∧ (ftu 0 1 { ticks := 1, arrived := [.svc] }).ftu.arrived.contains TickUnit.svc = true) ∧
    ((ftu 0 1 { ticks := 1, arrived := [.trio 0, .mc 0] }).ftu.arrived.contains (TickUnit.trio 0) = true ∧
      (ftu 0 1 { ticks := 1, arrived := [.trio 0, .mc 0] }).ftu.arrived.contains (TickUnit.mc 0) = true) ∧
    ((ticking' id).dumpable 0 = true ∧ (ticking' id).dumpable 83 = false ∧ (ticking' id).running = true ∧ sysUp.running = false) ∧
    (let cut := fun (s : State) =>
       let g := { s with ftu := { s.ftu with arrived := s.ftu.arrived ++ [TickUnit.gce] } }
       let noted := { g with gce := { g.gce with tick := g.ftu.tickAt } }
       ((if noted.gce.leanOff then noted.leanWithdraw noted.ftu.tickAt else noted).cutsTakeEffect).spareSteps
     let acts := fun (c : State) => decide (c.ftu.ticks = c.gce.actTick) && decide (c.gce.shadowCredits ≠ none)
     (cut (ticking' id)).rf ⟨.bootStat, 0, 0, 0⟩ 39 32 = 0 ∧ (cut (ticking' id)).safe = false ∧ (cut (ticking' id)).gce.lalt = none ∧
       (let c := cut (ticking' (fun g => { g with lalt := some 3 })); c.gce.lalt.isSome = true ∧ c.frame = 0) ∧ acts (cut (ticking' id)) = false ∧ (cut (ticking' id)).changePending = false ∧
       acts (cut (ticking' (fun g => { g with actTick := 1, shadowCredits := some [] }))) = true ∧
       (cut ((ticking' id).setRf ⟨.bootStat, 0, 0, 0⟩ 39 32 1)).rf ⟨.bootStat, 0, 0, 0⟩ 39 32 ≠ 0 ∧
       (let c := cut ((ticking' id).setRf seasonCtlR 5 5 1); c.changePending = true ∧ c.gce.pendFrames = 0 ∧ acts c = false)) := by decide +kernel

/-- Trio 0 is active with housekeeping to offset 100 and a window of the given entry, `off` units after its tick. -/
def windowed (n : Nat) (w : Dword) (off : Nat) : State :=
  let s := { ftu 0 1 {} with timebase := BitVec.ofNat 64 off }
  ({ s with gce := { s.gce with live := true } }).modTrio 0 (fun k => { k with rcd := { hdr := BitVec.ofNat 64 (100 <<< 8 ||| 4), win := List.replicate n 0 ++ [w] } })
/-- A valid entry from `st` that lasts `len` in every frame. -/
def win (st len : Nat) : Dword := BitVec.ofNat 64 (1 <<< 47 ||| len <<< 20 ||| st)

/-- Slot 63 of trio 0 with a deadline of 4999 units in every frame, and a state. -/
def timed (st : CtxState) (remain : Nat) : State :=
  (windowed 15 (win 100 10) 4999).modSlot 0 63 (fun b => { b with
    state := st, remain := remain, since := 4999, stream := some 2, eff := [0, 0xFFFFFFFF, BitVec.ofNat 64 (1 <<< 53 ||| 4999 <<< 33), 0], desc := [0, 0, 7, 0] })

theorem witness_windowErrors :
    (let s := timed .running 0
     ((s.slot 0 63).state ≠ .free ∧ (s.slot 0 63).stream = some 2) ∧ ∀ j ∈ [0, 1, 2], (s.core (coreNo 0 j)).maint = none) ∧
    (let s := (timed .ready 5).modSlot 0 63 (fun b => { b with stream := none })
     (s.slot 0 63).state ≠ .free ∧ (s.slot 0 63).stream = none) ∧ ((timed .free 0).slot 0 63).state = .free ∧
    (let s := { ftu 0 1 { ticks := 1 } with timebase := 999 }
     s.running = true ∧ 0 < s.ftu.ticks ∧ (s.timebase - (s.trio 84).tickAt).toNat = 999) := by decide +kernel

theorem witness_frameSchedule :
    (let s := windowed 15 (win 100 10) 100
     let k := s.trio 0
     (s.gce.live = true ∧ k.rcd.act = true ∧ k.parked = false ∧ k.rcd.hk ≤ 100 ∧ (windowed 15 (win 100 10) 99).trio 0 = k) ∧
       (let w := k.rcd.win.getD 15 0; wV w = true ∧ s.frame % wEvery w = wPhase w ∧ wStart w ≤ 100 ∧ 100 < wStart w + wLen w) ∧
       (s.windowAt 0 = .entry 15 ∧ (windowed 15 (win 100 10) 99).windowAt 0 = .housekeeping ∧ (windowed 15 (win 100 10) 110).windowAt 0 = .outside) ∧
       k.window ≠ s.windowAt 0 ∧ (((s.modTrio 0 (fun q => { q with window := .entry 15 })).trio 0).window = .entry 15) ∧ sysUp.gce.live = false) ∧
    (let s := timed .ready 5
     let b := s.slot 0 63
     b.state ≠ .free ∧ b.dlen = true ∧ b.fdone = false ∧ b.late = false ∧ b.deadline = 4999 ∧ (s.frame + 1) % s.frames % (b.pmul + 1) = b.pphase ∧
       (s.timebase - (s.trio 0).tickAt).toNat = 4999) ∧
    (let s := timed .running 0
     (s.slot 0 63).state = .running ∧ s.remain 0 63 = 0 ∧ (s.slot 0 63).stream = some 2) ∧
    (let s := timed .dormant 0
     let b := s.slot 0 63
     b.releasedAt s.frame = true ∧ b.state = .dormant ∧ s.budgetCap b.tid.val b.handle.toNat false = none) ∧
    (let s := (timed .dormant 0).modSlot 0 63 (fun b => { b with eff := [0, 0, BitVec.ofNat 64 (1 <<< 27 ||| 1 <<< 21), 0] })
     (s.slot 0 63).releasedAt s.frame = false) := by decide +kernel

/-- One event on its way to the context in slot 63 of logical trio 0 of die 0. -/
def flying (o : Origin) (f : Slot → Slot) : State :=
  let s := (timed .ready 5).modSlot 0 63 f
  { s with evg := { s.evg with flight := [⟨63, 31, o⟩] } }

theorem witness_slotEvents :
    (let s := flying (.note 0) id
     s.evg.flight = [⟨63, 31, .note 0⟩] ∧ (63 : BitVec 13).toNat = 63 ∧ s.holderOf 63 = some (0, 63) ∧ s.holderOf (12 * 512) = none ∧
       (s.slot 0 63).state = .ready ∧ (s.slot 0 63).evmask 31 = true) ∧
    ((flying (.route 0) (fun b => { b with state := .free })).slot 0 63 |>.state) = .free ∧
    (let s := flying (.signal 31 false) id
     31 ≠ (s.slot 0 63).tid.val) ∧
    (((flying (.route 0) (fun b => { b with eff := [] })).slot 0 63).evmask 31 = false) ∧
    (let b := (flying (.signal 0 true) (fun b => { b with state := .waiting, waitMask := 0x80000000, remain := 0 })).slot 0 63
     b.state = .waiting ∧ (setBit b.events 31 true) &&& b.waitMask ≠ 0 ∧ b.remain = 0) ∧
    (let d : DetAcc := ⟨{ pa := 64, va := 0x5000, size := 8, store := false, signed := false, reg := 2, word := 0 }, false⟩
     let s := (timed .suspended 5).modSlot 0 63 (fun b => { b with det := some d })
     (s.slot 0 63).det = some d ∧ d.failed = false ∧ ({ d with failed := true } : DetAcc).failed = true ∧ (s.slot 0 63).killQ.isSome = false ∧ s.resetting 0 = false ∧ s.running = true ∧
       (sysUp.slot 0 63).det = none) := by decide +kernel

theorem witness_seasonLoads :
    (3 < 4 ∧ sysUp.gce.load = none ∧ ({ sysUp.gce with load := some (64, 3) } : Gce).load = some (64, 3)) ∧
    (sysUp.rangeInstalled (64 * 64) (8 * tableDws) = true ∧ State.reset.rangeInstalled (64 * 64) (8 * tableDws) = false) := by decide +kernel

/-! ### The Global Context Engine -/

/-- A command of tenant 31's queue: an OP, the handle 4095, and a target. -/
def entry (op cid : Nat) : Dword := BitVec.ofNat 64 (cid <<< 32 ||| 4095 <<< 20 ||| op)
/-- A descriptor of tenant 31 in four lines' worth of doublewords: redundancy and budget as given, priority and levels 0. -/
def descDws (tid redun budget : Nat) : List Dword :=
  [BitVec.ofNat 64 (1 <<< 63 ||| tid <<< 58 ||| redun <<< 27), 0, BitVec.ofNat 64 budget, 0, 0x1000]
/-- The queue of tenant 31 at 4 KiB holds one entry, and its context table at 512 KiB holds a descriptor of handle 4095. -/
def queued (e : Dword) (d : List Dword) : State :=
  let s := ((ftu 0 1 {}).setReg (cxqCfgR 31) (BitVec.ofNat 64 (4096 ||| 1 <<< 8 ||| 1))).setReg (cxqIdxR 31) (BitVec.ofNat 64 (1 <<< 32))
  let s := (s.setReg (ctBaseR 31) (BitVec.ofNat 64 (1 <<< 19 ||| 1))).setRf ⟨.tntCfg, 0, 31, 0⟩ 2 1 2
  poke (poke s 4096 [e]) (0x80000 + 0x80 * 4095) d
/-- The same with a context of that handle in slot 63 of trio 0. -/
def withCtx (e : Dword) (d : List Dword) (f : Slot → Slot) : State :=
  (queued e d).modSlot 0 63 (fun b => f { b with state := .suspended, tid := 31, handle := 4095 })
/-- The engine serves the queue and reads the entry, in a state that satisfies `p`. -/
def served (s : State) (e : Dword) (p : State → Bool) : Bool :=
  s.cxqTurn 31 &&
    match s.cxqHead 31 with
    | (y, some x) => decide (x = e) && p y
    | _ => false
/-- The descriptor is read, and its check gives a status. -/
def descIs (y : State) (n : Nat) : Bool :=
  match y.readDesc 31 4095 with
  | (u, some d) => decide (u.checkDesc 31 d = n)
  | _ => false

theorem witness_contextCommands :
    (sysUp.cxqWaits 31 = false ∧ sysUp.cxqTurn 31 = false) ∧
    (let s := { queued (entry 1 63) [] with gce := { (queued (entry 1 63) []).gce with turn := 31 } }
     s.gce.turn = 31 ∧ s.cxqWaits 31 = true ∧ s.cxqStopped 31 = false) ∧
    (served (queued (entry 1 0x203F) (descDws 31 0 5)) (entry 1 0x203F) (fun y => decide (bit (entry 1 0x203F) 45 = true) && decide (y.lowFree 0 = some 0)) = true ∧
      served (forN 64 (fun n s => s.modSlot 0 n (fun b => { b with state := .suspended })) (queued (entry 1 0x2000) (descDws 31 0 5))) (entry 1 0x2000)
        (fun y => decide (y.lowFree 0 = none)) = true) ∧
    (served ((withCtx (entry 4 0) [] (fun b => { b with det := some ⟨{ pa := 64, va := 0x5000, size := 8, store := false, signed := false, reg := 2, word := 0 }, false⟩ })))
      (entry 4 0) (fun y => (y.slot 0 63).outstanding) = true) ∧
    (let d := descDws 31 0 5
     served (withCtx (entry 1 63) d id) (entry 1 63) (fun y => decide (y.findHandle 31 4095 = some (0, 63))) = true ∧
     served (queued (entry 1 0x1800) d) (entry 1 0x1800) (fun y => decide (y.findHandle 31 4095 = none) && decide (12 ≤ fld (entry 1 0x1800) 44 32 / 512)) = true ∧
     served (queued (entry 1 0x1600) d) (entry 1 0x1600) (fun y => decide (y.target 0x1600 = none) && decide (y.findHandle 31 4095 = none)) = true ∧
     served (queued (entry 1 63) d) (entry 1 63) (fun y => decide (y.target 63 = some 0) && decide ((y.slot 0 63).state = .free) && descIs y 0) = true ∧
     served ((queued (entry 1 63) d).modSlot 0 63 (fun b => { b with state := .ready })) (entry 1 63) (fun y => decide ((y.slot 0 63).state ≠ .free) &&
       decide (y.findHandle 31 4095 = none)) = true) ∧
    (served (queued (entry 1 63) (descDws 30 0 5)) (entry 1 63) (fun y => descIs y 0x0B) = true ∧
      served ((queued (entry 1 63) []).setReg (ctBaseR 31) 0) (entry 1 63) (fun y => decide ((y.readDesc 31 4095).2 = none)) = true) ∧
    (served (queued (entry 6 63) []) (entry 6 63) (fun y => decide (y.findHandle 31 4095 = none)) = true ∧
      served (withCtx (entry 2 0) [] (fun b => { b with killQ := some 30 })) (entry 2 0) (fun y => (y.slot 0 63).killQ.isSome) = true ∧
      served (withCtx (entry 2 0) [] id) (entry 2 0) (fun y => decide ((y.slot 0 63).killQ = none) && decide ((y.slot 0 63).state = .suspended)) = true ∧
      served (withCtx (entry 3 0) [] (fun b => { b with state := .dormant })) (entry 3 0) (fun y => decide ((y.slot 0 63).state = .dormant)) = true ∧
      served (withCtx (entry 4 0) [] id) (entry 4 0) (fun y => decide (y.coreOf 0 63 = none) && decide ((y.slot 0 63).det = none)) = true) ∧
    (served (withCtx (entry 5 0) (descDws 31 0 5) id) (entry 5 0) (fun y => descIs y 0) = true ∧
      served (withCtx (entry 5 0) (descDws 31 3 5) id) (entry 5 0) (fun y => descIs y 7) = true ∧
      served ((withCtx (entry 5 0) [] id).setReg (ctBaseR 31) 0) (entry 5 0) (fun y => decide ((y.readDesc 31 4095).2 = none)) = true) ∧
    (served (withCtx (entry 6 63) [] id) (entry 6 63) (fun y => decide ((y.slot 0 63).mig = none) && decide (y.target 63 ≠ none) && y.running) = true ∧
      served (withCtx (entry 6 0x1800) [] id) (entry 6 0x1800) (fun y => decide ((y.slot 0 63).mig = none)) = true ∧
      served (withCtx (entry 6 63) [] (fun b => { b with mig := some (0, 1) })) (entry 6 63) (fun y => decide ((y.slot 0 63).mig ≠ none)) = true) := by decide +kernel

theorem witness_newContexts :
    (let s := (ftu 0 1 {}).setRf ⟨.tntCfg, 0, 31, 0⟩ 2 1 1
     s.classOf 31 = 1 ∧ s.checkDesc 31 (descDws 31 1 1048576) = 0 ∧ s.checkDesc 31 (descDws 31 0 1) = 6 ∧ s.checkDesc 31 (descDws 31 2 1048577) = 7 ∧
       s.checkDesc 31 (descDws 30 2 1) = 0x0B ∧ s.frames % 1 = 0 ∧ 0 < s.period) := by decide +kernel

/-- Die 0 with its trios mapped one to one, trio 5 powered and held. -/
def spare : State := (sysUp.setRf ⟨.dieStatus, 0, 0, 0⟩ 14 8 0x21).setCore (coreNo 5 0) { run := .held }
/-- The copy to the spare of trio 5. -/
def sub5 (done : Bool) : Subst := ⟨0, 5, 5, .block, done⟩

theorem witness_spares :
    (sysUp.physOf 0 5 = some 5 ∧ ((sysUp.setRf ⟨.trioMap, 0, 0, 0⟩ 17 15 7).physOf 0 5 = none)) ∧
    (spare.failed 5 = true ∧ spare.spareReady 0 false = true ∧ (sysUp.setRf (rstat 5) 10 10 1).rf (rstat 5) 10 10 = 1 ∧ sysUp.spareReady 0 true = true ∧
      sysUp.failed 5 = false) ∧
    (let s := { sysUp with gce := { sysUp.gce with subst := [sub5 false] } }
     s.gce.subst = [sub5 false] ∧ (sub5 false).copied = false ∧ s.rf (rstat 6) 9 8 ≠ 1 ∧ (s.setRf (rstat 6) 9 8 1).rf (rstat 6) 9 8 = 1 ∧ s.running = false ∧
       (ftu 0 1 {}).running = true ∧ sysUp.gce.subst = []) ∧
    (let s := (spare.setRf ⟨.trioMap, 0, 0, 0⟩ 30 30 1)
     s.failed 5 = true ∧ s.dieState 0 = 2 ∧ s.spareReady 0 false = false ∧ s.gce.subst = [] ∧
       (((s.remap 0 5 5 7).modTrio 5 (fun q => { q with wasLog := some 5 })).holdTrio 5).gce.live = false ∧
       (let v := { s with gce := { s.gce with live := true } }
        (((v.remap 0 5 5 7).modTrio 5 (fun q => { q with wasLog := some 5 })).holdTrio 5).gce.live = true)) ∧
    (let s := sysUp.setRf ⟨.trioMap, 0, 0, 0⟩ 24 24 1
     bit (s.reg ⟨.trioMap, 0, 0, 0⟩) 24 = true ∧ (s.trio 0).live = [] ∧ s.powered 0 = true ∧ bit (sysUp.reg ⟨.trioMap, 0, 0, 0⟩) 24 = false) := by decide +kernel

/-! ### Queue DMA, security and event sources -/

/-- Queue 31 at 4 KiB holds one descriptor; tenant 31's pages 0 and 1 of address space 5 are at 4 MiB (with `hole`, only page 0). -/
def moving (dw0 len src dst : Nat) : State :=
  let s := (sysUp.setReg (qRing 31).cfg (BitVec.ofNat 64 (5 <<< 52 ||| 4096 ||| 1 <<< 8 ||| 1))).setReg (qRing 31).idx (BitVec.ofNat 64 (1 <<< 32))
  poke (mapped s 31 5 0 0x400000) 4096 [BitVec.ofNat 64 dw0, BitVec.ofNat 64 len, BitVec.ofNat 64 src, BitVec.ofNat 64 dst]
/-- The descriptor at HEAD, and what the engine makes of its destination. -/
def heads (s : State) (p : State → List Dword → Bool) : Bool :=
  match (s.qLook 31).qHead 31 with
  | (u, some d) => p u d
  | _ => false
def dest (u : State) (va : Dword) (p : State → Page → Bool) : Bool :=
  match u.engXlate (u.qEng 31) .store va with
  | (a, .ok g) => p a g
  | _ => false
def isOk {α : Type} : EngRes α → Bool
  | .ok _ => true
  | _ => false

theorem witness_queueDma :
    (((sysUp.qLook 31).qHead 31).2 = none) ∧
    (heads (moving 3 64 0 0) (fun u d => decide (d = [3, 64, 0, 0]) && dest u 0 (fun a g => decide (64 ≤ a.qStep g.pa) &&
      isOk (a.qWritePa (u.qEng 31) g.pa (List.replicate 64 0)).2)) = true) ∧
    (heads (moving 2 64 7 0) (fun u d => decide (d = [2, 64, 7, 0]) && dest u 0 (fun a g => decide (64 ≤ a.qStep g.pa) &&
      isOk (a.qWritePa (u.qEng 31) g.pa (fillBytes 7 0 64)).2)) = true) ∧
    (heads (moving 1 1 0 63) (fun u d => decide (d = [1, 1, 0, 63]) && dest u 63 (fun a g => decide (1 ≤ a.qStep g.pa) &&
      (match a.qGather (u.qEng 31) 0 1 2 with
       | (b, bs, .ok ()) => decide (bs ≠ []) && isOk (b.qWritePa (u.qEng 31) g.pa bs).2
       | _ => false))) = true) ∧
    (heads (moving 3 64 0 0x1000) (fun u d => decide (d = [3, 64, 0, 0x1000]) &&
      (match u.engXlate (u.qEng 31) .store 0x1000 with | (_, .trap _) => true | _ => false)) = true) ∧
    (heads (mapped (moving 3 8 0 0) 31 5 0 0x3F0000000000) (fun u d => decide (d = [3, 8, 0, 0]) && dest u 0 (fun a g => decide (8 ≤ a.qStep g.pa) &&
       failEng (a.qWritePa (u.qEng 31) g.pa (List.replicate 8 0)) (fun _ => true))) = true) := by decide +kernel

theorem witness_security :
    (let s := sysUp
     s.down = false ∧ s.rf secStatReg 0 0 = 0 ∧ s.rf secStatReg 1 1 = 0 ∧ s.sec.started = false ∧ (s.setRf secStatReg 1 1 1).rf secStatReg 1 1 = 1 ∧
       (s.setRf secStatReg 0 0 1).rf secStatReg 0 0 = 1 ∧ s.rf dbgAuthR 7 4 ≠ 2 ∧ (s.setRf dbgAuthR 7 4 2).rf dbgAuthR 7 4 = 2) := by decide +kernel

/-- Source 64 + 31 is enabled in its group, which is open, and routed as given. -/
def sourced (gen kind : Nat) : State :=
  ((sysUp.setRf (enR 2) 31 31 1).setRf (gctlR 2) 0 0 gen).setRf (routeR 95) 63 62 kind

theorem witness_sources :
    (sysUp.refusals = [] ∧ sysUp.evg.raised = [] ∧ sysUp.evg.line = [] ∧ neverPends 2047 = true) ∧
    (sysUp.cutOff 1791 = true ∧ (sourced 0 0).cutOff 95 = false ∧ sysUp.cutOff 70 = false ∧
      (sysUp.setRf (gctlR 9) 31 16 1).rf (gctlR 9) 31 16 = 1 ∧ sysUp.rf (gctlR 9) 31 16 ≠ 1) ∧
    (neverPends 95 = false ∧ levelSource 95 = false ∧ (sourced 0 0).evE 95 = true ∧ (sourced 0 0).evGen 95 = false ∧ (sourced 1 0).evGen 95 = true ∧
      (sourced 1 0).rf (routeR 95) 63 62 ≠ 2 ∧ (sourced 1 2).rf (routeR 95) 63 62 = 2 ∧ sysUp.evE 95 = false) ∧
    (neverPends 70 = false ∧ levelSource 70 = true) := by decide +kernel

/-! ### Lace and Sole -/

/-- A packet of source 511, which enters at the root, and one of core 251, which enters at die 11. -/
def rootPkt : Packet := mkPkt 511 0 0 []
def diePkt : Packet := mkPkt 251 0 0 []
/-- Lace with the sink on, of 64 KiB at 0. -/
def laced (l : Lace) : State := { sysUp.setReg laceSinkR (sinkDw 1 1 16 0) with lace := l }

theorem witness_trace :
    (let page : RegRef := ⟨.swtPage, 0, 31, 511⟩
     acc (user []) (.core 0) page 7 = true ∧ (user []).tracing (416 + 31) = false ∧
       (let s := (user []).setRf (lsrc 447) 25 24 2; s.tracing (416 + 31) = true ∧ acc s (.core 0) page 7 = true)) ∧
    (homeNode (pktSrc diePkt) = 11 ∧ pktType diePkt ≠ 0x0E ∧ (laced { out := [diePkt] }).lace.out = [diePkt] ∧ homeNode (pktSrc rootPkt) = 12 ∧
      (laced { out := [rootPkt] }).rf laceSinkR 0 0 = 1 ∧ sysUp.rf laceSinkR 0 0 ≠ 1) ∧
    ((laced { out := [diePkt], queues := [(11, List.replicate 119 diePkt)] }).nodeQ 11 |>.length) < 120 ∧
    (let s := laced { out := [diePkt], queues := [(11, List.replicate 120 diePkt)] }
     120 ≤ (s.nodeQ 11).length ∧ (s.nodeQ 11 ++ [diePkt])[s.dropPick (s.nodeQ 11 ++ [diePkt])]? = some diePkt) ∧
    (diePkt ∉ sysUp.lace.out ∧ sysUp.lace.lost = []) ∧
    (let s := laced { lost := [(11, 511, 5)] }
     s.lace.lost = [(11, 511, 5)] ∧ s.nodeKept 11 = []) ∧
    (let p := mkPkt 511 0x0E 5 []
     (laced { kept := [(11, List.replicate 8 (mkPkt 1 0x0E 5 []))] }).keptRoom 11 p = false) ∧
    (let s := laced { queues := [(12, [rootPkt])] }
     s.nodeQ 12 = [rootPkt] ∧ s.nodeKept 12 = [] ∧ s.lace.lost = [] ∧ s.lace.full = false ∧
       (rootPkt.hdr :: rootPkt.dws).length ≤ (s.sinkSize - s.rf laceWptrR 34 0) / 8 - s.lace.partialLine.length) ∧
    ((laced { queues := [(12, [rootPkt])], full := true }).lace.full = true) ∧
    (let s := laced { queues := [(12, [rootPkt])], kept := [(12, [mkPkt 511 0x0E (fld rootPkt.hdr 31 0) []])] }
     s.nodeQ 12 = [rootPkt] ∧ s.nodeKept 12 = [mkPkt (pktSrc rootPkt) 0x0E (fld rootPkt.hdr 31 0) []] ∧ pktSrc rootPkt < 512) ∧
    ((laced { dumping := true }).lace.dumping = true ∧ sysUp.lace.dumping = false) := by decide +kernel

/-- Sole with more of what it holds. -/
def sole (k : Sole) : State := { sysUp with sole := k }
/-- A record. -/
def aRec : List Dword := mkRec (recHdr 1 0 0 0 0x1FFF 0xFFF 0 false) 0 []

theorem witness_sole :
    (sysUp.rf soleStatR 3 3 ≠ 1 ∧ (sysUp.setRf soleStatR 3 3 1).rf soleStatR 3 3 = 1 ∧ (sole {}).sole.staging = []) ∧
    (let s := sole { staging := [(31, aRec)], failed := 1 }
     s.sole.staging = [(31, aRec)] ∧ s.sole.failed < 2 ∧ ((({ s with sole := { s.sole with staging := [], failed := 0 } }).soleWrite 31 aRec).area 0).supp = 0) ∧
    (let s := sole { staging := [(31, aRec)], failed := 2 }
     2 ≤ s.sole.failed ∧ (s.badLine (recKey 31 (s.area 31).next)).2 = true ∧
       (let x := (s.badLine (recKey 31 (s.area 31).next)).1
        x.sole.staging = s.sole.staging ∧ ((({ x with sole := { x.sole with staging := [], failed := 0 } }).soleWrite 31 aRec).area 0).supp = 0)) ∧
    ((sysUp.area 34).link = [] ∧ ((sole { areas := [(34, { link := [aRec] })] }).area 34).link ≠ []) ∧
    (sysUp.rf soleStatR 0 0 = 0 ∧ (sysUp.setRf soleStatR 0 0 1).rf soleStatR 0 0 = 1) ∧
    (let hour := fun (s : State) => (s.incRf lifeModR 63 32).commitStart
     let s := sysUp.setRf lifeModR 63 32 7299
     s.sole.lastRefresh + 7300 ≤ (hour s).rf lifeModR 63 32 ∧ (hour s).sole.lastRefresh = s.sole.lastRefresh ∧ (hour s).rf soleStatR 3 3 = 0 ∧
       (hour sysUp).rf lifeModR 63 32 < sysUp.sole.lastRefresh + 7300) ∧
    (sysUp.rf soleStatR 1 1 = 0 ∧ (sysUp.setRf soleStatR 1 1 1).rf soleStatR 1 1 = 1) ∧
    (sysUp.power.snapBuf = none ∧ ({ sysUp.power with snapBuf := some 3 } : Power).snapBuf = some 3) ∧
    (let s := { (mapped sysUp 31 5 0 0x400000).setReg (soleA 31) (BitVec.ofNat 64 (5 <<< 52 ||| 1 <<< 32)) with sole := { sysUp.sole with reads := [(31, false)] } }
     s.sole.reads = [(31, false)] ∧ s.rf (soleA 31) 46 32 = 1 ∧ (s.soleCopy 31 false 0 1).2 = some 0 ∧ (s.soleCopy 31 false 0 1).1.sole.reads = s.sole.reads) := by
  decide +kernel

/-! ### Power, resets and life -/

/-- The supply monitor in a state, with the levels that the last sample was beyond. -/
def supply (st : Nat) (b : SMap Nat) : State := let s := sysUp.setRf supStatR 2 0 st; { s with power := { s.power with beyond := b, supplyReset := false } }

theorem witness_supply :
    ((supply 0 [(0, 1), (2, 1)]).power.supplyReset = false ∧ ({ sysUp.power with supplyReset := true } : Power).supplyReset = true) ∧
    (9000 ≤ (9000 : BitVec 16).toNat ∧ (2800 : BitVec 16).toNat ≤ 2800 ∧ 1 ≤ SMap.get 0 (supply 0 [(4, 1), (5, 1)]).power.beyond 5 ∧
      1 ≤ SMap.get 0 (supply 0 [(4, 1), (5, 1)]).power.beyond 4) ∧
    ((supply 0 []).supState = 0 ∧ (supply 1 []).supState = 1 ∧ (supply 2 []).supState = 2 ∧ (supply 3 []).supState = 3) ∧
    ((3299 : BitVec 16).toNat < 3300 ∧ 1 ≤ SMap.get 0 (supply 0 [(0, 1), (2, 1)]).power.beyond 0 ∧ 1 ≤ SMap.get 0 (supply 0 [(0, 1), (2, 1)]).power.beyond 2 ∧
      7800 < (7801 : BitVec 16).toNat ∧ 1 ≤ SMap.get 0 (supply 3 [(3, 1)]).power.beyond 3 ∧ 1 ≤ SMap.get 0 (supply 1 [(1, 1)]).power.beyond 1) := by decide +kernel

/-- The governor with what it awaits, and the Global Context Engine. -/
def governed (p : Power → Power) (g : Gce → Gce) (run : Nat) : State :=
  let s := (sysUp.setRf ftuCfgR 0 0 run)
  { s with power := p s.power, gce := g s.gce }

theorem witness_governor :
    (let s := (supply 2 []).setRf supStatR 63 48 3501
     s.supState = 2 ∧ 3500 < s.rf supStatR 63 48 ∧ sysUp.supState ≠ 2) ∧
    (let s := governed (fun p => { p with leanPend := true }) id 0
     let lean := { s with power := { s.power with lean := true, leanPend := false } }
     s.power.leanPend = true ∧ s.gce.live = false ∧ lean.gce.live = false ∧ sysUp.power.leanPend = false) ∧
    (let s := governed (fun p => { p with leanPend := true }) (fun g => { g with live := true, store := [(0, [(1, BitVec.ofNat 64 (1 <<< 32 ||| 2 <<< 30))]), (2, [(1, BitVec.ofNat 64 (1 <<< 26))])] }) 1
     let t := s.setValid 2 true
     let cut := fun (s : State) => let lean := { s with power := { s.power with lean := true, leanPend := false } }
                                   (lean.setPoint lean.leanPoint).leanPark 2 s.timebase
     let armed := fun (s : State) => { cut s with gce := { (cut s).gce with lalt := some (fld ((cut s).seasonDw (cut s).active 1) 31 30) } }
     s.gce.live = true ∧ (cut s).gce.live = true ∧ bit ((cut s).seasonDw (cut s).active 1) 32 = true ∧ (cut s).changePending = false ∧
       (cut t).changePending = false ∧ (armed s).leanSeason = none ∧ (armed t).leanSeason = some 2) ∧
    (let plain := fun (s : State) =>
       let run := { s with power := { s.power with lean := false, runPend := false } }
       let back := if s.gce.live then run.setPoint (run.seasonPoint run.active) else run
       if back.gce.lalt.isSome then ({ back with gce := { back.gce with lalt := none } }).dropShadows else back
     let s := governed (fun p => { p with runPend := true }) id 1
     s.power.runPend = true ∧ s.power.leanPend = false ∧ (plain s).running = true ∧ (plain (governed (fun p => { p with runPend := true }) id 0)).running = false ∧
       sysUp.power.runPend = false) := by decide +kernel

theorem witness_life :
    (sysUp.down = false ∧ (let s := { sysUp with power := { sysUp.power with supplyReset := true } }; s.down = true)) ∧
    (let base := State.setRf { sysUp with power := { sysUp.power with hotDies := SMap.put (-274) sysUp.power.hotDies 12 125 } } (lifeEmR 12) 23 16 189
     min 255 ((125 : Int) + 64).toNat = 189 ∧ base.hottest = some 125) ∧
    (sysUp.diePowered 0 = true ∧ sysUp.diePowered 11 = false ∧ sysUp.powered 0 = true ∧ sysUp.powered 83 = false) ∧
    (let s := sysUp.setRf (lifeEmR 0) 63 24 4672000
     4672000 ≤ min (2 ^ 40 - 1) (s.rf (lifeEmR 0) 63 24 + (SMap.get 0 s.power.eqFrac 0 + emWeight (s.rf (lifeEmR 0) 23 16)) / (225 * 2 ^ 32)) ∧
       s.rf (lifeEmR 0) 0 0 = 0 ∧ (s.setRf (lifeEmR 0) 0 0 1).rf (lifeEmR 0) 0 0 = 1) ∧
    (min (2 ^ 40 - 1) (sysUp.rf (lifeEmR 0) 63 24 + (SMap.get 0 sysUp.power.eqFrac 0 + emWeight (sysUp.rf (lifeEmR 0) 23 16)) / (225 * 2 ^ 32)) < 4672000) ∧
    (let s := sysUp.setRf (lifeTrioR 0 0) 31 16 1
     s.rf (lifeTrioR 0 0) 31 16 ≤ (1 : BitVec 16).toNat ∧ (0 : BitVec 16).toNat < s.rf (lifeTrioR 0 0) 31 16 ∧ bit (s.reg (lifeTrioR 0 0)) 0 = false ∧
       bit ((s.setRf (lifeTrioR 0 0) 0 0 1).reg (lifeTrioR 0 0)) 0 = true) := by decide +kernel

/-- A request of a domain in progress. -/
def domain (n act : Nat) : State := (sysUp.setRf (domR n) 3 2 act).setRf (domR n) 7 4 1
/-- Core 0 idles, with Nap and Off allowed. -/
def idles : State := (sysUp.setReg pwrIdleR 3).setCore 0 { run := .idle }

theorem witness_domains :
    (sysUp.rf (domR 117) 7 4 ≠ 1 ∧ (domain 117 2).rf (domR 117) 7 4 = 1 ∧ (domain 117 2).rf (domR 117) 3 2 = 2) ∧
    ((domain 0 0).powered 0 = true ∧ (domain 83 0).powered 83 = false ∧ (domain 83 2).rf (domR 83) 3 2 ≠ 0) ∧
    ((domain 84 0).dieState 0 = 2 ∧ (domain 95 0).dieState 11 ≠ 2 ∧ (domain 95 1).rf (domR 95) 3 2 ≠ 0) ∧
    ((idles.core 0).run = .idle ∧ idles.leadOf 0 = 0 ∧ bit (idles.reg pwrIdleR) 1 = true ∧ bit (idles.reg pwrIdleR) 0 = true ∧
      idles.quietFor (trioOf 0) 10000 = true ∧ idles.quietFor (trioOf 0) 500 = true ∧ (sysUp.core 0).run ≠ .idle) ∧
    ((({ run := .nap } : Core).run = .nap) ∧ sysUp.power.standbyAsk = false ∧ ({ sysUp.power with standbyAsk := true } : Power).standbyAsk = true ∧ sysUp.down = false) := by
  decide +kernel

theorem witness_containment :
    (sysUp.rf ⟨.modIdent, 0, 0, 0⟩ 0 0 ≠ 1 ∧ (sysUp.setRf ⟨.modIdent, 0, 0, 0⟩ 0 0 1).rf ⟨.modIdent, 0, 0, 0⟩ 0 0 = 1) ∧
    (sysUp.down = false ∧ sysUp.power.refLost = false ∧ ({ sysUp.power with refLost := true } : Power).refLost = true) := by decide +kernel

/-- A trio that has failed on an Online die, and a die with no reclaim in progress. -/
theorem witness_subsumed : (sysUp.reclaims 0 = false ∧ (spare.failed 5 = true ∧ spare.dieState (5 / 7) = 2)) := by decide +kernel

theorem witness_resets :
    (799 < 800 ∧ sysUp.power.supplyReset = false) ∧
    (let s := (sysUp.setRf supStatR 63 48 3501)
     let t := { s with power := { s.power with supplyReset := true } }
     t.power.supplyReset = true ∧ 3500 < t.rf supStatR 63 48 ∧ sysUp.rf supStatR 63 48 ≤ 3500) := by decide +kernel

/-! ### Boot, the Policy Mailbox and Awl -/

/-- An entry of ring 0 with three arguments, and a mailbox that serves ring 0 with it at HEAD (`rom`: in the boot ROM). -/
def ent (a1 a2 a3 : Nat) : PmbEntry := ⟨0, 7, [BitVec.ofNat 64 a1, BitVec.ofNat 64 a2, BitVec.ofNat 64 a3, 0, 0, 0, 0]⟩
def ringOf (s : State) (rom op a1 a2 a3 : Nat) : State :=
  let s := (s.setRf pmbStatR 1 0 (2 * rom + 1)).setRf (pmbIdxR 0) 43 32 1
  (((s.setReg (pmbDwR 0 0 0) (BitVec.ofNat 64 (7 <<< 32 ||| op))).setReg (pmbDwR 0 0 1) (BitVec.ofNat 64 a1)).setReg (pmbDwR 0 0 2)
    (BitVec.ofNat 64 a2)).setReg (pmbDwR 0 0 3) (BitVec.ofNat 64 a3)
def ringed (op a1 a2 a3 : Nat) : State := ringOf (ftu 0 1 {}) 0 op a1 a2 a3
/-- Cobbler is about to carry out the entry. -/
def takes (s : State) (op : Nat) (e : PmbEntry) : Bool := s.pmbServes && s.pmbIs op e && !s.pmbBusy 0 && !s.pmbRom
def romTakes (s : State) (op : Nat) (e : PmbEntry) : Bool := s.pmbServes && s.pmbIs op e && !s.pmbBusy 0 && s.pmbRom

theorem witness_policyService :
    (sysUp.pmbIs 0x40 (ent 0 0 0) = false ∧ romTakes (ringOf sysUp 1 0x08 0 0 0) 0x08 (ent 0 0 0) = true ∧ takes (ringed 0x58 0 0 0) 0x58 (ent 0 0 0) = true ∧
      takes (ringed 0x53 0 0 0) 0x53 (ent 0 0 0) = true ∧ (ringed 0x53 0 0 0).sealedUp = false) := by decide +kernel

/-- How a write comes out. -/
def wrIs (r : Wr) (k : Nat) : Bool :=
  match r with
  | .ok _ => k = 0
  | .wait _ => k = 1
  | .err e => k = 2 + e
  | .stay => false

theorem witness_registerPolicies :
    (takes (ringed 0x01 0 0 0) 0x01 (ent 0 0 0) = true ∧ takes (ringed 0x02 0 0 0) 0x02 (ent 0 0 0) = true ∧ takes (ringed 0x04 0 0 0) 0x04 (ent 0 0 0) = true) ∧
    (let off := (soleA 1).off
     takes (ringed 0x08 off 0 0) 0x08 (ent off 0 0) = true ∧ okE ((ringed 0x08 off 0 0).mcsRead cobbler off 3) (fun _ _ => true) = true ∧
       takes (ringed 0x08 4 0 0) 0x08 (ent 4 0 0) = true ∧ okE ((ringed 0x08 4 0 0).mcsRead cobbler 4 3) (fun _ _ => true) = false) ∧
    (let v := fun (off a m : Nat) => (((BitVec.ofNat 64 a &&& BitVec.ofNat 64 m) ||| ((ringed 0x09 off a m).unmasked off &&& ~~~(BitVec.ofNat 64 m))) : Dword)
     let out := fun (off a m k : Nat) => takes (ringed 0x09 off a m) 0x09 (ent off a m) && wrIs ((ringed 0x09 off a m).mcsWrite cobbler off 3 (v off a m)) k
     out hitCfgR.off 0xD1 0xFFFF 2 = true ∧ (ringed 0x09 hitCfgR.off 0xD1 0xFFFF).overLimit cobbler hitCfgR.off (v hitCfgR.off 0xD1 0xFFFF) = false ∧
     out (soleA 1).off 5 0xFF 0 = true ∧ out pwrReqR.off (117 <<< 32 ||| 5) 0xFFFFFFFFFFFFFFFF 0 = true ∧ out rstCtlR.off 0 0 10 = true ∧ out 4 0 0 7 = true ∧
       (soleA 1).off ≠ pwrReqR.off) ∧
    (let s := (ringed 0x09 (l2CtlR 0).off 0 1).setRf (l2CtlR 0) 1 0 1
     takes s 0x09 (ent (l2CtlR 0).off 0 1) = true ∧ wrIs (s.mcsWrite cobbler (l2CtlR 0).off 3 0) 1 = true ∧
       (match ((s.setRf (l2CtlR 0) 1 0 3).modL2 0 (fun k => { k with cleanNext := some 0 })).mcsWrite cobbler (l2CtlR 0).off 3 0 with | .stay => true | _ => false) = true) ∧
    (let s := ringed 0x03 0 0 0
     takes s 0x03 (ent 0 0 0) = true ∧ s.sec.expert = [] ∧ ({ s.sec with expert := [1] } : Sec).expert ≠ []) := by decide +kernel

theorem witness_modulePolicies :
    (takes (ringed 0x10 4096 3 0) 0x10 (ent 4096 3 0) = true ∧ (ringed 0x10 4096 3 0).rf seasonStatR 0 0 = 0 ∧ takes (ringed 0x10 0 4 0) 0x10 (ent 0 4 0) = true ∧
      ((ringed 0x10 4096 3 0).setRf seasonStatR 0 0 1).rf seasonStatR 0 0 = 1) ∧
    (takes (ringed 0x11 4 0 0) 0x11 (ent 4 0 0) = true ∧ takes (ringed 0x11 3 0 0) 0x11 (ent 3 0 0) = true ∧ (ringed 0x11 3 0 0).valid 3 = false ∧
      ((ringed 0x11 3 0 0).setValid 3 true).valid 3 = true ∧ (ringed 0x11 3 0 0).changePending = false ∧ (ringed 0x11 3 0 0).running = true) ∧
    (let d := 31 <<< 46 ||| 5 <<< 20 ||| 4
     let s := ringed 0x12 d 0 0
     let a : DevAcc := { pa := 64, va := 0x5000, size := 8, store := false, signed := false, reg := 2, word := 0 }
     let t := s.modSlot 0 63 (fun b => { b with state := .suspended, tid := 31, handle := 5, det := some ⟨a, false⟩ })
     takes s 0x12 (ent d 0 0) = true ∧ s.resetting 31 = false ∧ (s.setRf ⟨.tntCfg, 0, 31, 0⟩ 4 4 1).resetting 31 = true ∧
       (match (s.command 33 31 (BitVec.ofNat 64 d)).2 with | .done st _ _ => decide (st = 3) | _ => false) = true ∧
       takes t 0x12 (ent d 0 0) = true ∧ (match (t.command 33 31 (BitVec.ofNat 64 d)).2 with | .held => true | _ => false) = true) ∧
    (takes (ringed 0x13 31 0 0) 0x13 (ent 31 0 0) = true ∧ (ringed 0x13 31 0 0).resetting 31 = false ∧ takes (ringed 0x13 32 0 0) 0x13 (ent 32 0 0) = true) ∧
    (takes (ringed 0x20 0 1 0) 0x20 (ent 0 1 0) = true ∧ takes (ringed 0x21 11 0 0) 0x21 (ent 11 0 0) = true ∧
      takes (ringed 0x21 12 0 0) 0x21 (ent 12 0 0) = true ∧ (ringed 0x21 0 0 0).chanState 0 = 2 ∧ (ringed 0x21 11 0 0).chanState 11 ≠ 2 ∧
      (ringed 0x21 11 0 0).chanState 11 ≠ 4) ∧
    (takes (ringed 0x30 0 0 0) 0x30 (ent 0 0 0) = true ∧ takes (ringed 0x32 0 0 0) 0x32 (ent 0 0 0) = true) ∧
    (takes (ringed 0x31 0 0 0) 0x31 (ent 0 0 0) = true ∧ wrIs ((ringed 0x31 0 0 0).writeRstCtl cobbler 0) 0 = true ∧
      (let d := 12 <<< 44 ||| 2
       takes (ringed 0x31 d 0 0) 0x31 (ent d 0 0) = true ∧ wrIs ((ringed 0x31 d 0 0).writeRstCtl cobbler (BitVec.ofNat 64 d)) 2 = true)) := by decide +kernel

/-- The Sealed services are available. -/
def served' (op a1 a2 a3 : Nat) : State := (ringed op a1 a2 a3).setRf secStatReg 0 0 1

theorem witness_sealedPolicies :
    (takes (served' 0x40 33 0 0) 0x40 (ent 33 0 0) = true ∧ (served' 0x40 33 0 0).sealedUp = true ∧ min 0 (((served' 0x40 33 0 0).tagsOf 33).length + 1) = 0) ∧
    (let s := served' 0x40 33 0 1
     takes s 0x40 (ent 33 0 1) = true ∧ min 1 ((s.tagsOf 33).length + 1) = 1 ∧ (s.tagsOf 33)[0]? = none ∧ takes (served' 0x40 34 0 0) 0x40 (ent 34 0 0) = true) ∧
    (takes (ringed 0x41 0 0 0) 0x41 (ent 0 0 0) = true) ∧
    (takes (served' 0x50 1 0 0x8000) 0x50 (ent 1 0 0x8000) = true ∧ takes (served' 0x50 2 0 0) 0x50 (ent 2 0 0) = true ∧
      takes (served' 0x50 0 0 8) 0x50 (ent 0 0 8) = true ∧ (served' 0x50 0 0 8).boot.staged = false ∧ (served' 0x50 0 0 8).rf bootStatR 16 16 = 0) ∧
    (takes (served' 0x51 1 0 0) 0x51 (ent 1 0 0) = true ∧ takes (served' 0x51 2 0 0) 0x51 (ent 2 0 0) = true) ∧
    (let s := served' 0x52 128 0 0
     takes s 0x52 (ent 128 0 0) = true ∧ s.sec.arb < 128 ∧ s.boot.images = [] ∧ takes (served' 0x52 129 0 0) 0x52 (ent 129 0 0) = true) ∧
    (takes (served' 0x53 0 0 0) 0x53 (ent 0 0 0) = true) ∧
    (romTakes (ringOf sysUp 1 0x58 0x7F8000 0x8000 0) 0x58 (ent 0x7F8000 0x8000 0) = true ∧ romTakes (ringOf sysUp 1 0x58 0x7F8001 0x8000 0) 0x58 (ent 0x7F8001 0x8000 0) = true ∧
      romTakes (ringOf sysUp 1 0x59 0 0 0) 0x59 (ent 0 0 0) = true) := by decide +kernel

/-- Awl in a stage of the boot, with the debug enables given. -/
def awl (stage en : Nat) (b : Boot → Boot) : State :=
  let s := (sysUp.setRf bootStatR 27 24 stage).setReg dbgEnR (BitVec.ofNat 64 en)
  { s with boot := b s.boot }

theorem witness_awlService :
    ((awl 1 0 id).awlServes = false ∧ (awl 3 0 id).awlServes = true ∧ (List.replicate 253 (0 : Byte)).length ≤ 253) ∧
    ((awl 3 0 (fun b => { b with lastSeq := some 5 })).boot.lastSeq = some 5 ∧ (awl 3 0 id).boot.lastSeq = none) ∧
    ((awl 3 0 id).dbgEn 1 = false ∧ (awl 3 3 id).dbgEn 1 = true ∧ (awl 3 3 id).dbgEn 0 = true ∧ (awl 3 3 id).awlAlone = false ∧
      (awl 4 3 id).awlAlone = true ∧ (awl 4 3 id).awlServes = true) := by decide +kernel

theorem witness_awlCommands :
    ((6 : Byte).toNat ≤ 6 ∧ 6 < (7 : Byte).toNat ∧ (awl 3 0 id).rf dbgAuthR 7 4 ≠ 2 ∧ ((awl 3 0 id).setRf dbgAuthR 7 4 2).rf dbgAuthR 7 4 = 2 ∧
      (List.replicate 200 (0 : Byte)).length = 200) ∧
    (let p : List Byte := List.replicate 8 0 ++ [8, 30]
     p.length = 10 ∧ leAt p 8 1 = 8 ∧ leAt p 9 1 = 30 ∧ leAt (List.replicate 8 0 ++ [8, 31]) 9 1 = 31) ∧
    (let p : List Byte := List.replicate 8 0 ++ [8] ++ List.replicate 240 0
     leAt p 8 1 = 8 ∧ (p.drop 9).length = 240 ∧ (p.drop 9).length % 8 = 0 ∧ p.length ≤ 253) ∧
    (let p : List Byte := [33, 0, 0, 0, 0, 3]
     leAt p 0 1 = 33 ∧ leAt p 5 1 = 3 ∧ leAt [33, 0, 0, 0, 0, 4] 5 1 = 4) ∧
    (let p : List Byte := [0, 0, 48]
     leAt p 0 1 = 0 ∧ leAt p 1 1 = 0 ∧ leAt p 2 1 = 48 ∧ (awl 3 3 id).powered 0 = true ∧ (awl 3 3 id).powered (7 * 11 + 6) = false ∧
       (awl 3 3 id).dieState 0 ≠ 3 ∧ (awl 3 3 id).dieState 0 ≠ 4 ∧
       ((awl 3 3 id).setRf (dieStatR 0) 2 0 3).dieState 0 = 3 ∧ ((awl 3 3 id).setRf (dieStatR 0) 2 0 3).powered 0 = true) ∧
    (let p : List Byte := [0, 0, 0, 0, 7]
     5 ≤ p.length ∧ p.length ≤ 244 ∧ leAt p 0 4 + 1 ≤ 0x800000 ∧
       isOk ((awl 4 3 id).physStore { agent := 84, tid := 0, w := false } 0xA00000 [7] 1).2 = true ∧
       isOk (((awl 4 3 id).setRf ⟨.mcStatus, 0, 0, 0⟩ 2 0 0).physStore { agent := 84, tid := 0, w := false } 0xA00000 [7] 1).2 = false) := by decide +kernel

theorem witness_bootAndTap :
    (let s := awl 2 0 (fun b => { b with phase := 3 })
     s.down = false ∧ s.boot.phase < 10 ∧ s.boot.staged = false ∧ s.bootSrc = 0 ∧ s.rf bootStatR 16 16 = 0 ∧ (s.setRf bootStatR 16 16 1).rf bootStatR 16 16 = 1) ∧
    (1 ≤ (9 : Byte).toNat ∧ (9 : Byte).toNat ≤ 9 ∧ (9 : Byte).toNat ≠ 8 ∧ (3 : Byte).toNat ≤ 3 ∧ ¬ (10 : Byte).toNat ≤ 9) ∧
    (sysUp.power.supplyReset = false ∧ ({ sysUp.power with supplyReset := true } : Power).supplyReset = true ∧ JtagIr.bypass ≠ .extest ∧ JtagIr.bypass ≠ .clamp ∧
      JtagIr.bypass ≠ .highz) := by decide +kernel

/-! ### Ill-formed commands

One ill-formed term for each check of `wf`: the check refuses it. `exec` runs it all the same, as the row that its operands spell, or
with no effect (assumption 33). -/

/-- The command is ill-formed. -/
def bad (i : Instr) : Bool := !wf i

theorem test_illFormed_caches : (bad (.reservedInstruction c252 0x00000001) && bad (.l2CleanStart .pf0 0 1) && bad (.l2Enable .pf0 0 0) &&
    bad (.l1dDisable .pf0 0 2) && bad (.mscCleanStart .pf0 1) && bad (.adUpdate 8 0 false) && bad (.demandAllocation 8 0 false)) = true := by decide +kernel

theorem test_illFormed_links : (bad (.plinkTrainComplete 0 16 0) && bad (.plinkTrainComplete 0 31 16) && bad (.plinkRetrain .pf0 0 0) &&
    bad (.plinkClrcnt .pf0 0 0) && bad (.plinkRetrainComplete 0 (some 16) none) && bad (.plinkRetrainComplete 0 none (some 16)) &&
    bad (.stgo .pf0 0 0) && bad (.trioInjGo .pf0 0 0)) = true := by decide +kernel

theorem test_illFormed_contexts : (bad (.seasonLoadGo .pf0 0) && bad (.seasonRequest .pf0 0) && bad (.seasonEnable .pf0 0) && bad (.create 0 2) &&
    bad (.start 0 1) && bad (.stop 0 1) && bad (.kill 0 1) && bad (.modify 0 1) && bad (.migrate 0 1) && bad (.tntRstGo .pf0 0) &&
    bad (.copy 0 2 0 0 0) && bad (.fill 0 1 0 0 0) && bad (.zero 0 1 0 0 0)) = true := by decide +kernel

theorem test_illFormed_ports : (bad (.secStatRestart .pf0 0) && bad (.debugChallenge .pf0 0) && bad (.debugVerify .pf0 0) && bad (.cpVfdbMsi .pf0 0 1) &&
    bad (.cpVfdbMsi .pf0 1 0x10) && bad (.remoteRead 0 0 4 3) && bad (.remoteWrite 0 0 4 3 0) && bad (.mailboxMessage 0 0 [])) = true := by decide +kernel

theorem test_illFormed_platform : (bad (.powerRequest .pf0 0) && bad (.moduleReset .pf0 2) && bad (.dieReset .pf0 1) && bad (.trioReset .pf0 4) &&
    bad (.coreReset .pf0 3) && bad (.soleCtlCommit .pf0 2) && bad (.snap .pf0 1) && bad (.refresh .pf0 1) && bad (.soleReadGo .pf0 0 0) &&
    bad (.bootStoreEnd .pf0 0) && bad (.cdtLock .pf0 0)) = true := by decide +kernel

/-! ### Values of the manual's worked examples -/

/-- The example after R69: −7 divided by 2. -/
theorem test_div_example : ((({} : Core).startInt 0 (BitVec.ofInt 64 (-7)) 2).readyInt).arch.iu.x = 0xFFFFFFFFFFFFFFFD ∧
    ((({} : Core).startInt 2 (BitVec.ofInt 64 (-7)) 2).readyInt).arch.iu.x = 0xFFFFFFFFFFFFFFFF := by decide +kernel

/-- The decimal section's example: +125 and −300 give −175. -/
theorem test_dadd_example : (decOp false 0x125C 0x300D).1 = some 0x175D := by decide +kernel
/-- The example of R72: a carry out of fifteen digits, bit 1 of the flags being DC; an invalid digit writes nothing, and sets DV. -/
theorem test_dadd_carry : (decOp false 0x999999999999999C 0x1F).1 = some 0xC ∧ (decOp true 0x12AC 0).1 = none ∧
    (decOp false 0x999999999999999C 0x1F).2 ≠ (decOp true 0x12AC 0).2 := by decide +kernel

/-- Tininess after rounding: the five modes of the example's table; 0x01 is NX and 0x02 UF. -/
theorem test_fmul_tininess :
    let f := fmtOf false
    let r := fun (rm : Nat) => f.mul rm (f.unpack 0x3F7FFFFE) (f.unpack 0x00800001)
    r 0 = (0x00800000, 0x01) ∧ r 4 = (0x00800000, 0x01) ∧ r 3 = (0x00800000, 0x01) ∧ r 1 = (0x007FFFFF, 0x03) ∧ r 2 = (0x007FFFFF, 0x03) := by
  decide +kernel

/-- The example of R110: the home, the channel-local index and the set of PA 0x3_4567_8040. -/
theorem test_slice_example : chanOf (0x345678040 / 64) = 0 ∧ localOf (0x345678040 / 64) = 18293377 ∧ mscSet (0x345678040 / 64) = 1139 := by decide
/-- The example of chapter 7: where line 49 of granule 0x12_3458 is tracked. -/
theorem test_directory_example : let line := 0x123458 * 64 + 49; chanOf line = 8 ∧ localOf line = 6362929 ∧ dirSet line = 10033 := by decide

/-- The example of R20: the map of a die whose trio T3 is retired, and the trio behind logical trio 3. -/
theorem test_trioMap_example :
    let s := State.reset.setReg ⟨.trioMap, 0, 9, 0⟩ 0x0802CC88
    s.physOf 9 3 = some 69 ∧ s.physOf 9 4 = some 67 ∧ bit (s.reg ⟨.trioMap, 0, 9, 0⟩) 27 = true ∧ RegRef.off ⟨.trioMap, 0, 9, 0⟩ = 0x3E000248 := by
  decide +kernel

/-- The example of a custom instruction: slot 9 of the table at its index, with its two micro-operations. -/
theorem test_cdt_example :
    let s := ((State.reset.setReg (cdtSlotR 9) 0x281).setReg (cdtUopR 0x40) 0x0000021C28000000).setReg (cdtUopR 0x41) 0x0000051100000000
    s.cdtPasses 9 = true := by decide +kernel

/-- The example after R329: the register of channel 5's log. -/
theorem test_ecclog_address : RegRef.off ⟨.mcEcclog, 0, 5, 0⟩ = 0x32500010 := by decide +kernel
/-- The hold-off example's register. -/
theorem test_gctl_address : RegRef.off (gctlR 14) = 0x3100E100 := by decide +kernel
/-- The rejoining example's register: `TRIO_RSTAT` of physical trio T2 of die 5. -/
theorem test_rstat_address : RegRef.off (rstat 37) = 0x14250000 := by decide +kernel

/-- The example of R374: the header of a TAG packet of source 66. -/
theorem test_packet_header : pktHdr 66 0x0C 3 0x401A2C = 0x2133000000401A2C := by decide

/-- The example of R445: READ of `MOD_IDENT` on module 1, and the frame that answers it. -/
theorem test_awl_example :
    let s := ((State.reset.setReg ⟨.modIdent, 0, 0, 0⟩ 0x00D821C000000100).setRf bootStatR 27 24 3).setReg dbgEnR 3
    (match exec (.read ⟨7, [0, 0, 0, 0x3E, 0, 0x3F, 0, 0, 8, 1]⟩) s with
     | .next t => t.boot.awlOut
     | _ => []) = [[0x5A, 0x0A, 7, 0, 0, 1, 0, 0, 0xC0, 0x21, 0xD8, 0, 0x35]] := by decide +kernel

/-- The weights of the electromigration example: 78 °C accrues 0.87055 and 95 °C 2.82843 of a powered hour, in units of 2^−32. -/
theorem test_em_weights : (emWeight (78 + 64)) / 2 ^ 22 = 891 ∧ (emWeight (95 + 64)) / 2 ^ 22 = 2896 := by decide +kernel

end Sys2Proof.Tests
end

section
/-! SUPPORT. What a register, a die, a trio and a core read as right after reset, and obligation O5. -/

namespace Sys2Proof.Machine

/-! ### Registers after reset -/

/-- The reset itself writes two registers, `RST_CAUSE` and the service trio's `TRIO_RSTAT` (R9, R405). -/
theorem reg_reset_of_off_ne {r : RegRef} (hc : r.off ≠ rstCauseR.off) (hs : r.off ≠ (rstat svcTrio).off) :
    State.reset.reg r = r.dflt := by
  have hc' : 0x36000208 ≠ r.off := hc.symm
  have hs' : 0x3D050000 ≠ r.off := hs.symm
  simp [State.reg, State.reset, SMap.get, hc', hs']

theorem reg_reset_rstCauseR : State.reset.reg rstCauseR = 0x100000100 := rfl

theorem reg_reset_svcStat : State.reset.reg (rstat svcTrio) = 0x600032 := rfl

/-- The block of the identity registers lies above both registers that the reset writes (R31). -/
theorem reg_reset_of_le_off {r : RegRef} (h : 0x3E000000 ≤ r.off) : State.reset.reg r = r.dflt := by
  have hc : rstCauseR.off = 0x36000208 := rfl
  have hs : (rstat svcTrio).off = 0x3D050000 := rfl
  exact reg_reset_of_off_ne (by omega) (by omega)

theorem reg_reset_modIdent : State.reset.reg ⟨.modIdent, 0, 0, 0⟩ = 0x00D821C000000000 :=
  (reg_reset_of_le_off (by decide)).trans (by decide)

theorem mapR_off (d : Nat) : (mapR d).off = 0x3E000200 + d * 8 := by
  simp [RegRef.off, mapR, Reg.place, zoneBase]

theorem dieStatR_off (d : Nat) : (dieStatR d).off = 0x3E000100 + d * 8 := by
  simp [RegRef.off, dieStatR, Reg.place, zoneBase]

theorem dieStatR_dflt (d : Nat) : (dieStatR d).dflt = 0 :=
  calc (dieStatR d).dflt
    _ = (dieStatR 0).dflt := rfl
    _ = 0 := by decide

/-- Physical trio `LOGk` of every die is trio `k`, and none is retired (R33). -/
theorem reg_reset_mapR (d : Nat) : State.reset.reg (mapR d) = 0x2C688 :=
  reg_reset_of_le_off (by rw [mapR_off]; omega)

theorem reg_reset_dieStatR (d : Nat) : State.reset.reg (dieStatR d) = 0 :=
  (reg_reset_of_le_off (by rw [dieStatR_off]; omega)).trans (dieStatR_dflt d)

/-! ### Dies and trios after reset -/

theorem dieState_reset (d : Nat) : State.reset.dieState d = 0 := by
  simp [State.dieState, State.rf, reg_reset_dieStatR, fld]

theorem powered_reset_of_ne {t : Nat} (h : t ≠ svcTrio) : State.reset.powered t = false := by
  simp [State.powered, reg_reset_dieStatR, bit, h]

theorem trioMode_reset_svcTrio : State.reset.trioMode svcTrio = 2 := by
  change fld (State.reset.reg (rstat svcTrio)) 1 0 = 2
  rw [reg_reset_svcStat]
  decide

theorem seasonsOn_reset : State.reset.seasonsOn = false := by
  rw [State.seasonsOn, reg_reset_of_off_ne (by decide) (by decide)]
  decide

theorem bootStore_reset : State.reset.bootStore = true := by
  rw [State.bootStore, State.rf, reg_reset_of_off_ne (by decide) (by decide)]
  decide

/-! ### Cores after reset -/

/-- The cores of the service trio begin alike: two of them copy the third (R18). -/
theorem core_reset_of_service {c : Nat} (hl : 252 ≤ c) (hu : c < 255) : State.reset.core c = Core.svcReset := by
  obtain rfl | rfl | rfl : c = 252 ∨ c = 253 ∨ c = 254 := by omega
  all_goals rfl

theorem core_reset_of_compute {c : Nat} (h : c < 252) : State.reset.core c = {} := by
  have h0 : 252 ≠ c := by omega
  have h1 : 253 ≠ c := by omega
  have h2 : 254 ≠ c := by omega
  simp [State.core, State.reset, SMap.get, h0, h1, h2]

theorem svcReset_pl : Core.svcReset.pl = 3 := by decide

theorem svcReset_w : Core.svcReset.w = true := by decide

/-! ### The obligation -/

/-- Settles O5: only two registers and the service trio's cores are listed in the reset state, so that every other register and
core is as the table's default has it. -/
theorem resetState : Obligations.ResetState := by
  refine ⟨fun _ => reg_reset_of_off_ne, reg_reset_modIdent, fun d _ => reg_reset_mapR d, ?cause, ?supply, ?count,
    trioMode_reset_svcTrio, fun d _ => dieState_reset d, fun t ht => powered_reset_of_ne (Nat.ne_of_lt ht), seasonsOn_reset,
    bootStore_reset, ?compute, ?service, rfl, rfl, rfl⟩
  case cause | supply | count =>
    rw [State.rf, reg_reset_rstCauseR]
    decide
  case compute =>
    intro c hc
    rw [core_reset_of_compute hc]
  case service =>
    intro c hl hu
    rw [core_reset_of_service hl hu]
    exact ⟨rfl, rfl, svcReset_pl, svcReset_w⟩

end Sys2Proof.Machine
end

section
/-! SUPPORT. The commands of the Global Context Engine: what a row comes to by the entry at its queue's head, and how each command
ends (R254, R255, R276-R281, R286, R290). -/

namespace Sys2Proof.Machine

/-! ### The rows -/

/-- Queue `q` has its turn, and no tenant reset holds the command up (R281, R293, R296). -/
def State.serves (s : State) (q : Fin 33) (e : Dword) : Prop :=
  s.cxqTurn q.val = true ∧ (q.val = 32 → s.resetting (fld e 50 46) = false)

/-- The tenant that a command is for: queue 32 names it in the entry (R278). -/
def cmdTid (q : Fin 33) (e : Dword) : Nat := if q.val = 32 then fld e 50 46 else q.val

/-- The rotation stands behind queue `q` (R281). -/
def State.turnPast (s : State) (q : Fin 33) : State := { s with gce := { s.gce with turn := (q.val + 1) % 33 } }

variable {s was x y u : State} {q : Fin 33} {e : Dword}

/-- The guard of a command row. -/
theorem serves_iff : s.serves q e ↔ (!s.cxqTurn q.val || (q.val = 32 && s.resetting (fld e 50 46))) = false := by
  simp [State.serves]

theorem gceRow_of_not_serves (h : ¬ s.serves q e) : gceRow q e s = .next s.finish := by
  rw [serves_iff, Bool.not_eq_false] at h
  simp only [gceRow, h, if_true, done]

theorem gceRow_of_other_head {o : Option Dword} (h : s.serves q e) (hh : s.cxqHead q.val = (y, o)) (ho : o ≠ some e) :
    gceRow q e s = .next y.finish := by
  rw [serves_iff] at h
  cases o with
  | none => simp only [gceRow, h, hh, done, Bool.false_eq_true, if_false]
  | some e' =>
    have he : e' ≠ e := fun he => ho (congrArg some he)
    simp only [gceRow, h, hh, done, he, Bool.false_eq_true, if_false]

theorem gceRow_of_head (h : s.serves q e) (hh : s.cxqHead q.val = (was, some e)) :
    gceRow q e s = .next (((was.turnPast q).serve q e).skipBad q 4096).finish := by
  rw [serves_iff] at h
  simp only [gceRow, h, hh, done, Bool.false_eq_true, if_false, if_true, State.turnPast]

/-- A queue as the slots of waiting KILLs name it. -/
theorem castLE_queue (q : Fin 33) : q.castLE (by decide) = Fin.ofNat 35 q.val :=
  Fin.ext (Nat.mod_eq_of_lt (by omega)).symm

theorem serve_of_done {st : Nat} {id : Option Nat} {ended : Bool}
    (h : y.command (Fin.ofNat 35 q.val) (cmdTid q e) e = (x, .done st id ended)) :
    y.serve q e = x.cxqComplete q.val e st id ended := by
  rw [cmdTid] at h
  simp only [State.serve, castLE_queue, h]

theorem serve_of_held (h : y.command (Fin.ofNat 35 q.val) (cmdTid q e) e = (x, .held)) : y.serve q e = x := by
  rw [cmdTid] at h
  simp only [State.serve, castLE_queue, h]

theorem gceRow_of_done {st : Nat} {id : Option Nat} {ended : Bool} (h : s.serves q e)
    (hh : s.cxqHead q.val = (was, some e))
    (hc : (was.turnPast q).command (Fin.ofNat 35 q.val) (cmdTid q e) e = (x, .done st id ended)) :
    gceRow q e s = .next ((x.cxqComplete q.val e st id ended).skipBad q 4096).finish := by
  rw [gceRow_of_head h hh, serve_of_done hc]

theorem gceRow_of_held (h : s.serves q e) (hh : s.cxqHead q.val = (was, some e))
    (hc : (was.turnPast q).command (Fin.ofNat 35 q.val) (cmdTid q e) e = (x, .held)) :
    gceRow q e s = .next (x.skipBad q 4096).finish := by
  rw [gceRow_of_head h hh, serve_of_held hc]

/-! ### The rotation (R281) -/

theorem cxqTurn_of_turn (ht : s.gce.turn = q.val) (hw : s.cxqWaits q.val = true) (hs : s.cxqStopped q.val = false) :
    s.cxqTurn q.val = true := by
  have hq : (q.val + 0) % 33 = q.val := Nat.mod_eq_of_lt q.isLt
  have hl : (List.range 33).map (fun i => (q.val + i) % 33) =
      q.val :: ((List.range 32).map Nat.succ).map (fun i => (q.val + i) % 33) := by
    rw [show List.range 33 = 0 :: (List.range 32).map Nat.succ from List.range_succ_eq_map, List.map_cons, hq]
  simp only [State.cxqTurn, State.cxqReady, ht, hw, hs, hl]
  simp

theorem cxqTurn_of_not_ready {n : Nat} (h : s.cxqWaits n = false ∨ s.cxqStopped n = true) : s.cxqTurn n = false := by
  have hr : s.cxqReady n = false := by
    rcases h with h | h <;> simp [State.cxqReady, h]
  simp [State.cxqTurn, hr]

/-! ### The command that an entry spells (R278-R280) -/

variable {k : Fin 35} {tid t n m h cid : Nat}

theorem command_create (hop : fld e 7 0 = 1) :
    y.command k tid e = y.cmdCreate tid (fld e 31 20) (fld e 44 32) (bit e 45) := by
  simp [State.command, hop]

/-- A command for a context that its handle names is looked at once the handle has been (R280). -/
theorem command_of_found (hl : 2 ≤ fld e 7 0) (hu : fld e 7 0 ≤ 6) (hf : y.findHandle tid (fld e 31 20) = some (t, n)) :
    y.command k tid e =
      if (y.slot t n).killQ.isSome then refuse y 0x04
      else if fld e 7 0 = 2 then y.cmdStart t n
      else if fld e 7 0 = 3 then y.cmdStop t n
      else if fld e 7 0 = 4 then y.cmdKill t n k
      else if fld e 7 0 = 5 then y.cmdModify tid t n (fld e 31 20)
      else y.cmdMigrate tid t n (fld e 31 20) (fld e 44 32) := by
  have h1 : ¬ (fld e 7 0 = 0 ∨ 6 < fld e 7 0) := by omega
  have h2 : fld e 7 0 ≠ 1 := by omega
  simp only [State.command, if_neg h1, if_neg h2, hf]

theorem command_of_unknown (hl : 2 ≤ fld e 7 0) (hu : fld e 7 0 ≤ 6) (hf : y.findHandle tid (fld e 31 20) = none) :
    y.command k tid e = refuse y 0x03 := by
  have h1 : ¬ (fld e 7 0 = 0 ∨ 6 < fld e 7 0) := by omega
  have h2 : fld e 7 0 ≠ 1 := by omega
  simp only [State.command, if_neg h1, if_neg h2, hf]

section
variable (hf : y.findHandle tid (fld e 31 20) = some (t, n)) (hk : (y.slot t n).killQ = none)
include hf hk

theorem command_start (hop : fld e 7 0 = 2) : y.command k tid e = y.cmdStart t n := by
  rw [command_of_found (by omega) (by omega) hf]
  simp [hk, hop]

theorem command_stop (hop : fld e 7 0 = 3) : y.command k tid e = y.cmdStop t n := by
  rw [command_of_found (by omega) (by omega) hf]
  simp [hk, hop]

theorem command_kill (hop : fld e 7 0 = 4) : y.command k tid e = y.cmdKill t n k := by
  rw [command_of_found (by omega) (by omega) hf]
  simp [hk, hop]

theorem command_modify (hop : fld e 7 0 = 5) : y.command k tid e = y.cmdModify tid t n (fld e 31 20) := by
  rw [command_of_found (by omega) (by omega) hf]
  simp [hk, hop]

theorem command_migrate (hop : fld e 7 0 = 6) :
    y.command k tid e = y.cmdMigrate tid t n (fld e 31 20) (fld e 44 32) := by
  rw [command_of_found (by omega) (by omega) hf]
  simp [hk, hop]

end

/-! ### What each command comes to (R254, R279, R280) -/

theorem badTarget_iff : badTarget cid = true ↔ 12 ≤ cid / 512 ∨ 6 ≤ cid / 64 % 8 := by
  simp [badTarget]

section
variable {any : Bool} {d : List Dword}

theorem cmdCreate_of_known (h : y.findHandle tid n ≠ none) : y.cmdCreate tid n cid any = refuse y 0x08 := by
  rw [State.cmdCreate, if_pos (Option.isSome_iff_ne_none.mpr h)]

theorem cmdCreate_of_badTarget (hf : y.findHandle tid n = none) (hb : badTarget cid = true) :
    y.cmdCreate tid n cid any = refuse y 0x02 := by
  simp [State.cmdCreate, hf, hb]

theorem cmdCreate_of_offline (hf : y.findHandle tid n = none) (hb : ¬ badTarget cid = true) (ht : y.target cid = none) :
    y.cmdCreate tid n cid any = refuse y 0x09 := by
  simp [State.cmdCreate, hf, hb, ht]

/-- The slot of trio `t` that a CREATE takes: the lowest that is Free, or the one that the command names (R279). -/
def State.createSlot (s : State) (t cid : Nat) (any : Bool) : Option Nat :=
  if any = true then s.lowFree t else if (s.slot t (cid % 64)).state = .free then some (cid % 64) else none

theorem cmdCreate_of_noRoom (hf : y.findHandle tid n = none) (hb : ¬ badTarget cid = true) (ht : y.target cid = some t)
    (hr : y.createSlot t cid any = none) : y.cmdCreate tid n cid any = refuse y 0x05 := by
  rw [State.createSlot] at hr
  simp [State.cmdCreate, hf, hb, ht, hr]

theorem cmdCreate_of_unread (hf : y.findHandle tid n = none) (hb : ¬ badTarget cid = true) (ht : y.target cid = some t)
    (hr : y.createSlot t cid any = some m) (hd : y.readDesc tid n = (u, none)) :
    y.cmdCreate tid n cid any = refuse u 0x0A := by
  rw [State.createSlot] at hr
  simp [State.cmdCreate, hf, hb, ht, hr, hd]

theorem cmdCreate_of_badDesc (hf : y.findHandle tid n = none) (hb : ¬ badTarget cid = true) (ht : y.target cid = some t)
    (hr : y.createSlot t cid any = some m) (hd : y.readDesc tid n = (u, some d)) (hc : u.checkDesc tid d ≠ 0) :
    y.cmdCreate tid n cid any = refuse u (u.checkDesc tid d) := by
  rw [State.createSlot] at hr
  simp [State.cmdCreate, hf, hb, ht, hr, hd, hc]

/-- The slot of a new context, with its register image (R254, R255). -/
def newSlot (tid h id : Nat) (d : List Dword) : Slot :=
  { state := .suspended, desc := withCid d id, eff := withCid d id, arch := newArch (withCid d id), fdone := true,
    handle := BitVec.ofNat 12 h, tid := (BitVec.ofNat 5 tid).toFin }

theorem cmdCreate_of_accepted (hf : y.findHandle tid n = none) (hb : ¬ badTarget cid = true) (ht : y.target cid = some t)
    (hr : y.createSlot t cid any = some m) (hd : y.readDesc tid n = (u, some d)) (hc : u.checkDesc tid d = 0) :
    y.cmdCreate tid n cid any =
      ((((u.setSlot t m (newSlot tid n (u.cidOf t m) d)).resolve tid n (u.cidOf t m)).writeCid tid n (u.cidOf t m)),
        .done 0 (some (u.cidOf t m)) false) := by
  rw [State.createSlot] at hr
  simp [State.cmdCreate, hf, hb, ht, hr, hd, hc, newSlot]

theorem cmdModify_of_unread (hd : y.readDesc tid h = (u, none)) : y.cmdModify tid t n h = refuse u 0x0A := by
  simp [State.cmdModify, hd]

theorem cmdModify_of_badDesc (hd : y.readDesc tid h = (u, some d)) (hc : u.checkDesc tid d ≠ 0) :
    y.cmdModify tid t n h = refuse u (u.checkDesc tid d) := by
  simp [State.cmdModify, hd, hc]

theorem cmdModify_of_accepted (hd : y.readDesc tid h = (u, some d)) (hc : u.checkDesc tid d = 0) :
    y.cmdModify tid t n h = ((u.modify t n d).1, .done 0 (some (u.cidOf t n)) (u.modify t n d).2) := by
  simp [State.cmdModify, hd, hc]

end

theorem cmdStart_of_suspended (h : (y.slot t n).state = .suspended) :
    y.cmdStart t n =
      (y.modSlot t n (fun k => { k with state := .dormant, fdone := true, late := true }),
        .done 0 (some (y.cidOf t n)) false) := by
  simp [State.cmdStart, h]

/-- The context in a slot leaves the stream that it runs on, if it runs (R252). -/
def State.offStream (s : State) (t n : Nat) (dest : CtxState) : State :=
  match s.coreOf t n with
  | some c => s.leave t (coreIn c) dest
  | none => s

/-- A KILL frees the slot, unless an access of the context is outstanding: then the queue's entry waits (R276, R279). -/
theorem cmdKill_eq (y : State) (t n : Nat) (k : Fin 35) :
    y.cmdKill t n k =
      if ((y.offStream t n .suspended).slot t n).outstanding then
        (((y.offStream t n .suspended).modSlot t n (fun b => { b with killQ := some k, frame := none, watch := 0 })).redispatch t,
          .held)
      else (((y.offStream t n .suspended).freeSlot t n).redispatch t, .done 0 (some (y.cidOf t n)) false) := rfl

theorem cmdKill_of_idle (h : ((y.offStream t n .suspended).slot t n).outstanding = false) :
    y.cmdKill t n k = (((y.offStream t n .suspended).freeSlot t n).redispatch t, .done 0 (some (y.cidOf t n)) false) := by
  rw [cmdKill_eq, h]
  rfl

theorem cmdKill_of_outstanding (h : ((y.offStream t n .suspended).slot t n).outstanding = true) :
    y.cmdKill t n k = (((y.offStream t n .suspended).modSlot t n (fun b =>
      { b with killQ := some k, frame := none, watch := 0 })).redispatch t, .held) := by
  rw [cmdKill_eq, if_pos h]

/-- The context in a slot is marked to move to the die and the logical trio of a context ID (R286). -/
def State.marked (s : State) (t n cid : Nat) : State :=
  s.modSlot t n (fun k => { k with mig := some (Fin.ofNat 12 (cid / 512), Fin.ofNat 6 (cid / 64 % 8)) })

theorem cmdMigrate_of_marked (h : (y.slot t n).mig ≠ none) : y.cmdMigrate tid t n m cid = refuse y 0x0C := by
  rw [State.cmdMigrate, if_pos (Option.isSome_iff_ne_none.mpr h)]

theorem cmdMigrate_of_badTarget (h : (y.slot t n).mig = none) (hb : badTarget cid = true) :
    y.cmdMigrate tid t n m cid = refuse y 0x02 := by
  simp [State.cmdMigrate, h, hb]

theorem cmdMigrate_of_offline (h : (y.slot t n).mig = none) (hb : ¬ badTarget cid = true) (ht : y.target cid = none) :
    y.cmdMigrate tid t n m cid = refuse y 0x09 := by
  simp [State.cmdMigrate, h, hb, ht]

/-- With no ticks a marked context moves at once (R286). -/
def State.movedNow (s : State) (t n cid : Nat) : State :=
  (((s.marked t n cid).offStream t n .ready).migrateAll t).redispatch t

theorem cmdMigrate_of_accepted (h : (y.slot t n).mig = none) (hb : ¬ badTarget cid = true) (ht : y.target cid ≠ none) :
    y.cmdMigrate tid t n m cid =
      (let z := if y.running then y.marked t n cid else y.movedNow t n cid
       (z, .done 0 ((z.findHandle tid m).map (fun p => z.cidOf p.1 p.2)) false)) := by
  obtain ⟨p, hp⟩ := Option.ne_none_iff_exists'.mp ht
  rw [State.cmdMigrate, if_neg (by simp [h]), if_neg hb, hp]
  rfl

/-! ### The commands as the engine serves them -/

/-- The six rows differ in name only: the OP of the entry at HEAD says which command is carried out (R278). -/
theorem contextCommands : ContextCommands := by
  intro s q e op tid h cid serves row ends refused badId off
  have rowOf : ∀ o, gceRow q e s = o → row o :=
    fun o ho => ⟨fun _ => ho, fun _ => ho, fun _ => ho, fun _ => ho, fun _ => ho, fun _ => ho⟩
  refine ⟨fun hs => rowOf _ (gceRow_of_not_serves hs), cxqTurn_of_turn, cxqTurn_of_not_ready,
    fun hs y o hh ho => rowOf _ (gceRow_of_other_head hs hh ho), fun hs was hh => ?served⟩
  intro y found
  have rowEnds : ∀ {x st id ended}, y.command (Fin.ofNat 35 q.val) tid e = (x, .done st id ended) →
      gceRow q e s = ends x st id ended := gceRow_of_done hs hh
  refine ⟨?known, ?badTarget, ?offline, ?create, ?unknown, ?found⟩
  case known =>
    exact fun hop hf => rowEnds ((command_create hop).trans (cmdCreate_of_known hf))
  case badTarget =>
    exact fun hop hf hb => rowEnds ((command_create hop).trans (cmdCreate_of_badTarget hf (badTarget_iff.mpr hb)))
  case offline =>
    exact fun hop hf hb ht => rowEnds ((command_create hop).trans (cmdCreate_of_offline hf (mt badTarget_iff.mp hb) ht))
  case create =>
    intro t hop hf hb ht room
    have hb' : ¬ badTarget cid = true := mt badTarget_iff.mp hb
    refine ⟨fun hr => rowEnds ((command_create hop).trans (cmdCreate_of_noRoom hf hb' ht hr)), fun n hr =>
      ⟨fun u hd => rowEnds ((command_create hop).trans (cmdCreate_of_unread hf hb' ht hr hd)), fun u d hd =>
        ⟨fun hc => rowEnds ((command_create hop).trans (cmdCreate_of_badDesc hf hb' ht hr hd hc)), fun hc =>
          rowEnds ((command_create hop).trans (cmdCreate_of_accepted hf hb' ht hr hd hc))⟩⟩⟩
  case unknown =>
    exact fun hl hu hf => rowOf _ (rowEnds (command_of_unknown hl hu hf))
  case found =>
    intro t n hf b id held
    refine ⟨fun hl hu hk => rowOf _ (rowEnds (by rw [command_of_found hl hu hf, if_pos hk]; rfl)), fun hk => ?live⟩
    refine ⟨?start, ?started, ?stopped, ?stop, ?kill, ?killWaits, ?unread, ?modify, ?migrating, ?badTarget, ?offline, ?migrate⟩
    case start =>
      exact fun hop hs => rowEnds ((command_start hf hk hop).trans (if_pos hs))
    case started =>
      exact fun hop hs => rowEnds ((command_start hf hk hop).trans (cmdStart_of_suspended hs))
    case stopped =>
      exact fun hop hs => rowEnds ((command_stop hf hk hop).trans (if_pos hs))
    case stop =>
      exact fun hop hs => rowEnds ((command_stop hf hk hop).trans (if_neg hs))
    case kill =>
      exact fun hop ho => rowEnds ((command_kill hf hk hop).trans (cmdKill_of_idle ho))
    case killWaits =>
      exact fun hop ho => gceRow_of_held hs hh ((command_kill hf hk hop).trans (cmdKill_of_outstanding ho))
    case unread =>
      exact fun hop u hd => rowEnds ((command_modify hf hk hop).trans (cmdModify_of_unread hd))
    case modify =>
      exact fun hop u d hd => ⟨fun hc => rowEnds ((command_modify hf hk hop).trans (cmdModify_of_badDesc hd hc)),
        fun hc => rowEnds ((command_modify hf hk hop).trans (cmdModify_of_accepted hd hc))⟩
    case migrating =>
      exact fun hop hm => rowEnds ((command_migrate hf hk hop).trans (cmdMigrate_of_marked hm))
    case badTarget =>
      exact fun hop hm hb => rowEnds ((command_migrate hf hk hop).trans (cmdMigrate_of_badTarget hm (badTarget_iff.mpr hb)))
    case offline =>
      exact fun hop hm hb ht => rowEnds ((command_migrate hf hk hop).trans
        (cmdMigrate_of_offline hm (mt badTarget_iff.mp hb) ht))
    case migrate =>
      intro hop hm hb ht
      have hc := (command_migrate (k := Fin.ofNat 35 q.val) hf hk hop).trans
        (cmdMigrate_of_accepted hm (mt badTarget_iff.mp hb) ht)
      refine ⟨fun hr => rowEnds (hc.trans ?_), fun hr => rowEnds (hc.trans ?_)⟩
      · rw [if_pos hr]
        rfl
      · rw [if_neg (by simp [hr])]
        rfl

end Sys2Proof.Machine
end

section
/-! SUPPORT. What a descriptor's fields must be, and what a new context starts with (R254, R255). -/

namespace Sys2Proof.Machine

/-- The descriptor says that it is in use, and names its tenant (R254). -/
def DescNamed (tid : Nat) (d : List Dword) : Prop := bit (d.getD 0 0) 63 = true ∧ dfld d 0 62 58 = tid

/-- The fields of a descriptor lie in their ranges (R254). -/
def State.DescFormed (s : State) (tid : Nat) (d : List Dword) : Prop :=
  dfld d 0 28 27 ≠ 3 ∧ 1 ≤ dfld d 2 20 0 ∧ dfld d 2 20 0 ≤ 1048576 ∧ s.frames % (dfld d 2 26 21 + 1) = 0 ∧
    dfld d 2 32 27 ≤ dfld d 2 26 21 ∧ dfld d 2 52 33 < s.period ∧ dfld d 4 1 0 = 0 ∧ dfld d 7 11 0 = 0 ∧ dfld d 8 11 0 = 0 ∧
    (tid = 0 → dfld d 0 57 46 ≠ 0xFFF)

/-- The redundancy is at least that of the tenant's class (R193). -/
def State.DescStrong (s : State) (tid : Nat) (d : List Dword) : Prop :=
  (s.classOf tid = 0 → 2 ≤ dfld d 0 28 27) ∧ (s.classOf tid = 1 → 1 ≤ dfld d 0 28 27)

variable {s : State} {tid : Nat} {d : List Dword}

theorem demands_le_iff : ¬ dfld d 0 28 27 < s.demands tid ↔ s.DescStrong tid d := by
  unfold State.demands State.DescStrong
  split_ifs with h0 h1
  · simp [h0]
    omega
  · simp [h1]
    omega
  · simp [h0, h1]

theorem checkDesc_of_not_named (h : ¬ DescNamed tid d) : s.checkDesc tid d = 0x0B := by
  have hc : !bit (d.getD 0 0) 63 ∨ dfld d 0 62 58 ≠ tid := by
    by_contra hn
    exact h (by simpa [DescNamed] using hn)
  simp only [State.checkDesc, if_pos hc]

theorem not_unnamed (h : DescNamed tid d) : ¬ (!bit (d.getD 0 0) 63 ∨ dfld d 0 62 58 ≠ tid) := by
  simpa [DescNamed] using h

/-- The refusal of R254's ranges is the negation of their list. -/
theorem descFormed_iff : s.DescFormed tid d ↔
    ¬ (dfld d 0 28 27 = 3 ∨ dfld d 2 20 0 = 0 ∨ 1048576 < dfld d 2 20 0 ∨ s.frames % (dfld d 2 26 21 + 1) ≠ 0 ∨
      dfld d 2 26 21 < dfld d 2 32 27 ∨ s.period ≤ dfld d 2 52 33 ∨ dfld d 4 1 0 ≠ 0 ∨ dfld d 7 11 0 ≠ 0 ∨ dfld d 8 11 0 ≠ 0 ∨
      (tid = 0 ∧ dfld d 0 57 46 = 0xFFF)) := by
  simp only [State.DescFormed, not_or, not_and, not_lt, not_le, ne_eq, not_not, Nat.one_le_iff_ne_zero]

theorem checkDesc_of_not_formed (hn : DescNamed tid d) (h : ¬ s.DescFormed tid d) : s.checkDesc tid d = 0x07 := by
  rw [descFormed_iff, not_not] at h
  simp only [State.checkDesc, if_neg (not_unnamed hn), if_pos h]

theorem checkDesc_of_not_strong (hn : DescNamed tid d) (hf : s.DescFormed tid d) (h : ¬ s.DescStrong tid d) :
    s.checkDesc tid d = 0x06 := by
  rw [← demands_le_iff, not_not] at h
  simp only [State.checkDesc, if_neg (not_unnamed hn), if_neg (descFormed_iff.mp hf), if_pos h]

theorem checkDesc_of_accepted (hn : DescNamed tid d) (hf : s.DescFormed tid d) (hs : s.DescStrong tid d) :
    s.checkDesc tid d = 0 := by
  simp only [State.checkDesc, if_neg (not_unnamed hn), if_neg (descFormed_iff.mp hf), if_neg (demands_le_iff.mpr hs)]

theorem newArch_rd_other {r : Nat} (hs : r ≠ 30) (ha : r ≠ 10) : (newArch d).rd r = 0 := by
  have hr : SMap.get 0 (newArch d).regs r = 0 :=
    (SMap.get_put_other _ _ _ ha).trans (SMap.get_put_other _ _ _ hs)
  rw [Arch.rd, hr, ite_self]

theorem newArch_stack : (newArch d).rd 30 = d.getD 5 0 :=
  (SMap.get_put_other _ _ _ (by decide)).trans (SMap.get_put_same ..)

theorem newArch_arg : (newArch d).rd 10 = d.getD 6 0 := SMap.get_put_same ..

/-- `CSTAT` of a new context (R255): IPL, INIE and IFIE, all else 0. -/
theorem newArch_cstat : SMap.get 0 (newArch d).csr 0x100 =
    setFld (setFld (setFld 0 4 3 (dfld d 0 22 22)) 0 0 (dfld d 0 21 21)) 1 1 (dfld d 0 20 20) :=
  ((SMap.get_put_other _ _ _ (by decide)).trans (SMap.get_put_other _ _ _ (by decide))).trans (SMap.get_put_same ..)

/-- A flag of a descriptor, put into a field, reads back. -/
theorem fld_setFld_flag (x : Dword) {hi lo : Nat} (v : Dword) (i : Nat) (hn : hi < 64) (hw : lo ≤ hi) :
    fld (setFld x hi lo (fld v i i)) hi lo = fld v i i := by
  have hv : fld v i i < 2 ^ 1 := (fld_lt v i i).trans_eq (by simp)
  rw [fld_setFld _ _ _ _ hn, Nat.mod_eq_of_lt (hv.trans_le (Nat.pow_le_pow_right (by decide) (by omega)))]

theorem newArch_pl : fld (SMap.get 0 (newArch d).csr 0x100) 4 3 = fld (d.getD 0 0) 22 22 := by
  rw [newArch_cstat, fld_setFld_other _ _ _ _ _ _ (by decide) (by decide), fld_setFld_other _ _ _ _ _ _ (by decide) (by decide)]
  exact fld_setFld_flag _ _ _ (by decide) (by decide)

theorem newArch_nie : fld (SMap.get 0 (newArch d).csr 0x100) 0 0 = fld (d.getD 0 0) 21 21 := by
  rw [newArch_cstat, fld_setFld_other _ _ _ _ _ _ (by decide) (by decide)]
  exact fld_setFld_flag _ _ _ (by decide) (by decide)

theorem newArch_fie : fld (SMap.get 0 (newArch d).csr 0x100) 1 1 = fld (d.getD 0 0) 20 20 := by
  rw [newArch_cstat]
  exact fld_setFld_flag _ _ _ (by decide) (by decide)

theorem newArch_kvec : SMap.get 0 (newArch d).csr 0x106 = evecBase (d.getD 7 0) :=
  (SMap.get_put_other _ _ _ (by decide)).trans (SMap.get_put_same ..)

theorem newArch_fvec : SMap.get 0 (newArch d).csr 0x116 = evecBase (d.getD 8 0) := SMap.get_put_same ..

theorem evecBase_toNat (v : Dword) : (evecBase v).toNat = fld v 47 12 * 4096 := by
  have h : fld v 47 12 < 2 ^ 36 := fld_lt v 47 12
  simp [evecBase, setFld, Nat.shiftLeft_eq]
  omega

/-- The checks of a descriptor in their order, and the registers that a new context does not start at zero (R254, R255). -/
theorem newContexts : NewContexts := by
  intro s tid d redun budget pmul named formed strong a
  refine ⟨checkDesc_of_not_named, checkDesc_of_not_formed, checkDesc_of_not_strong, checkDesc_of_accepted, rfl,
    newArch_stack, newArch_arg, rfl, fun r => newArch_rd_other, newArch_pl, newArch_nie, newArch_fie, ?_, ?_⟩
  · rw [newArch_kvec, evecBase_toNat]
  · rw [newArch_fvec, evecBase_toNat]

end Sys2Proof.Machine
end

section
/-! SUPPORT. Spare substitution and the loss of a trio (R20, R243, R287, R468). -/

namespace Sys2Proof.Machine

/-! ### A substitution begins (R287) -/

/-- What a substitution waits for, by its cause (R192, R215, R287). -/
def State.SubstDue (s : State) (t : Nat) : SubstCause → Prop
  | .checker => s.rf (rstat t) 10 10 = 1
  | .block => s.failed t = true
  | .retire => True

variable {s : State} {d : DieId} {k : Fin 6} {t : TrioId} {cause : SubstCause}

theorem exec_spareSubstitution_of_due (hb : s.physOf d.val k.val = some t.val) (hd : s.SubstDue t.val cause)
    (hr : s.spareReady d.val (decide (cause = .checker)) = true) :
    exec (.spareSubstitution d k cause) s = .next (s.substitute d k t cause).finish := by
  change execSpareSubstitution d k cause s = _
  simp only [execSpareSubstitution, hb, t.isLt, dif_pos]
  cases cause <;> exact congrArg done (if_pos (by simpa [State.SubstDue] using And.intro hd hr))

theorem exec_spareSubstitution_of_not_due (hb : s.physOf d.val k.val = some t.val)
    (h : ¬ (s.SubstDue t.val cause ∧ s.spareReady d.val (decide (cause = .checker)) = true)) :
    exec (.spareSubstitution d k cause) s = .next s.finish := by
  change execSpareSubstitution d k cause s = _
  simp only [execSpareSubstitution, hb, t.isLt, dif_pos]
  cases cause <;> exact congrArg done (if_neg (by simpa [State.SubstDue] using h))

theorem exec_spareSubstitution_of_unmapped (hb : s.physOf d.val k.val = none) :
    exec (.spareSubstitution d k cause) s = .next s.finish := by
  change execSpareSubstitution d k cause s = _
  simp only [execSpareSubstitution, hb, done]

/-! ### Its copy ends (R287) -/

theorem exec_spareCopyComplete_of_none (h : ∀ y ∈ s.gce.subst, y.die ≠ d ∨ y.copied = true) :
    exec (.spareCopyComplete d) s = .next s.finish := by
  change execSpareCopyComplete d s = _
  have hf : s.gce.subst.find? (fun x => decide (x.die = d) && !x.copied) = none := by
    rw [List.find?_eq_none]
    intro y hy
    rcases h y hy with hd | hc
    · simp [hd]
    · simp [hc]
  simp only [execSpareCopyComplete, hf, done]

/-- The substitution's copy has ended. -/
def State.copyEnded (s : State) (x : Subst) : State :=
  { s with gce := { s.gce with subst := [{ x with copied := true }] } }

section
variable {x : Subst} (hs : s.gce.subst = [x]) (hd : x.die = d) (hc : x.copied = false)
include hs hd hc

theorem exec_spareCopyComplete_of_testing (ht : s.rf (rstat (spareOf d.val)) 9 8 = 1) :
    exec (.spareCopyComplete d) s = .next s.finish := by
  change execSpareCopyComplete d s = _
  simp [execSpareCopyComplete, hs, hd, hc, ht, done]

theorem exec_spareCopyComplete_of_tested (ht : s.rf (rstat (spareOf d.val)) 9 8 ≠ 1) :
    exec (.spareCopyComplete d) s =
      .next (if s.running then s.copyEnded x else (s.copyEnded x).spareFinal { x with copied := true }).finish := by
  change execSpareCopyComplete d s = _
  simp [execSpareCopyComplete, hs, hd, hc, ht, done, State.copyEnded, State.running, State.reg]

end

/-! ### A trio is lost, or powered off -/

/-- A trio that is out of service, with no spare to take its place and no substitution under way for it (R243). -/
def State.Lost (s : State) (d : DieId) (k : Fin 6) (t : Nat) : Prop :=
  (s.failed t = true ∨ s.dieState d.val ≠ 2) ∧ s.spareReady d.val false = false ∧ ∀ y ∈ s.gce.subst, ¬ (y.die = d ∧ y.log = k)

theorem lost_iff : s.Lost d k t.val ↔
    ((s.failed t.val || decide (s.dieState d.val ≠ 2)) && !s.spareReady d.val false &&
      !s.gce.subst.any (fun x => decide (x.die = d ∧ x.log = k))) = true := by
  simp [State.Lost, and_assoc]

/-- The map shows no trio behind the lost one, unless its whole die is offline (R20, R33, R405). -/
def State.lostMap (s : State) (d : DieId) (k : Fin 6) (t : Nat) : State :=
  if s.dieState d.val = 2 then
    ((s.remap d.val k.val t 7).modTrio t (fun q => { q with wasLog := some (Fin.ofNat 6 k.val) })).holdTrio t
  else s

theorem exec_trioLost_of_unmapped (hb : s.physOf d.val k.val = none) : exec (.trioLost d k) s = .next s.finish := by
  change execTrioLost d k s = _
  simp only [execTrioLost, hb, done]

theorem exec_trioLost_of_not_lost (hb : s.physOf d.val k.val = some t.val) (h : ¬ s.Lost d k t.val) :
    exec (.trioLost d k) s = .next s.finish := by
  change execTrioLost d k s = _
  rw [lost_iff] at h
  simp only [execTrioLost, hb, if_neg h, done]

theorem exec_trioLost_of_lost (hb : s.physOf d.val k.val = some t.val) (h : s.Lost d k t.val) :
    exec (.trioLost d k) s = done (s.trioLost d.val k.val) := by
  change execTrioLost d k s = _
  rw [lost_iff] at h
  simp only [execTrioLost, hb, if_pos h]

/-- Before a season is in force a loss has nothing to resolve. -/
theorem trioLost_of_early (hb : s.physOf d.val k.val = some t.val) (hl : (s.lostMap d k t.val).gce.live = false) :
    s.trioLost d.val k.val = s.lostMap d k t.val := by
  rw [State.lostMap] at hl ⊢
  simp only [State.trioLost, hb, hl, Bool.false_eq_true, if_false]

theorem trioLost_of_live (hb : s.physOf d.val k.val = some t.val) (hl : (s.lostMap d k t.val).gce.live = true) :
    s.trioLost d.val k.val = (s.lostMap d k t.val).loseTrio (6 * d.val + k.val) 0 0 (s.lostMap d k t.val).nextTick := by
  rw [State.lostMap] at hl ⊢
  simp only [State.trioLost, hb, hl, if_true]

/-- The spare's beginning, its copy's end, and the losses, each by its guard (R20, R287, R243, R468). -/
theorem spareEvents : SpareEvents := by
  intro s d k t cause x t6 behind due ready tested mapped told copying lost gone
  have hdue : due ↔ s.SubstDue t.val cause := by cases cause <;> rfl
  refine ⟨fun hb => ⟨exec_spareSubstitution_of_unmapped hb, exec_trioLost_of_unmapped hb⟩,
    fun hb h => exec_spareSubstitution_of_not_due hb (mt (And.imp_left hdue.mpr) h),
    fun hb hd hr => exec_spareSubstitution_of_due hb (hdue.mp hd) hr,
    exec_spareCopyComplete_of_none, fun ⟨hs, hd, hc⟩ ht => exec_spareCopyComplete_of_testing hs hd hc ht,
    fun ⟨hs, hd, hc⟩ ht hr => ?ticks, fun ⟨hs, hd, hc⟩ ht hr => ?noTicks, fun hb h => exec_trioLost_of_not_lost hb h,
    fun hb h hl => ?early, fun hb h hl => ?resolved, fun h84 hr hl hp => ?off, fun h => ?kept⟩
  case ticks =>
    rw [exec_spareCopyComplete_of_tested hs hd hc ht, if_pos hr]
    rfl
  case noTicks =>
    rw [exec_spareCopyComplete_of_tested hs hd hc ht, hr]
    rfl
  case early => exact (exec_trioLost_of_lost hb h).trans (congrArg done (trioLost_of_early hb hl))
  case resolved => exact (exec_trioLost_of_lost hb h).trans (congrArg done (trioLost_of_live hb hl))
  case off => exact congrArg done (if_pos ⟨h84, hr, hl, hp⟩)
  case kept =>
    refine congrArg done (if_neg ?_)
    rintro ⟨h84, hr, hl, hp⟩
    rcases h with h | h | h | h
    · exact Bool.false_ne_true (h.symm.trans hr)
    · exact h hl
    · exact Bool.false_ne_true (h.symm.trans hp)
    · omega

/-- Settles O56: the commands, what CREATE and MODIFY demand, and the trios that come and go. -/
theorem contextEngine : Obligations.ContextEngine := ⟨contextCommands, newContexts, spareEvents⟩

end Sys2Proof.Machine
end

section
/-! SUPPORT. The supply monitor: what a sample of VIN counts, and the transition that it makes (R398, R399). -/

namespace Sys2Proof.Machine

/-! ### Fields of one register -/

theorem rf_setRf_same (s : State) (r : RegRef) {hi lo v : Nat} (hn : hi < 64) (hv : v < 2 ^ (hi + 1 - lo)) :
    (s.setRf r hi lo v).rf r hi lo = v := by
  rw [State.rf, State.reg_setRf, fld_setFld _ _ _ _ hn, Nat.mod_eq_of_lt hv]

theorem rf_setRf_other_field (s : State) (r : RegRef) (hi lo v : Nat) {hi' lo' : Nat} (hn : hi' < 64)
    (h : hi' < lo ∨ hi < lo') : (s.setRf r hi lo v).rf r hi' lo' = s.rf r hi' lo' := by
  rw [State.rf, State.reg_setRf, fld_setFld_other _ _ _ _ _ _ hn h, State.rf]

theorem rf_setRf_other_reg (s : State) {r r' : RegRef} (hi lo v hi' lo' : Nat) (h : r'.off ≠ r.off) :
    (s.setRf r hi lo v).rf r' hi' lo' = s.rf r' hi' lo' := by
  rw [State.rf, State.reg_setRf_other s _ _ _ h, State.rf]

/-! ### The levels (R398) -/

@[simp] theorem beyondNow_rf (s : State) (l : Nat) (on : Bool) (r : RegRef) (hi lo : Nat) :
    (s.beyondNow l on).rf r hi lo = s.rf r hi lo := rfl

theorem crossed_beyondNow_same (s : State) (l : Nat) (p : Prop) [Decidable p] :
    (s.beyondNow l (decide p)).crossed l = true ↔ p ∧ 1 ≤ SMap.get 0 s.power.beyond l := by
  by_cases hp : p <;> simp [State.crossed, State.beyondNow, hp]

theorem crossed_setRf (s : State) (r : RegRef) (hi lo v l : Nat) : (s.setRf r hi lo v).crossed l = s.crossed l := rfl

theorem crossed_beyondNow_other (s : State) {l k : Nat} (on : Bool) (h : k ≠ l) :
    (s.beyondNow l on).crossed k = s.crossed k := by
  simp [State.crossed, State.beyondNow, SMap.get_put_other _ _ _ h]

theorem beyond_beyondNow_other (s : State) {l k : Nat} (on : Bool) (h : k ≠ l) :
    SMap.get 0 (s.beyondNow l on).power.beyond k = SMap.get 0 s.power.beyond k :=
  SMap.get_put_other _ _ _ h

/-- A sample as the monitor's counts of the six levels take it. -/
def State.levelsMet (s : State) (v : Nat) : State :=
  ((((((s.setRf supStatR 63 48 v).beyondNow 0 (decide (v < 3300))).beyondNow 1 (decide (3500 < v))).beyondNow 2
    (decide (7800 < v))).beyondNow 3 (decide (v < 7600))).beyondNow 4 (decide (v ≤ 2800))).beyondNow 5 (decide (9000 ≤ v))

/-- VMIN follows the lowest sample of a dip (R399). -/
def State.sampledVin (s : State) (v : Nat) : State :=
  if s.supState = 1 ∨ s.supState = 2 then
    (s.levelsMet v).setRf supStatR 47 32 (min v ((s.levelsMet v).rf supStatR 47 32))
  else s.levelsMet v

variable {s x : State} {v last : Nat}

theorem levelsMet_supState : (s.levelsMet v).supState = s.supState := by
  simpa [State.supState, State.levelsMet] using rf_setRf_other_field s supStatR 63 48 v (by decide) (by decide)

theorem sampledVin_supState : (s.sampledVin v).supState = s.supState := by
  unfold State.sampledVin
  split
  · exact (rf_setRf_other_field _ supStatR 47 32 _ (by decide) (by decide)).trans levelsMet_supState
  · exact levelsMet_supState

theorem sampledVin_vin (h : v < 2 ^ 16) : (s.sampledVin v).rf supStatR 63 48 = v := by
  have hm : (s.levelsMet v).rf supStatR 63 48 = v := by
    simpa [State.levelsMet] using rf_setRf_same s supStatR (by decide) h
  unfold State.sampledVin
  split
  · exact (rf_setRf_other_field _ supStatR 47 32 _ (by decide) (by decide)).trans hm
  · exact hm

theorem sampledVin_crossed (l : Nat) : (s.sampledVin v).crossed l = (s.levelsMet v).crossed l := by
  unfold State.sampledVin
  split
  · exact crossed_setRf ..
  · rfl

theorem crossed_levels :
    ((s.sampledVin v).crossed 0 = true ↔ v < 3300 ∧ 1 ≤ SMap.get 0 s.power.beyond 0) ∧
    ((s.sampledVin v).crossed 1 = true ↔ 3500 < v ∧ 1 ≤ SMap.get 0 s.power.beyond 1) ∧
    ((s.sampledVin v).crossed 2 = true ↔ 7800 < v ∧ 1 ≤ SMap.get 0 s.power.beyond 2) ∧
    ((s.sampledVin v).crossed 3 = true ↔ v < 7600 ∧ 1 ≤ SMap.get 0 s.power.beyond 3) ∧
    ((s.sampledVin v).crossed 4 = true ↔ v ≤ 2800 ∧ 1 ≤ SMap.get 0 s.power.beyond 4) ∧
    ((s.sampledVin v).crossed 5 = true ↔ 9000 ≤ v ∧ 1 ≤ SMap.get 0 s.power.beyond 5) := by
  simp [sampledVin_crossed, State.levelsMet, crossed_beyondNow_other, crossed_beyondNow_same, beyond_beyondNow_other]

/-! ### The transitions (R398, R399) -/

theorem supplyStep_of_high (h5 : x.crossed 5 = true) : x.supplyStep last = x.supplyLost true := if_pos h5

theorem supplyStep_of_low (h5 : ¬ x.crossed 5 = true) (h4 : x.crossed 4 = true) : x.supplyStep last = x.supplyLost false :=
  (if_neg h5).trans (if_pos h4)

/-- A dip begins: the Warning state, VMIN, a snapshot, and the time from which the dip's duration counts (R399). -/
def State.dipBegun (s : State) (v last : Nat) : State :=
  let captured := ((s.setRf supStatR 2 0 1).setRf supStatR 47 32 (min v last)).snapshot 1
  { captured with power := { captured.power with dipStart := captured.timebase, warnings := 1 } }

section
variable (h5 : ¬ x.crossed 5 = true) (h4 : ¬ x.crossed 4 = true)
include h5 h4

theorem supplyStep_of_dip (hv : x.rf supStatR 63 48 = v) (hl : v < 2 ^ 16) (hs : x.supState = 0) (h0 : x.crossed 0 = true) :
    x.supplyStep last = ((((x.dipBegun v last).sysEvent 0x01
      [BitVec.ofNat 64 v, BitVec.ofNat 64 (x.dipBegun v last).snapSlot]).setLine 0 true).govern) := by
  have hn : (BitVec.ofNat 64 v).toNat = v := by simp; omega
  simp only [State.supplyStep, if_neg h5, if_neg h4, if_pos (And.intro hs h0), hv, hn, State.dipBegun]

theorem supplyStep_of_over (hv : x.rf supStatR 63 48 = v) (hs : x.supState = 0) (h0 : ¬ x.crossed 0 = true)
    (h2 : x.crossed 2 = true) :
    x.supplyStep last = ((x.setRf supStatR 2 0 3).sysEvent 0x04 [BitVec.ofNat 64 v]).setLine 2 true := by
  rw [State.supplyStep, if_neg h5, if_neg h4, if_neg (by simp [h0]), if_pos ⟨hs, h2⟩, hv]

theorem supplyStep_of_overEnds (hs : x.supState = 3) (h3 : x.crossed 3 = true) :
    x.supplyStep last = (x.setRf supStatR 2 0 0).setLine 2 false := by
  simp [State.supplyStep, h5, h4, hs, h3]

theorem supplyStep_of_recovering (hs : x.supState = 1) (h1 : x.crossed 1 = true) :
    x.supplyStep last = (x.setRf supStatR 2 0 2).setLine 0 false := by
  simp [State.supplyStep, h5, h4, hs, h1]

theorem supplyStep_of_dipAgain (hs : x.supState = 2) (h0 : x.crossed 0 = true) :
    x.supplyStep last = (State.setRf { x with power := { x.power with warnings := x.power.warnings + 1 } }
      supStatR 2 0 1).setLine 0 true := by
  simp [State.supplyStep, h5, h4, hs, h0]

theorem supplyStep_of_steady (h0 : x.supState = 0 ∨ x.supState = 2 → ¬ x.crossed 0 = true)
    (h2 : x.supState = 0 → ¬ x.crossed 2 = true) (h3 : x.supState = 3 → ¬ x.crossed 3 = true)
    (h1 : x.supState = 1 → ¬ x.crossed 1 = true) : x.supplyStep last = x := by
  rw [State.supplyStep, if_neg h5, if_neg h4, if_neg (fun h => h0 (.inl h.1) h.2), if_neg (fun h => h2 h.1 h.2),
    if_neg (fun h => h3 h.1 h.2), if_neg (fun h => h1 h.1 h.2), if_neg (fun h => h0 (.inr h.1) h.2)]

end

/-- A sample, outside a supply reset. -/
theorem exec_supplySample_of_live {cv : BitVec 16} (h : s.power.supplyReset = false) :
    exec (.supplySample cv) s = done ((s.sampledVin cv.toNat).supplyStep (s.rf supStatR 63 48)) := by
  change execSupplySample cv s = _
  rw [State.sampledVin, ← levelsMet_supState (v := cv.toNat), State.levelsMet]
  simp only [execSupplySample, State.setRf_power, h, Bool.false_eq_true, if_false]

/-- A sample is named by its level: which level it crosses says which transition follows (R398, R399). -/
theorem supplySamples : SupplySamples := by
  intro s cv v vin last st sampled met x second high low live calm below lost captured dip again
  have hv : v < 2 ^ 16 := cv.isLt
  have hvin : x.rf supStatR 63 48 = v := sampledVin_vin hv
  have hst : x.supState = st := sampledVin_supState
  obtain ⟨c0, c1, c2, c3, c4, c5⟩ := crossed_levels (s := s) (v := v)
  have run : ∀ {z}, live → x.supplyStep last = z → exec (.supplySample cv) s = .next z.finish :=
    fun hl hz => (exec_supplySample_of_live hl).trans (congrArg done hz)
  refine ⟨fun h => congrArg done (if_pos h), fun hl h => run hl ?high, fun hl h5 h => run hl ?low,
    fun ⟨hl, h5, h4⟩ hs hb => run hl ?dip, fun ⟨hl, h5, h4⟩ hs h h2 => run hl ?overVolt,
    fun ⟨hl, h5, h4⟩ hs h h3 => run hl ?overEnds, fun ⟨hl, h5, h4⟩ hs h h1 => run hl ?recovering,
    fun ⟨hl, h5, h4⟩ hs hb => run hl ?again, fun ⟨hl, h5, h4⟩ h0 h2 h3 h1 => run hl ?steady⟩
  case high =>
    exact (supplyStep_of_high (x := x) (c5.mpr h)).trans (by rw [State.supplyLost, hvin])
  case low =>
    exact (supplyStep_of_low (x := x) (mt c5.mp h5) (c4.mpr h)).trans (by rw [State.supplyLost, hvin])
  case dip => exact supplyStep_of_dip (mt c5.mp h5) (mt c4.mp h4) hvin hv (hst.trans hs) (c0.mpr hb)
  case overVolt =>
    have h0 : ¬ x.crossed 0 = true := fun hc => by have := (c0.mp hc).1; omega
    exact supplyStep_of_over (mt c5.mp h5) (mt c4.mp h4) hvin (hst.trans hs) h0 (c2.mpr ⟨h, h2⟩)
  case overEnds => exact supplyStep_of_overEnds (mt c5.mp h5) (mt c4.mp h4) (hst.trans hs) (c3.mpr ⟨h, h3⟩)
  case recovering => exact supplyStep_of_recovering (mt c5.mp h5) (mt c4.mp h4) (hst.trans hs) (c1.mpr ⟨h, h1⟩)
  case again => exact supplyStep_of_dipAgain (mt c5.mp h5) (mt c4.mp h4) (hst.trans hs) (c0.mpr hb)
  case steady =>
    exact supplyStep_of_steady (mt c5.mp h5) (mt c4.mp h4) (fun hs => mt c0.mp (h0 (hst ▸ hs)))
      (fun hs => mt c2.mp (h2 (hst ▸ hs))) (fun hs => mt c3.mp (h3 (hst ▸ hs))) (fun hs => mt c1.mp (h1 (hst ▸ hs)))

end Sys2Proof.Machine
end

section
/-! SUPPORT. The end of a dip and the governor's two changes of clock (R399, R401, R402). -/

namespace Sys2Proof.Machine

variable {s : State}

/-! ### The end of a dip -/

theorem exec_recoveryTimer_of_waiting (h : s.supState ≠ 2 ∨ s.rf supStatR 63 48 ≤ 3500) :
    exec .recoveryTimer s = .next s.finish := congrArg done (if_pos h)

/-! ### Lean in force -/

/-- The core clock is at LEANPT and trios are parked, where the Global Context Engine is at work (R402). -/
def State.leanCut (s : State) : State :=
  let lean := { s with power := { s.power with lean := true, leanPend := false } }
  if s.gce.live then (lean.setPoint lean.leanPoint).leanPark 2 s.timebase else lean

/-- LALT's season is armed: the season in force names one, and no change of season is pending (R245, R402). -/
def State.leanArms (s : State) : Bool := s.gce.live && bit (s.seasonDw s.active 1) 32 && !s.changePending

/-- The season that LALT names is the next (R245). -/
def State.leanArmed (s : State) : State := { s with gce := { s.gce with lalt := some (fld (s.seasonDw s.active 1) 31 30) } }

theorem leanArms_iff : s.leanArms = true ↔
    s.gce.live = true ∧ bit (s.seasonDw s.active 1) 32 = true ∧ s.changePending = false := by
  simp [State.leanArms, and_assoc]

theorem exec_leanInForce_of_none (h : s.power.leanPend = false) : exec .leanInForce s = .next s.finish :=
  congrArg done (if_pos (by simp [h]))

/-- What becomes of LALT's season when Lean is in force: where it is armed and the store holds it, it sets out (R245). -/
def State.leanSent (s : State) : State :=
  let x := if s.leanArms then s.leanArmed else s
  if s.leanArms then (match x.leanSeason with
    | some sl => x.sendShadows sl
    | none => x) else x

theorem exec_leanInForce_of_pending (h : s.power.leanPend = true) :
    exec .leanInForce s = done (s.leanCut.leanSent.raise 4) :=
  congrArg done (if_neg (by simp [h]))

theorem leanSent_of_plain (h : ¬ s.leanArms = true) : s.leanSent = s := by
  simp only [State.leanSent, h, Bool.false_eq_true, if_false]

theorem leanSent_of_noSeason (h : s.leanArms = true) (hn : s.leanArmed.leanSeason = none) : s.leanSent = s.leanArmed := by
  simp only [State.leanSent, h, if_true, hn]

theorem leanSent_of_season (h : s.leanArms = true) {sl : Nat} (hn : s.leanArmed.leanSeason = some sl) :
    s.leanSent = s.leanArmed.sendShadows sl := by
  simp only [State.leanSent, h, if_true, hn]

/-! ### Run restored -/

/-- The core clock is at POINT again (R402). -/
def State.runBack (s : State) : State :=
  let run := { s with power := { s.power with lean := false, runPend := false } }
  if s.gce.live then run.setPoint (run.seasonPoint run.active) else run

/-- LALT's season is no longer the next (R402). -/
def State.runPlain (s : State) : State :=
  if s.gce.lalt.isSome then ({ s with gce := { s.gce with lalt := none } }).dropShadows else s

theorem exec_runRestored_of_none (h : s.power.runPend = false ∨ s.power.leanPend = true) :
    exec .runRestored s = .next s.finish := congrArg done (if_pos (by simpa using h))

theorem exec_runRestored_eq (hr : s.power.runPend = true) (hl : s.power.leanPend = false) :
    exec .runRestored s = done
      ((if s.runBack.runPlain.running then { s.runBack.runPlain with gce := { s.runBack.runPlain.gce with
        leanOff := s.runBack.runPlain.gce.lean } } else s.runBack.runPlain.leanWithdraw s.runBack.runPlain.timebase).raise 5) :=
  congrArg done (if_neg (by simp [hr, hl]))

/-- Each end of the governor's entries, by what stands armed when it comes (R399, R401, R402, R243, R245). -/
theorem governorEvents : GovernorEvents := by
  intro s ended ns lean cut head arms armed run back plain
  have hc : cut.leanArms = true ↔ arms := leanArms_iff
  have pended : ∀ {x}, s.power.leanPend = true → s.leanCut.leanSent = x → exec .leanInForce s = .next (x.raise 4).finish :=
    fun h hx => (exec_leanInForce_of_pending h).trans (congrArg (fun x : State => done (x.raise 4)) hx)
  refine ⟨fun hs hv => ?_, exec_recoveryTimer_of_waiting, exec_leanInForce_of_none,
    fun h ha => pended h (leanSent_of_plain (mt hc.mp ha)), fun h ha hn => pended h (leanSent_of_noSeason (hc.mpr ha) hn),
    fun h ha sl hn => pended h (leanSent_of_season (hc.mpr ha) hn), exec_runRestored_of_none, fun hr hl hn => ?_,
    fun hr hl hn => ?_⟩
  · exact congrArg done (if_neg (by omega))
  · exact (exec_runRestored_eq hr hl).trans (congrArg (fun x : State => done (x.raise 5)) (if_pos hn))
  · exact (exec_runRestored_eq hr hl).trans (congrArg (fun x : State => done (x.raise 5)) (if_neg (Bool.eq_false_iff.mp hn)))

end Sys2Proof.Machine
end

section
/-! SUPPORT. Temperatures and service life (R403, R413-R415). -/

namespace Sys2Proof.Machine

variable {s : State} {d : Fin 13} {tj hot : Int}

theorem rf_withPower (s : State) (p : Power) (r : RegRef) (hi lo : Nat) :
    ({ s with power := p } : State).rf r hi lo = s.rf r hi lo := rfl

/-! ### Temperatures -/

theorem govR_off_ne_lifeEmR (d : Nat) : govR.off ≠ (lifeEmR d).off := by
  simp [RegRef.off, govR, lifeEmR, Reg.place, zoneBase]
  omega

/-- The hottest sensor of a die is noted (R403, R414). -/
def State.sensed (s : State) (d : Nat) (tj : Int) : State :=
  State.setRf { s with power := { s.power with hotDies := SMap.put (-274) s.power.hotDies d tj } }
    (lifeEmR d) 23 16 (min 255 (tj + 64).toNat)

theorem sensed_gov (s : State) (d : Nat) (tj : Int) : (s.sensed d tj).rf govR 23 16 = s.rf govR 23 16 :=
  rf_setRf_other_reg _ _ _ _ _ _ (govR_off_ne_lifeEmR d)

/-- What the hottest sensor of all brings: the thermal warning and the count of thermal cycles (R403, R414). -/
def State.warmed (s : State) (hot : Int) : State := (s.thermNow hot).cycleNow hot

theorem exec_thermalSample_of_down (h : s.down = true) : exec (.thermalSample d tj) s = .next s.finish :=
  congrArg done (if_pos h)

theorem exec_thermalSample_of_up (h : s.down = false) (hh : (s.sensed d.val tj).hottest = some hot) :
    exec (.thermalSample d tj) s = done
      (if tj < 125 then (s.sensed d.val tj).warmed hot
      else if d.val < 12 then ((s.sensed d.val tj).warmed hot).dieOffline d.val 5 none
      else ((s.sensed d.val tj).warmed hot).safeState 0x1F 0 false) := by
  change execThermalSample d tj s = _
  rw [State.sensed] at hh
  simp only [execThermalSample, h, Bool.false_eq_true, if_false, hh, State.sensed, State.warmed]

/-! ### The accumulator (R414) -/

/-- An accumulator's fraction of a sixteenth of an hour, with this second's weight. -/
def State.emSum (s : State) (d : Nat) : Nat := SMap.get 0 s.power.eqFrac d + emWeight (s.rf (lifeEmR d) 23 16)

/-- The hours that the accumulator then shows, in sixteenths. -/
def State.emHours (s : State) (d : Nat) : Nat := min (2 ^ 40 - 1) (s.rf (lifeEmR d) 63 24 + s.emSum d / (225 * 2 ^ 32))

/-- One second is added. -/
def State.emAdded (s : State) (d : Nat) : State :=
  State.setRf { s with power := { s.power with eqFrac := SMap.put 0 s.power.eqFrac d (s.emSum d % (225 * 2 ^ 32)) } }
    (lifeEmR d) 63 24 (s.emHours d)

theorem exec_emAccumulate_of_off (h : s.down = true ∨ s.diePowered d.val = false) :
    exec (.emAccumulate d) s = .next s.finish := congrArg done (if_pos (by simpa using h))

theorem emAdded_end (d : Nat) : (s.emAdded d).rf (lifeEmR d) 0 0 = s.rf (lifeEmR d) 0 0 := by
  rw [State.emAdded, rf_setRf_other_field _ _ _ _ _ (by decide) (by decide), rf_withPower]

theorem exec_emAccumulate_of_powered (hd : s.down = false) (hp : s.diePowered d.val = true) :
    exec (.emAccumulate d) s = done
      (if 4672000 ≤ s.emHours d.val ∧ (s.emAdded d.val).rf (lifeEmR d.val) 0 0 = 0 then
        ((s.emAdded d.val).setRf (lifeEmR d.val) 0 0 1).raise (if d.val = 12 then 20 else 32 * (33 + 2 * d.val) + 17)
      else s.emAdded d.val) := by
  have hs : ¬ (s.down = true ∨ (!s.diePowered d.val) = true) := by simp [hd, hp]
  change execEmAccumulate d s = _
  rw [execEmAccumulate, if_neg hs]
  extract_lets r unit x p noted hours added
  have hn : noted.rf r 63 24 = s.rf r 63 24 := rf_withPower ..
  have hh : hours = s.emHours d.val := congrArg (fun n => min (2 ^ 40 - 1) (n + x / unit)) hn
  have ha : added = s.emAdded d.val := by rw [State.emAdded, ← hh]; rfl
  have hc : (4672000 ≤ hours ∧ added.rf r 0 0 = 0) ↔
      4672000 ≤ s.emHours d.val ∧ (s.emAdded d.val).rf (lifeEmR d.val) 0 0 = 0 := by
    rw [hh, ha]
  by_cases he : 4672000 ≤ s.emHours d.val ∧ (s.emAdded d.val).rf (lifeEmR d.val) 0 0 = 0
  · rw [if_pos he, if_pos (hc.mpr he), ha]
  · rw [if_neg he, if_neg (mt hc.mp he), ha]

/-! ### Margins (R415) -/

/-- The margin is noted, and the first one in service is kept. -/
def State.marginNoted (s : State) (t v : Nat) : State :=
  let l := lifeTrioR (t / 7) (t % 7)
  if s.rf l 47 32 = 0 then (s.setRf l 63 48 v).setRf l 47 32 v else s.setRf l 63 48 v

theorem exec_marginMeasure_of_off {t : Fin 84} {ps : BitVec 16} (h : s.powered t.val = false) :
    exec (.marginMeasure t ps) s = .next s.finish := congrArg done (if_pos (by simp [h]))

theorem exec_marginMeasure_of_on {t : Fin 84} {ps : BitVec 16} (h : s.powered t.val = true) :
    exec (.marginMeasure t ps) s = done ((s.marginNoted t.val ps.toNat).marginNow (t.val / 7) (t.val % 7)) := by
  have hk : (s.setRf (lifeTrioR (t.val / 7) (t.val % 7)) 63 48 ps.toNat).rf (lifeTrioR (t.val / 7) (t.val % 7)) 47 32 =
      s.rf (lifeTrioR (t.val / 7) (t.val % 7)) 47 32 := rf_setRf_other_field _ _ _ _ _ (by decide) (by decide)
  change execMarginMeasure t ps s = _
  simp only [execMarginMeasure, h, Bool.not_true, Bool.false_eq_true, if_false, hk, State.marginNoted]

theorem marginNoted_margin (t : Nat) {v : Nat} (h : v < 2 ^ 16) :
    (s.marginNoted t v).rf (lifeTrioR (t / 7) (t % 7)) 63 48 = v := by
  unfold State.marginNoted
  dsimp only
  split
  · exact (rf_setRf_other_field _ _ _ _ _ (by decide) (by decide)).trans (rf_setRf_same _ _ (by decide) h)
  · exact rf_setRf_same _ _ (by decide) h

theorem marginNoted_low (t v : Nat) {hi lo : Nat} (h : hi < 32) :
    (s.marginNoted t v).rf (lifeTrioR (t / 7) (t % 7)) hi lo = s.rf (lifeTrioR (t / 7) (t % 7)) hi lo := by
  unfold State.marginNoted
  dsimp only
  split
  · exact (rf_setRf_other_field _ _ _ _ _ (by omega) (by omega)).trans (rf_setRf_other_field _ _ _ _ _ (by omega) (by omega))
  · exact rf_setRf_other_field _ _ _ _ _ (by omega) (by omega)

theorem marginNoted_was (t v : Nat) :
    bit ((s.marginNoted t v).reg (lifeTrioR (t / 7) (t % 7))) 0 = bit (s.reg (lifeTrioR (t / 7) (t % 7))) 0 := by
  have h := marginNoted_low (s := s) t v (hi := 0) (lo := 0) (by decide)
  rw [State.rf, State.rf, fld_bit, fld_bit] at h
  rw [Bool.eq_iff_iff, ← Bool.toNat_eq_one, h, Bool.toNat_eq_one]

section
variable {n p : Nat}

theorem marginNow_of_enough (h : s.rf (lifeTrioR n p) 31 16 ≤ s.rf (lifeTrioR n p) 63 48) :
    s.marginNow n p = s.setRf (lifeTrioR n p) 0 0 0 := by
  simp [State.marginNow, Nat.not_lt.mpr h]

theorem marginNow_of_short (h : s.rf (lifeTrioR n p) 63 48 < s.rf (lifeTrioR n p) 31 16) :
    s.marginNow n p = if bit (s.reg (lifeTrioR n p)) 0 then s.setRf (lifeTrioR n p) 0 0 1
      else (s.setRf (lifeTrioR n p) 0 0 1).raise (32 * (33 + 2 * n) + p) := by
  cases hb : bit (s.reg (lifeTrioR n p)) 0 <;> simp [State.marginNow, h, hb]

end

/-- Samples, seconds and measurements (R403, R414, R415). -/
theorem lifeEvents : LifeEvents := by
  intro s d tj t ps base met r unit sum hours added l first limit
  have hm : ∀ hot, (s.sensed d.val tj).warmed hot = met hot := by
    intro hot
    rw [State.warmed, State.thermNow, sensed_gov]
    rfl
  have hps : ps.toNat < 2 ^ 16 := ps.isLt
  have hmargin : (s.marginNoted t.val ps.toNat).rf l 63 48 = ps.toNat := marginNoted_margin t.val hps
  have hlimit : (s.marginNoted t.val ps.toNat).rf l 31 16 = limit := marginNoted_low t.val ps.toNat (by decide)
  have hwas : bit ((s.marginNoted t.val ps.toNat).reg l) 0 = bit (s.reg l) 0 := marginNoted_was t.val ps.toNat
  have measured : ∀ {x : State}, s.powered t.val = true → (s.marginNoted t.val ps.toNat).marginNow (t.val / 7) (t.val % 7) = x →
      exec (.marginMeasure t ps) s = .next x.finish :=
    fun hp hx => (exec_marginMeasure_of_on hp).trans (congrArg done hx)
  refine ⟨fun h => ⟨exec_thermalSample_of_down h, exec_emAccumulate_of_off (.inl h)⟩, fun h hot hh => ?warm,
    fun h => exec_emAccumulate_of_off (.inr h), fun hd hp h => ?lasting, fun hd hp hh h0 => ?ended,
    exec_marginMeasure_of_off, fun hp h => measured hp ?enough, fun hp h hb => measured hp ?stillLow,
    fun hp h hb => measured hp ?nowLow⟩
  case warm =>
    rw [exec_thermalSample_of_up h hh, hm]
    refine ⟨fun ht => ?_, fun ht hd => ?_, fun ht hd => ?_⟩
    · rw [if_pos ht]
      rfl
    · rw [if_neg (by omega), if_pos hd]
      rfl
    · rw [if_neg (by omega), if_neg (by omega)]
      rfl
  case lasting =>
    refine (exec_emAccumulate_of_powered hd hp).trans (congrArg done (if_neg ?_))
    rw [emAdded_end]
    rintro ⟨hh, h0⟩
    rcases h with h | h
    · exact absurd hh (Nat.not_le.mpr h)
    · exact Nat.zero_ne_one (h0.symm.trans h)
  case ended =>
    exact (exec_emAccumulate_of_powered hd hp).trans (congrArg done (if_pos ⟨hh, (emAdded_end _).trans h0⟩))
  case enough => exact marginNow_of_enough (by rw [hmargin, hlimit]; exact h)
  case stillLow => exact (marginNow_of_short (by rw [hmargin, hlimit]; exact h)).trans (if_pos (hwas.trans hb))
  case nowLow => exact (marginNow_of_short (by rw [hmargin, hlimit]; exact h)).trans (if_neg (by rw [hwas, hb]; decide))

end Sys2Proof.Machine
end

section
/-! SUPPORT. Power domains and low-power states (R404, R407-R409). -/

namespace Sys2Proof.Machine

variable {s : State} {n : Fin 118} {c : CoreId}

/-! ### Requests in progress (R404) -/

/-- A domain's request is done. -/
def State.domDone (s : State) (n : Nat) : State := s.setRf (domR n) 7 4 2

theorem exec_powerRequestComplete_of_idle (h : ¬ s.rf (domR n.val) 7 4 = 1) :
    exec (.powerRequestComplete n) s = .next s.finish := congrArg done (if_pos h)

section
variable (hb : s.rf (domR n.val) 7 4 = 1)
include hb

theorem exec_powerRequestComplete_of_trioOn (hn : n.val < 84) (ha : s.rf (domR n.val) 3 2 = 0) :
    exec (.powerRequestComplete n) s =
      done ((if !s.powered n.val then s.trioOn n.val else s.unretain n.val).domDone n.val) := by
  change execPowerRequestComplete n s = _
  simp only [execPowerRequestComplete, hb, hn, ha, ne_eq, not_true, if_false, if_true]
  rfl

theorem exec_powerRequestComplete_of_retain (hn : n.val < 84) (ha : s.rf (domR n.val) 3 2 = 1) :
    exec (.powerRequestComplete n) s = done ((if s.powered n.val then s.retain n.val else s).domDone n.val) := by
  change execPowerRequestComplete n s = _
  simp only [execPowerRequestComplete, hb, hn, ha, ne_eq, not_true, if_false, if_true]
  rfl

theorem exec_powerRequestComplete_of_trioOff (hn : n.val < 84) (h0 : s.rf (domR n.val) 3 2 ≠ 0)
    (h1 : s.rf (domR n.val) 3 2 ≠ 1) :
    exec (.powerRequestComplete n) s =
      done ((if s.powered n.val then (s.l2Clean n.val).trioOff n.val else s).domDone n.val) := by
  change execPowerRequestComplete n s = _
  simp only [execPowerRequestComplete, hb, hn, ne_eq, not_true, if_false, if_true]
  rfl

theorem exec_powerRequestComplete_of_die (hl : 84 ≤ n.val) (hu : n.val < 96) :
    exec (.powerRequestComplete n) s =
      done (if s.rf (domR n.val) 3 2 = 0 then (if s.dieState (n.val - 84) = 2 then s.domDone n.val else s)
        else (s.dieOff (n.val - 84)).domDone n.val) :=
  congrArg done ((if_neg (by simp [hb])).trans ((if_neg (by omega)).trans (if_pos hu)))

theorem exec_powerRequestComplete_of_other (hl : 96 ≤ n.val) :
    exec (.powerRequestComplete n) s = done ((s.setRf (domR n.val) 1 0 (s.rf (domR n.val) 3 2)).domDone n.val) :=
  congrArg done ((if_neg (by simp [hb])).trans ((if_neg (by omega)).trans (if_neg (by omega))))

end

/-! ### Nap, Off and Standby (R407-R409) -/

/-- The core of an idle stream may enter Nap, or Off: `PWR_IDLE` allows it, and no window comes too soon (R407). -/
def State.mayNap (s : State) (c : CoreId) (off : Bool) : Prop :=
  c.val < 252 ∧ (s.core c.val).run = .idle ∧ s.leadOf c.val = c.val ∧ bit (s.reg pwrIdleR) (if off then 1 else 0) = true ∧
    s.quietFor (trioOf c.val) (if off then 10000 else 500) = true

/-- What Off keeps of a core: its latches, and the invalidations on their way (R407). -/
def Core.powerOff (k : Core) : Core :=
  { (k.fresh .off) with own := k.own, intReq := k.intReq, lfsr := k.lfsr, invs := k.invs, invSeq := k.invSeq, halted := k.halted }

theorem exec_napEntry_of_not {off : Bool} (h : ¬ s.mayNap c off) : exec (.napEntry c off) s = .next s.finish :=
  congrArg done (if_neg h)

theorem exec_napEntry_nap (h : s.mayNap c false) :
    exec (.napEntry c false) s = done (((s.drainMerge c.val).traceSleep c.val false).modCore c.val (fun k => { k with run := .nap })) :=
  congrArg done (if_pos h)

theorem exec_napEntry_off (h : s.mayNap c true) :
    exec (.napEntry c true) s = done (((s.drainMerge c.val).traceSleep c.val true).modCore c.val Core.powerOff) :=
  congrArg done (if_pos h)

theorem exec_napExit_of_asleep (h : (s.core c.val).run = .nap ∨ (s.core c.val).run = .off) :
    exec (.napExit c) s = done (((s.modCore c.val (fun (q : Core) => { q with run := s.restRun (trioOf c.val) })).traceWake
      c.val).redispatch (trioOf c.val)) := congrArg done (if_pos h)

theorem exec_napExit_of_awake (hn : (s.core c.val).run ≠ .nap) (ho : (s.core c.val).run ≠ .off) :
    exec (.napExit c) s = .next s.finish := congrArg done (if_neg (not_or.mpr ⟨hn, ho⟩))

/-- The module as Standby leaves it: every context stopped, every cache clean, Sole committed, and everything but the always-on
island reset (R409). -/
def State.stoodBy (s : State) : State :=
  let cleaned := forN 85 (fun t x => if x.powered t then x.l2Clean t else x) s.stopAll
  ((((cleaned.msc.lines.foldl (fun x l => x.mscEvict l) cleaned).noteOff.drainAll 512).commitEnd).blank keptM)

theorem exec_standbyEntry_of_not (h : s.power.standbyAsk = false ∨ s.down = true) : exec .standbyEntry s = .next s.finish :=
  congrArg done (if_pos (by simpa using h))

theorem exec_standbyEntry_of_asked (ha : s.power.standbyAsk = true) (hd : s.down = false) {x : State} (hx : s.stoodBy = x) :
    exec .standbyEntry s =
      .next (State.finish { x with power := { x.power with standby := true, standbyAsk := false, pwrGood := false } }) := by
  subst hx
  exact congrArg done (if_neg (by simp [ha, hd]))

/-- Each request by its domain and its action, and the entries to low power (R404, R407-R409). -/
theorem domainEvents : DomainEvents := by
  intro s n c act busy fin on k idle' drained stopped cleaned evicted left
  have stood : s.stoodBy = left := by simp only [left, evicted, cleaned, stopped, State.stoodBy]
  have bit_ne : ∀ {b : Bool}, ¬ b = true → (!b) = true := fun h => by simpa using h
  refine ⟨exec_powerRequestComplete_of_idle, fun hb hn ha => ⟨fun hp => ?turnedOn, fun hp => ?poweredOn⟩,
    fun hb hn ha hp => ?retained, fun hb hn ha hp => ?off, fun hb hn ha hp => ?already,
    fun hb hl hu ha => ⟨fun hd => ?online, fun hd => ?starting⟩, fun hb hl hu ha => ?dieOff,
    fun hb hl => exec_powerRequestComplete_of_other hb hl, fun off h => exec_napEntry_of_not h,
    exec_napEntry_nap, exec_napEntry_off, exec_napExit_of_asleep, exec_napExit_of_awake, exec_standbyEntry_of_not,
    fun ha hd => exec_standbyEntry_of_asked ha hd stood⟩
  case turnedOn =>
    rw [exec_powerRequestComplete_of_trioOn hb hn ha, if_neg (by simpa using hp)]
    rfl
  case poweredOn =>
    rw [exec_powerRequestComplete_of_trioOn hb hn ha, if_pos (bit_ne hp)]
    rfl
  case retained =>
    rw [exec_powerRequestComplete_of_retain hb hn ha, if_pos hp]
    rfl
  case off =>
    have h0 : s.rf (domR n.val) 3 2 ≠ 0 := fun h => absurd (ha.symm.trans h) (by decide)
    have h1 : s.rf (domR n.val) 3 2 ≠ 1 := fun h => absurd (ha.symm.trans h) (by decide)
    rw [exec_powerRequestComplete_of_trioOff hb hn h0 h1, if_pos hp]
    rfl
  case already =>
    by_cases h1 : act = 1
    · rw [exec_powerRequestComplete_of_retain hb hn h1, if_neg hp]
      rfl
    · rw [exec_powerRequestComplete_of_trioOff hb hn ha h1, if_neg hp]
      rfl
  case online =>
    rw [exec_powerRequestComplete_of_die hb hl hu, if_pos ha, if_pos hd]
    rfl
  case starting =>
    rw [exec_powerRequestComplete_of_die hb hl hu, if_pos ha, if_neg hd]
    rfl
  case dieOff =>
    rw [exec_powerRequestComplete_of_die hb hl hu, if_neg ha]
    rfl

end Sys2Proof.Machine
end

section
/-! SUPPORT. Containment, the safe state and the reference clocks (R18, R21, R22, R25, R27). -/

namespace Sys2Proof.Machine

variable {s : State}

/-- Containments in progress below the chip's level are abandoned, each with its record (R22). -/
def State.subsumeBelow (s : State) : State :=
  forN 12 (fun d s => s.subsume 2 (s.reclaims d) (unitWord d 7 7 3 none))
    (forN 84 (fun t s => s.subsume 1 (s.failed t && decide (s.dieState (t / 7) = 2)) (s.trioWord t)) s)

theorem safeState_of_safe {cause : Nat} (h : s.rf ⟨.modIdent, 0, 0, 0⟩ 0 0 = 1) : s.safeState cause 0 false = s :=
  if_pos h

theorem safeState_of_not_safe {cause : Nat} (h : ¬ s.rf ⟨.modIdent, 0, 0, 0⟩ 0 0 = 1) :
    s.safeState cause 0 false =
      ((((((s.snapshot 2).sysEvent 0x09 [BitVec.ofNat 64 cause, 0]).subsumeBelow.shutDown).setRf ⟨.modIdent, 0, 0, 0⟩ 0 0 1).setRf
        ⟨.bootStat, 0, 0, 0⟩ 27 24 4).commitStart) :=
  if_neg h

theorem subsume_eq {p : Prop} [Decidable p] {b : Bool} (h : b = true ↔ p) (level : Nat) (unit : Dword) :
    s.subsume level b unit = if p then s.sysEvent 0x08 [BitVec.ofNat 64 level, unit] else s := by
  by_cases hp : p
  · rw [if_pos hp, h.mpr hp]
    rfl
  · rw [if_neg hp, Bool.eq_false_iff.mpr (mt h.mp hp)]
    rfl

theorem subsumeBelow_eq (s : State) :
    s.subsumeBelow =
      forN 12 (fun d (x : State) => if x.reclaims d then x.sysEvent 0x08 [2, unitWord d 7 7 3 none] else x)
        (forN 84 (fun t (x : State) => if x.failed t = true ∧ x.dieState (t / 7) = 2 then x.sysEvent 0x08 [1, x.trioWord t] else x)
          s) := by
  have trios : (fun t (x : State) => x.subsume 1 (x.failed t && decide (x.dieState (t / 7) = 2)) (x.trioWord t)) =
      fun t (x : State) => if x.failed t = true ∧ x.dieState (t / 7) = 2 then x.sysEvent 0x08 [1, x.trioWord t] else x :=
    funext₂ fun t x => subsume_eq (by simp) 1 _
  rw [State.subsumeBelow, trios]
  rfl

/-- Every escalation to the chip's level is one entry of the safe state, which is entered once (R21, R25). -/
theorem containmentEvents : ContainmentEvents := by
  intro s c t d b safe subsumed entered noted whole dark
  have hent : ∀ cause : Nat, ¬ safe → done (s.safeState cause 0 false) = .next (entered cause).finish := by
    intro cause h
    rw [safeState_of_not_safe h, subsumeBelow_eq]
    rfl
  have hsafe : ∀ cause : Nat, safe → done (s.safeState cause 0 false) = .next s.finish :=
    fun cause h => congrArg done (safeState_of_safe h)
  refine ⟨rfl, fun ht => congrArg done (if_neg (by unfold svcTrio; omega)), fun ht => congrArg done (if_pos ht), rfl, rfl,
    hent b.toNat, hsafe b.toNat, fun h r => congrArg done (if_pos h), fun h => ?clk100, fun h => ?clk156,
    fun h => congrArg done (if_pos h), fun h hs => (congrArg done (if_pos h)).trans (hent 0x1D hs),
    fun h hs => (congrArg done (if_pos h)).trans (hsafe 0x1D hs), fun h => ⟨?_, ?_⟩⟩
  case clk100 => exact congrArg done (if_neg (by simp [h]))
  case clk156 => exact congrArg done (if_neg (by simp [h]))
  · exact congrArg done (if_neg (by simp [h]))
  · exact congrArg done (if_neg (by simp [h]))

end Sys2Proof.Machine
end

section
/-! SUPPORT. Resets of the whole module: what records and the governor leave as it was, and what stands when the boot ROM starts
(R397, R405, R406, R411, R456). -/

namespace Sys2Proof.Machine

/-! ### What a record in Sole, and the governor, leave as it was -/

/-- The one state follows from the other by records in Sole, changes of level lines and the governor's meeting its causes. -/
structure Tells (s t : State) : Prop where
  mem : t.mem = s.mem
  poison : t.poison = s.poison
  msc : t.msc = s.msc
  timebase : t.timebase = s.timebase
  standby : t.power.standby = s.power.standby
  supplyReset : t.power.supplyReset = s.power.supplyReset
  everUp : t.power.everUp = s.power.everUp
  reg : ∀ r : RegRef, r.off ≠ soleStatR.off → r.off ≠ govR.off → t.reg r = s.reg r

theorem Tells.refl (s : State) : Tells s s := ⟨rfl, rfl, rfl, rfl, rfl, rfl, rfl, fun _ _ _ => rfl⟩

theorem Tells.trans {s t u : State} (h : Tells s t) (k : Tells t u) : Tells s u where
  mem := k.mem.trans h.mem
  poison := k.poison.trans h.poison
  msc := k.msc.trans h.msc
  timebase := k.timebase.trans h.timebase
  standby := k.standby.trans h.standby
  supplyReset := k.supplyReset.trans h.supplyReset
  everUp := k.everUp.trans h.everUp
  reg r a b := (k.reg r a b).trans (h.reg r a b)

theorem Tells.rf {s t : State} (h : Tells s t) {r : RegRef} (a : r.off ≠ soleStatR.off) (b : r.off ≠ govR.off) (hi lo : Nat) :
    t.rf r hi lo = s.rf r hi lo := by
  rw [State.rf, h.reg r a b, State.rf]

variable {s : State}

theorem tells_incRf_soleStatR (s : State) (hi lo : Nat) : Tells s (s.incRf soleStatR hi lo) :=
  { Tells.refl s with reg := fun _ a _ => State.reg_incRf_other s hi lo a }

theorem tells_sole (s : State) (x : Sole) : Tells s { s with sole := x } := { Tells.refl s with }

theorem tells_soleSys (s : State) (a : Nat) (r : List Dword) : Tells s (s.soleSys a r) := by
  unfold State.soleSys State.stage
  split
  · exact tells_incRf_soleStatR s 63 32
  · dsimp only
    split
    · rename_i h
      split at h
      · cases h
        exact tells_sole s _
      · cases h
    · exact (tells_incRf_soleStatR s 63 32).trans (tells_sole _ _)

theorem tells_sysEvent (s : State) (sub : Nat) (p : List Dword) : Tells s (s.sysEvent sub p) := by
  have h := tells_soleSys s 0 (mkRec (recHdr 0 sub 8 0 0x1FFF 0xFFF 0 false) s.timebase p)
  unfold State.sysEvent
  dsimp only
  split
  · split
    · exact h
    · exact h.trans (tells_soleSys _ _ _)
  · exact h

theorem tells_noteReset (s : State) (kind : Nat) (unit cause : Dword) : Tells s (s.noteReset kind unit cause) :=
  tells_sysEvent s _ _

theorem tells_govern (s : State) : Tells s s.govern := by
  have h : Tells s (s.setRf govR 7 5 s.leanCauses) :=
    { Tells.refl s with reg := fun _ _ b => State.reg_setRf_other s _ _ _ b }
  unfold State.govern
  dsimp only
  split
  · exact h.trans { Tells.refl _ with }
  · exact h.trans { Tells.refl _ with }

theorem tells_setLine (s : State) (n : Nat) (on : Bool) : Tells s (s.setLine n on) := { Tells.refl s with }

/-- The levels that the always-on island drives are met anew (R411). -/
def State.linesMet (s : State) : State :=
  let s := if s.supState = 1 then s.setLine 0 true else s
  let s := if s.supState = 3 then s.setLine 2 true else s
  if s.power.therm then s.setLine 3 true else s

theorem tells_ite_setLine (s : State) (p : Prop) [Decidable p] (n : Nat) : Tells s (if p then s.setLine n true else s) := by
  split
  · exact tells_setLine s n true
  · exact Tells.refl s

theorem tells_linesMet (s : State) : Tells s s.linesMet :=
  ((tells_ite_setLine s _ 0).trans (tells_ite_setLine _ _ 2)).trans (tells_ite_setLine _ _ 3)

/-! ### What a reset of the whole module keeps -/

theorem forN_keeps {α : Type} (p : State → α) {f : Nat → State → State} (h : ∀ i s, p (f i s) = p s) (n : Nat) (s : State) :
    p (forN n f s) = p s := by
  unfold forN
  induction List.range n generalizing s with
  | nil => rfl
  | cons i l ih => exact (ih _).trans (h i s)

/-- DRAM: its bytes and the lines that are poisoned. -/
def State.dram (s : State) : List Host.Cell × List Nat := (s.mem, s.poison)

theorem Tells.dram {s t : State} (h : Tells s t) : t.dram = s.dram := by
  rw [State.dram, h.mem, h.poison, State.dram]

theorem dram_noteOff (s : State) : s.noteOff.dram = s.dram := by
  have hf : s.noteStopped.dram = s.dram := by
    unfold State.noteStopped
    split
    · rfl
    · exact (tells_sysEvent s _ _).dram
  unfold State.noteOff
  dsimp only
  rw [forN_keeps State.dram, forN_keeps State.dram, hf]
  · intro m s
    split
    · rfl
    · exact (tells_sysEvent _ _ _).dram
  · intro k s
    split
    · rfl
    · exact (tells_sysEvent _ _ _).dram

theorem dram_blank (s : State) : (s.blank keptM).dram = s.dram := rfl

/-! ### The boot ROM's first instruction -/

/-- The service trio's cores start (R18, R405). -/
def State.svcStarted (s : State) : State := forN 3 (fun i s => s.setCore (coreNo svcTrio i) Core.svcReset) s

/-- The service trio is about to execute the boot ROM, and the cause stands in `RST_CAUSE`, before the reset is recorded. -/
def State.booting (s : State) (kind cause : Nat) (x : Straps) : State :=
  let s := (s.strapped x).svcStarted
  let s := ((s.incRf rstCauseR 63 32).setRf rstCauseR 15 8 cause).setRf rstCauseR 0 0 kind
  { s with
    sole := { s.sole with cfg := SMap.put 0 s.sole.cfg rstCauseR.off (s.reg rstCauseR) }
    power := { s.power with supplyReset := false, standby := false, pwrGood := true, everUp := true, alarm := true } }

theorem bootFrom_eq (s : State) (kind cause : Nat) (x : Straps) :
    s.bootFrom kind cause x = (s.booting kind cause x).noteReset kind 0 (BitVec.ofNat 64 cause) := rfl

theorem tells_bootFrom (s : State) (kind cause : Nat) (x : Straps) :
    Tells (s.booting kind cause x) (s.bootFrom kind cause x) := tells_noteReset _ _ _ _

/-- The cores are all that a start of the service trio changes. -/
theorem svcStarted_memory (s : State) :
    s.svcStarted.dram = s.dram ∧ s.svcStarted.msc = s.msc ∧ s.svcStarted.timebase = s.timebase := by
  unfold State.svcStarted
  refine ⟨forN_keeps State.dram ?_ 3 s, forN_keeps State.msc ?_ 3 s, forN_keeps State.timebase ?_ 3 s⟩ <;>
    exact fun _ _ => rfl

theorem booting_memory (s : State) (kind cause : Nat) (x : Straps) :
    (s.booting kind cause x).dram = s.dram ∧ (s.booting kind cause x).msc = s.msc ∧ (s.booting kind cause x).timebase = s.timebase := by
  obtain ⟨hd, hm, ht⟩ := svcStarted_memory (s.strapped x)
  simp only [State.booting, State.dram, State.setRf_mem, State.incRf_mem, State.setRf_poison, State.incRf_poison,
    State.setRf_msc, State.incRf_msc, State.setRf_timebase, State.incRf_timebase] at hd ⊢
  exact ⟨hd, hm, ht⟩

theorem rf_withSolePower (s : State) (o : Sole) (p : Power) (r : RegRef) (hi lo : Nat) :
    ({ s with sole := o, power := p } : State).rf r hi lo = s.rf r hi lo := rfl

theorem bootFrom_cause (s : State) (kind : Nat) {cause : Nat} (x : Straps) (h : cause < 256) :
    (s.bootFrom kind cause x).rf rstCauseR 15 8 = cause := by
  rw [(tells_bootFrom s kind cause x).rf (by decide) (by decide), State.booting, rf_withSolePower,
    rf_setRf_other_field _ _ _ _ _ (by decide) (by decide), rf_setRf_same _ _ (by decide) h]

theorem bootFrom_kind (s : State) {kind : Nat} (cause : Nat) (x : Straps) (h : kind < 2) :
    (s.bootFrom kind cause x).rf rstCauseR 0 0 = kind := by
  rw [(tells_bootFrom s kind cause x).rf (by decide) (by decide), State.booting, rf_withSolePower,
    rf_setRf_same _ _ (by decide) h]

/-! ### The module reset -/

/-- The module after everything in it is reset, as the boot ROM finds it (R405, R411). -/
theorem tells_moduleReset (s : State) (cause : Nat) (x : Straps) :
    Tells ((s.noteOff.blank keptM).bootFrom 1 cause x) (s.moduleReset cause x) :=
  (tells_linesMet _).trans (tells_govern _)

section
variable (s : State) (cause : Nat) (x : Straps)

theorem tells_booting_moduleReset :
    Tells ((s.noteOff.blank keptM).booting 1 cause x) (s.moduleReset cause x) :=
  (tells_bootFrom _ _ _ _).trans (tells_moduleReset s cause x)

theorem moduleReset_dram : (s.moduleReset cause x).dram = s.dram := by
  rw [(tells_booting_moduleReset s cause x).dram, (booting_memory _ _ _ _).1, dram_blank, dram_noteOff]

theorem moduleReset_msc : (s.moduleReset cause x).msc = {} :=
  (tells_booting_moduleReset s cause x).msc.trans (booting_memory _ _ _ _).2.1

theorem moduleReset_timebase : (s.moduleReset cause x).timebase = 0 :=
  (tells_booting_moduleReset s cause x).timebase.trans (booting_memory _ _ _ _).2.2

theorem moduleReset_standby : (s.moduleReset cause x).power.standby = false := (tells_booting_moduleReset s cause x).standby

end

/-- What a reset keeps follows from the state before its record, and the cause is the last thing that it writes (R405, R411). -/
theorem resetEvents : ResetEvents := by
  intro s ns x cause born
  have hc : cause < 256 := by
    change (if s.power.standby then 6 else 4) < 256
    split <;> decide
  have hb : born < 256 := by
    change (if s.power.everUp = false then 1 else if s.power.overVolt then 3 else 2) < 256
    split_ifs <;> decide
  have hlive : ∀ {b : Bool} {v : Nat}, b = false ∨ v ≤ 3500 → (!b) = true ∨ v ≤ 3500 := fun h => by simpa using h
  refine ⟨fun h => congrArg done (if_pos h), fun hn hs => ⟨s.moduleReset cause x, congrArg done (if_neg ?reset), rfl, ?mem, ?poison,
      ?lines, moduleReset_timebase s cause x, ?cause, ?kind, moduleReset_standby s cause x⟩,
    fun h => congrArg done (if_pos (hlive h)), fun hs hv => ⟨s.bootFrom 0 born x, ?release, rfl, ?supply, ?everUp,
      bootFrom_cause s 0 x hb, bootFrom_kind s born x (by decide)⟩⟩
  case reset => rintro (h | h) <;> [omega; exact Bool.false_ne_true (hs.symm.trans h)]
  case mem => exact congrArg Prod.fst (moduleReset_dram s cause x)
  case poison => exact congrArg Prod.snd (moduleReset_dram s cause x)
  case lines => rw [moduleReset_msc]
  case cause =>
    rw [(tells_moduleReset s cause x).rf (by decide) (by decide), bootFrom_cause _ _ _ hc]
  case kind =>
    rw [(tells_moduleReset s cause x).rf (by decide) (by decide), bootFrom_kind _ _ _ (by decide)]
  case release =>
    have h : ¬ ((!s.power.supplyReset) = true ∨ s.rf supStatR 63 48 ≤ 3500) := by
      rw [hs]
      exact not_or.mpr ⟨by decide, Nat.not_le.mpr hv⟩
    have hborn : (if !s.power.everUp then 1 else if s.power.overVolt then 3 else 2) = born := by
      cases he : s.power.everUp <;> simp [born, he]
    exact (congrArg done (if_neg h)).trans (congrArg (fun n => done (s.bootFrom 0 n x)) hborn)
  case supply => exact (tells_bootFrom s 0 born x).supplyReset
  case everUp => exact (tells_bootFrom s 0 born x).everUp

/-- Settles O59: the supply monitor, the governor, temperatures and life, domains, containment, and the module's resets. -/
theorem powerEvents : Obligations.PowerEvents :=
  ⟨supplySamples, governorEvents, lifeEvents, domainEvents, containmentEvents, resetEvents⟩

end Sys2Proof.Machine
end

section
/-! SUPPORT. Leading zeros, trailing zeros and ones are counts of bits, and obligation O8 (R39). -/

namespace Sys2Proof.Machine

/-! ### Leading and trailing zeros -/

theorem clz64_of_ne_zero {a : Dword} (h : a ≠ 0) : clz64 a = 63 - a.toNat.log2 := if_neg h

theorem log2_toNat_lt {a : Dword} (h : a ≠ 0) : a.toNat.log2 < 64 :=
  (Nat.log2_lt fun h0 => h (BitVec.eq_of_toNat_eq h0)).mpr a.isLt

/-- The bits above a word's highest one are zero, and that one is a one. -/
theorem clz64_counts (a : Dword) :
    clz64 a ≤ 64 ∧ (∀ i, i < clz64 a → a.getLsbD (63 - i) = false) ∧ (clz64 a < 64 → a.getLsbD (63 - clz64 a) = true) := by
  by_cases h : a = 0
  · subst h
    simp [clz64]
  · have hl := log2_toNat_lt h
    have hn : a.toNat ≠ 0 := fun h0 => h (BitVec.eq_of_toNat_eq h0)
    rw [clz64_of_ne_zero h]
    refine ⟨by omega, fun i hi => ?_, fun _ => ?_⟩
    · have hlt : a.toNat < 2 ^ (63 - i) :=
        Nat.lt_log2_self.trans_le (Nat.pow_le_pow_right (by decide) (by omega))
      exact Nat.testBit_lt_two_pow hlt
    · have hi : 63 - (63 - a.toNat.log2) = a.toNat.log2 := by omega
      rw [hi]
      exact Nat.testBit_log2 hn

/-- A search from `i` ends at the first number of its range that satisfies `p`, if there is one. -/
theorem findFrom_spec (p : Nat → Bool) (n i : Nat) :
    match findFrom p n i with
    | some j => i ≤ j ∧ j < i + n ∧ p j = true ∧ ∀ k, i ≤ k → k < j → p k = false
    | none => ∀ k, i ≤ k → k < i + n → p k = false := by
  induction n generalizing i with
  | zero =>
    intro k hl hu
    omega
  | succ n ih =>
    unfold findFrom
    by_cases h : p i = true
    · rw [if_pos h]
      exact ⟨Nat.le_refl i, by omega, h, fun k hl hu => by omega⟩
    · rw [if_neg h]
      have hi : p i = false := by simpa using h
      have step : ∀ {k}, i ≤ k → k ≠ i → i + 1 ≤ k := by omega
      have ih := ih (i + 1)
      revert ih
      cases findFrom p n (i + 1) with
      | none =>
        intro ih k hl hu
        by_cases hk : k = i
        · rw [hk, hi]
        · exact ih k (step hl hk) (by omega)
      | some j =>
        rintro ⟨hl, hu, hj, hb⟩
        refine ⟨by omega, by omega, hj, fun k hkl hkj => ?_⟩
        by_cases hk : k = i
        · rw [hk, hi]
        · exact hb k (step hkl hk) hkj

theorem ctz64_counts (a : Dword) :
    ctz64 a ≤ 64 ∧ (∀ i, i < ctz64 a → a.getLsbD i = false) ∧ (ctz64 a < 64 → a.getLsbD (ctz64 a) = true) := by
  have h := findFrom_spec (fun i => a.getLsbD i) 64 0
  unfold ctz64
  revert h
  cases findFrom (fun i => a.getLsbD i) 64 0 with
  | none =>
    intro h
    exact ⟨Nat.le_refl 64, fun i hi => h i (Nat.zero_le i) (by simpa using hi), fun h64 => absurd h64 (Nat.lt_irrefl 64)⟩
  | some j =>
    rintro ⟨-, hu, hj, hb⟩
    exact ⟨by simpa using Nat.le_of_lt hu, fun i hi => hb i (Nat.zero_le i) hi, fun _ => hj⟩

/-! ### Ones -/

theorem length_filter_eq_sum {α : Type} (p : α → Bool) (l : List α) :
    (l.filter p).length = (l.map (fun x => (p x).toNat)).sum := by
  induction l with
  | nil => rfl
  | cons x l ih => cases h : p x <;> simp [h, ih, Nat.add_comm]

/-- Settles O8: the highest one bounds the leading zeros, the search for the lowest one the trailing ones, and the ones are filtered. -/
theorem countsAreCounts : Obligations.CountsAreCounts :=
  fun a => ⟨clz64_counts a, ctz64_counts a, length_filter_eq_sum _ _⟩

end Sys2Proof.Machine
end

section
/-! SUPPORT. What an instruction of a ready core comes to by what its own part answers, and the floating-point instructions: obligation O12
(R39, R42, R44, R47, R75, R78, R81, R85-R87). -/

namespace Sys2Proof.Machine

/-! ### What an instruction of a ready core comes to -/

section
variable {s s1 : State} {c : CoreId} (h : Ready s c s1) {w : Word} {forbid : Bool} {body : State → State × PosRes}
include h

/-- A part that ends the position retires the instruction. -/
theorem done_position_of_next {t : State} {e : Happened} {slot : Option SlotSt}
    (hf : forbid = true → (s.core c.val).arch.slot = none) (hb : body s1 = (t, .next e slot)) :
    done (s.position c.val w forbid body) = .next (retired t c (s.core c.val).arch.pc e slot) := by
  rw [position_ready h w forbid body hf, hb]
  rfl

/-- A part that traps ends the position in the trap of its instruction. -/
theorem done_position_of_trap {t : State} {x : Trap} (hf : forbid = true → (s.core c.val).arch.slot = none)
    (hb : body s1 = (t, .trap x)) : done (s.position c.val w forbid body) = .next (trapped t c w x) := by
  rw [position_ready h w forbid body hf, hb]
  rfl

/-- A part that waits leaves the core frozen in its position. -/
theorem done_position_of_stay {t : State} (hf : forbid = true → (s.core c.val).arch.slot = none)
    (hb : body s1 = (t, .stay)) : done (s.position c.val w forbid body) = .next (t.freeze c.val).finish := by
  rw [position_ready h w forbid body hf, hb]
  rfl

end

/-- The instruction may stand in a delay slot. -/
theorem slot_allowed {s : State} {c : CoreId} : (false : Bool) = true → (s.core c.val).arch.slot = none := nofun

/-! ### Computational operations -/

theorem doCop_of_run {s : State} {c : CoreId} {op : Cop} {x : Srcs} {rd : BitVec 5} {v : Dword} {isF : Bool} {ff : BitVec 5}
    {af : BitVec 3} {dist : Nat} (hr : op.run x = some ⟨some v, isF, ff, af, dist⟩) :
    s.doCop c.val op x rd = (sends s c isF rd v dist ff af, .next {} none) := by
  rw [State.doCop, hr]
  rfl

theorem doCop_of_reserved {s : State} {c : Nat} {op : Cop} {x : Srcs} {rd : BitVec 5} (hr : op.run x = none) :
    s.doCop c op x rd = (s, .trap { cause := 0x04 }) := by
  rw [State.doCop, hr]

section
variable {s s1 : State} {c : CoreId} (h : Ready s c s1)
include h

theorem instrA_of_run {major fn : BitVec 6} {op : Cop} {o : OpsA} {v : Dword} {isF : Bool} {ff : BitVec 5} {dist : Nat}
    (hr : op.run ((s1.core c.val).srcs o.rd o.rs1 o.rs2 o.ext (fld o.ext 4 2) 0) = some ⟨some v, isF, ff, 0, dist⟩) :
    instrA c major fn op o s = .next (retired (sends s1 c isF o.rd v dist ff 0) c (s.core c.val).arch.pc {} none) :=
  done_position_of_next h slot_allowed (doCop_of_run hr)

theorem instrFma_of_run {fn : BitVec 3} {o : OpsFma} {v : Dword} {ff : BitVec 5} {dist : Nat}
    (hr : (Cop.fma fn.toNat).run ((s1.core c.val).srcs o.rd o.rs1 o.rs2 o.rs3 o.rm.toNat 0) = some ⟨some v, true, ff, 0, dist⟩) :
    instrFma c fn o s = .next (retired (sends s1 c true o.rd v dist ff 0) c (s.core c.val).arch.pc {} none) :=
  done_position_of_next h slot_allowed (doCop_of_run hr)

theorem instrFma_of_reserved {fn : BitVec 3} {o : OpsFma}
    (hr : (Cop.fma fn.toNat).run ((s1.core c.val).srcs o.rd o.rs1 o.rs2 o.rs3 o.rm.toNat 0) = none) :
    instrFma c fn o s = .next (trapped s1 c (wordFma o fn) { cause := 0x04 }) :=
  done_position_of_trap h slot_allowed (doCop_of_reserved hr)

end

/-! ### Floating-point operations (R39, R75) -/

section
variable {x : Srcs} {v : Dword} {ff : FFlags}

/-- A mode that is no reserved value (R42). -/
def Srcs.modeOk (x : Srcs) : Prop := x.rm ≠ 5 ∧ x.rm ≠ 6

theorem Srcs.modeOk_iff : x.modeOk ↔ ¬ (x.rm = 5 || x.rm = 6) = true := by simp [Srcs.modeOk]

theorem run_fp {dbl : Bool} {fn d : Nat} (hm : 4 < fn ∨ x.modeOk) (hv : fpVal dbl fn x.mode x.f1 x.f2 = some (v, ff))
    (hd : (Cop.fp dbl fn).dist = d) : (Cop.fp dbl fn).run x = some ⟨some v, true, ff, 0, d⟩ := by
  have hr : ¬ ((Cop.fp dbl fn).rounds && (x.rm = 5 || x.rm = 6)) = true := by
    rw [Srcs.modeOk_iff] at hm
    simp only [Cop.rounds, Bool.and_eq_true, decide_eq_true_eq]
    rintro ⟨hle, hres⟩
    exact hm.elim (Nat.not_lt.mpr hle) (· hres)
  simp only [Cop.run, if_neg hr, hv, hd, Option.map_some]

theorem run_fpx {fn d : Nat} {isF : Bool} (hm : ¬ (8 ≤ fn ∧ fn ≤ 0xF) ∨ x.modeOk)
    (hv : fpxVal fn x.mode x.f1 x.f2 x.g1 = some (!isF, v, ff)) (hd : (Cop.fpx fn).dist = d) :
    (Cop.fpx fn).run x = some ⟨some v, isF, ff, 0, d⟩ := by
  have hr : ¬ ((Cop.fpx fn).rounds && (x.rm = 5 || x.rm = 6)) = true := by
    rw [Srcs.modeOk_iff] at hm
    simp only [Cop.rounds, Bool.and_eq_true, decide_eq_true_eq]
    rintro ⟨hle, hres⟩
    exact hm.elim (· hle) (· hres)
  simp only [Cop.run, if_neg hr, hv, hd, Option.map_some, Bool.not_not]

theorem run_fma {k : Nat} (hm : x.modeOk) :
    (Cop.fma k).run x = some ⟨some (fmaVal k x.mode x.f1 x.f2 x.f3).1, true, (fmaVal k x.mode x.f1 x.f2 x.f3).2, 0, 5⟩ :=
  if_neg (by rw [Srcs.modeOk_iff] at hm; exact hm)

theorem run_fma_reserved {k : Nat} (hm : x.rm = 5 ∨ x.rm = 6) : (Cop.fma k).run x = none :=
  if_pos (by simpa [Cop.rounds] using hm)

end

/-! ### Signs (R78) -/

theorem Fmt.bits_lt (dbl : Bool) (a : Dword) : (fmtOf dbl).bits a < 2 * (fmtOf dbl).signBit := by
  cases dbl with
  | false => exact Nat.mod_lt _ (by decide)
  | true => exact a.isLt

/-- A magnitude under a sign bit that is given as a number. -/
theorem Fmt.mk'_eq (f : Fmt) {b : Bool} {n : Nat} (hb : b.toNat = n) (mag : Nat) : f.mk' b mag = mag + n * f.signBit := by
  subst hb
  cases b <;> simp [Fmt.mk', Nat.add_comm]

/-- The sign bit of an operand as a number. -/
theorem sign_toNat {f : Fmt} {x : Nat} (h : x < 2 * f.signBit) : (decide (x / f.signBit = 1)).toNat = x / f.signBit := by
  have hq : x / f.signBit < 2 := Nat.div_lt_of_lt_mul (by omega)
  generalize x / f.signBit = q at hq
  interval_cases q <;> rfl

theorem not_toNat (b : Bool) : (!b).toNat = 1 - b.toNat := by cases b <;> rfl

theorem xor_toNat (a b : Bool) : (a ^^ b).toNat = (a.toNat + b.toNat) % 2 := by cases a <;> cases b <;> rfl

section
variable (dbl : Bool) (rm : Nat) (a b : Dword)

theorem fpVal_signCopy :
    fpVal dbl 7 rm a b = some (BitVec.ofNat 64 ((fmtOf dbl).bits a % (fmtOf dbl).signBit +
      (fmtOf dbl).bits b / (fmtOf dbl).signBit * (fmtOf dbl).signBit), 0) := by
  rw [← Fmt.mk'_eq _ (sign_toNat (Fmt.bits_lt dbl b))]
  rfl

theorem fpVal_signNegate :
    fpVal dbl 8 rm a b = some (BitVec.ofNat 64 ((fmtOf dbl).bits a % (fmtOf dbl).signBit +
      (1 - (fmtOf dbl).bits b / (fmtOf dbl).signBit) * (fmtOf dbl).signBit), 0) := by
  rw [← Fmt.mk'_eq _ ((not_toNat _).trans (congrArg (1 - ·) (sign_toNat (Fmt.bits_lt dbl b))))]
  rfl

theorem fpVal_signXor :
    fpVal dbl 9 rm a b = some (BitVec.ofNat 64 ((fmtOf dbl).bits a % (fmtOf dbl).signBit +
      ((fmtOf dbl).bits a / (fmtOf dbl).signBit + (fmtOf dbl).bits b / (fmtOf dbl).signBit) % 2 * (fmtOf dbl).signBit), 0) := by
  have hx : (decide ((fmtOf dbl).bits a / (fmtOf dbl).signBit = 1) ^^ decide ((fmtOf dbl).bits b / (fmtOf dbl).signBit = 1)).toNat =
      ((fmtOf dbl).bits a / (fmtOf dbl).signBit + (fmtOf dbl).bits b / (fmtOf dbl).signBit) % 2 := by
    rw [xor_toNat, sign_toNat (Fmt.bits_lt dbl a), sign_toNat (Fmt.bits_lt dbl b)]
  rw [← Fmt.mk'_eq _ hx]
  rfl

end

theorem bit01_eq_ofNat (b : Bool) : bit01 b = BitVec.ofNat 64 (if b then 1 else 0) := by cases b <;> rfl


/-! ### The instructions -/

theorem run_compare (x : Srcs) (dbl : Bool) {op fn : Nat} (hf : fn = if dbl then op else op + 3) (hop : op < 3) :
    (Cop.fpx fn).run x = some ⟨some (BitVec.ofNat 64
      (if ((fmtOf dbl).compare op ((fmtOf dbl).bits x.f1) ((fmtOf dbl).bits x.f2)).1 then 1 else 0)), false,
      ((fmtOf dbl).compare op ((fmtOf dbl).bits x.f1) ((fmtOf dbl).bits x.f2)).2, 0, 2⟩ := by
  rw [← bit01_eq_ofNat, hf]
  interval_cases op <;> cases dbl <;> exact run_fpx (.inl (by decide)) rfl rfl

theorem run_class (x : Srcs) (dbl : Bool) :
    (Cop.fpx (if dbl then 0x12 else 0x13)).run x =
      some ⟨some (BitVec.ofNat 64 (2 ^ (fmtOf dbl).classBit ((fmtOf dbl).bits x.f1))), false, 0, 0, 2⟩ := by
  cases dbl <;> exact run_fpx (.inl (by decide)) rfl rfl

theorem floatResults : FloatResults := by
  intro s s1 c dbl o h k f x y rm pc out b01
  refine ⟨fun h5 h6 => ⟨?fadd, ?fsub, ?fmul⟩, ?fmin, ?fmax, ?fsgnj, ?fsgnjn, ?fsgnjx, ?feq, ?flt, ?fle, ?fclass, ?fmvXD, ?fmvDX⟩
  case fadd | fsub | fmul => exact instrA_of_run h (run_fp (.inr ⟨h5, h6⟩) rfl rfl)
  case fmin | fmax => exact instrA_of_run h (run_fp (.inl (by decide)) rfl rfl)
  case fsgnj => exact instrA_of_run h (run_fp (.inl (by decide)) (fpVal_signCopy ..) rfl)
  case fsgnjn => exact instrA_of_run h (run_fp (.inl (by decide)) (fpVal_signNegate ..) rfl)
  case fsgnjx => exact instrA_of_run h (run_fp (.inl (by decide)) (fpVal_signXor ..) rfl)
  case feq => exact instrA_of_run h (run_compare _ dbl (op := 0) rfl (by decide))
  case flt => exact instrA_of_run h (run_compare _ dbl (op := 1) rfl (by decide))
  case fle => exact instrA_of_run h (run_compare _ dbl (op := 2) rfl (by decide))
  case fclass => exact instrA_of_run h (run_class _ dbl)
  case fmvXD | fmvDX =>
    refine instrA_of_run h (run_fpx (.inl (by decide)) ?_ rfl)
    rw [BitVec.ofNat_toNat, BitVec.setWidth_eq]
    rfl

theorem conversionResults : ConversionResults := by
  intro s s1 c o h h5 h6 k rm d w g out
  have hm : (k.srcs o.rd o.rs1 o.rs2 o.ext (fld o.ext 4 2) 0).modeOk := ⟨h5, h6⟩
  refine ⟨?_, ?_, ?_, ?_, ?_, ?_, ?_, ?_⟩ <;> exact instrA_of_run h (run_fpx (.inr hm) rfl rfl)

theorem fusedResults : FusedResults := by
  intro s s1 c dbl o h k f x y z rm out
  refine ⟨fun h5 h6 => ?rounds, fun hres => instrFma_of_reserved h (run_fma_reserved ?reserved)⟩
  case rounds =>
    have hm : (k.srcs o.rd o.rs1 o.rs2 o.rs3 o.rm.toNat 0).modeOk :=
      ⟨fun e => h5 (BitVec.eq_of_toNat_eq e), fun e => h6 (BitVec.eq_of_toNat_eq e)⟩
    cases dbl <;> exact ⟨instrFma_of_run h (run_fma hm), instrFma_of_run h (run_fma hm), instrFma_of_run h (run_fma hm),
      instrFma_of_run h (run_fma hm)⟩
  case reserved => exact hres.imp (congrArg BitVec.toNat) (congrArg BitVec.toNat)

/-- Settles O12: one position each, by the result of the operation; the signs are the operands' sign bits as numbers. -/
theorem floatingInstructions : Obligations.FloatingInstructions := ⟨floatResults, conversionResults, fusedResults⟩
end Sys2Proof.Machine
end

section
/-! SUPPORT. Branches and jumps: obligation O24 (R46, R54, R92, R97, R98). -/

namespace Sys2Proof.Machine

/-- The sign of an operand decides each condition of a branch (R54). -/
theorem Dword.conditions (x : Dword) :
    decide (x = 0) = decide (x.toInt = 0) ∧ decide (x ≠ 0) = decide (x.toInt ≠ 0) ∧ x.msb = decide (x.toInt < 0) ∧
    (!x.msb) = decide (0 ≤ x.toInt) ∧ (x.msb || decide (x = 0)) = decide (x.toInt ≤ 0) ∧
    (!x.msb && decide (x ≠ 0)) = decide (0 < x.toInt) := by
  have hz : x = 0 ↔ x.toInt = 0 := BitVec.toInt_inj.symm
  have hm : x.msb = decide (x.toInt < 0) := BitVec.msb_eq_toInt
  rw [hm, ← decide_not, ← Bool.decide_or, ← Bool.decide_and]
  simp only [hz, ne_eq, decide_eq_decide, not_lt, true_and]
  generalize x.toInt = i
  omega

/-- A general register's result, which g0 does not take. -/
theorem Core.give_general (q : Core) (rd : BitVec 5) (v : Dword) (dist : Nat) :
    q.give false rd v dist = if rd = 0 then q else q.produce ⟨q.arch.posn + dist, some (gKey q.infast rd), v, 0, 0, none⟩ := by
  by_cases hz : rd = 0
  · subst hz
    rfl
  · rw [Core.give, Core.dest, if_neg Bool.false_ne_true, if_neg hz, if_neg hz]

/-- A jump with a link: the fetches that follow it, the training, and rd. -/
theorem jumpTo_link (s : State) (c : Nat) (tgt : Dword) (rd : BitVec 5) (annul ret indir : Bool) :
    jumpTo c tgt (some rd) annul ret indir s =
      let k := s.core c
      let pc := k.arch.pc
      let f := s.followed c ((k.guessJump pc ret).map (unscramble k.key)) (canonPc tgt)
      ((f.trained c ((f.core c).trainJump pc tgt ret (decide (rd = 31)))).modCore c (fun q =>
          if rd = 0 then q else q.produce ⟨q.arch.posn + 1, some (gKey q.infast rd), pc + 8, 0, 0, none⟩),
        .next { taken := true, indir := if indir then some tgt else none } (some ⟨pc, true, tgt, annul⟩)) := by
  simp only [jumpTo, Core.give_general, Option.some.injEq]

/-- A jump without a link. -/
theorem jumpTo_plain (s : State) (c : Nat) (tgt : Dword) (annul ret indir : Bool) :
    jumpTo c tgt none annul ret indir s =
      let k := s.core c
      let pc := k.arch.pc
      let f := s.followed c ((k.guessJump pc ret).map (unscramble k.key)) (canonPc tgt)
      (f.trained c ((f.core c).trainJump pc tgt ret false),
        .next { taken := true, indir := if indir then some tgt else none } (some ⟨pc, true, tgt, annul⟩)) := by
  simp only [jumpTo, reduceCtorEq, decide_false]

theorem branchInstr_of_ready {s s1 : State} {c : CoreId} (h : Ready s c s1) (hs : (s.core c.val).arch.slot = none)
    (major : BitVec 6) {p : Dword → Bool} (o : OpsD) {taken : Bool} (ht : p ((s1.core c.val).g o.rs) = taken) :
    branchInstr c major p o s =
      let k := s1.core c.val
      let pc := k.arch.pc
      let tgt := pc + o.disp.signExtend 64 <<< 2
      let f := s1.followed c.val ((k.guessCond pc).map (unscramble k.key)) (canonPc (if taken then tgt else pc + 8))
      .next (retired (f.trained c.val ((f.core c.val).trainCond pc tgt taken)) c (s.core c.val).arch.pc
        { branch := some taken, taken := taken } (some ⟨pc, taken, tgt, o.a && !taken⟩)) := by
  subst ht
  exact done_position_of_next h (fun _ => hs) rfl

/-- Settles O24: each branch by the sign of its operand, each jump by its target and its link. -/
theorem branchesAndJumps : Obligations.BranchesAndJumps := by
  intro s s1 c h hs k pc p0 cond jumps link
  refine ⟨fun o => ?branches, fun o => ⟨?j, ?jal⟩, fun m2 o => ?jalr⟩
  case branches =>
    obtain ⟨heq, hne, hlt, hge, hle, hgt⟩ := Dword.conditions ((s1.core c.val).g o.rs)
    refine ⟨?_, ?_, ?_, ?_, ?_, ?_⟩
    · exact branchInstr_of_ready h hs 0x20 (p := fun x => decide (x = 0)) o heq
    · exact branchInstr_of_ready h hs 0x21 (p := fun x => decide (x ≠ 0)) o hne
    · exact branchInstr_of_ready h hs 0x22 (p := fun x => x.msb) o hlt
    · exact branchInstr_of_ready h hs 0x23 (p := fun x => !x.msb) o hge
    · exact branchInstr_of_ready h hs 0x24 (p := fun x => x.msb || decide (x = 0)) o hle
    · exact branchInstr_of_ready h hs 0x25 (p := fun x => !x.msb && decide (x ≠ 0)) o hgt
  case j =>
    have hb := jumpTo_plain s1 c.val (pc + o.disp.signExtend 64 <<< 2) o.a false false
    exact done_position_of_next (w := wordE 0x28 o) h (fun _ => hs) hb
  case jal =>
    have hb := jumpTo_link s1 c.val (pc + o.disp.signExtend 64 <<< 2) 31 o.a false false
    exact done_position_of_next (w := wordE 0x29 o) h (fun _ => hs) hb
  case jalr =>
    have hb := jumpTo_link s1 c.val (k.g o.rs1 + o.imm.signExtend 64) o.rd (m2.getLsbD 1)
      (decide (o.rs1 = 31 ∧ (o.rd = 0 ∨ o.rd = 31))) true
    exact done_position_of_next (w := wordB 0x0E m2 o) h (fun _ => hs) hb

end Sys2Proof.Machine
end

section
/-! SUPPORT. Delay slots: obligation O25 (R54, R55). -/

namespace Sys2Proof.Machine

/-- The core stands in a delay slot and its results due have reached their registers; an annulled slot is not fetched. -/
structure InSlot (s : State) (c : CoreId) (sl : SlotSt) (s1 : State) : Prop where
  issuing : s.issuing c.val = true
  agreed : (s.trio (trioOf c.val)).inj = none
  slot : (s.core c.val).arch.slot = some sl
  reached : if sl.annul = true then s1 = s.modCore c.val (fun k => k.settle k.arch.posn)
    else (s.modCore c.val (fun k => k.settle k.arch.posn)).fetch c.val = (s1, .ok ())

/-- An instruction in an annulled slot takes its position and changes nothing (R54). -/
theorem position_annulled {s : State} {c : Nat} {sl : SlotSt} (hi : s.issuing c = true) (hj : (s.trio (trioOf c)).inj = none)
    (hs : (s.core c).arch.slot = some sl) (ha : sl.annul = true) (w : Word) (forbid : Bool) (body : State → State × PosRes) :
    s.position c w forbid body =
      let u := s.modCore c (fun k => k.settle k.arch.posn)
      if forbid then u.trapPos c w { cause := 0x07 }
      else (u.modCore c (fun k => k.advance none)).endPos c (s.core c).arch.pc {} := by
  have hk := Core.settle_keeps (s.core c) (s.core c).arch.posn
  rw [position_agreed hj hi]
  unfold State.positionRun
  simp only [State.core_modCore, hk.1, hk.2.2, hs, Option.map_some, ha, if_true]
  cases forbid <;> rfl

/-- An instruction that may not stand in a delay slot raises a Slot fault there, annulled or not (R55). -/
theorem done_position_of_slot {s s1 : State} {c : CoreId} {sl : SlotSt} (h : InSlot s c sl s1) (w : Word)
    (body : State → State × PosRes) : done (s.position c.val w true body) = .next (trapped s1 c w { cause := 0x07 }) := by
  have hr := h.reached
  split at hr
  next ha =>
    rw [position_annulled h.issuing h.agreed h.slot ha, hr]
    rfl
  next ha =>
    have live : (s.core c.val).arch.slot.map (·.annul) ≠ some true := by
      rw [h.slot]
      exact fun e => ha (Option.some.inj e)
    rw [position_slotFault ⟨h.issuing, live, hr, h.agreed⟩ w body (by rw [h.slot]; rfl)]
    rfl

/-- After a slot comes the branch's target or its address + 8 (R54). -/
theorem Core.arch_advance_of_slot {k : Core} {sl : SlotSt} (h : k.arch.slot = some sl) :
    (k.advance none).arch =
      { k.arch with pc := canonPc (if sl.taken then sl.target else sl.branch + 8), posn := k.arch.posn + 1, slot := none } := by
  simp only [Core.advance, h]

/-- Settles O25: what may not stand in a slot faults before its own part runs. -/
theorem delaySlots : Obligations.DelaySlots := by
  intro s c sl hi hj hs s0 pc
  refine ⟨fun ha w body => ?annulled, fun k hk => ?after, fun s1 h1 => ?fault⟩
  case annulled =>
    rw [position_annulled hi hj hs ha]
    rfl
  case after =>
    rw [Core.arch_advance_of_slot hk]
    exact ⟨rfl, rfl, rfl, rfl, rfl, rfl⟩
  case fault =>
    have h : InSlot s c sl s1 := ⟨hi, hj, hs, h1⟩
    have hf : ∀ (w : Word) (body : State → State × PosRes),
        done (s.position c.val w true body) = .next (trapped s1 c w { cause := 0x07 }) := done_position_of_slot h
    exact ⟨fun o => ⟨hf _ _, hf _ _, hf _ _, hf _ _, hf _ _, hf _ _⟩, fun o => ⟨hf _ _, hf _ _⟩, fun m2 o => hf _ _,
      fun o => ⟨hf _ _, hf _ _, hf _ _, hf _ _, hf _ _, hf _ _, hf _ _, hf _ _⟩⟩

end Sys2Proof.Machine
end

section
/-! SUPPORT. Control and status registers of a core (R103), and results that reach their registers whatever else the core holds. -/

namespace Sys2Proof.Machine

/-! ### Reading a register after a write -/

/-- Another key keeps its value, whatever value its own absence stands for. -/
theorem SMap.get_put_else {α : Type} [DecidableEq α] (d e : α) (m : SMap α) {i j : Nat} (v : α) (h : j ≠ i) :
    SMap.get d (SMap.put e m i v) j = SMap.get d m j := by
  unfold SMap.put
  split
  · exact SMap.get_erase_other d m h
  · rw [SMap.get_ins_other d _ v h, SMap.get_erase_other d m h]

theorem Core.csr_setCsr (k : Core) (n m : Nat) (v : Dword) : (k.setCsr n v).csr m = if m = n then v else k.csr m := by
  unfold Core.setCsr
  by_cases hn : csrOwn n = true
  · rw [if_pos hn]
    by_cases he : m = n
    · subst he
      simp only [Core.csr, if_pos hn, if_true, SMap.get_put_same]
    · simp only [Core.csr, if_neg he]
      split
      · exact SMap.get_put_else _ _ _ v he
      · rfl
  · rw [if_neg hn]
    by_cases he : m = n
    · subst he
      simp only [Core.csr, if_neg hn, if_true, SMap.get_put_same]
    · simp only [Core.csr, if_neg he]
      split
      · rfl
      · exact SMap.get_put_else _ _ _ v he

@[simp] theorem Core.csr_setCsr_same (k : Core) (n : Nat) (v : Dword) : (k.setCsr n v).csr n = v := by
  rw [Core.csr_setCsr, if_pos rfl]

theorem Core.csr_setCsr_other (k : Core) {n m : Nat} (v : Dword) (h : m ≠ n) : (k.setCsr n v).csr m = k.csr m := by
  rw [Core.csr_setCsr, if_neg h]

@[simp] theorem Core.setCsr_regs (k : Core) (n : Nat) (v : Dword) : (k.setCsr n v).arch.regs = k.arch.regs := by
  unfold Core.setCsr; split <;> rfl
@[simp] theorem Core.setCsr_pend (k : Core) (n : Nat) (v : Dword) : (k.setCsr n v).arch.pend = k.arch.pend := by
  unfold Core.setCsr; split <;> rfl
@[simp] theorem Core.setCsr_iu (k : Core) (n : Nat) (v : Dword) : (k.setCsr n v).arch.iu = k.arch.iu := by
  unfold Core.setCsr; split <;> rfl
@[simp] theorem Core.setCsr_fu (k : Core) (n : Nat) (v : Dword) : (k.setCsr n v).arch.fu = k.arch.fu := by
  unfold Core.setCsr; split <;> rfl

/-! ### What a core's programs can see -/

/-- The core with another merging buffer. -/
def Core.withMerge (k : Core) (m : List MergeEntry) : Core := { k with merge := m }

theorem Core.setCsr_withMerge (k : Core) (m : List MergeEntry) (n : Nat) (v : Dword) :
    (k.withMerge m).setCsr n v = (k.setCsr n v).withMerge m := by
  unfold Core.setCsr
  split <;> rfl

theorem Core.orFlags_withMerge (k : Core) (m : List MergeEntry) (ff : BitVec 5) (af : BitVec 3) :
    (k.withMerge m).orFlags ff af = (k.orFlags ff af).withMerge m := by
  unfold Core.orFlags
  by_cases hf : ff = 0 <;> by_cases ha : af = 0 <;> simp only [hf, ha, if_true, if_false] <;>
    simp only [Core.setCsr_withMerge] <;> rfl

theorem Core.applyRes_withMerge (k : Core) (m : List MergeEntry) (r : PendRes) :
    (k.withMerge m).applyRes r = (k.applyRes r).withMerge m := by
  obtain ⟨vis, reg, val, ff, af, rcd⟩ := r
  cases reg <;> cases rcd <;> simp only [Core.applyRes]
  case none.none => exact Core.orFlags_withMerge ..
  case some.none key => exact Core.orFlags_withMerge { k with arch := k.arch.wr key val } m ff af
  case none.some x => rw [Core.orFlags_withMerge]; exact Core.setCsr_withMerge ..
  case some.some key x =>
    rw [show ({ k.withMerge m with arch := (k.withMerge m).arch.wr key val } : Core) =
      ({ k with arch := k.arch.wr key val } : Core).withMerge m from rfl, Core.orFlags_withMerge]
    exact Core.setCsr_withMerge ..

theorem Core.settleAll_withMerge (k : Core) (m : List MergeEntry) : (k.withMerge m).settleAll = k.settleAll.withMerge m := by
  have fold : ∀ (l : List PendRes) (k : Core), l.foldl Core.applyRes (k.withMerge m) = (l.foldl Core.applyRes k).withMerge m := by
    intro l
    induction l with
    | nil => exact fun k => rfl
    | cons r l ih => exact fun k => (congrArg (l.foldl Core.applyRes) (Core.applyRes_withMerge k m r)).trans (ih _)
  exact fold (byVis k.arch.pend) { k with arch := { k.arch with pend := [] } }

/-- Results that reach their registers do not move the core on. -/
theorem Core.settleAll_posn (k : Core) : k.settleAll.arch.posn = k.arch.posn := by
  have fold : ∀ (l : List PendRes) (k : Core), (l.foldl Core.applyRes k).arch.posn = k.arch.posn := by
    intro l
    induction l with
    | nil => exact fun k => rfl
    | cons r l ih => exact fun k => (ih _).trans (Core.applyRes_keeps k r).2.1
  exact fold (byVis k.arch.pend) { k with arch := { k.arch with pend := [] } }

end Sys2Proof.Machine
end

section
/-! SUPPORT. What RFE restores: obligation O28 (R49, R106). -/

namespace Sys2Proof.Machine

/-! ### The state restored from a set's `ESTAT` -/

/-- `CSTAT` with the level, the world, the class and the enables that an `ESTAT` restores; bit 6 as given. -/
def cstatFrom (x es : Dword) (fast : Bool) : Dword :=
  setFld (setFld (setFld (setFld (setFld x 4 3 (fld es 17 16)) 5 5 (bit es 18).toNat) 6 6 fast.toNat)
    0 0 (bit es 19).toNat) 1 1 (bit es 20).toNat

section
variable (x es : Dword) (fast : Bool)

theorem cstatFrom_level : fld (cstatFrom x es fast) 4 3 = fld es 17 16 := by
  unfold cstatFrom
  rw [fld_setFld_other _ 1 1 _ _ _ (by decide) (by decide), fld_setFld_other _ 0 0 _ _ _ (by decide) (by decide),
    fld_setFld_other _ 6 6 _ _ _ (by decide) (by decide), fld_setFld_other _ 5 5 _ _ _ (by decide) (by decide),
    fld_setFld _ _ _ _ (by decide)]
  exact Nat.mod_eq_of_lt (fld_lt es 17 16)

theorem cstatFrom_bit {i : Nat} (hi : i < 64) (hl : i ≠ 3 ∧ i ≠ 4) : bit (cstatFrom x es fast) i =
    if i = 1 then bit es 20 else if i = 0 then bit es 19 else if i = 6 then fast else if i = 5 then bit es 18 else bit x i := by
  have h := fun (y : Dword) (j : Nat) (b : Bool) => bit_setBit y j i b hi
  unfold setBit at h
  have h4 : bit (setFld x 4 3 (fld es 17 16)) i = bit x i := by
    rw [bit, getLsbD_setFld _ _ _ _ _ hi, if_neg (by omega)]
    rfl
  rw [cstatFrom, h, h, h, h, h4]

end

theorem Core.cstat_restore (k : Core) (t : TrapSet) :
    ∃ fast, (k.restore t).cstat = cstatFrom k.cstat (k.csr (t.base + 2)) fast ∧ (t = .fast → fast = false) ∧
      (t = .pl1 → fast = k.infast) ∧ (t = .pl2 ∨ t = .pl3 → fast = bit (k.csr (t.base + 2)) 25) := by
  cases t
  case pl1 => exact ⟨k.infast, Core.csr_setCsr_same .., nofun, fun _ => rfl, nofun⟩
  case fast => exact ⟨false, Core.csr_setCsr_same .., fun _ => rfl, nofun, nofun⟩
  case pl2 | pl3 =>
    refine ⟨_, ?_, nofun, nofun, fun _ => rfl⟩
    exact (Core.csr_setCsr_other (n := 0x200) _ _ (by decide)).trans (Core.csr_setCsr_same ..)

theorem Core.pie_restore (k : Core) {t : TrapSet} (h : t = .pl2 ∨ t = .pl3) :
    (k.restore t).pie = bit (k.csr (t.base + 2)) 24 := by
  unfold Core.restore Core.pie
  simp only [if_pos h, Core.csr_setCsr_same, bit_setBit _ _ _ _ (show 0 < 64 by decide), if_true]

/-- The level, the world and the enables that RFE restores (R106). -/
structure Restores (t : TrapSet) (h r : Core) : Prop where
  pl : r.pl = fld (h.csr (t.base + 2)) 17 16
  w : r.w = bit (h.csr (t.base + 2)) 18
  nie : r.nie = bit (h.csr (t.base + 2)) 19
  fie : r.fie = bit (h.csr (t.base + 2)) 20
  ofFast : t = .fast → r.infast = false
  ofPl1 : t = .pl1 → r.infast = h.infast
  ofUpper : t = .pl2 ∨ t = .pl3 → r.infast = bit (h.csr (t.base + 2)) 25 ∧ r.pie = bit (h.csr (t.base + 2)) 24

theorem Core.restores (h : Core) (t : TrapSet) : Restores t h (h.restore t) := by
  obtain ⟨fast, hc, hfast, hpl1, hupper⟩ := Core.cstat_restore h t
  have hin : (h.restore t).infast = fast := by rw [Core.infast, hc]; exact cstatFrom_bit _ _ _ (by decide) (by decide)
  exact {
    pl := by rw [Core.pl, hc, cstatFrom_level]
    w := by rw [Core.w, hc]; exact cstatFrom_bit _ _ _ (by decide) (by decide)
    nie := by rw [Core.nie, hc]; exact cstatFrom_bit _ _ _ (by decide) (by decide)
    fie := by rw [Core.fie, hc]; exact cstatFrom_bit _ _ _ (by decide) (by decide)
    ofFast := fun e => hin.trans (hfast e)
    ofPl1 := fun e => hin.trans (hpl1 e)
    ofUpper := fun e => ⟨hin.trans (hupper e), Core.pie_restore h e⟩ }

/-! ### The records that are armed (R49) -/

theorem Core.mem_armed {k : Core} {t : TrapSet} {pos : Nat} {fast : Bool} {p : PendRes} (h : p ∈ k.armed t pos fast) :
    ∃ n, n < 4 ∧
      let e := k.csr (t.base + 8)
      let rem := fld e (16 * n + 14) (16 * n + 12)
      let num := fld e (16 * n + 4) (16 * n)
      bit e (16 * n + 15) = true ∧ 1 ≤ rem ∧ rem ≤ 4 ∧ p.vis = pos + rem ∧ p.val = k.csr (t.base + 9 + n) ∧
      p.reg = some (if bit e (16 * n + 5) then 32 + num else gKey fast (BitVec.ofNat 5 num)) := by
  obtain ⟨n, -, hn⟩ := List.mem_filterMap.mp h
  refine ⟨n.val, n.isLt, ?_⟩
  obtain ⟨⟨hv, hlo, hhi⟩, hp⟩ := Option.ite_none_right_eq_some.mp hn
  cases hp
  exact ⟨hv, hlo, hhi, rfl, rfl, rfl⟩

/-! ### RFE -/

/-- The restored core at the address and slot at which it resumes, its set's records armed. -/
def Core.resumed (r : Core) (t : TrapSet) (there : Dword × Option SlotSt) : Core :=
  { r with
    arch := { r.arch with
      pc := there.1, posn := r.arch.posn + 1, slot := there.2, pend := r.armed t (r.arch.posn + 1) r.infast }
    resv := none, spec := [] }

/-- The core that RFE leaves, from the one in which every result has reached its register. -/
def Core.returned (h : Core) : Core := (h.restore h.rfeSet).resumed h.rfeSet (h.resumeAt h.rfeSet)

/-- How RFE ends with core `k` at address `pc`: what a change of world asks for, and the packet. -/
def State.returns (s : State) (c : Nat) (wasW : Bool) (pc : Dword) (k : Core) : State :=
  let back := wasW && !k.w
  let k := if back then { k with frame := none, watch := 0 } else k
  let s := s.setCore c k
  let s := if (s.core c).w ≠ wasW then s.changeWorld c else s
  if bit (s.reg (ltCore c)) 0 then s.emitCore c 0x05 pc.toNat [] else s

theorem State.rfe_eq_returns (s : State) (c : Nat) :
    s.rfe c =
      let h := ((s.modCore c Core.closeAll).core c).settleAll
      (s.modCore c Core.closeAll).returns c h.w (h.resumeAt h.rfeSet).1 h.returned := rfl

theorem State.returns_within (s : State) (c : Nat) (pc : Dword) (k : Core) :
    s.returns c k.w pc k =
      if bit ((s.setCore c k).reg (ltCore c)) 0 then (s.setCore c k).emitCore c 0x05 pc.toNat [] else s.setCore c k := by
  unfold State.returns
  simp only [Bool.and_not_self, Bool.false_eq_true, if_false, State.core_setCore, ne_eq, not_true_eq_false]

theorem State.core_returns (s : State) (c : Nat) (pc : Dword) (k : Core) :
    ((s.returns c k.w pc k).core c).arch = k.arch ∧ ((s.returns c k.w pc k).core c).own = k.own ∧
      ((s.returns c k.w pc k).core c).resv = k.resv := by
  rw [State.returns_within]
  split
  · obtain ⟨e, a, n, w, l, h⟩ := (observes_emitCore (c := c) (s.setCore c k) c 0x05 pc.toNat []).core c
    rw [h, State.core_setCore]
    exact ⟨rfl, rfl, rfl⟩
  · rw [State.core_setCore]
    exact ⟨rfl, rfl, rfl⟩

theorem Core.restore_withMerge (k : Core) (m : List MergeEntry) (t : TrapSet) :
    (k.withMerge m).restore t = (k.restore t).withMerge m := by
  have hcsr : ∀ (k : Core) (n : Nat), (k.withMerge m).csr n = k.csr n := fun _ _ => rfl
  cases t
  case pl1 | fast => exact Core.setCsr_withMerge k m 0x100 _
  case pl2 | pl3 =>
    simp only [Core.restore, Core.cstat, hcsr, Core.setCsr_withMerge]
    rfl

theorem Core.csr_restore (k : Core) (t : TrapSet) {n : Nat} (h : n ≠ 0x100 ∧ n ≠ 0x200) : (k.restore t).csr n = k.csr n := by
  unfold Core.restore
  simp only
  split
  · rw [Core.csr_setCsr_other _ _ h.2, Core.csr_setCsr_other _ _ h.1]
  · rw [Core.csr_setCsr_other _ _ h.1]

theorem Core.restore_arch (k : Core) (t : TrapSet) :
    (k.restore t).arch.posn = k.arch.posn ∧ (k.restore t).arch.regs = k.arch.regs := by
  unfold Core.restore
  simp only
  split <;> simp only [Core.setCsr_posn, Core.setCsr_regs, and_self]

/-- What the running code sees of the core after RFE within one world. -/
theorem State.core_rfe {s : State} {c : Nat} {h : Core} (hh : (s.core c).settleAll = h) (hw : (h.restore h.rfeSet).w = h.w) :
    ((s.rfe c).core c).arch = h.returned.arch ∧ ((s.rfe c).core c).own = h.returned.own ∧
      ((s.rfe c).core c).resv = none := by
  subst hh
  have hc : ((s.modCore c Core.closeAll).core c).settleAll = (s.core c).settleAll.withMerge (s.core c).closeAll.merge := by
    rw [State.core_modCore]
    exact Core.settleAll_withMerge ..
  rw [State.rfe_eq_returns, hc]
  generalize (s.core c).settleAll = h at hw
  generalize (s.core c).closeAll.merge = m
  have hr : (h.withMerge m).returned = h.returned.withMerge m := by
    exact congrArg (·.resumed h.rfeSet (h.resumeAt h.rfeSet)) (Core.restore_withMerge h m h.rfeSet)
  have hws : (h.withMerge m).w = (h.returned.withMerge m).w := hw.symm
  simp only [hr, hws]
  exact State.core_returns ..

/-- Settles O28: RFE within one world leaves the core that its set's records describe. -/
theorem returnRestores : Obligations.ReturnRestores := by
  intro s c k h set b es epc hw t
  have hr := Core.restores h set
  obtain ⟨harch, hown, hresv⟩ := State.core_rfe (s := s) (c := c) (h := h) rfl (hr.w.trans hw)
  have hcsr : ∀ n, t.csr n = (h.restore set).csr n := by
    intro n
    unfold Core.csr
    rw [harch, hown]
    rfl
  have hposn : (h.restore set).arch.posn = k.arch.posn := (Core.restore_arch h set).1.trans (Core.settleAll_posn k)
  have hfast : t.infast = (h.restore set).infast := congrArg (bit · 6) (hcsr 0x100)
  have hpie : t.pie = (h.restore set).pie := congrArg (bit · 0) (hcsr 0x200)
  have hpc : t.arch.pc = (h.resumeAt set).1 := congrArg Arch.pc harch
  have hslot : t.arch.slot = (h.resumeAt set).2 := congrArg Arch.slot harch
  refine ⟨(congrArg (fld · 4 3) (hcsr 0x100)).trans hr.pl, ((congrArg (bit · 5) (hcsr 0x100)).trans hr.w).trans hw,
    (congrArg (bit · 0) (hcsr 0x100)).trans hr.nie, (congrArg (bit · 1) (hcsr 0x100)).trans hr.fie,
    fun e => hfast.trans (hr.ofFast e), fun e => hfast.trans (hr.ofPl1 e), ?upper, ?plain, ?slot, ?posn, hresv, ?regs, ?recs⟩
  case upper => exact fun e => ⟨hfast.trans (hr.ofUpper e).1, hpie.trans (hr.ofUpper e).2⟩
  case plain =>
    intro he
    have : h.resumeAt set = (epc, none) := if_neg (by rw [bit, he]; decide)
    exact ⟨hpc.trans (congrArg Prod.fst this), hslot.trans (congrArg Prod.snd this)⟩
  case slot =>
    intro he
    have : h.resumeAt set = (canonPc (epc + 4), some ⟨epc, bit es 22, h.csr (b + 3), bit es 23⟩) := if_pos he
    exact ⟨hpc.trans (congrArg Prod.fst this), hslot.trans (congrArg Prod.snd this)⟩
  case posn => exact (congrArg Arch.posn harch).trans (congrArg (· + 1) hposn)
  case regs => exact (congrArg Arch.regs harch).trans (Core.restore_arch h set).2
  case recs =>
    intro p hp
    have hmem : p ∈ (h.restore set).armed set ((h.restore set).arch.posn + 1) (h.restore set).infast := by
      rwa [harch] at hp
    have hkeep : ∀ j, 8 ≤ j → j ≤ 12 → (h.restore set).csr (b + j) = h.csr (b + j) := fun j h8 h12 =>
      Core.csr_restore h set (by unfold b; cases set <;> simp only [TrapSet.base] <;> omega)
    obtain ⟨n, hn, hv, hlo, hhi, hvis, hval, hreg⟩ := Core.mem_armed hmem
    rw [hkeep 8 (by decide) (by decide)] at hv hlo hhi hvis hreg
    rw [Nat.add_assoc, hkeep (9 + n) (by omega) (by omega)] at hval
    refine ⟨n, hn, hv, hlo, hhi, by rw [hvis, hposn], by rw [hval, Nat.add_assoc], ?_⟩
    rw [hreg, hfast]
    rfl

end Sys2Proof.Machine
end

section
/-! SUPPORT. Custom and reserved instructions: obligation O35 (R40, R42, R62, R63). A table written twice at one key holds the second
value alone. -/

namespace Sys2Proof.Machine

/-! ### Writing twice -/

theorem SMap.erase_erase {α : Type} (m : SMap α) (i : Nat) : SMap.erase (SMap.erase m i) i = SMap.erase m i := by
  induction m with
  | nil => rfl
  | cons e m ih =>
    obtain ⟨k, v⟩ := e
    by_cases hk : k = i <;> simp [SMap.erase, hk, ih]

theorem SMap.erase_ins {α : Type} (m : SMap α) (i : Nat) (v : α) : SMap.erase (SMap.ins m i v) i = SMap.erase m i := by
  induction m with
  | nil => simp [SMap.ins, SMap.erase]
  | cons e m ih =>
    obtain ⟨k, u⟩ := e
    by_cases hl : i < k
    · simp [SMap.ins, SMap.erase, hl]
    · by_cases hk : k = i <;> simp [SMap.ins, SMap.erase, hl, hk, ih]

theorem SMap.put_put {α : Type} [DecidableEq α] (d : α) (m : SMap α) (i : Nat) (v w : α) :
    SMap.put d (SMap.put d m i v) i w = SMap.put d m i w := by
  have h : SMap.erase (SMap.put d m i v) i = SMap.erase m i := by
    unfold SMap.put
    split
    · exact SMap.erase_erase m i
    · rw [SMap.erase_ins, SMap.erase_erase]
  rw [SMap.put.eq_def, h]
  rfl

theorem State.setCore_setCore (s : State) (c : Nat) (k q : Core) : (s.setCore c k).setCore c q = s.setCore c q := by
  simp only [State.setCore, SMap.put_put]

theorem State.modCore_modCore (s : State) (c : Nat) (f g : Core → Core) :
    (s.modCore c f).modCore c g = s.modCore c (fun k => g (f k)) := by
  rw [State.modCore, State.core_modCore]
  exact State.setCore_setCore ..

/-! ### Custom instructions -/

/-- A sequence of one addition, whose selectors name rd, rs1 and imm[13:9], adds those registers (R63). -/
theorem runSeq_add {s : State} {c : CoreId} {w : Word} {o : OpsB} {v : Dword} (hlen : fld v 12 9 = 0)
    (hu : s.reg (cdtUopR (fld v 8 1)) = 0xD100000000) :
    s.runSeq c w o v = (sends s c false o.rd ((s.core c.val).g o.rs1 + (s.core c.val).g (BitVec.ofNat 5 (fld o.imm 13 9))) 1 0 0,
      .next {} none) := by
  have hlast : ∀ q : Seq, q.core = s.core c.val → q.ops = o → s.lastUop c w q 0xD100000000 =
      (sends s c false o.rd ((s.core c.val).g o.rs1 + (s.core c.val).g (BitVec.ofNat 5 (fld o.imm 13 9))) 1 0 0, .next {} none) := by
    rintro ⟨k, ops, tmp, flags⟩ rfl rfl
    rfl
  unfold State.runSeq
  simp only [hlen, List.range_zero, List.foldl_nil, Nat.add_zero, hu]
  rw [hlast _ rfl rfl]
  simp only [Core.seqFlags, List.foldl_nil, sends, State.modCore_modCore]

/-- The part of a custom instruction of a slot: its tests in their order, then its sequence. -/
def customPart (c : CoreId) (slot : BitVec 5) (w : Word) (o : OpsB) (s : State) : State × PosRes :=
  let v := s.reg (cdtSlotR slot.toNat)
  if !bit (s.reg cdtCtlR) 0 || !bit v 0 then (s, .trap { cause := 0x05 })
  else if bit v 13 && (s.core c.val).pl = 0 then (s, .trap { cause := 0x06 })
  else s.runSeq c w o v

section
variable {s : State} {c : CoreId} {slot : BitVec 5} {w : Word} {o : OpsB}

theorem customPart_unbound (h : ¬ (bit (s.reg cdtCtlR) 0 = true ∧ bit (s.reg (cdtSlotR slot.toNat)) 0 = true)) :
    customPart c slot w o s = (s, .trap { cause := 0x05 }) :=
  if_pos (by simpa [or_iff_not_imp_left] using h)

variable (h : bit (s.reg cdtCtlR) 0 = true ∧ bit (s.reg (cdtSlotR slot.toNat)) 0 = true)
include h

theorem customPart_bound : customPart c slot w o s =
    if bit (s.reg (cdtSlotR slot.toNat)) 13 && (s.core c.val).pl = 0 then (s, .trap { cause := 0x06 })
    else s.runSeq c w o (s.reg (cdtSlotR slot.toNat)) :=
  if_neg (by simp [h.1, h.2])

theorem customPart_privileged (hp : bit (s.reg (cdtSlotR slot.toNat)) 13 = true) (hk : (s.core c.val).pl = 0) :
    customPart c slot w o s = (s, .trap { cause := 0x06 }) :=
  (customPart_bound h).trans (if_pos (by simp [hp, hk]))

theorem customPart_runs (hp : bit (s.reg (cdtSlotR slot.toNat)) 13 = false ∨ (s.core c.val).pl ≠ 0) :
    customPart c slot w o s = s.runSeq c w o (s.reg (cdtSlotR slot.toNat)) :=
  (customPart_bound h).trans (if_neg (by rcases hp with hp | hp <;> simp [hp]))

end

/-! ### Reserved words (R40, R42) -/

theorem reservedWord_of_major {w : Word}
    (h : wfld w 31 26 ∈ [0x0F, 0x17, 0x26, 0x27, 0x2A, 0x2B, 0x2C, 0x2D, 0x2E, 0x2F, 0x35, 0x36, 0x37]) : reservedWord w = true := by
  unfold reservedWord
  generalize wfld w 31 26 = m at h
  revert m
  simp only [List.forall_mem_cons, List.not_mem_nil, false_imp_iff, implies_true, and_true]
  decide

theorem reservedWord_of_whole_major {w : Word}
    (h : wfld w 31 26 ∈ [0x08, 0x0A, 0x0E, 0x10, 0x11, 0x12, 0x13, 0x14, 0x15, 0x16, 0x18, 0x19, 0x1A, 0x1B, 0x1C, 0x1D, 0x1E, 0x1F, 0x20,
      0x21, 0x22, 0x23, 0x24, 0x25, 0x28, 0x29, 0x38, 0x39, 0x3A, 0x3B, 0x3C, 0x3D, 0x3E, 0x3F]) : reservedWord w = false := by
  unfold reservedWord
  generalize wfld w 31 26 = m at h
  revert m
  simp only [List.forall_mem_cons, List.not_mem_nil, false_imp_iff, implies_true, and_true]
  decide

/-- Settles O35: the tests of a slot in their order, one sequence of one addition, and the majors one by one. -/
theorem customAndReserved : Obligations.CustomAndReserved := by
  intro s s1 c slot o w h k p0 word v bound
  refine ⟨fun hb => ?unbound, fun hb hp hk => ?privileged, fun hb hp hlen hu => ?sum, fun hb hp s2 e hr => ?sequence, fun hw => ?reserved,
    reservedWord_of_major, reservedWord_of_whole_major⟩
  case unbound => exact done_position_of_trap (body := customPart c slot word o) h slot_allowed (customPart_unbound hb)
  case privileged => exact done_position_of_trap (body := customPart c slot word o) h slot_allowed (customPart_privileged hb hp hk)
  case sum =>
    exact done_position_of_next (body := customPart c slot word o) h slot_allowed
      ((customPart_runs hb hp).trans (runSeq_add hlen hu))
  case sequence =>
    exact done_position_of_next (body := customPart c slot word o) h slot_allowed ((customPart_runs hb hp).trans hr)
  case reserved => exact (congrArg done (if_pos hw)).trans (done_position_of_trap h slot_allowed rfl)

end Sys2Proof.Machine
end

section
/-! SUPPORT. CSRRD, CSRWR and the registers that they name: obligation O32 (R42, R58, R61, R79, R103, R208, R318, R319). -/

namespace Sys2Proof.Machine

/-! ### Access -/

/-- The numbers that R61 assigns. -/
def csrAssigned (n : Nat) : Prop :=
  n ∈ [0x001, 0x002, 0x010, 0x011, 0x020, 0x021, 0x022, 0x023, 0x024, 0x025, 0x026, 0x027, 0x028, 0x029] ∨
    (0x100 ≤ n ∧ n ≤ 0x10C) ∨ (0x111 ≤ n ∧ n ≤ 0x113) ∨ (0x116 ≤ n ∧ n ≤ 0x11C) ∨ (0x120 ≤ n ∧ n ≤ 0x123) ∨
    (0x200 ≤ n ∧ n ≤ 0x20C) ∨ n = 0x210 ∨ (0x220 ≤ n ∧ n ≤ 0x222) ∨ (0x301 ≤ n ∧ n ≤ 0x30C)

theorem csrMask_isSome_of_assigned {n : Nat} (h : csrAssigned n) : (csrMask n).isSome = true := by
  have hall : ∀ n ∈ [0x001, 0x002, 0x010, 0x011, 0x020, 0x021, 0x022, 0x023, 0x024, 0x025, 0x026, 0x027, 0x028, 0x029] ++
      List.range' 0x100 13 ++ List.range' 0x111 3 ++ List.range' 0x116 7 ++ List.range' 0x120 4 ++ List.range' 0x200 13 ++
      [0x210] ++ List.range' 0x220 3 ++ List.range' 0x301 12, (csrMask n).isSome = true := by decide
  refine hall n ?_
  unfold csrAssigned at h
  simp only [List.mem_append, List.mem_range'_1, List.mem_singleton]
  rcases h with h | h | h | h | h | h | h | h | h
  · simp only [h, true_or]
  all_goals omega

theorem csrMask_eq_none_of_not_assigned {n : Nat} (h : ¬ csrAssigned n) : csrMask n = none := by
  simp only [csrAssigned, List.mem_cons, List.not_mem_nil, or_false] at h
  unfold csrMask
  repeat rw [if_neg (by omega)]

theorem Core.csrTrap_of_not_assigned (k : Core) {n : Nat} (h : ¬ csrAssigned n) : k.csrTrap n = some { cause := 0x04 } :=
  if_pos (csrMask_eq_none_of_not_assigned h)

theorem csrMask_ne_none {n : Nat} (h : csrAssigned n) : csrMask n ≠ none :=
  Option.isSome_iff_ne_none.mp (csrMask_isSome_of_assigned h)

theorem Core.csrTrap_of_below {k : Core} {n : Nat} (h : csrAssigned n) (hl : k.pl < n / 256) : k.csrTrap n = some { cause := 0x06 } :=
  (if_neg (csrMask_ne_none h)).trans (if_pos hl)

theorem Core.csrTrap_of_allowed {k : Core} {n : Nat} (h : csrAssigned n) (hl : n / 256 ≤ k.pl) : k.csrTrap n = none :=
  (if_neg (csrMask_ne_none h)).trans (if_neg (Nat.not_lt.mpr hl))

section
variable {s s1 : State} {c : CoreId} (h : Ready s c s1) (o : OpsF)
include h

/-- An access to a register that traps. -/
theorem done_position_of_csrTrap {x : Trap} {n : Nat} {w : Word} {body : State → State × PosRes}
    (hx : (s1.core c.val).csrTrap n = some x) :
    done (s.position c.val w false (fun s => match (s.core c.val).csrTrap n with
      | some x => (s, .trap x)
      | none => body s)) = .next (trapped s1 c w x) :=
  done_position_of_trap h slot_allowed (by simp only [hx])

/-- CSRRD's three outcomes (R42, R61). -/
theorem csrrd_cases :
    let n := o.sys.toNat
    let k := s1.core c.val
    (csrAssigned n → n / 256 ≤ k.pl → csrrdInstr c o s = .next (retired ((s1.csrRead c.val n).1.modCore c.val (fun q =>
        if o.rd = 0 then q else q.produce ⟨q.arch.posn + 3, some (gKey q.infast o.rd), (s1.csrRead c.val n).2, 0, 0, none⟩)) c
        (s.core c.val).arch.pc {} none)) ∧
      (¬ csrAssigned n → csrrdInstr c o s = .next (trapped s1 c (wordF 0x30 0 o) { cause := 0x04 })) ∧
      (csrAssigned n → k.pl < n / 256 → csrrdInstr c o s = .next (trapped s1 c (wordF 0x30 0 o) { cause := 0x06 })) := by
  refine ⟨fun ha hl => ?_, fun ha => done_position_of_csrTrap h (Core.csrTrap_of_not_assigned _ ha),
    fun ha hl => done_position_of_csrTrap h (Core.csrTrap_of_below ha hl)⟩
  refine done_position_of_next h slot_allowed ?_
  simp only [Core.csrTrap_of_allowed ha hl, Core.give_general]

/-- CSRWR's three outcomes (R42, R61). -/
theorem csrwr_cases :
    let n := o.sys.toNat
    let k := s1.core c.val
    (csrAssigned n → n / 256 ≤ k.pl →
        csrwrInstr c o s = .next (retired (s1.csrWrite c.val n (k.g o.rs1)) c (s.core c.val).arch.pc {} none)) ∧
      (¬ csrAssigned n → csrwrInstr c o s = .next (trapped s1 c (wordF 0x30 1 o) { cause := 0x04 })) ∧
      (csrAssigned n → k.pl < n / 256 → csrwrInstr c o s = .next (trapped s1 c (wordF 0x30 1 o) { cause := 0x06 })) := by
  refine ⟨fun ha hl => ?_, fun ha => done_position_of_csrTrap h (Core.csrTrap_of_not_assigned _ ha),
    fun ha hl => done_position_of_csrTrap h (Core.csrTrap_of_below ha hl)⟩
  refine done_position_of_next h slot_allowed ?_
  simp only [Core.csrTrap_of_allowed ha hl]

end

theorem csrAccess : CsrAccess := by
  intro s s1 c o h k p0 assigned rd wr
  have hsys : ({ o with sys := BitVec.ofNat 12 o.sys.toNat } : OpsF) = o := by rw [BitVec.ofNat_toNat, BitVec.setWidth_eq]
  have hr := fun n => csrrd_cases h { o with sys := BitVec.ofNat 12 n }
  have hw := fun n => csrwr_cases h { o with sys := BitVec.ofNat 12 n }
  refine ⟨?csrrd, ?csrwr, hw 0x020, hw 0x029, hr 0x120, hr 0x122, hr 0x220, hw 0x121, hw 0x123, hw 0x221⟩
  case csrrd =>
    simp only [rd, hsys]
    exact csrrd_cases h o
  case csrwr =>
    simp only [wr, hsys]
    exact csrwr_cases h o

/-! ### Values -/

/-- A register whose reads and writes go to the stored value alone. -/
abbrev csrPlain (n : Nat) : Prop :=
  n ≠ 0x011 ∧ ¬ (0x020 ≤ n ∧ n ≤ 0x029) ∧ ¬ (0x120 ≤ n ∧ n ≤ 0x123) ∧ n ≠ 0x220 ∧ n ≠ 0x221

/-- What a write of a plain register leaves: the masked bits there, and no other register, no operand and no other core changed. -/
def CsrWrote (s : State) (c : Nat) (v : Dword) (n : Nat) (m : Dword) : Prop :=
  s.csrRead c n = (s, (s.core c).csr n) ∧
    (s.csrWrite c n v).csrRead c n = (s.csrWrite c n v, ((s.core c).csr n &&& ~~~m) ||| (v &&& m)) ∧
    (∀ i, i ≠ n → ((s.csrWrite c n v).core c).csr i = (s.core c).csr i) ∧
    ((s.csrWrite c n v).core c).arch.regs = (s.core c).arch.regs ∧ (∀ x, x ≠ c → (s.csrWrite c n v).core x = s.core x)

section
variable {s : State} {c n : Nat} {v m : Dword} (hp : csrPlain n)
include hp

theorem csrRead_plain (s : State) (hm : csrMask n ≠ some 0 ∨ n = 0x010) : s.csrRead c n = (s, (s.core c).csr n) := by
  obtain ⟨h011, hdiv, hclaim, h220, h221⟩ := hp
  unfold State.csrRead
  rw [if_neg h011, if_neg (by omega), if_neg (by omega), if_neg (by tauto)]

/-- A register that takes a value. -/
theorem csrWrote_of_setCsr (hm : csrMask n ≠ some 0 ∨ n = 0x010) {x : Dword}
    (hw : s.csrWrite c n v = s.modCore c (fun k => k.setCsr n x)) (hx : x = ((s.core c).csr n &&& ~~~m) ||| (v &&& m)) :
    CsrWrote s c v n m := by
  refine ⟨csrRead_plain hp s hm, ?_, fun i hi => ?_, ?_, fun y hy => ?_⟩
  · rw [csrRead_plain hp _ hm, hw, State.core_modCore, Core.csr_setCsr_same, hx]
  · rw [hw, State.core_modCore, Core.csr_setCsr_other _ _ hi]
  · rw [hw, State.core_modCore, Core.setCsr_regs]
  · rw [hw, State.core_modCore_other _ _ hy]

theorem csrWrote_of_mask (hm : csrMask n = some m) (h0 : m ≠ 0) (hf : n = 0x002 → fld v 7 5 < 5) : CsrWrote s c v n m := by
  have hne : csrMask n ≠ some 0 := by rw [hm]; exact fun e => h0 (Option.some.inj e)
  have hw : s.csrWrite c n v = s.modCore c (fun k => k.setCsr n ((k.csr n &&& ~~~m) ||| (v &&& m))) := by
    obtain ⟨h011, hdiv, hclaim, h220, h221⟩ := hp
    unfold State.csrWrite
    rw [if_neg (by omega), if_neg (by omega), hm]
    simp only
    rw [if_neg (by omega), if_neg h0, if_neg (fun e => absurd (hf e.1) (by omega))]
  exact csrWrote_of_setCsr hp (.inl hne) hw rfl

end

/-- `XID` takes no write (R103). -/
theorem csrWrote_xid (s : State) (c : Nat) (v : Dword) : CsrWrote s c v 0x010 0 := by
  have hw : s.csrWrite c 0x010 v = s := rfl
  have hr : s.csrRead c 0x010 = (s, (s.core c).csr 0x010) := rfl
  have keep : ∀ x : Dword, (x &&& ~~~0) ||| (v &&& 0) = x := fun x =>
    (congrArg₂ (· ||| ·) BitVec.and_allOnes BitVec.and_zero).trans BitVec.or_zero
  unfold CsrWrote
  rw [hw, hr, keep]
  exact ⟨rfl, rfl, fun _ _ => rfl, rfl, fun _ _ => rfl⟩

/-- The low five bits of a word, set from another. -/
theorem setFld_low5 (x v : Dword) : setFld x 4 0 (fld v 4 0) = (x &&& ~~~0x1F) ||| (v &&& 0x1F) := by
  have hm : fldMask 64 4 0 = 0x1F := by decide
  have hv : BitVec.ofNat 64 (fld v 4 0 % 2 ^ 5) <<< 0 = v &&& 0x1F := by
    refine BitVec.eq_of_toNat_eq ?_
    have h5 := fld_lt v 4 0
    have hand : v.toNat &&& 31 = v.toNat % 32 := Nat.and_two_pow_sub_one_eq_mod v.toNat 5
    simp only [fld, Nat.shiftRight_zero] at h5 ⊢
    simp [hand]
    omega
  rw [setFld, hm, hv]

/-- `FCSR` keeps RM against a reserved mode (R79). -/
theorem csrWrote_fcsr_reserved (s : State) (c : Nat) (v : Dword) (h : 5 ≤ fld v 7 5) : CsrWrote s c v 0x002 0x1F := by
  have hw : s.csrWrite c 0x002 v = s.modCore c (fun k => k.setCsr 0x002 ((k.csr 0x002 &&& ~~~0x1F) ||| (v &&& 0x1F))) := by
    simp only [← setFld_low5]
    exact if_pos (c := 0x002 = 0x002 ∧ 5 ≤ fld v 7 5) ⟨rfl, h⟩
  exact csrWrote_of_setCsr (by decide) (.inl (by decide)) hw rfl

/-- The registers that each trap set has, its first at `b`, with the bits that a write changes (R103). -/
def setMasks (b : Nat) : List (Nat × Dword) :=
  let all : Dword := BitVec.allOnes 64
  [(b + 1, all), (b + 2, if b < 0x200 then 0x2FFFFFF else 0x3FFFFFF), (b + 3, all), (b + 6, 0xFFFFFFFFF000), (b + 7, all),
    (b + 8, 0xF03FF03FF03FF03F), (b + 9, all), (b + 10, all), (b + 11, all), (b + 12, all)]

/-- `EVA` and `EWORD`, which the fast set does not have (R103). -/
def faultMasks (b : Nat) : List (Nat × Dword) := [(b + 4, BitVec.allOnes 64), (b + 5, BitVec.allOnes 64)]

theorem setMasks_spec : ∀ b ∈ [0x100, 0x110, 0x200, 0x300], ∀ p ∈ setMasks b ++ if b = 0x110 then [] else faultMasks b,
    csrPlain p.1 ∧ csrMask p.1 = some p.2 ∧ p.2 ≠ 0 ∧ p.1 ≠ 0x002 := by decide

theorem csrWrote_set (s : State) (c : Nat) (v : Dword) {b : Nat} (hb : b ∈ [0x100, 0x110, 0x200, 0x300]) :
    (∀ p ∈ setMasks b, CsrWrote s c v p.1 p.2) ∧ (b ≠ 0x110 → ∀ p ∈ faultMasks b, CsrWrote s c v p.1 p.2) := by
  have hw : ∀ p ∈ setMasks b ++ if b = 0x110 then [] else faultMasks b, CsrWrote s c v p.1 p.2 := by
    intro p hp
    obtain ⟨plain, hm, h0, h2⟩ := setMasks_spec b hb p hp
    exact csrWrote_of_mask plain hm h0 (fun e => absurd e h2)
  refine ⟨fun p hp => hw p (List.mem_append_left _ hp), fun hne p hp => hw p (List.mem_append_right _ ?_)⟩
  rwa [if_neg hne]

/-! ### The working values of the iterative units (R58) -/

theorem setBit_one (x : Dword) : setBit x 1 true = x ||| 2 ∧ setBit x 1 false = x &&& ~~~(2 : Dword) := by
  have hm : fldMask 64 1 1 = 2 := by decide
  have h1 : (BitVec.ofNat 64 (true.toNat % 2 ^ (1 + 1 - 1)) <<< 1 : Dword) = 2 := by decide
  have h0 : (BitVec.ofNat 64 (false.toNat % 2 ^ (1 + 1 - 1)) <<< 1 : Dword) = 0 := by decide
  have hk : (2 : Dword) ||| (x &&& ~~~2) = 2 ||| x := by
    ext i hi
    simp only [BitVec.getElem_or, BitVec.getElem_and, BitVec.getElem_not]
    cases (2 : Dword)[i] <;> simp
  constructor
  · rw [setBit, setFld, hm, h1, BitVec.or_comm, hk, BitVec.or_comm]
  · rw [setBit, setFld, hm, h0]
    exact BitVec.or_zero

/-- What was written to a working value is what is read, whatever stands for it in between. -/
theorem divMasked_divUnmasked (i : Nat) (v : Dword) : divMasked i (divUnmasked i v) = v := by
  unfold divMasked divUnmasked
  generalize Config.divMask i = m
  generalize divIdle i = z
  have back : v ^^^ m ^^^ m = v := by rw [BitVec.xor_assoc, BitVec.xor_self, BitVec.xor_zero]
  simp only
  by_cases h37 : i = 3 ∨ i = 7
  · simp only [h37, if_true]
  simp only [h37, if_false]
  by_cases h0 : v = 0
  · simp only [h0, if_true]
  simp only [h0, if_false]
  by_cases hz : v = z ^^^ m
  · rw [if_pos hz]
    have : m ≠ z := by rintro rfl; simp [hz] at h0
    rw [if_neg this, if_pos rfl, hz]
  · rw [if_neg hz]
    have hvz : v ^^^ m ≠ z := fun e => hz (e ▸ back.symm)
    have hvm : v ^^^ m ≠ m := fun e => h0 (back.symm.trans (by rw [e]; exact BitVec.xor_self))
    rw [if_neg hvz, if_neg hvm, back]

/-- A unit that runs: busy and not held. -/
def Core.divRuns (k : Core) (i : Nat) : Bool :=
  let ctl := if i < 4 then k.arch.iu.ctl else k.arch.fu.ctl
  bit ctl 0 && !bit ctl 1

theorem Core.setDivst_runs {k : Core} {i : Nat} (h : k.divRuns i = true) (v : Dword) : k.setDivst i v = k := by
  unfold Core.divRuns at h
  unfold Core.setDivst
  by_cases hi : i < 4
  · rw [if_pos hi] at h
    simp only [show i ≤ 3 by omega, if_true, h]
  · rw [if_neg hi] at h
    simp only [show ¬ i ≤ 3 by omega, if_false, h, if_true]

theorem Core.divst_setDivst {k : Core} {i : Nat} (hi : i < 8) (h : k.divRuns i = false) (v : Dword) : (k.setDivst i v).divst i = v := by
  unfold Core.divRuns at h
  unfold Core.setDivst
  by_cases h4 : i < 4
  · rw [if_pos h4] at h
    simp only [show i ≤ 3 by omega, if_true, h, Bool.false_eq_true, if_false]
    interval_cases i <;> rfl
  · rw [if_neg h4] at h
    simp only [show ¬ i ≤ 3 by omega, if_false, h, Bool.false_eq_true]
    interval_cases i <;> rfl

/-- What a write of `DIVSTi` keeps: the bits that stand there. -/
def divstMask (i : Nat) : Dword := if i = 3 then 0x1FFF else if i = 7 then 0x3FFFF else BitVec.allOnes 64

theorem csrMask_divst {i : Nat} (hi : i < 8) : csrMask (0x021 + i) = some (divstMask i) := by
  interval_cases i <;> rfl

theorem csrWrite_divst {s : State} {c i : Nat} (hi : i < 8) (v : Dword) :
    s.csrWrite c (0x021 + i) v = s.modCore c (fun k => k.setDivst i (divUnmasked i v &&& divstMask i)) := by
  unfold State.csrWrite
  rw [if_neg (by omega), if_neg (by omega), csrMask_divst hi]
  simp only [show 0x021 ≤ 0x021 + i ∧ 0x021 + i ≤ 0x028 by omega, and_self, if_true, Nat.add_sub_cancel_left]

theorem csrRead_divst {s : State} {c i : Nat} (hi : i < 8) :
    s.csrRead c (0x021 + i) = (s, divMasked i ((s.core c).divst i)) := by
  unfold State.csrRead
  rw [if_neg (by omega), if_pos (by omega), Nat.add_sub_cancel_left]

/-- What is read of `DIVSTi` after a write. -/
theorem divMasked_written {i : Nat} (hi : i < 8) (v : Dword) : divMasked i (divUnmasked i v &&& divstMask i) =
    if i = 3 then v &&& 0x1FFF else if i = 7 then v &&& 0x3FFFF else v := by
  by_cases h3 : i = 3
  · subst h3; rfl
  by_cases h7 : i = 7
  · subst h7; rfl
  rw [divstMask, if_neg h3, if_neg h7, BitVec.and_allOnes, divMasked_divUnmasked, if_neg h3, if_neg h7]

theorem csrValues : CsrValues := by
  intro s c v k all held free wrote
  refine ⟨csrWrote_of_mask (by decide) rfl (by decide) nofun, fun h => csrWrote_of_mask (by decide) rfl (by decide) (fun _ => h),
    csrWrote_fcsr_reserved s c v, csrWrote_xid s c v, csrWrote_of_mask (by decide) rfl (by decide) nofun,
    csrWrote_of_mask (by decide) rfl (by decide) nofun, csrWrote_of_mask (by decide) rfl (by decide) nofun,
    csrWrote_of_mask (by decide) rfl (by decide) nofun, ?sets, ?own, ?welt, rfl, ?heldInt, ?heldFp, ?freeInt, ?freeFp, ?div⟩
  case sets =>
    intro b hb
    obtain ⟨hset, hfault⟩ := csrWrote_set s c v hb
    simp only [setMasks, faultMasks, List.forall_mem_cons] at hset hfault
    obtain ⟨p1, p2, p3, p6, p7, p8, p9, p10, p11, p12, -⟩ := hset
    exact ⟨p1, p2, p3, fun hne => ⟨(hfault hne).1, (hfault hne).2.1⟩, p6, p7, p8, p9, p10, p11, p12⟩
  case own => exact fun h => congrArg (·, s.timebase) (if_neg (by rw [h]; decide))
  case welt => exact fun h => congrArg (·, s.timebase) (if_pos h)
  case heldInt | heldFp => 
    simp only [held, show s.csrWrite c 0x020 v = s.modCore c (fun k => k.hold true) from rfl, State.core_modCore, Core.hold, setBit_one]
    rfl
  case freeInt | freeFp =>
    simp only [free, show s.csrWrite c 0x029 v = s.modCore c (fun k => k.hold false) from rfl, State.core_modCore, Core.hold, setBit_one]
    rfl
  case div =>
    intro i hi ctl t
    have ht : t.core c = k.setDivst i (divUnmasked i v &&& divstMask i) := by
      rw [show t = _ from csrWrite_divst hi v, State.core_modCore]
    refine ⟨fun hb hh => ht.trans (Core.setDivst_runs ?busy _), fun hf => ?free⟩
    case busy =>
      show (bit ctl 0 && !bit ctl 1) = true
      rw [bit, bit, hb, hh]
      rfl
    case free =>
      have hr : (bit ctl 0 && !bit ctl 1) = false := by
        rw [bit, bit]
        rcases hf with hf | hf <;> simp only [hf, Bool.false_and, Bool.not_true, Bool.and_false]
      rw [csrRead_divst hi, ht, Core.divst_setDivst hi hr, divMasked_written hi]

/-- Settles O32: the numbers that R61 assigns, the masks that a write applies, and the working values of R58. -/
theorem controlRegisters : Obligations.ControlRegisters := ⟨csrAccess, csrValues⟩

end Sys2Proof.Machine
end

section
/-! SUPPORT. Loads, stores, LR, SC and TAS.B: obligations O16, O18, O19 and O23 (R39, R44, R59, R60, R112, R114, R115). -/

namespace Sys2Proof.Machine

/-! ### Values in memory -/

/-- A signed value of one of the sizes that extend. -/
theorem loadVal_signed (x : Nat) :
    loadVal 1 true (BitVec.ofNat 64 x) = (BitVec.ofNat 8 x).signExtend 64 ∧
    loadVal 2 true (BitVec.ofNat 64 x) = (BitVec.ofNat 16 x).signExtend 64 ∧
    loadVal 4 true (BitVec.ofNat 64 x) = (BitVec.ofNat 32 x).signExtend 64 := by
  have h := fun (w : Nat) (hw : w ≤ 64) => BitVec.setWidth_ofNat_of_le hw x
  exact ⟨congrArg (BitVec.signExtend 64) (h 8 (by decide)), congrArg (BitVec.signExtend 64) (h 16 (by decide)),
    congrArg (BitVec.signExtend 64) (h 32 (by decide))⟩

/-- An unsigned value of a size that an instruction has is its low bytes. -/
theorem loadVal_toNat {n : Nat} (hn : n ∈ [1, 2, 4, 8]) (v : Dword) : (loadVal n false v).toNat = v.toNat % 2 ^ (8 * n) := by
  simp only [List.mem_cons, List.not_mem_nil, or_false] at hn
  rcases hn with rfl | rfl | rfl | rfl
  case inr.inr.inr => exact (Nat.mod_eq_of_lt v.isLt).symm
  all_goals
    simp only [loadVal, Bool.false_eq_true, if_false, BitVec.truncate_eq_setWidth, BitVec.toNat_setWidth]
    omega

theorem loadVal_unsigned {n : Nat} (hn : n ∈ [1, 2, 4]) (x : Nat) :
    loadVal n false (BitVec.ofNat 64 x) = BitVec.ofNat 64 (x % 2 ^ (8 * n)) := by
  refine BitVec.eq_of_toNat_eq ?_
  rw [loadVal_toNat (List.mem_append_left [8] hn), BitVec.toNat_ofNat, BitVec.toNat_ofNat]
  simp only [List.mem_cons, List.not_mem_nil, or_false] at hn
  rcases hn with rfl | rfl | rfl <;> omega

/-! ### Where an access may be made (R60, R131) -/

/-- Memory of the two types that the caches hold. -/
def Page.cacheable (p : Page) : Prop := p.ty = .wb ∨ p.ty = .wt

theorem Page.mayMisalign_iff {p : Page} : p.mayMisalign = true ↔ p.cacheable ∧ (p.trans = true ∨ p.region = .dram) := by
  simp only [Page.mayMisalign, Page.cacheable, Bool.and_eq_true, decide_eq_true_eq, Bool.or_eq_true]

theorem Mref.crosses_iff {m : Mref} : m.crosses = true ↔ 64 < m.va.toNat % 64 + m.size := by simp only [Mref.crosses, decide_eq_true_eq]

theorem Mref.misaligned_iff {m : Mref} : m.misaligned = true ↔ m.va.toNat % m.size ≠ 0 := by
  simp only [Mref.misaligned, decide_eq_true_eq]

theorem State.atomDenied_of_cacheable {s : State} {c : Nat} {p : Page} (hp : p.cacheable) (hl : s.l2On (trioOf c) = true) :
    s.atomDenied c p = false := by
  unfold Page.cacheable at hp
  simp only [State.atomDenied, hp, decide_true, hl, Bool.not_true, Bool.or_self]

theorem State.loaded_eq_lands (s : State) (c : Nat) (m : Mref) (v : Dword) :
    s.loaded c m v = s.lands c m.dst (loadVal m.size m.signed v) 3 := rfl

theorem State.atomResult_eq_lands (s : State) (c : Nat) (m : Mref) (v : Dword) : s.atomResult c m v = s.lands c m.dst v 3 := rfl

/-! ### The operations -/

section
variable {s s2 : State} {c : CoreId} {m : Mref} {p : Page}

/-- An access that crosses its line traps before any translation (R60). -/
theorem loadOp_of_crosses (hm : m.misaligned = true) (hc : m.crosses = true) :
    s.loadOp c m none = (s, .trap { cause := 0x08, eva := m.va }) :=
  if_pos (by rw [hm, hc]; rfl)

theorem storeOp_of_crosses (v : Dword) (hm : m.misaligned = true) (hc : m.crosses = true) :
    s.storeOp c m v = (s, .trap { cause := 0x09, eva := m.va }) :=
  if_pos (by rw [hm, hc]; rfl)

/-- A misaligned access within its line, where none may be made. -/
theorem loadOp_of_mayNot (hm : m.misaligned = true) (hc : m.crosses = false) (ht : s.translate c.val .load m.va = (s2, .ok p))
    (hp : p.mayMisalign = false) : s.loadOp c m none = (s2, .trap { cause := 0x08, eva := m.va }) := by
  unfold State.loadOp
  simp only [hm, hc, Bool.and_false, Bool.false_eq_true, if_false, ht, hp, Bool.not_false, Bool.and_self, if_true]

theorem storeOp_of_mayNot (v : Dword) (hm : m.misaligned = true) (hc : m.crosses = false)
    (ht : s.translate c.val .store m.va = (s2, .ok p)) (hp : p.mayMisalign = false) :
    s.storeOp c m v = (s2, .trap { cause := 0x09, eva := m.va }) := by
  unfold State.storeOp
  simp only [hm, hc, Bool.and_false, Bool.false_eq_true, if_false, ht, hp, Bool.not_false, Bool.and_self, if_true]

/-- A load of cacheable DRAM within its line. -/
theorem loadOp_of_cacheable {s3 : State} {d : LineData} {served : Nat} (hc : m.crosses = false)
    (ht : s.translate c.val .load m.va = (s2, .ok p)) (hr : p.region = .dram) (hp : p.cacheable)
    (hl : s2.loadLine c.val m p.pa = (s3, .ok (d, false, served))) :
    let x := loadVal m.size m.signed (BitVec.ofNat 64 (lineNum ((s3.core c.val).overlay (p.pa / 64) d) (p.pa % 64) m.size))
    s.loadOp c m none = (s3.lands c.val m.dst x 3,
      .next (m.told x 0 served (s3.rq c.val (s3.tidOn c.val) (s3.core c.val).w (p.pa / 64) m.h).res) none) := by
  have hmay : p.mayMisalign = true := Page.mayMisalign_iff.mpr ⟨hp, .inr hr⟩
  unfold State.loadOp
  simp only [hc, Bool.and_false, Bool.false_eq_true, if_false, ht, hmay, Bool.not_true, hr, reduceCtorEq]
  rcases hp with hp | hp <;> simp only [hp, State.lineUpset, hl, ne_eq, not_true_eq_false, Bool.false_eq_true, if_false] <;> rfl

/-- A store to memory that merges enters the buffer. -/
theorem storeOp_of_cacheable (v : Dword) (hc : m.crosses = false) (ht : s.translate c.val .store m.va = (s2, .ok p))
    (hr : p.region ≠ .unpopulated) (hp : p.cacheable) (hmay : p.mayMisalign = true) (hf : s2.fenced c.val = false)
    (hroom : (s2.core c.val).mergeFull (p.pa / 64) p.ty = false) :
    let x := loadVal m.size false v
    let patch := linePatch (p.pa % 64) m.size x.toNat
    s.storeOp c m v = (s2.modCore c.val (fun k => { (k.breakResv (p.pa / 64)).mergeIn (p.pa / 64) (s2.tidOn c.val) k.w p.ty
      patch.1 patch.2 with wfence := false }), .next (m.told x 1 1 false) none) := by
  have hstrict : p.ty ≠ .devStrict := by rcases hp with hp | hp <;> rw [hp] <;> decide
  have hrelaxed : p.ty ≠ .devRelaxed := by rcases hp with hp | hp <;> rw [hp] <;> decide
  unfold State.storeOp
  simp only [hc, Bool.and_false, Bool.false_eq_true, if_false, ht, hmay, Bool.not_true, hr, hf, hstrict, hrelaxed, hroom]

/-- LR and SC on a misaligned address trap before any translation (R59). -/
theorem lrOp_of_misaligned (rl : Bool) (hm : m.misaligned = true) : s.lrOp c m rl = (s, .trap { cause := 0x08, eva := m.va }) :=
  if_pos hm

theorem scOp_of_misaligned (rl : Bool) (v : Dword) (hm : m.misaligned = true) :
    s.scOp c m rl v = (s, .trap { cause := 0x09, eva := m.va }) :=
  if_pos hm

/-- LR of a cacheable line: it loads, and reserves the line while the L2 holds it (R59). -/
theorem lrOp_of_cacheable {rl : Bool} (hrl : rl = false) {s3 : State} {d : LineData} {served : Nat} (hm : m.misaligned = false)
    (ht : s.translate c.val .load m.va = (s2, .ok p)) (hr : p.region = .dram) (hp : p.cacheable)
    (h2 : s2.l2On (trioOf c.val) = true) (hl : s2.loadLine c.val m p.pa = (s3, .ok (d, false, served))) :
    let x := loadVal m.size m.signed (BitVec.ofNat 64 (lineNum ((s3.core c.val).overlay (p.pa / 64) d) (p.pa % 64) m.size))
    let held := ((s3.trio (trioOf c.val)).l2.find (p.pa / 64)).isSome
    let s4 := s3.modCore c.val (fun k => { k with resv := if held then some ⟨BitVec.ofNat 46 p.pa, m.size⟩ else none })
    s.lrOp c m rl = (s4.lands c.val m.dst x 3, .next (m.told x 2 served (s4.atomRq c.val (p.pa / 64)).res) none) := by
  subst hrl
  unfold State.lrOp
  simp only [hm, Bool.false_eq_true, if_false, ht, State.atomDenied_of_cacheable hp h2, hr, reduceCtorEq, State.released, hl]
  rfl

/-- What the trace is told of an SC. -/
def Mref.toldSc (m : Mref) (v : Dword) (good : Bool) : Happened :=
  { acc := some { va := m.va, val := loadVal m.size false v, kind := 2, size := m.size, scFailed := !good, served := 3 } }

section
variable {rl : Bool} (hrl : rl = false) (v : Dword) (hm : m.misaligned = false) (ht : s.translate c.val .store m.va = (s2, .ok p)) (hr : p.region = .dram)
    (hp : p.cacheable) (h2 : s2.l2On (trioOf c.val) = true) (hf : s2.fenced c.val = false)
include hrl hm ht hr hp h2 hf

/-- SC of a cacheable line without its reservation: 1, and nothing stored (R59). -/
theorem scOp_of_unreserved
    (hres : (((s2.drainMerge c.val).ready c.val (p.pa / 64)).core c.val).resv ≠ some ⟨BitVec.ofNat 46 p.pa, m.size⟩) :
    s.scOp c m rl v = ((((s2.drainMerge c.val).ready c.val (p.pa / 64)).modCore c.val (fun k =>
      { k with resv := none, wfence := false })).lands c.val m.dst 1 3, .next (m.toldSc v false) none) := by
  subst hrl
  unfold State.scOp
  simp only [hm, Bool.false_eq_true, if_false, ht, State.atomDenied_of_cacheable hp h2, hr, reduceCtorEq, State.released, hf, hres,
    decide_false]
  rfl

/-- SC of a cacheable line under its reservation: 0, and the bytes stored (R59). -/
theorem scOp_of_reserved {s5 : State} {was : LineData}
    (hres : (((s2.drainMerge c.val).ready c.val (p.pa / 64)).core c.val).resv = some ⟨BitVec.ofNat 46 p.pa, m.size⟩)
    (hd : let s4 := ((s2.drainMerge c.val).ready c.val (p.pa / 64)).modCore c.val (fun k => { k with resv := none, wfence := false })
      let patch := linePatch (p.pa % 64) m.size (loadVal m.size false v).toNat
      s4.drainBytes (trioOf c.val) c.val (s4.atomRq c.val (p.pa / 64)) p.ty (p.pa / 64) patch.1 patch.2 = (s5, .ok was)) :
    s.scOp c m rl v = (s5.lands c.val m.dst 0 3, .next (m.toldSc v true) none) := by
  subst hrl
  unfold State.scOp
  simp only [hm, Bool.false_eq_true, if_false, ht, State.atomDenied_of_cacheable hp h2, hr, reduceCtorEq, State.released, hf, hres,
    decide_true, if_true]
  simp only at hd
  rw [hd]
  rfl

end

/-- TAS.B of a cacheable line (R59, R115). -/
theorem tasOp_of_cacheable {rl : Bool} (hrl : rl = false) {s3 s4 : State} {d was : LineData} {served : Nat} (ht : s.translate c.val .tas m.va = (s2, .ok p))
    (hr : p.region = .dram) (hp : p.cacheable) (hf : s2.fenced c.val = false) :
    let s2' := (s2.drainMerge c.val).modCore c.val (fun k => { k.breakResv (p.pa / 64) with wfence := false })
    let r := s2'.atomRq c.val (p.pa / 64)
    s2'.l2On (trioOf c.val) = true → s2'.loadLine c.val m p.pa = (s3, .ok (d, false, served)) →
    s3.drainBytes (trioOf c.val) c.val r p.ty (p.pa / 64) (linePatch (p.pa % 64) 1 0xFF).1 (linePatch (p.pa % 64) 1 0xFF).2 =
      (s4, .ok was) →
    s.tasOp c m rl = (s4.lands c.val m.dst ((lineByte was (p.pa % 64)).zeroExtend 64) 3,
      .next (m.told ((lineByte was (p.pa % 64)).zeroExtend 64) 3 served r.res) none) := by
  intro s2' r h2 hl hd
  subst hrl
  have hcached : (decide (p.ty = .wb ∨ p.ty = .wt) && s2'.l2On (trioOf c.val)) = true := by
    unfold Page.cacheable at hp
    rw [h2, decide_eq_true hp]
    rfl
  have hdram : s2'.tasDram c m p = (s4.lands c.val m.dst ((lineByte was (p.pa % 64)).zeroExtend 64) 3,
      .next (m.told ((lineByte was (p.pa % 64)).zeroExtend 64) 3 served r.res) none) := by
    unfold State.tasDram
    simp only [hcached, if_true, hl, Bool.false_eq_true, if_false]
    rw [hd]
    rfl
  unfold State.tasOp
  simp only [ht, hr, reduceCtorEq, if_false, hf, Bool.false_eq_true, State.released]
  exact hdram

end

/-! ### The instructions -/

section
variable {s s1 s2 : State} {c : CoreId} {o : OpsC} {p : Page} (h : Ready s c s1)
include h

theorem loadInstr_of_cacheable (major : BitVec 6) {n : Nat} {signed isF : Bool} {s3 : State} {d : LineData} {served : Nat} {x : Dword}
    (ht : s1.translate c.val .load ((s1.core c.val).g o.rb + o.disp.signExtend 64) = (s2, .ok p))
    (hr : p.region = .dram) (hp : p.cacheable)
    (hx : ((s1.core c.val).g o.rb + o.disp.signExtend 64).toNat % 64 + n ≤ 64)
    (hl : s2.loadLine c.val (mrefOf (s1.core c.val) major o n signed ((s1.core c.val).dest isF o.rt)) p.pa = (s3, .ok (d, false, served)))
    (hv : loadVal n signed (BitVec.ofNat 64 (lineNum ((s3.core c.val).overlay (p.pa / 64) d) (p.pa % 64) n)) = x) :
    ∃ e, done (loadInstr c major o n signed isF none s) =
      .next (retired (s3.lands c.val ((s1.core c.val).dest isF o.rt) x 3) c (s.core c.val).arch.pc e none) := by
  subst hv
  have hc : (mrefOf (s1.core c.val) major o n signed ((s1.core c.val).dest isF o.rt)).crosses = false :=
    decide_eq_false (Nat.not_lt.mpr hx)
  exact ⟨_, done_position_of_next h slot_allowed (loadOp_of_cacheable hc ht hr hp hl)⟩

theorem storeInstr_of_cacheable (major : BitVec 6) {n : Nat} {isF : Bool} {v : Dword}
    (hn : n ∈ [1, 2, 4, 8]) (hv : (if isF then (s1.core c.val).f o.rt else (s1.core c.val).g o.rt) = v)
    (ht : s1.translate c.val .store ((s1.core c.val).g o.rb + o.disp.signExtend 64) = (s2, .ok p)) (hr : p.region ≠ .unpopulated)
    (hp : p.cacheable) (hmay : p.mayMisalign = true) (hf : s2.fenced c.val = false) (hw : (s2.core c.val).w = (s1.core c.val).w)
    (hroom : (s2.core c.val).mergeFull (p.pa / 64) p.ty = false)
    (hx : ((s1.core c.val).g o.rb + o.disp.signExtend 64).toNat % 64 + n ≤ 64) :
    ∃ e, done (storeInstr c major o n isF s) = .next (retired (s2.modCore c.val (fun q =>
        { (q.breakResv (p.pa / 64)).mergeIn (p.pa / 64) (s2.tidOn c.val) (s1.core c.val).w p.ty
            (linePatch (p.pa % 64) n (v.toNat % 2 ^ (8 * n))).1 (linePatch (p.pa % 64) n 0).2 with wfence := false }))
          c (s.core c.val).arch.pc e none) := by
  subst hv
  rw [← loadVal_toNat hn, ← hw]
  exact ⟨_, done_position_of_next h slot_allowed (storeOp_of_cacheable (m := { word := wordC major o, va := _, size := n }) _
    (decide_eq_false (Nat.not_lt.mpr hx)) ht hr hp hmay hf hroom)⟩

end

/-- Where a load or store of `n` bytes traps by its address (R60), and with which cause. -/
def TrapsMisaligned (s1 : State) (c : CoreId) (o : OpsC) (run : Host.Outcome State Fault Refusal) (major : BitVec 6) (n cause : Nat)
    (acc : Acc') : Prop :=
  let va := (s1.core c.val).g o.rb + o.disp.signExtend 64
  (64 < va.toNat % 64 + n → run = .next (trapped s1 c (wordC major o) { cause := cause, eva := va })) ∧
  (∀ s2 p, va.toNat % 64 + n ≤ 64 → va.toNat % n ≠ 0 → s1.translate c.val acc va = (s2, .ok p) →
    ((p.ty ≠ .wb ∧ p.ty ≠ .wt) ∨ (p.trans = false ∧ p.region ≠ .dram)) →
    run = .next (trapped s2 c (wordC major o) { cause := cause, eva := va }))

/-- An access whose size divides a line crosses it only at a misaligned address. -/
theorem misaligned_of_crosses {n : Nat} (hn : n ∈ [2, 4, 8]) {a : Nat} (h : 64 < a % 64 + n) : a % n ≠ 0 := by
  simp only [List.mem_cons, List.not_mem_nil, or_false] at hn
  rcases hn with rfl | rfl | rfl <;> omega

theorem Page.mayNotMisalign {p : Page} (h : (p.ty ≠ .wb ∧ p.ty ≠ .wt) ∨ (p.trans = false ∧ p.region ≠ .dram)) :
    p.mayMisalign = false := by
  rw [← Bool.not_eq_true, Page.mayMisalign_iff, Page.cacheable]
  rcases h with ⟨hwb, hwt⟩ | ⟨htrans, hdram⟩
  · exact fun hp => hp.1.elim hwb hwt
  · simp [htrans, hdram]

section
variable {s s1 : State} {c : CoreId} (o : OpsC) (h : Ready s c s1) (major : BitVec 6) {n : Nat} (hn : n ∈ [2, 4, 8])
include h hn

theorem loadInstr_trapsMisaligned (signed isF : Bool) :
    TrapsMisaligned s1 c o (done (loadInstr c major o n signed isF none s)) major n 0x08 .load :=
  ⟨fun hx => done_position_of_trap h slot_allowed
      (loadOp_of_crosses (Mref.misaligned_iff.mpr (misaligned_of_crosses hn hx)) (Mref.crosses_iff.mpr hx)),
    fun _ _ hx hm ht hp => done_position_of_trap h slot_allowed
      (loadOp_of_mayNot (Mref.misaligned_iff.mpr hm) (decide_eq_false (Nat.not_lt.mpr hx)) ht (Page.mayNotMisalign hp))⟩

theorem storeInstr_trapsMisaligned (isF : Bool) :
    TrapsMisaligned s1 c o (done (storeInstr c major o n isF s)) major n 0x09 .store :=
  ⟨fun hx => done_position_of_trap h slot_allowed
      (storeOp_of_crosses _ (Mref.misaligned_iff.mpr (misaligned_of_crosses hn hx)) (Mref.crosses_iff.mpr hx)),
    fun _ _ hx hm ht hp => done_position_of_trap h slot_allowed
      (storeOp_of_mayNot _ (Mref.misaligned_iff.mpr hm) (decide_eq_false (Nat.not_lt.mpr hx)) ht (Page.mayNotMisalign hp))⟩

end

section
variable {s s1 : State} {c : CoreId} (o : OpsA) (h : Ready s c s1) (fn : BitVec 6) (n : Nat)
include h

theorem lrInstr_of_misaligned (signed : Bool) (hm : ((s1.core c.val).g o.rs1).toNat % n ≠ 0) :
    done (atomInstr c fn o n signed (fun m rl _ s => s.lrOp c m rl) s) =
      .next (trapped s1 c (wordA 0x03 o fn) { cause := 0x08, eva := (s1.core c.val).g o.rs1 }) :=
  done_position_of_trap h slot_allowed (lrOp_of_misaligned _ (Mref.misaligned_iff.mpr hm))

theorem scInstr_of_misaligned (hm : ((s1.core c.val).g o.rs1).toNat % n ≠ 0) :
    done (atomInstr c fn o n false (fun m rl k s => s.scOp c m rl (k.g o.rs2)) s) =
      .next (trapped s1 c (wordA 0x03 o fn) { cause := 0x09, eva := (s1.core c.val).g o.rs1 }) :=
  done_position_of_trap h slot_allowed (scOp_of_misaligned _ _ (Mref.misaligned_iff.mpr hm))

end

/-- Settles O16: each size and its extension, over one load within its line. -/
theorem cacheableLoads : Obligations.CacheableLoads := by
  intro s s1 s2 c o p h k va line row ht hr hp
  have hs := fun x => loadVal_signed x
  refine ⟨?_, ?_, ?_, ?_, ?_, ?_, ?_, ?_, ?_⟩ <;> intro hx s3 d served hl
  · exact loadInstr_of_cacheable h 0x10 ht hr hp hx hl (hs _).1
  · exact loadInstr_of_cacheable h 0x11 ht hr hp hx hl (loadVal_unsigned (by decide) _)
  · exact loadInstr_of_cacheable h 0x12 ht hr hp hx hl (hs _).2.1
  · exact loadInstr_of_cacheable h 0x13 ht hr hp hx hl (loadVal_unsigned (by decide) _)
  · exact loadInstr_of_cacheable h 0x14 ht hr hp hx hl (hs _).2.2
  · exact loadInstr_of_cacheable h 0x15 ht hr hp hx hl (loadVal_unsigned (by decide) _)
  · exact loadInstr_of_cacheable h 0x16 ht hr hp hx hl rfl
  · exact loadInstr_of_cacheable h 0x1C ht hr hp hx hl (loadVal_unsigned (by decide) _)
  · exact loadInstr_of_cacheable h 0x1D ht hr hp hx hl rfl

/-- Settles O18: each size, over one store that merges. -/
theorem storesEnterTheBuffer : Obligations.StoresEnterTheBuffer := by
  intro s s1 s2 c o p h k va line row ht hr hp hmay hf hw hroom
  have hstore := fun (major : BitVec 6) (n : Nat) (isF : Bool) (hn : n ∈ [1, 2, 4, 8]) =>
    storeInstr_of_cacheable (isF := isF) h major hn rfl ht hr hp (Page.mayMisalign_iff.mpr ⟨hp, hmay⟩) hf hw hroom
  exact ⟨hstore 0x18 1 false (by decide), hstore 0x19 2 false (by decide), hstore 0x1A 4 false (by decide),
    hstore 0x1B 8 false (by decide), hstore 0x1E 4 true (by decide), hstore 0x1F 8 true (by decide)⟩

/-- Settles O19: the tests of an address in their order, for each size. -/
theorem misalignedAccessesTrap : Obligations.MisalignedAccessesTrap := by
  intro s s1 c o a h k va row atom
  have load := fun (major : BitVec 6) (n : Nat) (hn : n ∈ [2, 4, 8]) => loadInstr_trapsMisaligned o h major hn
  have store := fun (major : BitVec 6) (n : Nat) (hn : n ∈ [2, 4, 8]) => storeInstr_trapsMisaligned o h major hn
  exact ⟨load 0x12 2 (by decide) true false, load 0x13 2 (by decide) false false, load 0x14 4 (by decide) true false,
    load 0x15 4 (by decide) false false, load 0x16 8 (by decide) false false, load 0x1C 4 (by decide) false true,
    load 0x1D 8 (by decide) false true, store 0x19 2 (by decide) false, store 0x1A 4 (by decide) false,
    store 0x1B 8 (by decide) false, store 0x1E 4 (by decide) true, store 0x1F 8 (by decide) true,
    lrInstr_of_misaligned a h 0x00 4 true, scInstr_of_misaligned a h 0x01 4, lrInstr_of_misaligned a h 0x02 8 false,
    scInstr_of_misaligned a h 0x03 8⟩

/-! ### The atomic instructions -/

/-- The access of an atomic of format A. -/
def atomRef (k : Core) (o : OpsA) (fn : BitVec 6) (n : Nat) (signed : Bool) : Mref :=
  { word := wordA 0x03 o fn, va := k.g o.rs1, size := n, signed := signed, dst := k.dest false o.rd }

section
variable {s s1 s2 : State} {c : CoreId} {o : OpsA} {p : Page} (h : Ready s c s1) (hrl : bit o.ext 0 = false)
  (hr : p.region = .dram) (hp : p.cacheable) {fn : BitVec 6} {n : Nat} {signed : Bool}
include h hrl hr hp

theorem lrInstr_of_cacheable {s3 : State} {d : LineData} {served : Nat} {x : Dword} (h2 : s2.l2On (trioOf c.val) = true)
    (hm : ((s1.core c.val).g o.rs1).toNat % n = 0) (ht : s1.translate c.val .load ((s1.core c.val).g o.rs1) = (s2, .ok p))
    (hl : s2.loadLine c.val (atomRef (s1.core c.val) o fn n signed) p.pa = (s3, .ok (d, false, served)))
    (hv : loadVal n signed (BitVec.ofNat 64 (lineNum ((s3.core c.val).overlay (p.pa / 64) d) (p.pa % 64) n)) = x) :
    let held : Option Resv := if ((s3.trio (trioOf c.val)).l2.find (p.pa / 64)).isSome then some ⟨BitVec.ofNat 46 p.pa, n⟩ else none
    ∃ e, done (atomInstr c fn o n signed (fun m rl _ s => s.lrOp c m rl) s) =
      .next (retired ((s3.modCore c.val (fun q => { q with resv := held })).lands c.val ((s1.core c.val).dest false o.rd) x 3) c
        (s.core c.val).arch.pc e none) := by
  subst hv
  have hb := lrOp_of_cacheable hrl (m := atomRef (s1.core c.val) o fn n signed) (decide_eq_false (not_not.mpr hm)) ht hr hp h2 hl
  exact ⟨_, done_position_of_next h slot_allowed hb⟩

theorem scInstr_of_cacheable (hn : n ∈ [1, 2, 4, 8]) (h2 : s2.l2On (trioOf c.val) = true)
    (hm : ((s1.core c.val).g o.rs1).toNat % n = 0)
    (ht : s1.translate c.val .store ((s1.core c.val).g o.rs1) = (s2, .ok p)) (hf : s2.fenced c.val = false) :
    let run := done (atomInstr c fn o n false (fun m rl k s => s.scOp c m rl (k.g o.rs2)) s)
    let s3 := (s2.drainMerge c.val).ready c.val (p.pa / 64)
    let s4 := s3.modCore c.val (fun q => { q with resv := none, wfence := false })
    let patch := linePatch (p.pa % 64) n (((s1.core c.val).g o.rs2).toNat % 2 ^ (8 * n))
    let dst := (s1.core c.val).dest false o.rd
    ((s3.core c.val).resv ≠ some ⟨BitVec.ofNat 46 p.pa, n⟩ →
      ∃ e, run = .next (retired (s4.lands c.val dst 1 3) c (s.core c.val).arch.pc e none)) ∧
    (∀ s5 was, (s3.core c.val).resv = some ⟨BitVec.ofNat 46 p.pa, n⟩ →
      s4.drainBytes (trioOf c.val) c.val (s4.atomRq c.val (p.pa / 64)) p.ty (p.pa / 64) patch.1 patch.2 = (s5, .ok was) →
      ∃ e, run = .next (retired (s5.lands c.val dst 0 3) c (s.core c.val).arch.pc e none)) := by
  have hmis : (atomRef (s1.core c.val) o fn n false).misaligned = false := decide_eq_false (not_not.mpr hm)
  refine ⟨fun hres => ?unreserved, fun s5 was hres hd => ?reserved⟩
  case unreserved =>
    have hb := scOp_of_unreserved hrl ((s1.core c.val).g o.rs2) hmis ht hr hp h2 hf hres
    exact ⟨_, done_position_of_next h slot_allowed hb⟩
  case reserved =>
    rw [← loadVal_toNat hn] at hd
    have hb := scOp_of_reserved hrl ((s1.core c.val).g o.rs2) hmis ht hr hp h2 hf hres hd
    exact ⟨_, done_position_of_next h slot_allowed hb⟩

theorem tasInstr_of_cacheable {s3 s4 : State} {d was : LineData} {served : Nat}
    (ht : s1.translate c.val .tas ((s1.core c.val).g o.rs1) = (s2, .ok p)) (hf : s2.fenced c.val = false) :
    let s2' := (s2.drainMerge c.val).modCore c.val (fun k => { k.breakResv (p.pa / 64) with wfence := false })
    s2'.l2On (trioOf c.val) = true →
    s2'.loadLine c.val (atomRef (s1.core c.val) o 0x04 1 false) p.pa = (s3, .ok (d, false, served)) →
    s3.drainBytes (trioOf c.val) c.val (s2'.atomRq c.val (p.pa / 64)) p.ty (p.pa / 64) (linePatch (p.pa % 64) 1 0xFF).1
      (linePatch (p.pa % 64) 1 0xFF).2 = (s4, .ok was) →
    ∃ e, done (atomInstr c 0x04 o 1 false (fun m rl _ s => s.tasOp c m rl) s) =
      .next (retired (s4.lands c.val ((s1.core c.val).dest false o.rd) ((lineByte was (p.pa % 64)).zeroExtend 64) 3) c
        (s.core c.val).arch.pc e none) := by
  intro s2' h2 hl hd
  have hb := tasOp_of_cacheable hrl (m := atomRef (s1.core c.val) o 0x04 1 false) ht hr hp hf h2 hl hd
  exact ⟨_, done_position_of_next h slot_allowed hb⟩

end

/-- Settles O23: LR, SC with and without its reservation, and TAS.B, of cacheable DRAM. -/
theorem atomicAccesses : Obligations.AtomicAccesses := by
  constructor
  · intro s s1 s2 c o p h k va line m lr sc hr hp h2 hrl
    exact ⟨fun hm s3 d served ht hl => lrInstr_of_cacheable h hrl hr hp h2 hm ht hl (loadVal_signed _).2.2,
      fun hm s3 d served ht hl => lrInstr_of_cacheable h hrl hr hp h2 hm ht hl rfl,
      fun hm ht hf => scInstr_of_cacheable h hrl hr hp (by decide) h2 hm ht hf,
      fun hm ht hf => scInstr_of_cacheable h hrl hr hp (by decide) h2 hm ht hf⟩
  · intro s s1 s2 s3 s4 c o p d was served h k line m s2' ht hr hp hf hrl h2 hl hd
    exact tasInstr_of_cacheable h hrl hr hp ht hf h2 hl hd

end Sys2Proof.Machine
end

section
/-! SUPPORT. Writes that act on power, resets, Sole, the boot store, custom instructions and the Policy Mailbox: obligation O48. -/

namespace Sys2Proof.Machine

/-! ### A register-write command whose checks pass (R464) -/

section
variable {s : State} {who : Requester} {r : RegRef} {v : Dword} (h : Accepted s who r v) (hl : ¬ (r.reg = .mcCfg ∨ r.reg = .ftuCfg))
include h

theorem mcsWrite_of_accepted : s.mcsWrite who r.off 3 v = s.regWriteLimited who r v := by
  have hsize : sizeOk r.off 3 = true := by simp only [sizeOk, h.aligned, decide_true, Bool.and_self]
  have hexp : (r.reg.expert && decide (s.rf ⟨.expertCtl, 0, 0, 0⟩ 0 0 = 0)) = false := by
    by_cases he : r.reg.expert = true
    · rw [decide_eq_false (h.expert he), Bool.and_false]
    · rw [Bool.eq_false_iff.mpr he, Bool.false_and]
  unfold State.mcsWrite
  simp only [h.unit, h.answers, h.writer, h.debug, hsize, hexp, Bool.false_eq_true, if_false, Bool.not_true]

omit h in
include hl in
theorem regWriteLimited_eq : s.regWriteLimited who r v = s.regWrite who r v := by
  unfold State.regWriteLimited
  split
  · rename_i s' heq
    rw [if_neg (fun e => hl e.1), heq]
  · rfl

include hl

theorem rowWrite_of_ok {t : State} (hw : s.regWrite who r v = .ok t) : s.rowWrite who r v = wrote t := by
  have hm := (mcsWrite_of_accepted h).trans ((regWriteLimited_eq hl).trans hw)
  unfold State.rowWrite State.write
  simp only [h.up, h.port, Bool.or_self, Bool.false_eq_true, if_false, hm]
  rfl

theorem rowWrite_of_err {e : Nat} (hw : s.regWrite who r v = .err e) : s.rowWrite who r v = refusedWrite s (BitVec.ofNat 8 e) := by
  have hm := (mcsWrite_of_accepted h).trans ((regWriteLimited_eq hl).trans hw)
  unfold State.rowWrite State.write
  simp only [h.up, h.port, Bool.or_self, Bool.false_eq_true, if_false, hm]
  rfl

end

/-! ### Power (R404) -/

section
variable {s : State} {v : Dword} {w : Bool}

theorem writePwrReq_refused (hg : bit v 0 = true) (h : 118 ≤ fld v 38 32 ∨ fld v 2 1 = 3) : s.writePwrReq v w = .err 0 :=
  if_pos (by simpa only [hg, Bool.true_and, Bool.or_eq_true, decide_eq_true_eq] using h)

theorem writePwrReq_named (hg : bit v 0 = true) (hn : fld v 38 32 < 118) (ha : fld v 2 1 ≠ 3) :
    s.writePwrReq v w =
      let n := fld v 38 32
      let act := fld v 2 1
      let s := s.writeReg pwrReqR v
      if !w && s.held n then
        let s := { s with power := { s.power with domReq := SMap.put 0 s.power.domReq n (BitVec.ofNat 64 (2 ^ 62 + act)) } }
        let s := if 108 ≤ n ∧ n < 116 then s.setRf (quadR (n - 108)) 12 12 0 else s
        .ok ((s.setRf (domR n) 3 2 act).setRf (domR n) 7 4 3)
      else .ok (s.domSubmit n act) := by
  unfold State.writePwrReq
  rw [if_neg (by simp only [hg, Bool.true_and, Bool.or_eq_true, decide_eq_true_eq]; omega)]
  simp only [hg, Bool.not_true, Bool.false_eq_true, if_false]

theorem writePwrReq_submits (hg : bit v 0 = true) (hn : fld v 38 32 < 118) (ha : fld v 2 1 ≠ 3)
    (hw : w = true ∨ (s.writeReg pwrReqR v).held (fld v 38 32) = false) :
    s.writePwrReq v w = .ok ((s.writeReg pwrReqR v).domSubmit (fld v 38 32) (fld v 2 1)) :=
  (writePwrReq_named hg hn ha).trans (if_neg (by rcases hw with hw | hw <;> simp [hw]))

theorem writePwrReq_held (hg : bit v 0 = true) (hn : fld v 38 32 < 108) (ha : fld v 2 1 ≠ 3) (hw : w = false)
    (hh : (s.writeReg pwrReqR v).held (fld v 38 32) = true) :
    s.writePwrReq v w =
      let req := s.writeReg pwrReqR v
      let p := fld v 38 32
      let act := fld v 2 1
      .ok (({ req with power := { req.power with domReq := SMap.put 0 req.power.domReq p (BitVec.ofNat 64 (2 ^ 62 + act)) } }.setRf
        (domR p) 3 2 act).setRf (domR p) 7 4 3) := by
  rw [writePwrReq_named hg (by omega) ha]
  simp only [hw, hh, Bool.not_false, Bool.and_self, if_true, show ¬ (108 ≤ fld v 38 32 ∧ fld v 38 32 < 116) by omega, if_false]

end

/-! ### Resets (R405, R406) -/

section
variable {s : State} {who : Requester} {v : Dword}

/-- A reset whose unit exists, of a requester that may ask for it. -/
theorem writeRstCtl_of_unit (h1 : fld v 2 0 = 1 → svcOrAwl who = true) (hd : 2 ≤ fld v 2 0 → fld v 47 44 < 12)
    (hp : 3 ≤ fld v 2 0 → fld v 43 41 < 7) (hc : fld v 2 0 = 4 → fld v 40 39 < 3) :
    s.writeRstCtl who v =
      let d := fld v 47 44
      let p := fld v 43 41
      let c := fld v 40 39
      let s := s.writeReg rstCtlR v
      match fld v 2 0 with
      | 1 => .ok (s.moduleReset 5 s.power.straps)
      | 2 => .ok ((s.noteReset 2 (unitWord d 7 7 3 none) 5).dieReset d)
      | 3 => .ok (s.orderTrio (7 * d + p))
      | 4 => if s.powered (7 * d + p) then .ok (s.orderCore (coreNo (7 * d + p) c)) else .ok s
      | _ => .ok s := by
  unfold State.writeRstCtl
  rw [if_neg (by by_cases hk : fld v 2 0 = 1 <;> simp [hk, h1]),
    if_neg (by simp only [Bool.or_eq_true, Bool.and_eq_true, decide_eq_true_eq]; omega)] <;> rfl

/-- A die that does not exist. -/
theorem writeRstCtl_of_no_die (hk : fld v 2 0 = 2) (hd : 12 ≤ fld v 47 44) : s.writeRstCtl who v = .err 0 := by
  unfold State.writeRstCtl
  rw [if_neg (by simp [hk]), if_pos (by simp [hk, hd])]

end

/-! ### Sole (R422, R423, R426, R427) -/

section
variable {s : State} {v : Dword}

theorem writeSoleCtl_of_bits {b0 b1 b2 : Bool} (h0 : bit v 0 = b0) (h1 : bit v 1 = b1) (h2 : bit v 2 = b2) :
    s.writeSoleCtl v =
      let s := if b1 then s.snapshot 3 else s
      let s := if b0 then s.commitStart else s
      if b2 then s.refreshStart else s := by
  subst h0 h1 h2
  rfl

/-- The three low bits of a word. -/
theorem bits_of_low3 {k : Nat} (h : fld v 2 0 = k) : bit v 0 = k.testBit 0 ∧ bit v 1 = k.testBit 1 ∧ bit v 2 = k.testBit 2 := by
  subst h
  simp only [testBit_fld, bit]
  exact ⟨by simp, by simp, by simp⟩

end

section
variable {s : State} {t : Nat} {v : Dword} {w : Bool} (hg : bit v 0 = true) (hb : s.rf (soleCtl t) 1 1 = 0)
include hg hb

theorem writeSoleGo_idle : s.writeSoleGo t v w =
    let n := s.rf (soleA t) 46 32
    let a := s.soleArea t
    if n = 0 ∨ 16384 < n ∨ 35 ≤ a then s.soleStatus t 1
    else if a = 34 ∧ !w then s.soleStatus t 3
    else { s with sole := { s.sole with reads := s.sole.reads ++ [(t, w)] } }.setRf (soleCtl t) 1 1 1 :=
  if_neg (by simp [hg, hb])

theorem writeSoleGo_bad (h : s.rf (soleA t) 46 32 = 0 ∨ 16384 < s.rf (soleA t) 46 32 ∨ 35 ≤ s.soleArea t) :
    s.writeSoleGo t v w = s.soleStatus t 1 :=
  (writeSoleGo_idle hg hb).trans (if_pos h)

variable (h0 : 0 < s.rf (soleA t) 46 32) (hm : s.rf (soleA t) 46 32 ≤ 16384)
include h0 hm

theorem writeSoleGo_sealed (ha : s.soleArea t = 34) (hw : w = false) : s.writeSoleGo t v w = s.soleStatus t 3 :=
  (writeSoleGo_idle hg hb).trans ((if_neg (by omega)).trans (if_pos ⟨ha, by rw [hw]; rfl⟩))

theorem writeSoleGo_starts (ha : s.soleArea t < 34 ∨ (s.soleArea t = 34 ∧ w = true)) :
    s.writeSoleGo t v w =
      { s with sole := { s.sole with reads := s.sole.reads ++ [(t, w)] } }.setRf (soleCtl t) 1 1 1 := by
  refine (writeSoleGo_idle hg hb).trans ((if_neg (by omega)).trans (if_neg ?_))
  rintro ⟨h34, hw⟩
  rcases ha with ha | ⟨-, ha⟩
  · omega
  · rw [ha] at hw
    cases hw

end

/-- The control register of an engine: the system engine has its own, and no other register is it. -/
theorem regWrite_soleCtl (s : State) (who : Requester) (t : Nat) (v : Dword) :
    s.regWrite who (soleCtl t) v = .ok (s.writeSoleGo t v (s.reqW who)) := by
  by_cases ht : t = 0
  · subst ht
    rfl
  · rw [soleCtl, if_neg ht]
    rfl

theorem soleCtl_not_limited (t : Nat) : ¬ ((soleCtl t).reg = .mcCfg ∨ (soleCtl t).reg = .ftuCfg) := by
  unfold soleCtl
  split <;> exact nofun

/-! ### The boot store (R430) -/

theorem mcStatus_off_ne_bootStat (m : Nat) : (RegRef.mk .mcStatus 0 m 0).off ≠ bootStatR.off := by
  simp only [bootStatR, RegRef.off, Reg.place, zoneBase]
  omega

theorem mcCfg_off_ne_bootStat {m : Nat} (h : m < 12) : (RegRef.mk .mcCfg 0 m 0).off ≠ bootStatR.off := by
  simp only [bootStatR, RegRef.off, Reg.place, zoneBase]
  omega

/-- Where memory is installed does not depend on `BOOT_STAT`. -/
theorem inInstalled_setRf_bootStat (s : State) (hi lo v pa : Nat) : (s.setRf bootStatR hi lo v).inInstalled pa = s.inInstalled pa := by
  have hstate : ∀ m, (s.setRf bootStatR hi lo v).chanState m = s.chanState m := fun m =>
    rf_setRf_other_reg s _ _ _ _ _ (mcStatus_off_ne_bootStat m)
  have husable : (s.setRf bootStatR hi lo v).usable = s.usable := by
    unfold State.usable
    simp only [hstate, rf_setRf_other_reg s _ _ _ _ _ (mcStatus_off_ne_bootStat _)]
  have hmirrored : ∀ m, m < 12 → (s.setRf bootStatR hi lo v).mirrored m = s.mirrored m := by
    intro m hm
    unfold State.mirrored
    rw [rf_setRf_other_reg s _ _ _ _ _ (mcCfg_off_ne_bootStat hm), rf_setRf_other_reg s _ _ _ _ _ (mcCfg_off_ne_bootStat (by omega))]
  unfold State.inInstalled State.installed State.chanLost
  have hchan : chanOf (pa / 64) < 12 := Nat.mod_lt _ (by decide)
  simp only [husable, hstate, hmirrored _ hchan]

theorem writeBootStat_unused {s : State} {v : Dword} (h : s.bootStore = false) : s.writeBootStat v = s :=
  if_pos (by rw [h]; rfl)

/-- Writing 1 to BSTORE writes the lines of the store to DRAM. -/
theorem writeBootStat_used {s : State} {v : Dword} (h : s.bootStore = true) (hv : bit v 2 = true) :
    s.writeBootStat v =
      let bs := s.boot.store
      let s := { s with boot := { s.boot with store := [] } }.setRf bootStatR 2 2 0
      let here := bs.filter (fun e => s.inInstalled e.1)
      let s := here.foldl (fun (s : State) e => s.setByte e.1 e.2) s
      { s with poison := s.poison.filter (fun l => !here.any (fun e => decide (e.1 / 64 = l))) } :=
  if_neg (by rw [h, hv]; decide)

theorem writeBootStat_empty {s : State} {v : Dword} (h : s.bootStore = true) (hv : bit v 2 = true) (hs : s.boot.store = []) :
    s.writeBootStat v = { s with boot := { s.boot with store := [] } }.setRf bootStatR 2 2 0 := by
  rw [writeBootStat_used h hv, hs]
  simp only [List.filter_nil, List.foldl_nil, List.any_nil, Bool.not_false, List.filter_true]

theorem writeBootStat_one {s : State} {v : Dword} {a : Nat} {b : Byte} (h : s.bootStore = true) (hv : bit v 2 = true)
    (hs : s.boot.store = [(a, b)]) (ha : s.inInstalled a = true) :
    s.writeBootStat v =
      { ({ s with boot := { s.boot with store := [] } }.setRf bootStatR 2 2 0).setByte a b with
        poison := s.poison.filter (fun l => decide (l ≠ a / 64)) } := by
  have hin : ({ s with boot := { s.boot with store := [] } }.setRf bootStatR 2 2 0).inInstalled a = true :=
    (inInstalled_setRf_bootStat _ _ _ _ _).trans ha
  rw [writeBootStat_used h hv, hs]
  simp only [List.filter_cons, hin, if_true, List.filter_nil, List.foldl_cons, List.foldl_nil, List.any_cons, List.any_nil, Bool.or_false]
  have hne : (fun l => !decide (a / 64 = l)) = fun l => decide (l ≠ a / 64) := by
    funext l
    rw [← decide_not, decide_eq_decide, ne_eq, eq_comm]
  rw [hne]
  rfl

/-! ### Custom instructions (R65) -/

theorem writeCdtCtl_locked {s : State} {v : Dword} (h : bit (s.reg cdtCtlR) 0 = true) : s.writeCdtCtl v = s :=
  if_pos (by rw [h]; rfl)

theorem writeCdtCtl_locks {s : State} {v : Dword} (hv : bit v 0 = true) (h : bit (s.reg cdtCtlR) 0 = false)
    (hbad : (List.range 32).filter (fun n => bit (s.reg (cdtSlotR n)) 0 && !s.cdtPasses n) = []) :
    s.writeCdtCtl v = s.setRf cdtCtlR 0 0 1 := by
  unfold State.writeCdtCtl
  rw [if_neg (by rw [h, hv]; decide), hbad]
  rfl

/-- Settles O48: each register's own rule, behind the checks that let the write pass. -/
theorem platformRegisterCommands : Obligations.PlatformRegisterCommands := by
  intro s who v n ring p act req rst die trio sole lines area boot pmb bad
  refine ⟨fun h hg => ⟨?pwrBad, ?pwrSubmit, ?pwrHeld⟩, fun h => ⟨?module, ?die, ?noDie, ?trio, ?core⟩, fun h => ⟨?commit, ?snap, ?refresh⟩,
    fun h hg hb => ⟨?readBad, ?readSealed, ?read⟩, fun h hv => ⟨?unused, ?empty, ?one⟩, ?locked, ?locks, ?mailbox⟩
  case pwrBad => exact fun hbad => rowWrite_of_err h (by decide) (writePwrReq_refused hg hbad)
  case pwrSubmit => exact fun hn ha hw => rowWrite_of_ok h (by decide) (writePwrReq_submits hg hn ha hw)
  case pwrHeld => exact fun hn ha hw hh => rowWrite_of_ok h (by decide) (writePwrReq_held hg hn ha hw hh)
  case module =>
    intro hk
    have hsvc : svcOrAwl who = true := by
      have hw := h.writer
      simp only [State.writerRefused, rstCtlR, hk, true_and] at hw
      simpa using hw
    refine rowWrite_of_ok h (by decide) ((writeRstCtl_of_unit (fun _ => hsvc) (by omega) (by omega) (by omega)).trans ?_)
    simp only [hk]
    rfl
  case die =>
    intro hk hd
    refine rowWrite_of_ok h (by decide) ((writeRstCtl_of_unit (by omega) (fun _ => hd) (by omega) (by omega)).trans ?_)
    simp only [hk]
    rfl
  case noDie => exact fun hk hd => rowWrite_of_err h (by decide) (writeRstCtl_of_no_die hk hd)
  case trio =>
    intro hk hd hp
    refine rowWrite_of_ok h (by decide) ((writeRstCtl_of_unit (by omega) (fun _ => hd) (fun _ => hp) (by omega)).trans ?_)
    simp only [hk]
    rfl
  case core =>
    intro hk hd hp hc hpow
    refine rowWrite_of_ok h (by decide) ((writeRstCtl_of_unit (by omega) (fun _ => hd) (fun _ => hp) (fun _ => hc)).trans ?_)
    simp only [hk]
    exact if_pos hpow
  case commit =>
    intro hk
    obtain ⟨h0, h1, h2⟩ := bits_of_low3 hk
    exact rowWrite_of_ok h (by decide) (congrArg Wr.ok (writeSoleCtl_of_bits h0 h1 h2))
  case snap =>
    intro hk
    obtain ⟨h0, h1, h2⟩ := bits_of_low3 hk
    exact rowWrite_of_ok h (by decide) (congrArg Wr.ok (writeSoleCtl_of_bits h0 h1 h2))
  case refresh =>
    intro hk
    obtain ⟨h0, h1, h2⟩ := bits_of_low3 hk
    exact rowWrite_of_ok h (by decide) (congrArg Wr.ok (writeSoleCtl_of_bits h0 h1 h2))
  case readBad =>
    exact fun hbad => rowWrite_of_ok h (soleCtl_not_limited _) ((regWrite_soleCtl ..).trans (congrArg Wr.ok (writeSoleGo_bad hg hb hbad)))
  case readSealed =>
    exact fun h0 hm ha hw => rowWrite_of_ok h (soleCtl_not_limited _)
      ((regWrite_soleCtl ..).trans (congrArg Wr.ok (writeSoleGo_sealed hg hb h0 hm ha hw)))
  case read =>
    exact fun h0 hm ha => rowWrite_of_ok h (soleCtl_not_limited _)
      ((regWrite_soleCtl ..).trans (congrArg Wr.ok (writeSoleGo_starts hg hb h0 hm ha)))
  case unused => exact fun hu => rowWrite_of_ok h (by decide) (congrArg Wr.ok (writeBootStat_unused hu))
  case empty => exact fun hu hs => rowWrite_of_ok h (by decide) (congrArg Wr.ok (writeBootStat_empty hu hv hs))
  case one => exact fun a b hu hs ha => rowWrite_of_ok h (by decide) (congrArg Wr.ok (writeBootStat_one hu hv hs ha))
  case locked => exact fun h _ hl => rowWrite_of_ok h (by decide) (congrArg Wr.ok (writeCdtCtl_locked hl))
  case locks => exact fun h hv hl hbad => rowWrite_of_ok h (by decide) (congrArg Wr.ok (writeCdtCtl_locks hv hl hbad))
  case mailbox => exact fun h => rowWrite_of_ok h nofun rfl

end Sys2Proof.Machine
end

section
/-! SUPPORT. The response of a device: obligation O21 (R44, R113, R115, R465). -/

namespace Sys2Proof.Machine

/-! ### Bytes under those that the merging buffer supplies (R115) -/

theorem ofBytes_lt (l : List Byte) : ofBytes l < 256 ^ l.length := by
  induction l with
  | nil => exact Nat.one_pos
  | cons b l ih =>
    have hb := b.isLt
    rw [ofBytes, List.length_cons, Nat.pow_succ]
    omega

theorem ofBytes_byte (l : List Byte) (i : Nat) : ofBytes l / 256 ^ i % 256 = (l.getD i 0).toNat := by
  induction l generalizing i with
  | nil => simp [ofBytes]
  | cons b l ih =>
    have hb := b.isLt
    cases i with
    | zero =>
      simp only [ofBytes, Nat.pow_zero, Nat.div_one, List.getD_cons_zero]
      omega
    | succ i =>
      have hq : (b.toNat + 256 * ofBytes l) / 256 = ofBytes l := by omega
      rw [ofBytes, Nat.pow_succ', ← Nat.div_div_eq_div_mul, hq, ih, List.getD_cons_succ]

/-- A byte of a doubleword that was put together from eight. -/
theorem byte_ofBytes {l : List Byte} (hl : l.length = 8) (i : Nat) :
    ((BitVec.ofNat 64 (ofBytes l) >>> (8 * i)).truncate 8 : Byte) = l.getD i 0 := by
  have hlt : ofBytes l < 2 ^ 64 := (ofBytes_lt l).trans_eq (by rw [hl]; rfl)
  have h256 : 2 ^ (8 * i) = 256 ^ i := Nat.pow_mul 2 8 i
  refine BitVec.eq_of_toNat_eq ?_
  rw [← ofBytes_byte l i, BitVec.truncate_eq_setWidth, BitVec.toNat_setWidth, BitVec.toNat_ushiftRight, BitVec.toNat_ofNat,
    Nat.mod_eq_of_lt hlt, Nat.shiftRight_eq_div_pow, h256]

/-- What the buffer supplied stands there already. -/
theorem DevAcc.seen_seen (a : DevAcc) (v : Dword) : a.seen (a.seen v) = a.seen v := by
  have hbyte : ∀ i, i < 8 → ((a.seen v >>> (8 * i)).truncate 8 : Byte) = ((a.held[i]?).join).getD ((v >>> (8 * i)).truncate 8) := by
    intro i hi
    unfold DevAcc.seen
    rw [byte_ofBytes (by simp)]
    simp [hi]
  have hmap : (List.range 8).map (fun i => ((a.held[i]?).join).getD ((a.seen v >>> (8 * i)).truncate 8)) =
      (List.range 8).map (fun i => ((a.held[i]?).join).getD ((v >>> (8 * i)).truncate 8)) := by
    refine List.map_congr_left fun i hi => ?_
    rw [hbyte i (List.mem_range.mp hi)]
    cases (a.held[i]?).join <;> rfl
  exact congrArg (fun l => BitVec.ofNat 64 (ofBytes l)) hmap

theorem zeroExtend_truncate (v : Dword) (n : Nat) :
    ((v.truncate n : BitVec n).zeroExtend 64 : Dword) = BitVec.ofNat 64 (v.toNat % 2 ^ n) := by
  refine BitVec.eq_of_toNat_eq ?_
  simp

/-- A loaded value, size by size. -/
theorem loadVal_eq (n : Nat) (signed : Bool) (v : Dword) : loadVal n signed v =
    if n = 1 then (if signed then (v.truncate 8 : BitVec 8).signExtend 64 else BitVec.ofNat 64 (v.toNat % 2 ^ 8))
    else if n = 2 then (if signed then (v.truncate 16 : BitVec 16).signExtend 64 else BitVec.ofNat 64 (v.toNat % 2 ^ 16))
    else if n = 4 then (if signed then (v.truncate 32 : BitVec 32).signExtend 64 else BitVec.ofNat 64 (v.toNat % 2 ^ 32))
    else v := by
  rw [← zeroExtend_truncate v 8, ← zeroExtend_truncate v 16, ← zeroExtend_truncate v 32]
  unfold loadVal
  split
  · rfl
  · rfl
  · rfl
  next h1 h2 h4 => rw [if_neg h1, if_neg h2, if_neg h4]

/-! ### The core that waits -/

/-- Nothing is compared of a stream that runs alone. -/
theorem compared_alone {s : State} {c : Nat} (h : s.throughWelt c = false) (t : State) (x : Items) : s.compared t c x = t := by
  unfold State.compared
  simp only [h, Bool.false_and, Bool.false_eq_true, if_false]
  split <;> rfl

theorem respond_alone {s : State} {c : Nat} (h : s.throughWelt c = false) (ok : Bool) (v : Dword) :
    s.respond c ok v = (s.finishRun c ok v 0).1 := by
  unfold State.respond State.finishDev
  rw [h, compared_alone h]
  rfl

section
variable {s : State} {c : Nat} {a : DevAcc} (ha : (s.core c).dev = some a)
include ha

/-- An access that completes ends its position. -/
theorem finishRun_ok (v : Dword) (sub : Nat) :
    let s0 := s.modCore c (fun k => { k with dev := none })
    let x := loadVal a.size a.signed (a.seen v)
    let h : Happened := { acc := some { va := a.va, val := x, kind := a.store.toNat, size := a.size, served := 6 } }
    (s.finishRun c true v sub).1 = (((s0.modCore c (fun k => k.seqFlags a.flags)).lands c
      (if a.store ∨ a.reg = 0 then none else some a.reg) x 3).modCore c (fun k => k.advance none)).endPos c (s.core c).arch.pc h := by
  unfold State.finishRun
  simp only [ha, if_true, State.core_modCore]
  split <;> rfl

theorem finishRun_failed (v : Dword) (sub : Nat) :
    (s.finishRun c false v sub).1 = (s.modCore c (fun k => { k with dev := none })).trapPos c a.word { cause := 0x0F, sub := sub, eva := a.va } := by
  unfold State.finishRun
  simp only [ha, Bool.false_eq_true, if_false]

end

theorem execDeviceCompletion_of_waiting {s : State} {c : CoreId} {a : DevAcc} (ha : (s.core c.val).dev = some a)
    (hreg : s.region a.pa.toNat = .pcie ∨ s.region a.pa.toNat = .xspi) (hw : s.throughWelt c.val = false) (ok : Bool) (v : Dword) :
    execDeviceCompletion c ok v s = done (s.finishRun c.val ok v 0).1 := by
  rw [← respond_alone hw]
  unfold execDeviceCompletion
  simp only [ha]
  rcases hreg with hreg | hreg <;> simp only [hreg]

theorem execDeviceCompletion_of_posted {s : State} {c : CoreId} {p : BitVec 46 × Tid} {rest : List (BitVec 46 × Tid)}
    (hd : (s.core c.val).dev = none) (hp : (s.core c.val).posted = p :: rest) (ok : Bool) (v : Dword) :
    execDeviceCompletion c ok v s =
      let s := s.modCore c.val (fun k => { k with posted := rest })
      done (if ok then s else s.tidRecord p.2.val 0x0F 0 0 [BitVec.ofNat 64 p.1.toNat, 0]) := by
  unfold execDeviceCompletion
  simp only [hd, hp]
  rfl

/-- Settles O21: the core that waits ends its position by the access it remembers; with none waiting the oldest posted store ends. -/
theorem deviceResponses : Obligations.DeviceResponses := by
  intro s c v
  refine ⟨fun a ha hreg hw => ?waits, fun p rest hd hp =>
    ⟨execDeviceCompletion_of_posted hd hp true v, execDeviceCompletion_of_posted hd hp false v⟩⟩
  have hrun := fun ok => execDeviceCompletion_of_waiting ha hreg hw ok (a.seen v)
  have hok := (hrun true).trans (congrArg done (finishRun_ok ha (a.seen v) 0))
  have hfailed := (hrun false).trans (congrArg done (finishRun_failed ha (a.seen v) 0))
  rw [DevAcc.seen_seen, loadVal_eq] at hok
  exact ⟨⟨_, hok⟩, hfailed⟩

end Sys2Proof.Machine
end

section
/-! SUPPORT. What tracing, counting, memory, coherence and fault records leave of a core: its architectural state and its own control
registers. A refused posted store is recorded at the end of a step (R465), and the record is written to memory as any other write is. -/

namespace Sys2Proof.Machine

/-- What the code on each core works with: the context's state and the control registers that the core holds (R103). -/
def archs (cores : SMap Core) (c : Nat) : Arch × SMap Dword := ((SMap.get {} cores c).arch, (SMap.get {} cores c).own)

theorem archs_apply (s : State) (c : Nat) : archs s.cores c = ((s.core c).arch, (s.core c).own) := rfl

theorem archs_modCore {s : State} {c : Nat} {f : Core → Core} (ha : (f (s.core c)).arch = (s.core c).arch)
    (ho : (f (s.core c)).own = (s.core c).own) : archs (s.modCore c f).cores = archs s.cores := by
  funext x
  rw [archs_apply, archs_apply]
  by_cases hx : x = c
  · subst hx
    rw [State.core_modCore, ha, ho]
  · rw [State.core_modCore_other s f hx]

@[simp] theorem archs_ite (p : Prop) [Decidable p] (s t : State) :
    archs (if p then s else t).cores = if p then archs s.cores else archs t.cores := by
  split <;> rfl

@[simp] theorem archs_ite_fst {α : Type} (p : Prop) [Decidable p] (x y : State × α) :
    archs (if p then x else y).1.cores = if p then archs x.1.cores else archs y.1.cores := by
  split <;> rfl

theorem archs_foldl {α : Type} {f : State → α → State} (h : ∀ s a, archs (f s a).cores = archs s.cores) (l : List α) (s : State) :
    archs (l.foldl f s).cores = archs s.cores := by
  induction l generalizing s with
  | nil => rfl
  | cons a l ih => exact (ih _).trans (h s a)

theorem archs_forN {f : Nat → State → State} (h : ∀ i s, archs (f i s).cores = archs s.cores) (n : Nat) (s : State) :
    archs (forN n f s).cores = archs s.cores :=
  forN_keeps (fun s => archs s.cores) h n s

/-! ### Registers, trios, homes, lines -/

@[simp] theorem cores_setReg (s : State) (r : RegRef) (v : Dword) : (s.setReg r v).cores = s.cores := rfl
@[simp] theorem cores_setRf (s : State) (r : RegRef) (hi lo v : Nat) : (s.setRf r hi lo v).cores = s.cores := rfl
@[simp] theorem cores_incRf (s : State) (r : RegRef) (hi lo : Nat) : (s.incRf r hi lo).cores = s.cores := rfl
@[simp] theorem cores_raise (s : State) (n : Nat) : (s.raise n).cores = s.cores := rfl
@[simp] theorem cores_answer (s : State) (r : Resp) : (s.answer r).cores = s.cores := rfl
@[simp] theorem cores_modHome (s : State) (h : Nat) (f : Home → Home) : (s.modHome h f).cores = s.cores := rfl
@[simp] theorem cores_modMc (s : State) (m : Nat) (f : Mc → Mc) : (s.modMc m f).cores = s.cores := rfl
@[simp] theorem cores_emit (s : State) (p : Packet) : (s.emit p).cores = s.cores := rfl
@[simp] theorem cores_modL2 (s : State) (a : Nat) (f : L2 → L2) : (s.modL2 a f).cores = s.cores := by
  unfold State.modL2
  split <;> rfl

/-! ### Tracing and counting -/

@[simp] theorem archs_emitOwn (s : State) (c : Nat) (p : Packet) : archs (s.emitOwn c p).cores = archs s.cores :=
  archs_modCore (s := s.emit p) rfl rfl

@[simp] theorem archs_flushAtom (s : State) (c : Nat) : archs (s.flushAtom c).cores = archs s.cores := by
  unfold State.flushAtom
  split
  · rfl
  · exact (archs_modCore rfl rfl).trans (archs_emitOwn s c _)

@[simp] theorem archs_sync (s : State) (c : Nat) : archs (s.sync c).cores = archs s.cores :=
  (archs_modCore (s := (s.flushAtom c).emit _) rfl rfl).trans (archs_flushAtom s c)

@[simp] theorem archs_emitEvent (s : State) (id code data : Nat) : archs (s.emitEvent id code data).cores = archs s.cores := by
  simp [State.emitEvent]

@[simp] theorem archs_flushSource (s : State) (id : Nat) : archs (s.flushSource id).cores = archs s.cores := by
  simp [State.flushSource]

@[simp] theorem archs_syncSource (s : State) (id : Nat) : archs (s.syncSource id).cores = archs s.cores := by
  simp [State.syncSource]

@[simp] theorem archs_setTrig (s : State) (id st cause : Nat) : archs (s.setTrig id st cause).cores = archs s.cores := by
  simp [State.setTrig]

@[simp] theorem archs_fireAt (s : State) (id n : Nat) : archs (s.fireAt id n).cores = archs s.cores := by
  simp [State.fireAt]

@[simp] theorem archs_fireAll (s : State) (ids hits : List Nat) : archs (s.fireAll ids hits).cores = archs s.cores := by
  unfold State.fireAll
  refine (archs_foldl (fun s id => archs_foldl (fun s n => ?_) _ _) _ _).trans (archs_foldl (fun s n => ?_) _ _)
  · simp
  · simp

@[simp] theorem archs_fireOverflow (s : State) : archs s.fireOverflow.cores = archs s.cores := by
  simp [State.fireOverflow]

@[simp] theorem archs_bump (s : State) (b : PmcBlock) (fuel n k : Nat) : archs (s.bump b fuel n k).cores = archs s.cores := by
  induction fuel generalizing s n k with
  | zero => rfl
  | succ fuel ih => simp [State.bump, ih]

@[simp] theorem archs_count (s : State) (b : PmcBlock) (code k : Nat) (pl : Option Nat) (tids : Option (List Nat)) :
    archs (s.count b code k pl tids).cores = archs s.cores :=
  archs_forN (fun n s => by simp) _ _

@[simp] theorem archs_countTrio (s : State) (t code : Nat) : archs (s.countTrio t code).cores = archs s.cores :=
  archs_count s _ _ _ _ _

@[simp] theorem archs_countMc (s : State) (m code : Nat) : archs (s.countMc m code).cores = archs s.cores :=
  archs_count s _ _ _ _ _

/-! ### The memory side -/

@[simp] theorem cores_setBytes (s : State) (a : Nat) (l : List Byte) : (s.setBytes a l).cores = s.cores := by
  induction l generalizing s a with
  | nil => rfl
  | cons b l ih => exact ih _ _

@[simp] theorem cores_setPoison (s : State) (line : Nat) (b : Bool) : (s.setPoison line b).cores = s.cores := rfl

@[simp] theorem archs_dramWrite (s : State) (line : Nat) (d : LineData) (psn : Bool) :
    archs (s.dramWrite line d psn).cores = archs s.cores := by
  unfold State.dramWrite
  split
  · rfl
  · split
    · rfl
    · rw [cores_setPoison, cores_setBytes]

@[simp] theorem archs_mscEvict (s : State) (l : MscLine) : archs (s.mscEvict l).cores = archs s.cores := by
  simp [State.mscEvict]

@[simp] theorem archs_mscFill (s : State) (line tid : Nat) (w : Bool) (d : LineData) (dirty psn : Bool) (age : Nat) :
    archs (s.mscFill line tid w d dirty psn age).1.cores = archs s.cores := by
  unfold State.mscFill
  dsimp only
  split
  · rfl
  · dsimp only
    split
    · exact archs_mscEvict s _
    · rfl

@[simp] theorem archs_mcCharge (s : State) (r : Rq) (line : Nat) : archs (s.mcCharge r line).1.cores = archs s.cores := by
  simp [State.mcCharge]

@[simp] theorem archs_mcEnter (s : State) (r : Rq) (line : Nat) : archs (s.mcEnter r line).cores = archs s.cores := by
  simp [State.mcEnter, State.mcCount]

@[simp] theorem archs_mscMeet (s : State) (w : Bool) (line : Nat) : archs (s.mscMeet w line).cores = archs s.cores := by
  unfold State.mscMeet
  split
  · simp
  · rfl

@[simp] theorem archs_memRead (s : State) (r : Rq) (line : Nat) (alloc : Bool) :
    archs (s.memRead r line alloc).1.cores = archs s.cores := by
  unfold State.memRead
  dsimp only
  split
  · simp
  · split
    · split
      · simp
      · split <;> simp
    · split <;> simp

@[simp] theorem archs_memWriteLine (s : State) (tid : Nat) (w : Bool) (line : Nat) (d : LineData) (psn : Bool) :
    archs (s.memWriteLine tid w line d psn).cores = archs s.cores := by
  unfold State.memWriteLine
  dsimp only
  split
  · simp
  · split <;> simp

@[simp] theorem archs_memPut (s : State) (w : Bool) (line : Nat) (d : LineData) (psn : Bool) :
    archs (s.memPut w line d psn).cores = archs s.cores := by
  unfold State.memPut
  dsimp only
  split
  · simp
  · split <;> simp

@[simp] theorem archs_memMerge (s : State) (r : Rq) (line : Nat) (d : LineData) (mask : BitVec 64) :
    archs (s.memMerge r line d mask).cores = archs s.cores := by
  simp [State.memMerge]

end Sys2Proof.Machine
end

section
/-! SUPPORT. What the coherence protocol leaves of a core: an L1 line or a reservation may go, and nothing that its code works with. -/

namespace Sys2Proof.Machine

/-! ### Lines and the directory -/

@[simp] theorem archs_l2Lose (s : State) (t line : Nat) : archs (s.l2Lose t line).cores = archs s.cores := by
  have h (s : State) : archs (forN 3 (fun i s => s.modCore (coreNo t i) (fun k => k.loseLine line)) s).cores = archs s.cores :=
    archs_forN (fun i s => archs_modCore rfl rfl) 3 s
  simp [State.l2Lose, h]

@[simp] theorem cores_send (s : State) (k : MsgKind) (a line : Nat) : (s.send k a line).cores = s.cores := rfl
@[simp] theorem cores_sendData (s : State) (k : MsgKind) (a : AgentId) (line : LineAddr) (d : LineData) (psn w1 : Bool) :
    (s.sendData k a line d psn w1).cores = s.cores := rfl
@[simp] theorem cores_respondData (s : State) (k : MsgKind) (m : Msg) (d : LineData × Bool) :
    (s.respondData k m d).cores = s.cores := rfl
@[simp] theorem cores_taken (s : State) (m : Sent) : (s.taken m).cores = s.cores := rfl
@[simp] theorem cores_haSync (s : State) (h : Nat) : (s.haSync h).cores = s.cores := rfl
@[simp] theorem cores_ackHeld (s : State) (h : Nat) (m : Msg) : (s.ackHeld h m).cores = s.cores := rfl
@[simp] theorem cores_arbitrated (s : State) (h port : Nat) : (s.arbitrated h port).cores = s.cores := rfl
@[simp] theorem cores_evictDead (s : State) (h a : Nat) : (s.evictDead h a).cores = s.cores := rfl
@[simp] theorem cores_poisonLine (s : State) (line tid : Nat) : (s.poisonLine line tid).cores = s.cores := rfl
@[simp] theorem cores_missDone (s : State) (t : Nat) (line : LineAddr) : (s.missDone t line).cores = s.cores := by
  simp [State.missDone]

@[simp] theorem archs_backInvalidate (s : State) (line : Nat) : archs (s.backInvalidate line).cores = archs s.cores := by
  unfold State.backInvalidate
  dsimp only
  split
  · rfl
  · exact archs_foldl (f := fun s a => s.send .snpInv a _) (fun s a => rfl) _ s

@[simp] theorem archs_dirWrite (s : State) (line : Nat) (st : DirSt) (agents : List Nat) (tid : Nat) :
    archs (s.dirWrite line st agents tid).cores = archs s.cores := by
  unfold State.dirWrite
  dsimp only
  split
  · rfl
  · split
    · rfl
    · split <;> simp

@[simp] theorem archs_unlist (s : State) (a line : Nat) : archs (s.unlist a line).cores = archs s.cores := by
  unfold State.unlist
  dsimp only
  split
  · simp
  · rfl

@[simp] theorem archs_disown (s : State) (a line : Nat) : archs (s.disown a line).cores = archs s.cores := by
  unfold State.disown
  dsimp only
  split
  · simp
  · rfl

/-! ### Snoops and grants -/

@[simp] theorem archs_snoop (s : State) (a : Nat) (k : Snp) (line : Nat) : archs (s.snoop a k line).1.cores = archs s.cores := by
  have h0 : archs (if a ≤ 84 then s.countTrio a 0x04 else s).cores = archs s.cores := by simp
  unfold State.snoop
  dsimp only
  rw [← h0]
  generalize (if a ≤ 84 then s.countTrio a 0x04 else s) = u
  split
  · simp
  · split
    · rfl
    · rw [archs_ite_fst]
      split
      · simp
      · split <;> simp

@[simp] theorem archs_takeAns (s : State) (k : Snp) (line tid : Nat) (w : Bool) (g : Gathered) (a : Nat) (x : Ans) :
    archs (s.takeAns k line tid w g a x).1.cores = archs s.cores := by
  cases x with
  | i => rfl
  | s => rfl
  | fwd d p w1 =>
    simp only [State.takeAns]
    split
    · simp
    · split <;> rfl
  | dirty d p => simp [State.takeAns]

@[simp] theorem archs_snoopAll (s : State) (line tid : Nat) (w : Bool) (plan : List (Nat × Snp)) :
    archs (s.snoopAll line tid w plan).1.cores = archs s.cores := by
  have h (l : List (Nat × Snp)) (sg : State × Gathered) : archs (l.foldl (fun (sg : State × Gathered) p =>
      let r := sg.1.snoop p.1 p.2 line
      r.1.takeAns p.2 line tid w sg.2 p.1 r.2) sg).1.cores = archs sg.1.cores := by
    induction l generalizing sg with
    | nil => rfl
    | cons p l ih => exact (ih _).trans (by simp)
  exact h plan (s, {})

@[simp] theorem cores_startReclaim (s : State) (h a : Nat) : (s.startReclaim h a).cores = s.cores := by
  unfold State.startReclaim
  dsimp only
  split <;> rfl

@[simp] theorem archs_resolveEntry (s : State) (line a : Nat) : archs (s.resolveEntry line a).cores = archs s.cores := by
  have h (l : List Nat) (s : State) : archs (l.foldl (fun s b => s.l2Lose b line) s).cores = archs s.cores :=
    archs_foldl (fun s b => by simp) l s
  unfold State.resolveEntry
  dsimp only
  split
  · rfl
  · simp [h]

@[simp] theorem archs_resolveDead (s : State) (line : Nat) : archs (s.resolveDead line).cores = archs s.cores :=
  archs_foldl (fun s a => by simp) _ s

@[simp] theorem archs_grantShared (s : State) (agent tid line : Nat) (gone : List Nat) :
    archs (s.grantShared agent tid line gone).1.cores = archs s.cores := by
  unfold State.grantShared
  dsimp only
  split <;> simp

/-! ### Lines of an L2 -/

@[simp] theorem archs_sendWb (s : State) (a : Nat) (l : L2Line) : archs (s.sendWb a l).cores = archs s.cores := by
  simp [State.sendWb]

@[simp] theorem archs_l2Evict (s : State) (a : Nat) (l : L2Line) : archs (s.l2Evict a l).cores = archs s.cores := by
  simp [State.l2Evict]

@[simp] theorem archs_ioFill (s : State) (a : Nat) (l : L2Line) : archs (s.ioFill a l).cores = archs s.cores := by
  unfold State.ioFill
  simp only [cores_modL2, archs_ite]
  split
  · split <;> simp
  · rfl

@[simp] theorem archs_l2Fill (s : State) (t : Nat) (r : Rq) (line : Nat) (d : LineData) (psn : Bool) (st : LState) (age : Nat) :
    archs (s.l2Fill t r line d psn st age).1.cores = archs s.cores := by
  unfold State.l2Fill
  dsimp only
  split
  · simp
  · split
    · rfl
    · simp only [cores_modL2]
      split <;> simp

@[simp] theorem archs_l2Put (s : State) (t c line : Nat) (d : LineData) (mask : BitVec 64) (st : LState) :
    archs (s.l2Put t c line d mask st).cores = archs s.cores := by
  have h (i : Nat) (s : State) : archs (s.modCore (coreNo t i) (fun k =>
      { k with l1d := k.l1d.filter (fun l => decide (l.line.toNat ≠ line)) })).cores = archs s.cores := archs_modCore rfl rfl
  refine (archs_forN (fun i s => ?_) 3 _).trans (by simp)
  rw [archs_ite, h, ite_self]

@[simp] theorem archs_l2Store (s : State) (t c : Nat) (r : Rq) (ty : MemType) (line : Nat) (d : LineData) (mask : BitVec 64) :
    archs (s.l2Store t c r ty line d mask).cores = archs s.cores := by
  unfold State.l2Store
  dsimp only
  split
  · split <;> simp
  · simp

/-! ### Transactions -/

@[simp] theorem archs_grant (s : State) (x : Txn) : archs (s.grant x).cores = archs s.cores := by
  unfold State.grant
  dsimp only
  split <;> split <;> simp

@[simp] theorem archs_answerDead (s : State) (h : Nat) (x : Txn) : archs (s.answerDead h x).1.cores = archs s.cores := by
  unfold State.answerDead
  induction (s.home h).dead generalizing s x with
  | nil => rfl
  | cons a l ih =>
    rw [List.foldl_cons]
    dsimp only
    split
    · exact (ih _ _).trans (archs_resolveEntry s _ _)
    · exact ih _ _

theorem archs_foldl_ackHeld (h : Nat) (l : List Msg) (s : State) :
    archs (l.foldl (fun s m => s.ackHeld h m) s).cores = archs s.cores := archs_foldl (fun s _ => by simp) l s

@[simp] theorem archs_tryFinish (s : State) (h : Nat) (line : LineAddr) : archs (s.tryFinish h line).cores = archs s.cores := by
  unfold State.tryFinish
  split
  · rfl
  · next x _ =>
    rw [← archs_answerDead s h x]
    obtain ⟨u, y⟩ := s.answerDead h x
    simp [archs_foldl_ackHeld]

@[simp] theorem archs_finishAll (s : State) (h : Nat) : archs (s.finishAll h).cores = archs s.cores :=
  archs_foldl (fun s t => by simp) _ s

@[simp] theorem archs_beginTxn (s : State) (h : Nat) (q : HomeReq) : archs (s.beginTxn h q).cores = archs s.cores := by
  have hsend (l : List (Nat × Snp)) (line : Nat) (s : State) :
      archs (l.foldl (fun s p => s.send p.2.msg p.1 line) s).cores = archs s.cores := archs_foldl (fun s _ => by simp) l s
  unfold State.beginTxn
  dsimp only
  split
  · simp
  · simp only [archs_tryFinish, cores_modHome, archs_ite]
    split <;> simp [hsend]

theorem archs_accept {s t : State} {h : Nat} {q : HomeReq} (e : s.accept h q = some t) : archs t.cores = archs s.cores := by
  unfold State.accept at e
  dsimp only at e
  split at e
  · cases e
  · obtain rfl := Option.some.inj e
    simp

theorem archs_chainBegin {s t : State} {line : LineAddr} (e : s.chainBegin line = some t) : archs t.cores = archs s.cores := by
  unfold State.chainBegin at e
  dsimp only at e
  split at e
  · cases e
  · obtain ⟨q, _, rfl⟩ := Option.map_eq_some_iff.mp e
    simp

/-! ### What an arriving message does -/

@[simp] theorem archs_memIn (s : State) (m : Sent) : archs (s.memIn m).cores = archs s.cores := by
  unfold State.memIn
  dsimp only
  split <;> simp

@[simp] theorem cores_snoopIn (s : State) (k : Snp) (m : Sent) : (s.snoopIn k m).cores = s.cores := by
  simp [State.snoopIn]

@[simp] theorem archs_answerSnoop (s : State) (a : AgentId) (line : LineAddr) :
    archs (s.answerSnoop a line).cores = archs s.cores := by
  unfold State.answerSnoop
  split
  · rfl
  · next p _ =>
    have hs := archs_snoop (s.modL2 a.val (fun k => { k with answers := k.answers.erase p })) a.val p.2 line.toNat
    rw [cores_modL2] at hs
    rw [← hs]
    dsimp only
    split <;> simp_all

@[simp] theorem archs_answered (s : State) (m : Sent) (x : Ans) : archs (s.answered m x).cores = archs s.cores := by
  unfold State.answered
  dsimp only
  split
  · simp [archs_foldl_ackHeld]
  · split
    · rfl
    · simp [archs_foldl_ackHeld]

@[simp] theorem archs_writeBack (s : State) (a : Nat) (m : Msg) : archs (s.writeBack a m).cores = archs s.cores := by
  simp [State.writeBack]

@[simp] theorem archs_wbIn (s : State) (m : Msg) : archs (s.wbIn m).cores = archs s.cores := by
  simp [State.wbIn]

@[simp] theorem cores_ackIn (s : State) (m : Sent) : (s.ackIn m).cores = s.cores := by simp [State.ackIn]

@[simp] theorem archs_performHeads (s : State) (t line : Nat) : archs (s.performHeads t line).cores = archs s.cores := by
  unfold State.performHeads
  rw [archs_ite]
  split
  · rfl
  · refine archs_forN (fun i s => ?_) 3 s
    dsimp only
    split
    · rw [archs_ite, archs_l2Store]
      split
      · exact archs_modCore rfl rfl
      · rfl
    · rfl

@[simp] theorem archs_dataIn (s : State) (x : Sent) (st : LState) : archs (s.dataIn x st).cores = archs s.cores := by
  unfold State.dataIn
  dsimp only
  split
  · rfl
  · simp only [cores_missDone, archs_performHeads]
    split <;> simp

@[simp] theorem archs_cmpIn (s : State) (x : Sent) : archs (s.cmpIn x).cores = archs s.cores := by
  simp [State.cmpIn]

@[simp] theorem archs_noticeIn (s : State) (m : Sent) : archs (s.noticeIn m).cores = archs s.cores := by
  simp [State.noticeIn]

@[simp] theorem archs_deliver (s : State) (m : Sent) : archs (s.deliver m).cores = archs s.cores := by
  unfold State.deliver
  split <;> simp

@[simp] theorem archs_bringIn (s : State) (m : Sent) : archs (s.bringIn m).cores = archs s.cores := by
  unfold State.bringIn
  dsimp only
  split
  · split <;> simp
  · simp

/-! ### What is in progress on a line completes -/

theorem archs_lineStep {s t : State} {line : LineAddr} (e : s.lineStep line = some t) : archs t.cores = archs s.cores := by
  unfold State.lineStep at e
  dsimp only at e
  split at e
  · obtain rfl := Option.some.inj e
    simp
  · split at e
    · obtain rfl := Option.some.inj e
      simp
    · obtain ⟨m, _, rfl⟩ := Option.map_eq_some_iff.mp e
      simp

theorem archs_settleStep {s t : State} {line : LineAddr} (e : s.settleStep line = some t) : archs t.cores = archs s.cores := by
  unfold State.settleStep at e
  split at e
  · next h =>
    cases e
    exact archs_lineStep h
  · dsimp only at e
    split at e
    · next h =>
      cases e
      exact archs_chainBegin h
    · exact archs_lineStep e
    · cases e

@[simp] theorem archs_settleN (s : State) (line : LineAddr) (n : Nat) : archs (s.settleN line n).cores = archs s.cores := by
  induction n generalizing s with
  | zero => rfl
  | succ n ih =>
    unfold State.settleN
    split
    · next h => exact (ih _).trans (archs_settleStep h)
    · rfl

@[simp] theorem archs_settleLine (s : State) (line : Nat) : archs (s.settleLine line).cores = archs s.cores :=
  archs_settleN s _ _

@[simp] theorem archs_passArbiter (s : State) (h : Nat) (own : HomeReq) (n : Nat) :
    archs (s.passArbiter h own n).cores = archs s.cores := by
  induction n generalizing s with
  | zero => rfl
  | succ n ih =>
    unfold State.passArbiter
    split
    · rfl
    · split
      · rfl
      · split
        · next e => exact (ih _).trans (archs_accept e)
        · rfl

@[simp] theorem archs_turnAt (s : State) (r : Rq) (line : Nat) : archs (s.turnAt r line).cores = archs s.cores := by
  simp [State.turnAt]

end Sys2Proof.Machine
end

section
/-! SUPPORT. What a fault record leaves of a core, and what the end of every step does: the state of each context's code stays. -/

namespace Sys2Proof.Machine

/-! ### Uncached writes -/

@[simp] theorem archs_ncWriteNow (s : State) (r : Rq) (line : Nat) (d : LineData) (mask : BitVec 64) :
    archs (s.ncWriteNow r line d mask).cores = archs s.cores := by
  simp [State.ncWriteNow]

@[simp] theorem archs_entryNow (s : State) (ea : Nat) : archs (s.entryNow ea).1.cores = archs s.cores := by
  simp [State.entryNow]

@[simp] theorem archs_putEntry (s : State) (r : Rq) (ea : Nat) (d : Dword) :
    archs (s.putEntry r ea d).cores = archs s.cores := by
  simp [State.putEntry]

@[simp] theorem archs_zeroFill (s : State) (t frame : Nat) : archs (s.zeroFill t frame).cores = archs s.cores :=
  archs_forN (fun i s => by simp) 64 s

@[simp] theorem archs_allocInstall (s : State) (t ea frame : Nat) (store : Bool) :
    archs (s.allocInstall t ea frame store).1.cores = archs s.cores := by
  unfold State.allocInstall
  rw [← archs_entryNow s ea]
  obtain ⟨u, h0, h1⟩ := s.entryNow ea
  simp

/-- A fill leaves the list of fills, and nothing of a core changes: stated for any pair, so that no check evaluates the fill. -/
theorem cores_eraseFill (r : State × Dword × Dword) (z : ZeroFill) :
    (({ r.1 with fills := r.1.fills.erase z }, r.2) : State × Dword × Dword).1.cores = r.1.cores := rfl

@[simp] theorem archs_fillDone (s : State) (z : ZeroFill) : archs (s.fillDone z).1.cores = archs s.cores :=
  (congrArg archs (cores_eraseFill ((s.zeroFill z.tid.val z.frame.toNat).allocInstall z.tid.val z.ea z.frame.toNat z.store) z)).trans
    ((archs_allocInstall _ _ _ _ _).trans (archs_zeroFill s _ _))

/-- The answers of a fill that has ended change no core. -/
theorem archs_answers (r : State × Dword × Dword) (l : List Dword) :
    archs (l.foldl (fun s d0 => s.answer (.data (if d0 = r.2.1 then [r.2.1, r.2.2] else [])))
      (r.1.answer (.data [r.2.1, r.2.2]))).cores = archs r.1.cores :=
  archs_foldl (fun s _ => congrArg archs (cores_answer s _)) _ _

@[simp] theorem archs_fillEnds (s : State) (z : ZeroFill) : archs (s.fillEnds z).cores = archs s.cores :=
  (archs_answers (s.fillDone z) z.chained).trans (archs_fillDone s z)

@[simp] theorem archs_calm (s : State) (line : Nat) : archs (s.calm line).cores = archs s.cores := by
  unfold State.calm
  dsimp only
  split
  · simp
  · rw [archs_settleLine, archs_foldl (fun s z => archs_fillEnds s z), archs_settleLine]

@[simp] theorem archs_turn (s : State) (r : Rq) (line : Nat) : archs (s.turn r line).cores = archs s.cores := by
  simp [State.turn]

@[simp] theorem archs_ncWrite (s : State) (r : Rq) (line : Nat) (d : LineData) (mask : BitVec 64) :
    archs (s.ncWrite r line d mask).1.cores = archs s.cores := by
  unfold State.ncWrite
  dsimp only
  simp only [archs_ite_fst, archs_ncWriteNow, archs_turn, ite_self]

/-! ### Sole -/

theorem cores_of_stage {s t : State} {a : Nat} {r : List Dword} (e : s.stage a r = some t) : t.cores = s.cores := by
  unfold State.stage at e
  dsimp only at e
  split at e
  · obtain rfl := Option.some.inj e
    rfl
  · cases e

@[simp] theorem cores_soleSys (s : State) (a : Nat) (r : List Dword) : (s.soleSys a r).cores = s.cores := by
  unfold State.soleSys
  split
  · rfl
  · split
    · next t e => exact cores_of_stage e
    · rfl

/-- What `State.soleTenant` does before its own record: the record of those suppressed, where the bucket has two tokens (R421). -/
def State.suppNote (s : State) (t : Nat) : State :=
  if 0 < (s.area t).supp ∧ 2 * 10 ^ 8 ≤ s.level t then
    match s.stage t (s.suppRec t) with
    | some s => (s.takeToken t).modArea t (fun k => { k with supp := 0 })
    | none => s
  else s

@[simp] theorem cores_suppNote (s : State) (t : Nat) : (s.suppNote t).cores = s.cores := by
  unfold State.suppNote
  split
  · split
    · next t' e => exact (cores_of_stage e : t'.cores = s.cores)
    · rfl
  · rfl

@[simp] theorem cores_soleTenant (s : State) (t : Nat) (r : List Dword) : (s.soleTenant t r).cores = s.cores := by
  unfold State.soleTenant
  split
  · rfl
  · dsimp only
    split
    · rfl
    · split
      · next e => exact (cores_of_stage e).trans (cores_suppNote (s.refill t) t)
      · exact cores_suppNote (s.refill t) t

@[simp] theorem cores_soleRec (s : State) (tid : Nat) (r : List Dword) : (s.soleRec tid r).cores = s.cores := by
  unfold State.soleRec
  split <;> simp

/-! ### Fault records -/

@[simp] theorem cores_notify (s : State) (tid h ev : Nat) : (s.notify tid h ev).cores = s.cores := by
  unfold State.notify
  split <;> rfl

@[simp] theorem archs_unitWrite (s : State) (r : Rq) (line : Nat) (d : LineData) (mask : BitVec 64) :
    archs (s.unitWrite r line d mask).cores = archs s.cores := archs_ncWrite s r line d mask

@[simp] theorem archs_fqPut (s : State) (q : Nat) (r : List Dword) : archs (s.fqPut q r).cores = archs s.cores := by
  simp [State.fqPut]

@[simp] theorem archs_record (s : State) (qs : List Nat) (tid : Nat) (r : List Dword) :
    archs (s.record qs tid r).cores = archs s.cores := by
  rw [State.record, cores_soleRec, archs_foldl (fun s q => archs_fqPut s q r)]

@[simp] theorem archs_tidRecord (s : State) (tid cause sub kind : Nat) (p : List Dword) :
    archs (s.tidRecord tid cause sub kind p).cores = archs s.cores := by
  simp [State.tidRecord]

@[simp] theorem archs_recordRefusals (s : State) : archs s.recordRefusals.cores = archs s.cores :=
  archs_foldl (fun s _ => archs_tidRecord s _ _ _ _ _) _ _

/-! ### The end of a step -/

theorem Settles.archs {s t : State} (h : Settles s t) : archs t.cores = archs s.cores := by
  funext c
  obtain ⟨p, q, e⟩ := h.core c
  rw [archs_apply, archs_apply, e]

/-- The end of a step leaves every core the state of its context's code, whatever stores it records as refused. -/
@[simp] theorem archs_finish (s : State) : archs s.finish.cores = archs s.cores := by
  have h : Settles s.recordRefusals s.finish :=
    ((settles_evg s.recordRefusals _).trans (settles_foldl _ settles_take _ _)).trans
      ((settles_foldl _ settles_sample _ _).trans (settles_dropRequests _))
  rw [h.archs, archs_recordRefusals]

theorem arch_finish (s : State) (c : Nat) : (s.finish.core c).arch = (s.core c).arch :=
  congrArg Prod.fst (congrFun (archs_finish s) c)

theorem own_finish (s : State) (c : Nat) : (s.finish.core c).own = (s.core c).own :=
  congrArg Prod.snd (congrFun (archs_finish s) c)

/-! ### A core changed, and the step ended -/

/-- A command that changes one core and completes: that core holds what the change gives, every other core its own state, and memory
is as it was unless a refused store is recorded. -/
theorem finish_modCore (s : State) (c : Nat) (f : Core → Core) :
    ((s.modCore c f).finish.core c).arch = (f (s.core c)).arch ∧
      ((s.modCore c f).finish.core c).own = (f (s.core c)).own ∧
      (∀ x, x ≠ c → ((s.modCore c f).finish.core x).arch = (s.core x).arch) ∧
      (s.refusals = [] → (s.modCore c f).finish.mem = s.mem) := by
  refine ⟨?_, ?_, fun x hx => ?_, fun hr => (settles_finish (s.modCore c f) hr).mem⟩
  · rw [arch_finish, State.core_modCore]
  · rw [own_finish, State.core_modCore]
  · rw [arch_finish, State.core_modCore_other s f hx]

end Sys2Proof.Machine
end

section
/-! SUPPORT. The iterative units: obligation O14 (R57, R58, R67-R69, R75). -/

namespace Sys2Proof.Machine

/-! ### Starts and collects at a position -/

section
variable {s s1 : State} {c : CoreId} (h : Ready s c s1)
include h

theorem divInstr_ready (fn : BitVec 6) (op : Nat) (o : OpsA) :
    divInstr c fn op o s = .next (retired (s1.modCore c.val (fun k => k.startInt op (k.g o.rs1) (k.g o.rs2))) c
      (s.core c.val).arch.pc {} none) :=
  done_position_of_next h slot_allowed rfl

theorem fstartInstr_ready (dbl sqrt : Bool) {o : OpsA} (h5 : fld o.ext 4 2 ≠ 5) (h6 : fld o.ext 4 2 ≠ 6) :
    fstartInstr c dbl sqrt o s = .next (retired (s1.modCore c.val (fun k =>
      k.startFp dbl sqrt (modeOf (s1.core c.val) (fld o.ext 4 2)) (k.f o.rs1) (k.f o.rs2))) c (s.core c.val).arch.pc {} none) :=
  done_position_of_next h slot_allowed (if_neg (by simp [h5, h6]))

theorem execGetf_idle (o : OpsA) (hb : bit (s1.core c.val).arch.fu.ctl 0 = false) :
    execGetf c o s = .next (retired (s1.modCore c.val (fun k =>
      (k.orFlags (BitVec.ofNat 5 (fld k.arch.fu.ctl 17 13)) 0).give true o.rd k.arch.fu.x 1)) c (s.core c.val).arch.pc {} none) :=
  done_position_of_next h slot_allowed (if_neg (by simp [hb]))

theorem execGetq_busy (o : OpsA) (hb : bit (s1.core c.val).arch.iu.ctl 0 = true) :
    execGetq c o s = .next ((s1.modCore c.val (fun k =>
      { k with arch := { k.arch with iu := { k.arch.iu with ctl := setBit k.arch.iu.ctl 1 false } } })).freeze c.val |>.finish) :=
  done_position_of_stay h slot_allowed (if_pos hb)

theorem execGetf_busy (o : OpsA) (hb : bit (s1.core c.val).arch.fu.ctl 0 = true) :
    execGetf c o s = .next ((s1.modCore c.val (fun k =>
      { k with arch := { k.arch with fu := { k.arch.fu with ctl := setBit k.arch.fu.ctl 1 false } } })).freeze c.val |>.finish) :=
  done_position_of_stay h slot_allowed (if_pos hb)

end

theorem iterativeStarts : IterativeStarts := fun _ _ _ o dbl h =>
  ⟨divInstr_ready h 0x08 0 o, divInstr_ready h 0x09 1 o, divInstr_ready h 0x0A 2 o, divInstr_ready h 0x0B 3 o,
    fun h5 h6 => ⟨fstartInstr_ready h dbl false h5 h6, fstartInstr_ready h dbl true h5 h6⟩⟩

theorem collectResults : CollectResults := fun _ _ _ o h => ⟨execGetf_idle h o, execGetq_busy h o, execGetf_busy h o⟩

/-! ### The last cycle -/

theorem bit_setFld_other {n : Nat} (x : BitVec n) {hi lo i : Nat} (v : Nat) (hn : i < n) (h : i < lo ∨ hi < i) :
    bit (setFld x hi lo v) i = bit x i := by
  rw [bit, bit, getLsbD_setFld _ _ _ _ _ hn, if_neg (by omega)]

/-- The integer unit's last cycle: it is no longer busy, its count is 0, and its result is that of the operation it ran (R67). -/
theorem readyInt_busy {k : Core} (hb : bit k.arch.iu.ctl 0 = true) (hh : bit k.arch.iu.ctl 1 = false) :
    bit k.readyInt.arch.iu.ctl 0 = false ∧ fld k.readyInt.arch.iu.ctl 10 4 = 0 ∧
      k.readyInt.arch.iu.x = intIter k.arch.iu.a k.arch.iu.b k.arch.iu.ctl := by
  unfold Core.readyInt
  rw [if_pos (by simp [hb, hh])]
  refine ⟨?_, ?_, rfl⟩
  · rw [bit_setFld_other _ _ (by decide) (by decide), bit_setBit _ _ _ _ (by decide), if_pos rfl]
  · rw [fld_setFld _ _ _ _ (by decide), Nat.zero_mod]

/-- The floating-point unit's last cycle, with the flags kept for the collect (R67, R69). -/
theorem readyFp_busy {k : Core} (hb : bit k.arch.fu.ctl 0 = true) (hh : bit k.arch.fu.ctl 1 = false) :
    bit k.readyFp.arch.fu.ctl 0 = false ∧ fld k.readyFp.arch.fu.ctl 12 7 = 0 ∧
      k.readyFp.arch.fu.x = (fpIter k.arch.fu.a k.arch.fu.b k.arch.fu.ctl).1 ∧
      fld k.readyFp.arch.fu.ctl 17 13 = (fpIter k.arch.fu.a k.arch.fu.b k.arch.fu.ctl).2.toNat := by
  unfold Core.readyFp
  rw [if_pos (by simp [hb, hh])]
  generalize fpIter k.arch.fu.a k.arch.fu.b k.arch.fu.ctl = r
  refine ⟨?_, ?_, rfl, ?_⟩
  · rw [bit_setFld_other _ _ (by decide) (by decide), bit_setFld_other _ _ (by decide) (by decide),
      bit_setBit _ _ _ _ (by decide), if_pos rfl]
  · rw [fld_setFld_other _ _ _ _ _ _ (by decide) (by decide), fld_setFld _ _ _ _ (by decide), Nat.zero_mod]
  · rw [fld_setFld _ _ _ _ (by decide)]
    exact Nat.mod_eq_of_lt r.2.isLt

/-! ### ITERATIVE_UNIT_READY -/

theorem unitsBecomeReady : UnitsBecomeReady := by
  intro s c
  obtain ⟨hi, _, hio, him⟩ := finish_modCore s c.val Core.readyInt
  obtain ⟨hf, _, hfo, hfm⟩ := finish_modCore s c.val Core.readyFp
  exact ⟨⟨_, rfl, hi, hio, him⟩, ⟨_, rfl, hf, hfo, hfm⟩, readyInt_busy, readyFp_busy⟩

/-- Settles O14: starts and collects are positions of a ready core; the end of the step leaves every core what its code works with. -/
theorem iterativeUnits : Obligations.IterativeUnits := ⟨iterativeStarts, unitsBecomeReady, collectResults⟩

end Sys2Proof.Machine
end

section
/-! SUPPORT. Results in flight: obligation O15 (R43-R45, R49). -/

namespace Sys2Proof.Machine

/-! ### One result reaches its register -/

theorem Arch.rd_wr (a : Arch) {key : Nat} (key' : Nat) (v : Dword) (hk : 0 < key) :
    (a.wr key' v).rd key = if key' = key then v else a.rd key := by
  unfold Arch.rd Arch.wr
  rw [if_neg (by omega : key ≠ 0), if_neg (by omega : key ≠ 0)]
  by_cases h0 : key' = 0
  · rw [if_pos h0, if_neg (by omega)]
  · rw [if_neg h0]
    by_cases he : key' = key
    · rw [if_pos he, he]
      exact SMap.get_put_same ..
    · rw [if_neg he]
      exact SMap.get_put_other _ _ _ (Ne.symm he)

theorem Arch.wr_pend (a : Arch) (key : Nat) (v : Dword) : (a.wr key v).pend = a.pend := by
  unfold Arch.wr
  split <;> rfl

theorem Core.orFlags_regs (k : Core) (ff : BitVec 5) (af : BitVec 3) : (k.orFlags ff af).arch.regs = k.arch.regs := by
  unfold Core.orFlags
  dsimp only
  split <;> split <;> simp

theorem Core.orFlags_pend (k : Core) (ff : BitVec 5) (af : BitVec 3) : (k.orFlags ff af).arch.pend = k.arch.pend := by
  unfold Core.orFlags
  dsimp only
  split <;> split <;> simp

/-- The registers and the results in flight after one result: those of its write. -/
theorem Core.applyRes_arch (k : Core) (r : PendRes) :
    (k.applyRes r).arch.regs = (match r.reg with
      | some key => k.arch.wr key r.val
      | none => k.arch).regs ∧ (k.applyRes r).arch.pend = k.arch.pend := by
  unfold Core.applyRes
  cases r.reg <;> cases r.rcd <;> simp [Core.orFlags_regs, Core.orFlags_pend, Arch.wr_pend]

theorem Core.applyRes_rd (k : Core) (r : PendRes) {key : Nat} (hk : 0 < key) :
    (k.applyRes r).arch.rd key = if r.reg = some key then r.val else k.arch.rd key := by
  have hr (a b : Arch) (h : a.regs = b.regs) : a.rd key = b.rd key := by rw [Arch.rd, Arch.rd, h]
  rw [hr _ _ (k.applyRes_arch r).1]
  cases hreg : r.reg with
  | none => rw [if_neg (by simp)]
  | some key' => simp only [Arch.rd_wr _ _ _ hk, Option.some.injEq]

/-- Results for one register, one after another: the register ends with the last of them. -/
theorem Core.foldl_applyRes_rd (l : List PendRes) (k : Core) {key : Nat} (hk : 0 < key) :
    (l.foldl Core.applyRes k).arch.rd key =
      (l.filter (fun r => decide (r.reg = some key))).foldl (fun _ r => r.val) (k.arch.rd key) := by
  induction l generalizing k with
  | nil => rfl
  | cons r l ih =>
    rw [List.foldl_cons, ih, Core.applyRes_rd k r hk]
    by_cases h : r.reg = some key
    · rw [if_pos h, List.filter_cons_of_pos (by simp [h]), List.foldl_cons]
    · rw [if_neg h, List.filter_cons_of_neg (by simp [h])]

theorem Core.foldl_applyRes_pend (l : List PendRes) (k : Core) : (l.foldl Core.applyRes k).arch.pend = k.arch.pend := by
  induction l generalizing k with
  | nil => rfl
  | cons r l ih => exact (ih _).trans (k.applyRes_arch r).2

/-! ### The order of results (R45) -/

/-- Results in the order of their positions. -/
def Rising (l : List PendRes) : Prop := l.Pairwise (fun a b => a.vis ≤ b.vis)

theorem Rising.takeWhile {l : List PendRes} (h : Rising l) (v : Nat) :
    l.takeWhile (fun x => decide (x.vis < v)) = l.filter (fun x => decide (x.vis < v)) := by
  induction h with
  | nil => rfl
  | @cons x l hx _ ih =>
    by_cases hv : x.vis < v
    · rw [List.takeWhile_cons_of_pos (by simpa using hv), List.filter_cons_of_pos (by simpa using hv), ih]
    · rw [List.takeWhile_cons_of_neg (by simpa using hv), List.filter_cons_of_neg (by simpa using hv), eq_comm,
        List.filter_eq_nil_iff]
      intro y hy
      have := hx y hy
      simp only [decide_eq_true_eq]
      omega

theorem Rising.dropWhile {l : List PendRes} (h : Rising l) (v : Nat) :
    l.dropWhile (fun x => decide (x.vis < v)) = l.filter (fun x => !decide (x.vis < v)) := by
  induction h with
  | nil => rfl
  | @cons x l hx _ ih =>
    by_cases hv : x.vis < v
    · rw [List.dropWhile_cons_of_pos (by simpa using hv), List.filter_cons_of_neg (by simpa using hv), ih]
    · rw [List.dropWhile_cons_of_neg (by simpa using hv), eq_comm, List.filter_eq_self]
      intro y hy
      have hle : x.vis ≤ y.vis := by
        obtain rfl | hy := List.mem_cons.mp hy
        · exact le_rfl
        · exact hx y hy
      simp only [Bool.not_eq_true', decide_eq_false_iff_not]
      omega

theorem rising_byVis (l : List PendRes) : Rising (byVis l) := by
  induction l with
  | nil => exact List.Pairwise.nil
  | cons r l ih =>
    rw [byVis, ih.takeWhile, ih.dropWhile, Rising, List.pairwise_append, List.pairwise_cons]
    refine ⟨ih.filter _, ⟨fun b hb => ?_, ih.filter _⟩, fun a ha b hb => ?_⟩
    · simp only [List.mem_filter, Bool.not_eq_true', decide_eq_false_iff_not] at hb
      omega
    · simp only [List.mem_filter, List.mem_cons, Bool.not_eq_true', decide_eq_true_eq, decide_eq_false_iff_not] at ha hb
      obtain rfl | hb := hb <;> omega

/-- A result enters the order behind those of earlier positions and before all others. -/
theorem byVis_cons (r : PendRes) (l : List PendRes) :
    byVis (r :: l) = (byVis l).filter (fun x => decide (x.vis < r.vis)) ++ r :: (byVis l).filter (fun x => !decide (x.vis < r.vis)) := by
  rw [byVis, (rising_byVis l).takeWhile, (rising_byVis l).dropWhile]

theorem mem_byVis {l : List PendRes} {x : PendRes} : x ∈ byVis l ↔ x ∈ l := by
  induction l with
  | nil => rfl
  | cons r l ih =>
    simp only [byVis_cons, List.mem_append, List.mem_cons, List.mem_filter, ih, Bool.not_eq_true', decide_eq_true_eq,
      decide_eq_false_iff_not]
    by_cases h : x.vis < r.vis <;> simp [h, or_comm]

/-- The order of some of the results is that of all. -/
theorem filter_byVis (p : PendRes → Bool) (l : List PendRes) : (byVis l).filter p = byVis (l.filter p) := by
  induction l with
  | nil => rfl
  | cons r l ih =>
    by_cases hp : p r = true
    · rw [List.filter_cons_of_pos hp, byVis_cons, byVis_cons, ← ih, List.filter_append, List.filter_cons_of_pos hp,
        List.filter_comm, List.filter_comm (p := p) (q := fun x => !decide (x.vis < r.vis))]
    · rw [List.filter_cons_of_neg hp, byVis, List.filter_append, List.filter_cons_of_neg hp, ← List.filter_append,
        List.takeWhile_append_dropWhile, ih]

/-- A result that is last by position, and by producer among those of its position, is last in the order. -/
theorem byVis_last {front back : List PendRes} {r : PendRes} (hf : ∀ x ∈ front, x.vis ≤ r.vis) (hb : ∀ x ∈ back, x.vis < r.vis) :
    ∃ l, byVis (front ++ r :: back) = l ++ [r] := by
  induction front with
  | nil =>
    have hlt : ∀ x ∈ byVis back, x.vis < r.vis := fun x hx => hb x (mem_byVis.mp hx)
    refine ⟨byVis back, ?_⟩
    rw [List.nil_append, byVis_cons, List.filter_eq_self.mpr (by simpa using hlt),
      List.filter_eq_nil_iff.mpr (by simpa using hlt)]
  | cons x front ih =>
    obtain ⟨l, hl⟩ := ih fun y hy => hf y (List.mem_cons_of_mem x hy)
    have hx : x.vis ≤ r.vis := hf x List.mem_cons_self
    refine ⟨l.filter (fun y => decide (y.vis < x.vis)) ++ x :: l.filter (fun y => !decide (y.vis < x.vis)), ?_⟩
    rw [List.cons_append, byVis_cons, hl]
    simp [List.filter_append, hx]

/-! ### The old-value rule -/

/-- A register after the results due at a position: the last of its own in the order, or its value. -/
theorem Core.settle_rd (k : Core) (p : Nat) {key : Nat} (hk : 0 < key) :
    (k.settle p).arch.rd key =
      (byVis (k.arch.pend.filter (fun r => decide (r.vis ≤ p) && decide (r.reg = some key)))).foldl (fun _ r => r.val)
        (k.arch.rd key) := by
  have hf : k.arch.pend.filter (fun r => decide (r.vis ≤ p) && decide (r.reg = some key)) =
      (k.arch.pend.filter (fun r => decide (r.vis ≤ p))).filter (fun r => decide (r.reg = some key)) := by
    rw [List.filter_filter]
    exact congrArg (List.filter · k.arch.pend) (funext fun r => Bool.and_comm _ _)
  rw [hf, ← filter_byVis]
  exact Core.foldl_applyRes_rd (byVis (k.arch.pend.filter (fun r => decide (r.vis ≤ p))))
    { k with arch := { k.arch with pend := k.arch.pend.filter (fun r => decide (p < r.vis)) } } hk

theorem Core.settle_pend (k : Core) (p : Nat) :
    (k.settle p).arch.pend = k.arch.pend.filter (fun r => decide (p < r.vis)) :=
  Core.foldl_applyRes_pend (byVis (k.arch.pend.filter (fun r => decide (r.vis ≤ p)))) _

theorem oldValueRule : OldValueRule := by
  intro k p key hk
  refine ⟨fun h => ?_, fun front back r h hf hb => ?_, k.settle_pend p⟩
  · rw [k.settle_rd p hk, h]
    rfl
  · obtain ⟨l, hl⟩ := byVis_last hf hb
    rw [k.settle_rd p hk, h, hl, List.foldl_append]
    rfl

/-! ### The results that are due -/

theorem execPendingResultApply_of_due {s : State} {c : CoreId}
    (h : ∃ r ∈ (s.core c.val).arch.pend, r.rcd.isSome = true ∧ r.vis ≤ (s.core c.val).arch.posn) :
    execPendingResultApply c s = done (s.modCore c.val (fun k => k.settle k.arch.posn)) := by
  obtain ⟨r, hr, hsome, hvis⟩ := h
  exact congrArg done (if_pos (List.any_eq_true.mpr ⟨r, hr, by simp [hsome, hvis]⟩))

theorem dueResultsLand : DueResultsLand := by
  intro s c
  have hland := finish_modCore s c.val (fun k => k.settle k.arch.posn)
  exact ⟨⟨_, rfl, hland⟩, fun h => ⟨_, execPendingResultApply_of_due h, hland⟩⟩

/-- Settles O15: the results due at a position are applied in a stable order of their positions, and the end of the step leaves every
core what its code works with. -/
theorem resultsInFlight : Obligations.ResultsInFlight := ⟨oldValueRule, dueResultsLand⟩

end Sys2Proof.Machine
end

section
/-! SUPPORT. The integer instructions: obligation O9 (R38, R39, R44, R46, R66). -/

namespace Sys2Proof.Machine

/-! ### Results -/

theorem bit01_decide (p : Prop) [Decidable p] : bit01 (decide p) = if p then 1 else 0 := by
  by_cases h : p <;> simp [bit01, h]

theorem bit01_slt (a b : Dword) : bit01 (a.slt b) = if a.toInt < b.toInt then 1 else 0 := by
  rw [BitVec.slt_eq_decide, bit01_decide]

theorem bit01_ult (a b : Dword) : bit01 (a.ult b) = if a.toNat < b.toNat then 1 else 0 := bit01_decide _

theorem ite_slt (a b : Dword) (x y : Dword) : (if a.slt b then x else y) = if a.toInt < b.toInt then x else y := by
  simp only [BitVec.slt_eq_decide, decide_eq_true_eq]

theorem ite_ult (a b : Dword) (x y : Dword) : (if a.ult b then x else y) = if a.toNat < b.toNat then x else y := by
  simp only [BitVec.ult_eq_decide, decide_eq_true_eq]

theorem mul_eq_ofNat {n : Nat} (a b : BitVec n) : a * b = BitVec.ofNat n (a.toNat * b.toNat) :=
  BitVec.eq_of_toNat_eq (by simp)

theorem mul_truncate (a b : Dword) :
    (a.truncate 32 * b.truncate 32 : Word) = BitVec.ofNat 32 (a.toNat % 2 ^ 32 * (b.toNat % 2 ^ 32)) := by
  rw [mul_eq_ofNat, BitVec.truncate_eq_setWidth, BitVec.truncate_eq_setWidth, BitVec.toNat_setWidth, BitVec.toNat_setWidth]

theorem high64_natCast (n : Nat) : high64 n = BitVec.ofNat 64 (n / 2 ^ 64) := by
  rw [← BitVec.ofInt_natCast]
  rfl

/-! ### The instructions -/

theorem run_int {x : Srcs} {n : Nat} {v : Dword} (hv : intVal n x.g1 x.g2 x.gd = some v) :
    (Cop.int n).run x = some ⟨some v, false, 0, 0, 1⟩ := by
  change (intVal n x.g1 x.g2 x.gd).map _ = _
  rw [hv]
  rfl

theorem run_mul {x : Srcs} {n : Nat} {v : Dword} (hv : mulVal n x.g1 x.g2 = some v) :
    (Cop.mul n).run x = some ⟨some v, false, 0, 0, 2⟩ := by
  change (mulVal n x.g1 x.g2).map _ = _
  rw [hv]
  rfl

theorem run_imm {x : Srcs} {major m2 : Nat} {v : Dword} (hv : immVal major m2 x.g1 x.pc x.imm = some v) :
    (Cop.imm major m2).run x = some ⟨some v, false, 0, 0, 1⟩ := by
  change (immVal major m2 x.g1 x.pc x.imm).map _ = _
  rw [hv]
  rfl

theorem instrB_of_run {s s1 : State} {c : CoreId} (h : Ready s c s1) {major : BitVec 6} {m2 : BitVec 2} {o : OpsB} {v : Dword}
    (hr : (Cop.imm major.toNat m2.toNat).run ((s1.core c.val).srcs o.rd o.rs1 0 0 0 o.imm) = some ⟨some v, false, 0, 0, 1⟩) :
    instrB c major m2 o s = .next (retired (sends s1 c false o.rd v 1 0 0) c (s.core c.val).arch.pc {} none) :=
  done_position_of_next h slot_allowed (doCop_of_run hr)

theorem integerResults : IntegerResults := by
  intro s s1 c o h a b d aw bw out
  refine ⟨?_, ?_, ?_, ?_, ?_, ?_, ?_, ?_, ?_, ?_, ?_, ?_, ?slt, ?sltu, ?min, ?max, ?minu, ?maxu, ?_, ?_, ?_, ?_, ?_, ?_, ?_, ?_, ?_,
    ?_, ?_, ?_, ?_, ?_⟩
  case slt => exact instrA_of_run h (run_int (congrArg some (bit01_slt a b)))
  case sltu => exact instrA_of_run h (run_int (congrArg some (bit01_ult a b)))
  case min | max => exact instrA_of_run h (run_int (congrArg some (ite_slt a b ..)))
  case minu | maxu => exact instrA_of_run h (run_int (congrArg some (ite_ult a b ..)))
  all_goals exact instrA_of_run h (run_int rfl)

theorem multiplyResults : MultiplyResults := by
  intro s s1 c o h a b out
  refine ⟨?mul, ?mulh, ?mulhu, ?mulhsu, ?mulw⟩
  case mul => exact instrA_of_run h (run_mul (congrArg some (mul_eq_ofNat a b)))
  case mulh | mulhsu => exact instrA_of_run h (run_mul rfl)
  case mulhu => exact instrA_of_run h (run_mul (congrArg some (high64_natCast (a.toNat * b.toNat))))
  case mulw => exact instrA_of_run h (run_mul (congrArg (fun x => some (wres x)) (mul_truncate a b)))

theorem immediateResults : ImmediateResults := by
  intro s s1 c o m2 h a i n pc out
  refine ⟨?_, ?_, ?_, ?_, ?_, ?_, ?_, ?_, ?slti, ?sltiu, ?_, ?addpc, ?_⟩
  case slti => exact instrB_of_run h (run_imm (congrArg some (bit01_slt a i)))
  case sltiu => exact instrB_of_run h (run_imm (congrArg some (bit01_ult a i)))
  case addpc => exact instrB_of_run h (run_imm (congrArg (fun x => some (pc + x)) (BitVec.shiftLeft_eq_mul_twoPow i 2)))
  all_goals exact instrB_of_run h (run_imm rfl)

/-- Settles O9: one position each, by the value of the operation; comparisons and products by their values as numbers. -/
theorem integerInstructions : Obligations.IntegerInstructions := ⟨integerResults, multiplyResults, immediateResults⟩

end Sys2Proof.Machine
end

section
/-! SUPPORT. Packed decimal: obligation O10 (R70-R72). -/

namespace Sys2Proof.Machine

/-! ### Numbers built of digits -/

/-- The digits `d` at places 1 to `n` of a number in base 16, above the digit `s` at place 0. -/
def nibbles (s : Nat) (d : Nat → Nat) (n : Nat) : Nat :=
  (List.range n).foldl (fun acc i => acc + d i * 16 ^ (i + 1)) s

theorem nibbles_succ (s : Nat) (d : Nat → Nat) (n : Nat) : nibbles s d (n + 1) = nibbles s d n + d n * 16 ^ (n + 1) := by
  simp only [nibbles, List.range_succ, List.foldl_append, List.foldl_cons, List.foldl_nil]

/-- What stands at place 0 is what was put there. -/
theorem nibble_zero {s : Nat} (hs : s < 16) (d : Nat → Nat) (n : Nat) : nibbles s d n % 16 = s := by
  induction n with
  | zero => exact Nat.mod_eq_of_lt hs
  | succ n ih => rw [nibbles_succ, Nat.pow_succ, ← Nat.mul_assoc, Nat.add_mul_mod_self_right, ih]

section
variable {s : Nat} {d : Nat → Nat} (hs : s < 16) (hd : ∀ i, d i < 16)
include hs hd

theorem nibbles_lt (n : Nat) : nibbles s d n < 16 ^ (n + 1) := by
  induction n with
  | zero => simpa [nibbles] using hs
  | succ n ih =>
    have hn : d n * 16 ^ (n + 1) ≤ 15 * 16 ^ (n + 1) := Nat.mul_le_mul_right _ (Nat.le_of_lt_succ (hd n))
    rw [nibbles_succ, Nat.pow_succ 16 (n + 1)]
    omega

/-- What stands at place `i` + 1 is what was put there. -/
theorem nibble_at {n i : Nat} (hi : i < n) : nibbles s d n / 16 ^ (i + 1) % 16 = d i := by
  induction n with
  | zero => omega
  | succ n ih =>
    rw [nibbles_succ]
    rcases Nat.lt_succ_iff_lt_or_eq.mp hi with hlt | rfl
    · obtain ⟨k, rfl⟩ := Nat.exists_eq_add_of_lt hlt
      rw [show d (i + k + 1) * 16 ^ (i + k + 1 + 1) = d (i + k + 1) * 16 ^ k * 16 * 16 ^ (i + 1) by ring,
        Nat.add_mul_div_right _ _ (by positivity), Nat.add_mul_mod_self_right, ih hlt]
    · rw [Nat.add_mul_div_right _ _ (by positivity), Nat.div_eq_of_lt (nibbles_lt hs hd i), Nat.zero_add, Nat.mod_eq_of_lt (hd i)]

end

/-- Decimal digits put together again. -/
theorem foldl_decimal (m n : Nat) : (List.range n).foldl (fun acc i => acc + m / 10 ^ i % 10 * 10 ^ i) 0 = m % 10 ^ n := by
  induction n with
  | zero => simp [Nat.mod_one]
  | succ n ih =>
    rw [List.range_succ, List.foldl_append, ih, List.foldl_cons, List.foldl_nil, Nat.mod_pow_succ, Nat.mul_comm (10 ^ n)]

/-! ### The packed form (R70, R71) -/

section
variable (m : Nat) {s : Nat} (hs : s < 16)
include hs

theorem toNat_decPack : (decPack m s).toNat = nibbles s (fun i => m / 10 ^ i % 10) 15 := by
  have hlt : nibbles s (fun i => m / 10 ^ i % 10) 15 < 2 ^ 64 := (nibbles_lt hs (fun i => by omega) 15).trans_eq (by norm_num)
  rw [decPack, BitVec.toNat_ofNat]
  exact Nat.mod_eq_of_lt hlt

theorem decDigit_decPack {i : Nat} (hi : i < 15) : decDigit (decPack m s) i = m / 10 ^ i % 10 := by
  rw [decDigit, fld, toNat_decPack m hs, Nat.shiftRight_eq_div_pow, show 4 * i + 7 + 1 - (4 * i + 4) = 4 by omega,
    show 4 * i + 4 = 4 * (i + 1) by ring, Nat.pow_mul]
  exact nibble_at hs (fun i => by omega) hi

theorem sign_decPack : fld (decPack m s) 3 0 = s := by
  rw [fld, toNat_decPack m hs, Nat.shiftRight_zero, show 2 ^ (3 + 1 - 0) = 16 from rfl, nibble_zero hs]

theorem decValid_decPack (hc : s = 0xC ∨ s = 0xD) : decValid (decPack m s) = true := by
  have hall : (List.range 15).all (fun i => decide (decDigit (decPack m s) i ≤ 9)) = true := by
    rw [List.all_eq_true]
    intro i hi
    rw [decDigit_decPack m hs (List.mem_range.mp hi), decide_eq_true_eq]
    omega
  rw [decValid, hall, sign_decPack m hs]
  rcases hc with rfl | rfl <;> rfl

theorem decValue_decPack :
    decValue (decPack m s) = if s = 0xD then -((m % 10 ^ 15 : Nat) : Int) else ((m % 10 ^ 15 : Nat) : Int) := by
  have hm : (List.range 15).foldl (fun acc i => acc + decDigit (decPack m s) i * 10 ^ i) 0 = m % 10 ^ 15 := by
    rw [← foldl_decimal m 15]
    refine List.foldl_ext _ _ _ fun acc i hi => ?_
    rw [decDigit_decPack m hs (List.mem_range.mp hi)]
  rw [decValue, hm, sign_decPack m hs]

end

theorem decimalPacking : DecimalPacking := fun m =>
  ⟨decValid_decPack m (by decide) (.inl rfl), decValue_decPack m (by decide), decValid_decPack m (by decide) (.inr rfl),
    decValue_decPack m (by decide)⟩

/-! ### The instructions -/

/-- With both operands valid the exact sum or difference `x` is packed. -/
theorem decOp_of_valid {sub : Bool} {a b : Dword} {x : Int} (ha : decValid a = true) (hb : decValid b = true)
    (hx : (if sub then decValue a - decValue b else decValue a + decValue b) = x) :
    decOp sub a b = (some (decPack x.natAbs (if x < 0 then 0xD else 0xC)), if 10 ^ 15 ≤ x.natAbs then 4 else 0) := by
  subst hx
  exact if_pos (by rw [ha, hb]; rfl)

theorem decOp_of_invalid (sub : Bool) {a b : Dword} (h : decValid a = false ∨ decValid b = false) : decOp sub a b = (none, 2) :=
  if_neg (by rcases h with h | h <;> simp [h])

section
variable {s s1 : State} {c : CoreId} (h : Ready s c s1) {fn : BitVec 6} {sub : Bool} {o : OpsA}
include h

theorem instrDec_of_some {v : Dword} {af : BitVec 3}
    (hr : decOp sub ((s1.core c.val).g o.rs1) ((s1.core c.val).g o.rs2) = (some v, af)) :
    instrA c 0x02 fn (.dec sub) o s = .next (retired (sends s1 c false o.rd v 2 0 af) c (s.core c.val).arch.pc {} none) := by
  refine done_position_of_next h slot_allowed (doCop_of_run ?_)
  change some (CopRes.mk (decOp sub _ _).1 _ _ (decOp sub _ _).2 _) = _
  exact congrArg (fun r : Option Dword × BitVec 3 => some (CopRes.mk r.1 false 0 r.2 2)) hr

theorem instrDec_of_none {af : BitVec 3} (hr : decOp sub ((s1.core c.val).g o.rs1) ((s1.core c.val).g o.rs2) = (none, af)) :
    instrA c 0x02 fn (.dec sub) o s = .next (retired (s1.modCore c.val (fun k => k.produce ⟨k.arch.posn + 2, none, 0, 0, af, none⟩))
      c (s.core c.val).arch.pc {} none) := by
  have hrun : (Cop.dec sub).run ((s1.core c.val).srcs o.rd o.rs1 o.rs2 o.ext (fld o.ext 4 2) 0) = some ⟨none, false, 0, af, 2⟩ :=
    congrArg (fun r : Option Dword × BitVec 3 => some (CopRes.mk r.1 false 0 r.2 2)) hr
  refine done_position_of_next h slot_allowed ?_
  rw [State.doCop, hrun]
  rfl

end

theorem decimalResults : DecimalResults := by
  intro s s1 c o h a b pc good bad
  refine ⟨fun ha hb => ⟨?dadd, ?dsub⟩, fun hab => ⟨?daddInvalid, ?dsubInvalid⟩⟩
  case dadd | dsub => exact instrDec_of_some h (decOp_of_valid ha hb rfl)
  case daddInvalid | dsubInvalid => exact instrDec_of_none h (decOp_of_invalid _ hab)

/-- Settles O10: a position each, by whether the operands are valid; the digits of the packed form are those of the magnitude. -/
theorem decimalInstructions : Obligations.DecimalInstructions := ⟨decimalResults, decimalPacking⟩

end Sys2Proof.Machine
end

section
/-! SUPPORT. The results of integer division: obligation O11 (R57, R67-R69). -/

namespace Sys2Proof.Machine

/-! ### A start and its last cycle -/

/-- The operations of signed operands: DIV (0) and REM (2). -/
def signedOp (op : Nat) : Bool := op = 0 || op = 2

/-- What `DIVST3` holds after a start: busy and not held, the operation, and the signs that its result takes. -/
theorem intStart_fields {op : Nat} (hop : op < 4) (a b : Dword) :
    let ctl := intStart op a b
    bit ctl 0 = true ∧ bit ctl 1 = false ∧ fld ctl 3 2 = op ∧ bit ctl 11 = (signedOp op && (a.msb ^^ b.msb)) ∧
      bit ctl 12 = (signedOp op && a.msb) := by
  unfold intStart
  generalize a.msb = x
  generalize b.msb = y
  interval_cases op <;> cases x <;> cases y <;> decide

/-- A division from its start to its last cycle: the operands' magnitudes stay, and the result is theirs. -/
theorem readyInt_startInt (k : Core) {op : Nat} (hop : op < 4) (a b : Dword) :
    let u := (k.startInt op a b).readyInt.arch.iu
    u.b = magnitude (signedOp op) b ∧ u.x = intIter (magnitude (signedOp op) a) (magnitude (signedOp op) b) (intStart op a b) := by
  obtain ⟨hb, hh, -⟩ := intStart_fields hop a b
  refine ⟨?_, (readyInt_busy (k := k.startInt op a b) hb hh).2.2⟩
  rw [Core.readyInt]
  split <;> rfl

theorem magnitude_eq_zero (signed : Bool) (b : Dword) : magnitude signed b = 0 ↔ b = 0 := by
  unfold magnitude
  split <;> simp

/-! ### The table of R68 -/

theorem intIter_zero {a b ctl : Dword} (hop : fld ctl 3 2 ≤ 1) (hb : b = 0) : intIter a b ctl = BitVec.allOnes 64 := by
  simp only [intIter, if_pos hop, if_pos hb]

theorem intIter_quotient {a b ctl : Dword} (hop : fld ctl 3 2 ≤ 1) (hb : b ≠ 0) :
    intIter a b ctl = if bit ctl 11 then -(a / b) else a / b := by
  simp only [intIter, if_pos hop, if_neg hb, BitVec.udiv_def]

theorem intIter_remainder {a b ctl : Dword} (hop : ¬ fld ctl 3 2 ≤ 1) :
    intIter a b ctl = if bit ctl 12 then -(a % b) else a % b := by
  have hr : (if b = 0 then a else BitVec.ofNat 64 (a.toNat % b.toNat)) = a % b := by
    split
    next hb => rw [hb, BitVec.ofNat_eq_ofNat, BitVec.umod_zero]
    next => rw [BitVec.umod_def]
  simp only [intIter, if_neg hop, hr]

/-- The magnitudes' quotient with the sign of the operands' product is the quotient truncated toward zero. -/
theorem sdiv_eq_magnitudes (a b : Dword) :
    a.sdiv b = if a.msb ^^ b.msb then -(magnitude true a / magnitude true b) else magnitude true a / magnitude true b := by
  rw [BitVec.sdiv_eq]
  cases ha : a.msb <;> cases hb : b.msb <;> simp [magnitude, ha, hb]

/-- The magnitudes' remainder with the dividend's sign is the remainder of the quotient truncated toward zero. -/
theorem srem_eq_magnitudes (a b : Dword) :
    a.srem b = if a.msb then -(magnitude true a % magnitude true b) else magnitude true a % magnitude true b := by
  rw [BitVec.srem_eq]
  cases ha : a.msb <;> cases hb : b.msb <;> simp [magnitude, ha, hb]

section
variable (k : Core) (a b : Dword)

theorem divisor_zero {op : Nat} (hop : op < 4) : (k.startInt op a b).readyInt.arch.iu.b = 0 ↔ b = 0 := by
  rw [(readyInt_startInt k hop a b).1, magnitude_eq_zero]

theorem quotient_by_zero {op : Nat} (hop : op ≤ 1) (hb : b = 0) :
    (k.startInt op a b).readyInt.arch.iu.x = BitVec.allOnes 64 := by
  have h4 : op < 4 := by omega
  obtain ⟨-, -, hf, -⟩ := intStart_fields h4 a b
  exact (readyInt_startInt k h4 a b).2.trans (intIter_zero (hf.trans_le hop) ((magnitude_eq_zero _ b).mpr hb))

theorem div_result (hb : b ≠ 0) : (k.startInt 0 a b).readyInt.arch.iu.x = a.sdiv b := by
  obtain ⟨-, -, hf, hn, -⟩ := intStart_fields (op := 0) (by decide) a b
  rw [(readyInt_startInt k (by decide) a b).2, intIter_quotient (by rw [hf]; decide) (mt (magnitude_eq_zero _ b).mp hb), hn,
    sdiv_eq_magnitudes]
  rfl

theorem divu_result (hb : b ≠ 0) : (k.startInt 1 a b).readyInt.arch.iu.x = a / b := by
  obtain ⟨-, -, hf, hn, -⟩ := intStart_fields (op := 1) (by decide) a b
  rw [(readyInt_startInt k (by decide) a b).2, intIter_quotient (by rw [hf]) (mt (magnitude_eq_zero _ b).mp hb), hn]
  rfl

theorem rem_result : (k.startInt 2 a b).readyInt.arch.iu.x = a.srem b := by
  obtain ⟨-, -, hf, -, hn⟩ := intStart_fields (op := 2) (by decide) a b
  rw [(readyInt_startInt k (by decide) a b).2, intIter_remainder (by rw [hf]; decide), hn, srem_eq_magnitudes]
  rfl

theorem remu_result : (k.startInt 3 a b).readyInt.arch.iu.x = a % b := by
  obtain ⟨-, -, hf, -, hn⟩ := intStart_fields (op := 3) (by decide) a b
  rw [(readyInt_startInt k (by decide) a b).2, intIter_remainder (by rw [hf]; decide), hn]
  rfl

end

theorem sdiv_eq_ofInt {a b : Dword} (h : ¬ (a = 0x8000000000000000 ∧ b = BitVec.allOnes 64)) :
    a.sdiv b = BitVec.ofInt 64 (a.toInt.tdiv b.toInt) := by
  rw [← BitVec.toInt_sdiv_of_ne_or_ne a b (not_and_or.mp h), BitVec.ofInt_toInt]

theorem srem_eq_ofInt (a b : Dword) : a.srem b = BitVec.ofInt 64 (a.toInt.tmod b.toInt) := by
  rw [← BitVec.toInt_srem, BitVec.ofInt_toInt]

/-! ### The collect (R69) -/

theorem execGetq_idle {s s1 : State} {c : CoreId} (h : Ready s c s1) (o : OpsA) (hb : bit (s1.core c.val).arch.iu.ctl 0 = false) :
    execGetq c o s = .next (retired (s1.modCore c.val (fun k =>
      (k.orFlags 0 (if k.arch.iu.b = 0 then 1 else 0)).give false o.rd k.arch.iu.x 1)) c (s.core c.val).arch.pc {} none) :=
  done_position_of_next h slot_allowed (if_neg (by simp [hb]))

theorem orFlags_arithmetic (k : Core) (f : BitVec 3) :
    k.orFlags 0 f = if f = 0 then k else k.setCsr 0x001 (k.csr 0x001 ||| f.zeroExtend 64) := rfl

theorem csr_orFlags_same (k : Core) (f : BitVec 3) : (k.orFlags 0 f).csr 0x001 = k.csr 0x001 ||| f.zeroExtend 64 := by
  rw [orFlags_arithmetic]
  split
  next hf => rw [hf]; simp
  next => exact Core.csr_setCsr_same ..

theorem csr_orFlags_other (k : Core) (f : BitVec 3) {n : Nat} (hn : n ≠ 0x001) : (k.orFlags 0 f).csr n = k.csr n := by
  rw [orFlags_arithmetic]
  split
  · rfl
  · exact Core.csr_setCsr_other _ _ hn

/-! ### The obligation -/

/-- Settles O11: the unit's last cycle gives the magnitudes' quotient or remainder with its sign, which is the signed one. -/
theorem divisionResults : Obligations.DivisionResults := by
  refine ⟨fun k a b => ⟨fun hb => ?byZero, fun hb ho => ?signed, fun hb => ?unsigned, ?overflow, fun op hop => divisor_zero k a b hop⟩,
    fun s s1 c o h hb => execGetq_idle h o hb,
    fun k f => ⟨csr_orFlags_same k f, Core.orFlags_regs k 0 f, fun n hn => csr_orFlags_other k f hn⟩⟩
  case byZero =>
    exact ⟨quotient_by_zero k a b (by decide) hb, quotient_by_zero k a b (by decide) hb,
      (rem_result k a b).trans (hb ▸ BitVec.srem_zero), (remu_result k a b).trans (hb ▸ BitVec.umod_zero)⟩
  case signed => exact ⟨(div_result k a b hb).trans (sdiv_eq_ofInt ho), (rem_result k a b).trans (srem_eq_ofInt a b)⟩
  case unsigned => exact ⟨(divu_result k a b hb).trans BitVec.udiv_def, (remu_result k a b).trans BitVec.umod_def⟩
  case overflow =>
    rintro rfl rfl
    exact ⟨(div_result k _ _ (by decide)).trans (by decide), (rem_result k _ _).trans (by decide)⟩

end Sys2Proof.Machine
end

section
/-! SUPPORT. What the bits of a format spell, and numbers that a format holds exactly (R73, R76-R78). -/

namespace Sys2Proof.Machine

/-! ### A sign and a magnitude -/

section
variable (f : Fmt) (n : Bool) {y : Nat}

theorem Fmt.signBit_eq : f.signBit = 2 ^ (f.p - 1) * 2 ^ f.ebits := Nat.pow_add ..

theorem Fmt.mk'_fraction : f.mk' n y % 2 ^ (f.p - 1) = y % 2 ^ (f.p - 1) := by
  cases n
  · rfl
  · rw [Fmt.mk', if_pos rfl, Fmt.signBit_eq, Nat.mul_add_mod]

theorem Fmt.mk'_exponent : f.mk' n y / 2 ^ (f.p - 1) % 2 ^ f.ebits = y / 2 ^ (f.p - 1) % 2 ^ f.ebits := by
  cases n
  · rfl
  · rw [Fmt.mk', if_pos rfl, Fmt.signBit_eq, Nat.mul_add_div (by positivity), Nat.add_mod_left]

theorem Fmt.mk'_sign (hy : y < f.signBit) : decide (f.mk' n y / f.signBit % 2 = 1) = n := by
  cases n
  · rw [Fmt.mk', if_neg nofun, Nat.div_eq_of_lt hy]
    rfl
  · rw [Fmt.mk', if_pos rfl, Nat.add_div_left _ (by omega), Nat.div_eq_of_lt hy]
    rfl

theorem Fmt.inf_lt_signBit : f.inf < f.signBit := by
  rw [Fmt.signBit_eq, Nat.mul_comm]
  exact Nat.mul_lt_mul_of_pos_right (Nat.sub_lt (by positivity) Nat.one_pos) (by positivity)

/-- The other sign spells the value with its sign changed. -/
theorem Fmt.unpack_not (hy : y < f.signBit) : f.unpack (f.mk' (!n) y) = (f.unpack (f.mk' n y)).negate := by
  simp only [Fmt.unpack, Fmt.mk'_sign _ _ hy, Fmt.mk'_exponent, Fmt.mk'_fraction]
  split
  · split <;> rfl
  · split <;> rfl

theorem Fmt.unpack_inf : f.unpack (f.mk' n f.inf) = .inf n := by
  have he : f.inf / 2 ^ (f.p - 1) % 2 ^ f.ebits = 2 ^ f.ebits - 1 := by
    rw [Fmt.inf, Nat.mul_div_cancel _ (by positivity), Nat.mod_eq_of_lt (Nat.sub_lt (by positivity) Nat.one_pos)]
  have hr : f.inf % 2 ^ (f.p - 1) = 0 := Nat.mul_mod_left ..
  simp only [Fmt.unpack, Fmt.mk'_sign _ _ f.inf_lt_signBit, Fmt.mk'_exponent, Fmt.mk'_fraction, he, hr, if_true]

/-- The significand that a finite magnitude spells, in units of its binade. -/
def Fmt.sig (f : Fmt) (x : Nat) : Nat := if x / 2 ^ (f.p - 1) = 0 then x else x % 2 ^ (f.p - 1) + 2 ^ (f.p - 1)

/-- The exponent of the smallest subnormal: every finite value is a multiple of its power of two. -/
def Fmt.unit (f : Fmt) : Int := f.emin - (f.p - 1)

/-- The binade of a finite magnitude, counted from the subnormals'. -/
def Fmt.binade (f : Fmt) (x : Nat) : Nat := x / 2 ^ (f.p - 1) - 1

theorem Fmt.unpack_finite {x : Nat} (hx : x < f.inf) : f.unpack (f.mk' n x) = .fin n (f.sig x) (f.unit + f.binade x) := by
  have hq : x / 2 ^ (f.p - 1) < 2 ^ f.ebits - 1 := Nat.div_lt_of_lt_mul (by rw [Nat.mul_comm]; exact hx)
  have hm : x / 2 ^ (f.p - 1) % 2 ^ f.ebits = x / 2 ^ (f.p - 1) := Nat.mod_eq_of_lt (hq.trans_le (Nat.sub_le ..))
  simp only [Fmt.unpack, Fmt.mk'_sign _ _ (hx.trans f.inf_lt_signBit), Fmt.mk'_exponent, Fmt.mk'_fraction, hm, if_neg hq.ne,
    Fmt.sig, Fmt.unit, Fmt.binade]
  split
  next h0 =>
    rw [h0, Nat.mod_eq_of_lt ((Nat.div_eq_zero_iff_lt (by positivity)).mp h0)]
    simp
  next => rfl

theorem Fmt.unpack_zero (h : 0 < f.inf) : f.unpack (f.mk' n 0) = .fin n 0 f.unit := by
  rw [Fmt.unpack_finite f n h]
  simp [Fmt.sig, Fmt.binade]

theorem Fmt.sig_pos {x : Nat} (hx : 0 < x) : 0 < f.sig x := by
  unfold Fmt.sig
  split
  · exact hx
  · positivity

/-! ### Rounding what is exact (R76) -/

theorem quantise_exact (rm : Nat) (m k : Nat) (e : Int) : quantise rm n (m <<< k) e (e + k) = (m, false) := by
  unfold quantise
  rcases Nat.eq_zero_or_pos k with rfl | hk
  · rw [if_pos (by simp)]
    simp
  · rw [if_neg (by omega), show (e + k - e).toNat = k by omega]
    unfold roundShift
    rw [if_pos (by rw [Nat.shiftLeft_eq, Nat.mul_mod_left]), Nat.shiftLeft_shiftRight]

end

theorem Fmt.emin_le_emax {f : Fmt} (he : 2 ≤ f.ebits) : f.emin ≤ f.emax := by
  have h : (2 : Int) ^ 1 ≤ 2 ^ (f.ebits - 1) := pow_le_pow_right₀ (by decide) (by omega)
  unfold Fmt.emin Fmt.emax
  omega

section
variable {f : Fmt} (hp : 1 ≤ f.p) (rm : Nat) (n : Bool) {m : Nat}
include hp

/-- A significand of the full precision, in a binade that the format holds. -/
theorem Fmt.round_normal {k : Nat} (hlo : 2 ^ (f.p - 1) ≤ m) (hhi : m < 2 ^ f.p) (hk : f.emin + k ≤ f.emax) :
    f.round rm n (m <<< k) f.unit = (f.mk' n (k * 2 ^ (f.p - 1) + m), 0) := by
  have hm : m ≠ 0 := (Nat.two_pow_pos _).trans_le hlo |>.ne'
  have hlog : (m <<< k).log2 = f.p - 1 + k := by
    rw [Nat.shiftLeft_eq, Nat.log2_eq_iff (by positivity), Nat.pow_add, Nat.add_right_comm, Nat.pow_add, Nat.sub_add_cancel hp]
    exact ⟨Nat.mul_le_mul_right _ hlo, Nat.mul_lt_mul_of_pos_right hhi (by positivity)⟩
  have hmsb : f.unit + (f.p - 1 + k : Nat) = f.emin + k := by unfold Fmt.unit; omega
  have hu : quantise rm n (m <<< k) f.unit (f.emin + k - (f.p - 1)) = (m, false) := by
    rw [show f.emin + k - (f.p - 1) = f.unit + k by unfold Fmt.unit; omega, quantise_exact]
  have hz : m <<< k ≠ 0 := by rw [Nat.shiftLeft_eq]; positivity
  simp only [Fmt.round, if_neg hz, hlog, hmsb, hu, if_neg hhi.ne, if_neg (Int.not_lt.mpr hk)]
  rw [if_pos (by omega), show (f.emin + k - f.emin).toNat = k by omega]
  rfl

/-- A magnitude below the smallest normal's is its own multiple of the unit. -/
theorem Fmt.round_subnormal (hm : 0 < m) (hlt : m < 2 ^ (f.p - 1)) (he : 2 ≤ f.ebits) :
    f.round rm n m f.unit = (f.mk' n m, 0) := by
  have hlog : m.log2 < f.p - 1 := (Nat.log2_lt hm.ne').mpr hlt
  have hmsb : f.unit + m.log2 < f.emin := by unfold Fmt.unit; omega
  have hle := Fmt.emin_le_emax he
  have hd : quantise rm n m f.unit (f.emin - (f.p - 1)) = (m, false) := by
    have h := quantise_exact n rm m 0 f.unit
    rwa [Nat.shiftLeft_zero, Int.ofNat_zero, Int.add_zero] at h
  simp only [Fmt.round, if_neg hm.ne', hd]
  rw [if_neg (by split <;> omega), if_neg (by omega)]
  rfl

omit hp in
/-- The binade of a finite magnitude lies within the format's exponents. -/
theorem Fmt.binade_le {x : Nat} (he : 1 ≤ f.ebits) (hq : 0 < x / 2 ^ (f.p - 1)) (hx : x < f.inf) :
    f.emin + f.binade x ≤ f.emax := by
  have hlt : ((x / 2 ^ (f.p - 1) + 1 : Nat) : Int) < (2 ^ f.ebits : Nat) :=
    Int.ofNat_lt.mpr (Nat.add_lt_of_lt_sub (Nat.div_lt_of_lt_mul (by rw [Nat.mul_comm]; exact hx)))
  have hE : (2 : Int) ^ (f.ebits - 1) + 2 ^ (f.ebits - 1) = (2 ^ f.ebits : Nat) :=
    mod_cast Nat.two_pow_pred_add_two_pow_pred (w := f.ebits) he
  rw [← hE] at hlt
  unfold Fmt.emin Fmt.emax Fmt.binade
  generalize (2 : Int) ^ (f.ebits - 1) = a at hlt ⊢
  omega

/-- A finite value other than zero, given as a multiple of the format's unit, rounds to its own bits. -/
theorem Fmt.round_finite (he : 2 ≤ f.ebits) {x : Nat} (h0 : 0 < x) (hx : x < f.inf) :
    f.round rm n (f.sig x <<< f.binade x) f.unit = (f.mk' n x, 0) := by
  rcases Nat.lt_or_ge x (2 ^ (f.p - 1)) with hlt | hge
  case inl =>
    have hs : f.sig x = x := if_pos (Nat.div_eq_of_lt hlt)
    have hb : f.binade x = 0 := by rw [Fmt.binade, Nat.div_eq_of_lt hlt]
    rw [hs, hb, Nat.shiftLeft_zero]
    exact Fmt.round_subnormal hp rm n h0 hlt he
  case inr =>
    have hq : 0 < x / 2 ^ (f.p - 1) := Nat.div_pos hge (by positivity)
    have hs : f.sig x = x % 2 ^ (f.p - 1) + 2 ^ (f.p - 1) := if_neg hq.ne'
    have hP := Nat.two_pow_pred_add_two_pow_pred hp
    have hr := Nat.mod_lt x (Nat.two_pow_pos (f.p - 1))
    have hbits : f.binade x * 2 ^ (f.p - 1) + f.sig x = x := by
      have hd := Nat.div_add_mod' x (2 ^ (f.p - 1))
      have hle := Nat.le_mul_of_pos_left (2 ^ (f.p - 1)) hq
      rw [hs, Fmt.binade, Nat.sub_mul, Nat.one_mul]
      omega
    rw [Fmt.round_normal hp rm n (by omega) (by omega) (Fmt.binade_le (by omega) hq hx), hbits]

end

end Sys2Proof.Machine
end

section
/-! SUPPORT. The special operands of sums, comparisons, quotients and roots: obligation O13 (R78, R80, R82, R83). -/

namespace Sys2Proof.Machine

/-! ### The two formats -/

theorem fmtOf_widths (dbl : Bool) : 1 ≤ (fmtOf dbl).p ∧ 2 ≤ (fmtOf dbl).ebits ∧ 0 < (fmtOf dbl).inf := by cases dbl <;> decide

section
variable (dbl : Bool) (n : Bool)

theorem unpack_mk'_zero : (fmtOf dbl).unpack ((fmtOf dbl).mk' n 0) = .fin n 0 (fmtOf dbl).unit :=
  Fmt.unpack_zero _ n (fmtOf_widths dbl).2.2

end

/-! ### Sums (R80) -/

section
variable (f : Fmt) (rm : Nat) (n : Bool) {m : Nat}

theorem sign_mul_eq_zero : ((if n then -1 else 1 : Int) * m = 0) ↔ m = 0 := by
  cases n <;> simp

theorem sign_mul_neg (hm : m ≠ 0) : decide ((if n then -1 else 1 : Int) * m < 0) = n := by
  cases n
  · simp
  · simp [Nat.pos_of_ne_zero hm]

theorem sign_mul_natAbs : ((if n then -1 else 1 : Int) * m).natAbs = m := by cases n <;> simp

/-- A zero added to a finite value other than zero leaves it to be rounded. -/
theorem Fmt.addFin_zero (z : Bool) (e : Int) (k : Nat) (hm : m ≠ 0) :
    f.addFin rm z 0 e n m (e + k) = f.round rm n (m <<< k) e := by
  have hz : m <<< k ≠ 0 := by rw [Nat.shiftLeft_eq]; positivity
  have he : min e (e + k) = e := by omega
  simp only [Fmt.addFin, he, Nat.zero_shiftLeft, Int.ofNat_zero, Int.mul_zero, Int.zero_add, add_sub_cancel_left, Int.toNat_natCast,
    sign_mul_eq_zero, if_neg hz, sign_mul_neg _ hz, sign_mul_natAbs]

/-- The sum of opposites other than zero is a zero of the rounding mode's sign. -/
theorem Fmt.addFin_opposite (e : Int) (hm : m ≠ 0) : f.addFin rm n m e (!n) m e = (f.mk' (sumZeroNeg rm) 0, 0) := by
  cases n <;> simp [Fmt.addFin, hm]

end

/-- Turning the sign bit changes the sign and keeps the magnitude. -/
theorem Fmt.xor_signBit (f : Fmt) {x : Nat} (hx : x < 2 * f.signBit) :
    x ^^^ f.signBit = f.mk' (!decide (x / f.signBit = 1)) (x % f.signBit) := by
  have hq : x / f.signBit < 2 := Nat.div_lt_of_lt_mul (by omega)
  have hd : (x ^^^ f.signBit) / f.signBit = 1 - x / f.signBit := by
    have h := Nat.xor_div_two_pow (a := x) (b := f.signBit) (n := f.p - 1 + f.ebits)
    rw [← Fmt.signBit, Nat.div_self (by unfold Fmt.signBit; positivity)] at h
    rw [h]
    interval_cases x / f.signBit <;> rfl
  have hm : (x ^^^ f.signBit) % f.signBit = x % f.signBit := by
    have h := Nat.xor_mod_two_pow (a := x) (b := f.signBit) (n := f.p - 1 + f.ebits)
    rwa [← Fmt.signBit, Nat.mod_self, Nat.xor_zero] at h
  rw [Fmt.mk'_eq f ((not_toNat _).trans (congrArg (1 - ·) (sign_toNat hx))), ← hd, ← hm, Nat.mod_add_div']

theorem Fmt.unpack_xor_signBit (f : Fmt) {x : Nat} (hx : x < 2 * f.signBit) :
    f.unpack (x ^^^ f.signBit) = (f.unpack x).negate := by
  have hpos : 0 < f.signBit := by unfold Fmt.signBit; positivity
  have hs : x = f.mk' (decide (x / f.signBit = 1)) (x % f.signBit) := by
    rw [Fmt.mk'_eq f (sign_toNat hx), Nat.mod_add_div']
  rw [Fmt.xor_signBit f hx, Fmt.unpack_not f _ (Nat.mod_lt _ hpos), ← hs]

theorem bits_xor_signBit (dbl : Bool) (b : Dword) :
    (fmtOf dbl).bits (b ^^^ BitVec.ofNat 64 (fmtOf dbl).signBit) = (fmtOf dbl).bits b ^^^ (fmtOf dbl).signBit := by
  cases dbl
  · exact (congrArg (· % 2 ^ 32) (BitVec.toNat_xor ..)).trans Nat.xor_mod_two_pow
  · exact BitVec.toNat_xor ..

/-- FSUB adds with the sign bit of its second operand turned. -/
theorem fpVal_sub (dbl : Bool) (rm : Nat) (a b : Dword) :
    fpVal dbl 1 rm a b = fpVal dbl 0 rm a (b ^^^ BitVec.ofNat 64 (fmtOf dbl).signBit) := by
  have hb := Fmt.unpack_xor_signBit _ (Fmt.bits_lt dbl b)
  rw [← bits_xor_signBit] at hb
  change some (_, _) = some (_, _)
  rw [hb]

section
variable (dbl : Bool) (rm : Nat) (n : Bool) {x : Nat} (hx : x < (fmtOf dbl).inf)
include hx

theorem add_inf_finite (i : Bool) :
    (fmtOf dbl).add rm ((fmtOf dbl).unpack ((fmtOf dbl).mk' i (fmtOf dbl).inf)) ((fmtOf dbl).unpack ((fmtOf dbl).mk' n x)) =
      ((fmtOf dbl).mk' i (fmtOf dbl).inf, 0) := by
  rw [Fmt.unpack_inf, Fmt.unpack_finite _ n hx]
  rfl

variable (h0 : 0 < x)
include h0

theorem add_zero_finite (z : Bool) :
    (fmtOf dbl).add rm ((fmtOf dbl).unpack ((fmtOf dbl).mk' z 0)) ((fmtOf dbl).unpack ((fmtOf dbl).mk' n x)) =
      ((fmtOf dbl).mk' n x, 0) := by
  obtain ⟨hp, he, -⟩ := fmtOf_widths dbl
  rw [unpack_mk'_zero, Fmt.unpack_finite _ _ hx, Fmt.add, Fmt.addFin_zero _ _ _ _ _ _ (Fmt.sig_pos _ h0).ne',
    Fmt.round_finite hp rm n he h0 hx]

theorem add_opposite_finite :
    (fmtOf dbl).add rm ((fmtOf dbl).unpack ((fmtOf dbl).mk' n x)) ((fmtOf dbl).unpack ((fmtOf dbl).mk' (!n) x)) =
      (if rm = 2 then (fmtOf dbl).signBit + 0 else 0, 0) := by
  rw [Fmt.unpack_finite _ n hx, Fmt.unpack_finite _ (!n) hx, Fmt.add, Fmt.addFin_opposite _ _ _ _ (Fmt.sig_pos _ h0).ne']
  simp only [Fmt.mk', sumZeroNeg, decide_eq_true_eq]

end

theorem sumTable : SumTable := by
  intro dbl rm hrm f S N I M neg add nz
  refine ⟨?_, ?_, ?_, ?_, fun x h0 hx => ?finite, ?_, ?_, ?_, ?_, ?_, ?_, ?_, ?_, fpVal_sub dbl rm⟩
  case finite =>
    exact ⟨add_opposite_finite dbl rm false hx h0, add_opposite_finite dbl rm true hx h0,
      add_zero_finite dbl rm false hx h0 false, add_zero_finite dbl rm false hx h0 true,
      add_zero_finite dbl rm true hx h0 false, add_zero_finite dbl rm true hx h0 true,
      add_inf_finite dbl rm false hx false, add_inf_finite dbl rm false hx true,
      add_inf_finite dbl rm true hx false, add_inf_finite dbl rm true hx true⟩
  all_goals
    revert dbl rm
    decide +kernel

/-! ### Comparisons (R83) -/

section
variable (f : Fmt) {x y : Nat}

theorem Fmt.compare_nan (op : Nat) (h : (f.unpack x).isNan = true ∨ (f.unpack y).isNan = true) :
    f.compare op x y = (false, if op = 0 then nanFlags [f.unpack x, f.unpack y] else fNV) :=
  if_pos (by rwa [Bool.or_eq_true])

variable (mx : Bool)

theorem Fmt.minmax_nans (hx : (f.unpack x).isNan = true) (hy : (f.unpack y).isNan = true) :
    f.minmax mx x y = (f.qnan, nanFlags [f.unpack x, f.unpack y]) := by
  simp only [Fmt.minmax, hx, hy, Bool.and_self, if_true]

theorem Fmt.minmax_number_nan (hx : (f.unpack x).isNan = false) (hy : (f.unpack y).isNan = true) :
    f.minmax mx x y = (x, nanFlags [f.unpack x, f.unpack y]) := by
  simp only [Fmt.minmax, hx, hy, Bool.false_and, Bool.false_eq_true, if_false, if_true]

theorem Fmt.minmax_nan_number (hx : (f.unpack x).isNan = true) (hy : (f.unpack y).isNan = false) :
    f.minmax mx x y = (y, nanFlags [f.unpack x, f.unpack y]) := by
  simp only [Fmt.minmax, hx, hy, Bool.and_false, Bool.false_eq_true, if_false, if_true]

end

/-- A signalling NaN among two operands raises NV (R78). -/
theorem nanFlags_pair (a b : Fv) : nanFlags [a, b] = if a = .nan true ∨ b = .nan true then 0x10 else 0 := by
  simp [nanFlags, fNV]

/-- A row of R83 with a NaN, from what FMIN and FMAX choose. -/
theorem Fmt.nan_row (f : Fmt) {x y r : Nat} {fl : FFlags} (h : (f.unpack x).isNan = true ∨ (f.unpack y).isNan = true)
    (hm : ∀ mx, f.minmax mx x y = (r, nanFlags [f.unpack x, f.unpack y])) (hf : nanFlags [f.unpack x, f.unpack y] = fl) :
    f.compare 0 x y = (false, fl) ∧ f.compare 1 x y = (false, 0x10) ∧ f.compare 2 x y = (false, 0x10) ∧
      f.minmax false x y = (r, fl) ∧ f.minmax true x y = (r, fl) := by
  subst hf
  exact ⟨f.compare_nan 0 h, f.compare_nan 1 h, f.compare_nan 2 h, hm false, hm true⟩

/-- A number and a NaN, in either order. -/
theorem Fmt.number_nan_rows (f : Fmt) {x n : Nat} {q : Bool} {fl : FFlags} (hx : (f.unpack x).isNan = false)
    (hn : f.unpack n = .nan q) (hf : (if q then 0x10 else 0) = fl) :
    (f.compare 0 x n = (false, fl) ∧ f.compare 1 x n = (false, 0x10) ∧ f.compare 2 x n = (false, 0x10) ∧
      f.minmax false x n = (x, fl) ∧ f.minmax true x n = (x, fl)) ∧
    f.compare 0 n x = (false, fl) ∧ f.compare 1 n x = (false, 0x10) ∧ f.compare 2 n x = (false, 0x10) ∧
      f.minmax false n x = (x, fl) ∧ f.minmax true n x = (x, fl) := by
  have hnan : (f.unpack n).isNan = true := by rw [hn]; rfl
  have hne : f.unpack x ≠ .nan true := fun h => by rw [h] at hx; exact absurd hx (by decide)
  subst hf
  refine ⟨f.nan_row (.inr hnan) (fun mx => f.minmax_number_nan mx hx hnan) ?_,
    f.nan_row (.inl hnan) (fun mx => f.minmax_nan_number mx hnan hx) ?_⟩ <;> simp [nanFlags_pair, hne, hn]

theorem compareTable : CompareTable := by
  intro dbl x f I neg row
  refine ⟨?zeros, ?zerosSwapped, ?infinities,
    fun n _ hx => ⟨fun hn => f.number_nan_rows hx hn rfl, fun hn => f.number_nan_rows hx hn rfl⟩,
    fun n m hn hm => f.nan_row (.inl hn) (fun mx => f.minmax_nans mx hn hm) (nanFlags_pair ..)⟩
  case zeros | zerosSwapped | infinities =>
    revert dbl
    decide +kernel

/-! ### Quotients and roots (R82) -/

section
variable (f : Fmt) (rm : Nat) (p q : Bool) {m : Nat} (d e : Int)

theorem Fmt.div_by_zero (hm : m ≠ 0) : f.div rm (.fin p m d) (.fin q 0 e) = (f.mk' (p ^^ q) f.inf, fDZ) := by
  simp only [Fmt.div, if_true, if_neg hm]

theorem Fmt.div_zero_finite (hm : m ≠ 0) : f.div rm (.fin p 0 d) (.fin q m e) = (f.mk' (p ^^ q) 0, 0) := by
  simp only [Fmt.div, if_true, if_neg hm]

theorem Fmt.sqrt_negative (hm : m ≠ 0) : f.sqrt rm (.fin true m d) = (f.qnan, fNV) := by
  simp only [Fmt.sqrt, if_true, if_neg hm]

end

section
variable (dbl : Bool) (rm : Nat) (p q : Bool)

/-- Quotients of zeros and infinities, whatever the format. -/
theorem div_zeros_infinities :
    let f := fmtOf dbl
    let div := fun (x y : Nat) => f.div rm (f.unpack (f.mk' p x)) (f.unpack (f.mk' q y))
    div 0 0 = (f.qnan, 0x10) ∧ div f.inf f.inf = (f.qnan, 0x10) ∧ div f.inf 0 = (f.mk' (p ^^ q) f.inf, 0) ∧
      div 0 f.inf = (f.mk' (p ^^ q) 0, 0) := by
  simp only [unpack_mk'_zero, Fmt.unpack_inf]
  exact ⟨rfl, rfl, rfl, rfl⟩

/-- Quotients of a zero or an infinity and a finite number other than zero. -/
theorem div_finite {x : Nat} (h0 : 0 < x) (hx : x < (fmtOf dbl).inf) :
    let f := fmtOf dbl
    let div := fun (x y : Nat) => f.div rm (f.unpack (f.mk' p x)) (f.unpack (f.mk' q y))
    div x 0 = (f.mk' (p ^^ q) f.inf, 0x08) ∧ div f.inf x = (f.mk' (p ^^ q) f.inf, 0) ∧ div 0 x = (f.mk' (p ^^ q) 0, 0) ∧
      div x f.inf = (f.mk' (p ^^ q) 0, 0) := by
  have hm := (Fmt.sig_pos (fmtOf dbl) h0).ne'
  simp only [unpack_mk'_zero, Fmt.unpack_inf, Fmt.unpack_finite _ _ hx]
  exact ⟨Fmt.div_by_zero _ rm p q _ _ hm, rfl, Fmt.div_zero_finite _ rm p q _ _ hm, rfl⟩

theorem sqrt_negative_finite {x : Nat} (h0 : 0 < x) (hx : x < (fmtOf dbl).inf) :
    (fmtOf dbl).sqrt rm ((fmtOf dbl).unpack ((fmtOf dbl).mk' true x)) = ((fmtOf dbl).qnan, 0x10) := by
  rw [Fmt.unpack_finite _ true hx]
  exact Fmt.sqrt_negative _ rm _ (Fmt.sig_pos _ h0).ne'

end

theorem divideTable : DivideTable := by
  intro dbl rm hrm f S N I M sg div sqrt
  refine ⟨fun p q => ?quotients, ?_, ?_, ?_, ?_, ?_, ?_, fun x h0 hx => sqrt_negative_finite dbl rm h0 hx, ?_, ?_, ?_⟩
  case quotients =>
    obtain ⟨hzz, hii, hiz, hzi⟩ := div_zeros_infinities dbl rm p q
    exact ⟨hzz, hii, hiz, hzi, fun x h0 hx => div_finite dbl rm p q h0 hx⟩
  all_goals
    revert dbl rm
    decide +kernel

/-- Settles O13: the rows with a variable operand by what its bits spell, which rounds to itself; the others by evaluation. -/
theorem floatTables : Obligations.FloatTables := ⟨sumTable, compareTable, divideTable⟩

end Sys2Proof.Machine
end

section
/-! SUPPORT. The requests that cores hold: what the Event Gatherer raises by, the end of a step and the passing of time, and obligation O6
(R316, R317, R321). -/

namespace Sys2Proof.Machine

/-- A part of the state that every step of a fold keeps. -/
theorem foldl_keeps {α β : Type} {p : State → β} {f : State → α → State} (h : ∀ s a, p (f s a) = p s) (l : List α) (s : State) :
    p (l.foldl f s) = p s := by
  induction l generalizing s with
  | nil => rfl
  | cons a l ih => exact (ih _).trans (h s a)

/-! ### What a request rests on -/

theorem gctlR_off (g : Nat) : (gctlR g).off = 0x31000100 + g * 0x1000 := by
  simp [RegRef.off, gctlR, Reg.place, zoneBase]

theorem rstat_off_mod (t : Nat) : (rstat t).off % 0x100000 = 0x50000 := by
  have ht : trioBase t % 0x100000 = 0 := by
    unfold trioBase
    split <;> omega
  simp only [rstat, RegRef.off, Reg.place, zoneBase]
  omega

/-- The second state raises the same requests as the first, and its cores hold no others: cores differ in requests that have fallen,
registers in how far a hold-off that runs has counted (R321). -/
structure RaisesAlike (s t : State) : Prop where
  core : ∀ c, ∃ q, q ⊆ (s.core c).intReq ∧ t.core c = { s.core c with intReq := q }
  reg : ∀ r : RegRef, (∀ g, g < 64 → r.off ≠ (gctlR g).off) → t.reg r = s.reg r
  gen : ∀ g, bit (t.reg (gctlR g)) 0 = bit (s.reg (gctlR g)) 0
  hold : ∀ g, t.rf (gctlR g) 31 16 = 0 ↔ s.rf (gctlR g) 31 16 = 0
  evg : t.evg = s.evg

theorem RaisesAlike.refl (s : State) : RaisesAlike s s :=
  ⟨fun c => ⟨_, List.Subset.refl (s.core c).intReq, rfl⟩, fun _ _ => rfl, fun _ => rfl, fun _ => Iff.rfl, rfl⟩

theorem RaisesAlike.trans {s t u : State} (h : RaisesAlike s t) (k : RaisesAlike t u) : RaisesAlike s u where
  core c := by
    obtain ⟨q, hq, e⟩ := h.core c
    obtain ⟨q', hq', e'⟩ := k.core c
    rw [e] at hq' e'
    exact ⟨q', List.Subset.trans hq' hq, e'⟩
  reg r a := (k.reg r a).trans (h.reg r a)
  gen g := (k.gen g).trans (h.gen g)
  hold g := (k.hold g).trans (h.hold g)
  evg := k.evg.trans h.evg

theorem raisesAlike_foldl {α : Type} (f : State → α → State) (l : List α) (s : State)
    (h : ∀ s, ∀ a ∈ l, RaisesAlike s (f s a)) : RaisesAlike s (l.foldl f s) := by
  induction l generalizing s with
  | nil => exact RaisesAlike.refl s
  | cons a l ih => exact (h s a (by simp)).trans (ih _ fun s b hb => h s b (by simp [hb]))

section
variable {s t : State} {n : Nat} (h : RaisesAlike s t)
include h

theorem RaisesAlike.leadOf (c : Nat) : t.leadOf c = s.leadOf c := by
  have hr : t.reg (rstat (trioOf c)) = s.reg (rstat (trioOf c)) := h.reg _ fun g hg => by
    have hm := rstat_off_mod (trioOf c)
    rw [gctlR_off]
    omega
  rw [rstat] at hr
  simp only [State.leadOf, State.trioMode, State.rf, hr]

theorem RaisesAlike.physOf (d k : Nat) : t.physOf d k = s.physOf d k := by
  have hr : d < 12 → t.reg (mapR d) = s.reg (mapR d) := fun hd => h.reg _ fun g hg => by rw [gctlR_off, mapR_off]; omega
  rw [mapR] at hr
  unfold State.physOf State.rf
  by_cases hd : d < 12
  · rw [hr hd]
  · simp [hd]

/-- The registers of a source other than its group's `EVG_GCTL`. -/
theorem RaisesAlike.source (n : Nat) :
    t.reg (routeR n) = s.reg (routeR n) ∧ t.reg (pendR (n / 32)) = s.reg (pendR (n / 32)) ∧
      t.reg (actR (n / 32)) = s.reg (actR (n / 32)) ∧ t.reg (enR (n / 32)) = s.reg (enR (n / 32)) := by
  refine ⟨h.reg _ fun g hg => ?_, h.reg _ fun g hg => ?_, h.reg _ fun g hg => ?_, h.reg _ fun g hg => ?_⟩
  all_goals
    rw [gctlR_off]
    simp only [routeR, pendR, actR, enR, RegRef.off, Reg.place, zoneBase]
    omega

theorem RaisesAlike.eligible (c : Nat) (k : IntClass) (n : Nat) : t.eligible c k n = s.eligible c k n := by
  obtain ⟨hr, hp, ha, he⟩ := h.source n
  obtain ⟨q, -, hc⟩ := h.core c
  simp only [State.eligible, State.evP, State.evE, State.evA, State.evGen, hr, hp, ha, he, hc, h.gen, h.leadOf, h.physOf]
  rfl

theorem RaisesAlike.candidates : t.candidates = s.candidates := by
  have hp : ∀ g, t.reg (pendR g) = s.reg (pendR g) := fun g => h.reg _ fun g' _ => by
    rw [gctlR_off]
    simp only [pendR, RegRef.off, Reg.place, zoneBase]
    omega
  simp only [State.candidates, hp]

theorem RaisesAlike.requested (c : Nat) (k : IntClass) : t.requested c k = s.requested c k := by
  obtain ⟨q, -, hc⟩ := h.core c
  simp only [State.requested, h.candidates, h.eligible, h.hold, hc]

/-- A state that raises alike keeps the invariant. -/
theorem RaisesAlike.requestsRaised (hs : RequestsRaised s) : RequestsRaised t := by
  obtain ⟨hr, hk⟩ := hs
  refine ⟨h.evg ▸ hr, fun c k hc => ?_⟩
  obtain ⟨q, hq, e⟩ := h.core c
  rw [e] at hc
  rw [h.requested]
  exact hk c k (hq hc)

end

/-! ### The passing of time (R321) -/

/-- A hold-off that runs counts down, and does not end. -/
theorem raisesAlike_countDown (s : State) {g : Nat} (hg : g < 64) (h : 2 ≤ s.rf (gctlR g) 31 16) :
    RaisesAlike s (s.setRf (gctlR g) 31 16 (s.rf (gctlR g) 31 16 - 1)) := by
  have hl : s.rf (gctlR g) 31 16 < 2 ^ 16 := fld_lt ..
  have hother : ∀ {i}, i ≠ g → (gctlR i).off ≠ (gctlR g).off := fun hi => by rw [gctlR_off, gctlR_off]; omega
  refine { RaisesAlike.refl s with
    reg := fun r hr => State.reg_setRf_other s _ _ _ (hr g hg)
    gen := fun i => ?gen
    hold := fun i => ?hold }
  case gen =>
    by_cases hi : i = g
    · subst hi
      rw [State.reg_setRf, bit, getLsbD_setFld _ _ _ _ _ (by omega), if_neg (by omega), bit]
    · rw [State.reg_setRf_other s _ _ _ (hother hi)]
  case hold =>
    by_cases hi : i = g
    · subst hi
      rw [rf_setRf_same s _ (by omega) (by omega)]
      omega
    · rw [rf_setRf_other_reg s _ _ _ _ _ (hother hi)]

theorem raisesAlike_countHoldOff (s : State) : RaisesAlike s s.countHoldOff := by
  unfold State.countHoldOff forN
  split
  · exact RaisesAlike.refl s
  · refine raisesAlike_foldl _ _ s fun s g hg => ?_
    simp only
    split
    · exact raisesAlike_countDown s (List.mem_range.mp hg) ‹_›
    · exact RaisesAlike.refl s

/-- 10 ns change nothing of what requests rest on but the hold-offs. -/
theorem raisesAlike_pass (s : State) : RaisesAlike s (pass s) := by
  have hf : ∀ f, RaisesAlike s { s with ftu := f } := fun _ => { RaisesAlike.refl s with }
  have ht : ∀ t, RaisesAlike s { s with timebase := t } := fun _ => { RaisesAlike.refl s with }
  unfold pass
  split
  · exact hf _
  · split
    · exact hf _
    · exact (ht _).trans (raisesAlike_countHoldOff { s with timebase := s.timebase + 1 })

/-! ### The end of a step (R316, R317) -/

theorem raised_foldl_modCore (l : List Nat) (s : State) (f : Core → Core) :
    (l.foldl (fun s c => s.modCore c f) s).evg.raised = s.evg.raised :=
  foldl_keeps (p := fun s => s.evg.raised) (f := fun s c => s.modCore c f) (fun _ _ => rfl) l s

/-- A source that pends raises nothing further. -/
theorem raised_setP (s : State) (n : Nat) : (s.setP n).evg.raised = s.evg.raised := by
  unfold State.setP State.postRoute
  split
  · simp only
    split <;> split <;> rfl
  · split
    · exact raised_foldl_modCore _ s _
    · rfl

theorem raised_edge (s : State) (n : Nat) : (s.edge n).evg.raised = s.evg.raised := by
  unfold State.edge
  split
  · rfl
  · split
    · rfl
    · exact raised_setP s n

theorem raised_take (s : State) (r : Raised) : (s.take r).evg.raised = s.evg.raised := by
  cases r with
  | edge n => exact raised_edge s n
  | level n on => rfl

theorem raised_sample (s : State) (n : Nat) : (s.sample n).evg.raised = s.evg.raised := by
  unfold State.sample
  split
  · rfl
  · split
    · split
      · rfl
      · exact raised_edge _ n
    · split
      · split
        · split <;> rfl
        · exact raised_foldl_modCore _ s _
      · split
        · rfl
        · exact raised_edge s n

/-- One core's requests that are no longer raised fall. -/
def State.dropAt (s : State) (c : Nat) : State :=
  if (s.core c).intReq.isEmpty then s else s.modCore c (fun k => { k with intReq := s.keptReqs c })

theorem dropRequests_eq (s : State) : s.dropRequests = s.cores.foldl (fun s e => s.dropAt e.1) s := rfl

theorem core_dropAt_same (s : State) (c : Nat) : (s.dropAt c).core c = { s.core c with intReq := s.keptReqs c } := by
  unfold State.dropAt
  split
  case isTrue h =>
    rw [State.keptReqs, List.isEmpty_iff.mp h, List.filter_nil, ← List.isEmpty_iff.mp h]
  case isFalse => exact State.core_modCore ..

theorem core_dropAt_other (s : State) {c x : Nat} (h : x ≠ c) : (s.dropAt c).core x = s.core x := by
  unfold State.dropAt
  split
  · rfl
  · exact State.core_modCore_other s _ h

theorem raisesAlike_dropAt (s : State) (c : Nat) : RaisesAlike s (s.dropAt c) where
  core x := by
    by_cases hx : x = c
    · subst hx
      exact ⟨_, List.filter_subset_self _, core_dropAt_same s x⟩
    · exact ⟨_, List.Subset.refl _, core_dropAt_other s hx⟩
  reg r _ := by unfold State.dropAt; split <;> rfl
  gen g := by unfold State.dropAt; split <;> rfl
  hold g := by unfold State.dropAt; split <;> rfl
  evg := by unfold State.dropAt; split <;> rfl

/-- A core whose requests all have a source. -/
def State.Backed (s : State) (c : Nat) : Prop := ∀ k ∈ (s.core c).intReq, s.requested c k = true

theorem RaisesAlike.backed {s t : State} (h : RaisesAlike s t) {c : Nat} (hs : s.Backed c) : t.Backed c := by
  obtain ⟨q, hq, e⟩ := h.core c
  intro k hk
  rw [e] at hk
  rw [h.requested]
  exact hs k (hq hk)

theorem backed_dropAt (s : State) (c : Nat) : (s.dropAt c).Backed c := by
  intro k hk
  rw [core_dropAt_same] at hk
  rw [(raisesAlike_dropAt s c).requested]
  exact (List.mem_filter.mp hk).2

theorem backed_foldl_dropAt (l : List (Nat × Core)) (s : State) {c : Nat} (hc : c ∈ l.map (·.1)) :
    (l.foldl (fun s e => s.dropAt e.1) s).Backed c := by
  induction l generalizing s with
  | nil => simp at hc
  | cons e l ih =>
    have hl : RaisesAlike (s.dropAt e.1) (l.foldl (fun s e => s.dropAt e.1) (s.dropAt e.1)) :=
      raisesAlike_foldl _ l _ fun s e _ => raisesAlike_dropAt s e.1
    rcases List.mem_cons.mp hc with rfl | hc
    · exact hl.backed (backed_dropAt s e.1)
    · exact ih _ hc

theorem get_of_not_mem_keys {α : Type} (d : α) {m : SMap α} {i : Nat} (h : i ∉ SMap.keys m) : SMap.get d m i = d := by
  induction m with
  | nil => rfl
  | cons e m ih =>
    obtain ⟨k, v⟩ := e
    simp only [SMap.keys, List.map_cons, List.mem_cons, not_or] at h
    rw [SMap.get, if_neg (Ne.symm h.1)]
    exact ih h.2

theorem raisesAlike_dropRequests (s : State) : RaisesAlike s s.dropRequests :=
  raisesAlike_foldl _ _ s fun s e _ => raisesAlike_dropAt s e.1

/-- A core that no table lists holds no requests; the others lose those without a source. -/
theorem backed_dropRequests (s : State) (c : Nat) : s.dropRequests.Backed c := by
  by_cases hc : c ∈ s.cores.map (·.1)
  · exact backed_foldl_dropAt s.cores s hc
  · refine (raisesAlike_dropRequests s).backed fun k hk => ?_
    rw [State.core, get_of_not_mem_keys _ hc] at hk
    simp at hk

theorem requestsRaised_finish (s : State) : RequestsRaised s.finish := by
  refine ⟨?_, fun c k hk => backed_dropRequests _ c k hk⟩
  unfold State.finish
  rw [(raisesAlike_dropRequests _).evg, foldl_keeps (p := fun s => s.evg.raised) raised_sample,
    foldl_keeps (p := fun s => s.evg.raised) raised_take]

/-! ### The obligation -/

/-- Every command ends by the end of a step. -/
theorem exec_finishes (i : Instr) (s : State) : ∃ u : State, exec i s = .next u.finish := by
  cases i <;> exact ⟨_, rfl⟩

theorem requestsRaised_idle {s : State} (h : RequestsRaised s) : RequestsRaised (idle s) := by
  unfold idle
  split
  · exact requestsRaised_finish _
  · exact (raisesAlike_pass s).requestsRaised h

/-- Settles O6: the end of a step, with which every command ends, lets each request without a source fall; an idle tick that does
nothing else ends no hold-off. -/
theorem everyStepKeepsRequests : Obligations.EveryStepKeepsRequests := by
  intro s t hs h
  unfold step at h
  split at h
  case h_1 =>
    cases h
    exact requestsRaised_idle hs
  case h_2 i rest _ =>
    obtain ⟨u, hu⟩ := exec_finishes i { s with pending := rest }
    rw [hu] at h
    cases h
    exact requestsRaised_finish u

end Sys2Proof.Machine
end

section
/-! SUPPORT. The predictor's tables as branches and jumps read and train them, and obligation O26 (R92-R95). -/

namespace Sys2Proof.Machine

/-! ### The stored form of an address (R95) -/

/-- K ‖ K[13:0], which scrambles an address of 46 bits. -/
def pad (key : Word) : Nat := key.toNat * 2 ^ 14 + fld key 13 0

theorem pad_lt (key : Word) : pad key < 2 ^ 46 := by
  have hf : fld key 13 0 < 2 ^ 14 := fld_lt ..
  have hk := key.isLt
  unfold pad
  omega

theorem scramble_eq (key : Word) (a : Dword) : scramble key a = BitVec.ofNat 64 (fld a 47 2 ^^^ pad key) := by
  have hf : fld key 13 0 < 2 ^ 14 := fld_lt ..
  rw [scramble, ← Nat.shiftLeft_add_eq_or_of_lt hf, Nat.shiftLeft_eq, pad]

/-- The address's own bits come out again under the pad. -/
theorem scramble_xor_zero (key : Word) (a : Dword) : scramble key a ^^^ scramble key 0 = BitVec.ofNat 64 (fld a 47 2) := by
  have h0 : fld (0 : Dword) 47 2 = 0 := by decide
  rw [scramble_eq, scramble_eq, h0, Nat.zero_xor, BitVec.ofNat_xor, BitVec.xor_assoc, BitVec.xor_self, BitVec.xor_zero]

theorem unscramble_scramble (key : Word) {a : Dword} (ha : a.toNat % 4 = 0) : unscramble key (scramble key a) = canonPc a := by
  have hlow : fld (BitVec.ofNat 64 (fld a 47 2)) 45 0 * 4 = a.toNat % 2 ^ 48 := by
    simp only [fld, BitVec.toNat_ofNat, Nat.shiftRight_eq_div_pow]
    omega
  have hcut : (BitVec.ofNat 64 (a.toNat % 2 ^ 48)).truncate 48 = a.truncate 48 :=
    BitVec.eq_of_toNat_eq (by simp only [BitVec.truncate_eq_setWidth, BitVec.toNat_setWidth, BitVec.toNat_ofNat]; omega)
  rw [unscramble, scramble_xor_zero, hlow, canonPc, hcut, canonPc]

/-! ### Training (R92, R93) -/

section
variable (k : Core) (pc tgt : Dword)

theorem Core.btbPut_btb (j : Nat) : SMap.get (1024, 0) (k.btbPut pc tgt).btb j =
    if j = btbIdx k.key pc then (btbTag k.key pc, scramble k.key tgt) else SMap.get (1024, 0) k.btb j := SMap.get_put ..

/-- A push keeps the newest eight entries. -/
theorem Core.rasPush_ras (h : k.ras.length ≤ 8) :
    (k.rasPush pc).ras = (if k.ras.length < 8 then k.ras else k.ras.drop 1) ++ [scramble k.key pc] := by
  simp only [Core.rasPush, List.length_append, List.length_singleton]
  split
  case isTrue hl =>
    rw [show k.ras.length + 1 - 8 = 0 by omega, List.drop_zero]
  case isFalse hl =>
    rw [show k.ras.length + 1 - 8 = 1 by omega, List.drop_append_of_le_length (by omega)]

theorem Core.trainCond_dirTab (taken : Bool) (j : Nat) :
    let n := SMap.get 1 k.dirTab (dirIdx k.key pc)
    SMap.get 1 (k.trainCond pc tgt taken).1.dirTab j =
      if j = dirIdx k.key pc then (if taken then min (n + 1) 3 else n - 1) else SMap.get 1 k.dirTab j := by
  cases taken
  case false => exact SMap.get_put ..
  case true => exact SMap.get_put ..

theorem Core.trainJump_ras_of_call (ret : Bool) (h : k.ras.length ≤ 8) :
    let popped := if ret then k.ras.dropLast else k.ras
    (k.trainJump pc tgt ret true).1.ras =
      (if popped.length < 8 then popped else popped.drop 1) ++ [scramble k.key (pc + 8)] := by
  cases ret
  case false => exact Core.rasPush_ras (k.btbPut pc tgt) (pc + 8) h
  case true =>
    refine Core.rasPush_ras (({ k with ras := k.ras.dropLast } : Core).btbPut pc tgt) (pc + 8) ?_
    exact (List.length_dropLast (xs := k.ras)).le.trans ((Nat.sub_le ..).trans h)

end

/-- Settles O26: predictions by the definitions of the tables, training by what a put leaves in one. -/
theorem predictorTables : Obligations.PredictorTables := by
  intro k pc tgt i b tag mix n e held
  have hmix : ∀ a, mix a = scramble k.key a := fun a => (scramble_eq k.key a).symm
  refine ⟨rfl, rfl, ?ret, fun a ha => ?stored, ?_⟩
  case ret =>
    intro top
    change top.getLast?.or held = _
    cases top.getLast? <;> rfl
  case stored => exact (congrArg (unscramble k.key) (hmix a)).trans (unscramble_scramble k.key ha)
  intro put
  have hput : put (k.btbPut pc tgt).btb := fun j => by rw [hmix]; exact Core.btbPut_btb k pc tgt j
  refine ⟨fun taken => ?cond, fun ret call => ?jump⟩
  case cond =>
    refine ⟨Core.trainCond_dirTab k pc tgt taken, ?_⟩
    cases taken
    case false => exact ⟨rfl, rfl, rfl, rfl⟩
    case true => exact ⟨hput, rfl, rfl, rfl⟩
  case jump =>
    refine ⟨?_, ?_, ?_, ?_, fun hc => ?_, fun hc hl => ?_⟩
    case refine_5 => subst hc; cases ret <;> rfl
    case refine_6 =>
      subst hc
      rw [hmix]
      exact Core.trainJump_ras_of_call k pc tgt ret hl
    case refine_2 => cases ret <;> cases call <;> exact hput
    all_goals cases ret <;> cases call <;> rfl

end Sys2Proof.Machine
end

section
/-! SUPPORT. The calls, BRK and RFE of a ready core, and obligation O27 (R100, R106, R107). -/

namespace Sys2Proof.Machine

section
variable {s s1 : State} {c : CoreId} (h : Ready s c s1) (hs : (s.core c.val).arch.slot = none)
include h hs

/-- A part that has moved the core itself ends the position where the core now stands. -/
theorem done_position_of_moved {t : State} {e : Happened} {w : Word} {forbid : Bool} {body : State → State × PosRes}
    (hb : body s1 = (t, .moved e)) :
    done (s.position c.val w forbid body) = .next (t.endPos c.val (s.core c.val).arch.pc e).finish := by
  rw [position_ready h w forbid body (fun _ => hs), hb]
  rfl

/-- A call from its level up makes its entry. -/
theorem callInstr_of_level {fn4 : BitVec 4} {lvl : Nat} {o : OpsF} (take : Word → State → State)
    (hl : lvl ≤ (s1.core c.val).pl) : callInstr c fn4 lvl o take s =
      .next ((take (wordF 0x31 fn4 o) (s1.countCore c.val 0x01)).endPos c.val (s.core c.val).arch.pc { trapped := true }).finish :=
  done_position_of_moved h hs (if_neg (Nat.not_lt.mpr hl))

/-- Below its level a call is a Privileged instruction. -/
theorem callInstr_of_below {fn4 : BitVec 4} {lvl : Nat} {o : OpsF} (take : Word → State → State)
    (hl : (s1.core c.val).pl < lvl) :
    callInstr c fn4 lvl o take s = .next (trapped s1 c (wordF 0x31 fn4 o) { cause := 0x06 }) :=
  done_position_of_trap h (fun _ => hs) (if_pos hl)

theorem execRfe_of_refused {o : OpsF} (hr : (s1.core c.val).pl = 0 ∨ (s1.core c.val).rfeRefused = true) :
    execRfe c o s = .next (trapped s1 c (wordF 0x31 3 o) { cause := 0x06 }) :=
  done_position_of_trap h (fun _ => hs) (if_pos hr)

theorem execRfe_of_unchained {o : OpsF} (hl : 1 ≤ (s1.core c.val).pl) (hr : (s1.core c.val).rfeRefused = false)
    (hc : (s1.core c.val).chains = false) : execRfe c o s =
      .next (((s1.countCore c.val 0x01).rfe c.val).endPos c.val (s.core c.val).arch.pc {}).finish := by
  refine done_position_of_moved h hs ?_
  have hn : ¬ ((s1.core c.val).pl = 0 ∨ (s1.core c.val).rfeRefused = true) := by
    rw [hr]
    simp
    omega
  simp only [if_neg hn, hc, Bool.false_eq_true, if_false]

end

/-- RFE is abandoned only for a normal request, at the PL1 normal set (R323). -/
theorem Core.chains_of_not {k : Core} (h : IntClass.normal ∉ k.intReq ∨ k.rfeSet ≠ .pl1) : k.chains = false := by
  rcases h with h | h <;> simp [Core.chains, h]

/-- Counting changes nothing of a core that an instruction works with. -/
theorem core_countCore (s : State) (c code : Nat) :
    ((s.countCore c code).core c).pl = (s.core c).pl ∧ ((s.countCore c code).core c).w = (s.core c).w := by
  obtain ⟨e, a, n, w, l, hk⟩ := (observes_countCore (c := c) s code).core c
  rw [hk]
  exact ⟨rfl, rfl⟩

theorem timebase_countCore (s : State) (c code : Nat) : (s.countCore c code).timebase = s.timebase :=
  (observes_countCore (c := c) s code).timebase

/-- The entry that SCALL and PCALL make. -/
def callEntry (c cause : Nat) (w : Word) (s : State) : State := s.callTrap c { cause := cause, word := w }

/-- The entry that MCALL makes, with its call number. -/
def mcallEntry (c : Nat) (call : BitVec 12) (w : Word) (s : State) : State := s.mcall c w call

theorem exec_calls (c : CoreId) (o : OpsF) (s : State) :
    exec (.scall c o) s = callInstr c 0 0 o (callEntry c.val 0x10) s ∧
      exec (.pcall c o) s = callInstr c 1 1 o (callEntry c.val 0x11) s ∧
      exec (.mcall c o) s = callInstr c 2 1 o (mcallEntry c.val o.sys) s := ⟨rfl, rfl, rfl⟩

theorem mcall_of_lost {s : State} {c : Nat} {w : Word} {call : BitVec 12} (h : s.rf secStatR 0 0 = 0) :
    s.mcall c w call = s.callTrap c { cause := 0x17, sub := 1, word := w } := if_pos h

/-- An MCALL from the Sealed world is an entry, and no more. -/
theorem mcall_of_sealed {s : State} {c : Nat} {w : Word} {call : BitVec 12} (h : s.rf secStatR 0 0 ≠ 0) (hw : (s.core c).w = true) :
    s.mcall c w call = s.callTrap c { cause := 0x12, word := w } := (if_neg h).trans (if_pos hw)

/-- An MCALL from the Open world copies the call frame and starts the watchdog. -/
theorem mcall_of_open {s : State} {c : Nat} {w : Word} {call : BitVec 12} (h : s.rf secStatR 0 0 ≠ 0) (hw : (s.core c).w = false) :
    s.mcall c w call = (s.callTrap c { cause := 0x12, word := w }).modCore c (fun q =>
      { q with frame := some (q.mkFrame (s.core c).pl (q.csr 0x301) call), watch := 0, wdFrom := s.timebase }) :=
  (if_neg h).trans (if_neg (by rw [hw]; decide))

/-- Settles O27: each call is the shared call instruction with its own entry; RFE refuses, or returns. -/
theorem callsAndReturns : Obligations.CallsAndReturns := by
  intro s s1 c o h hs k p0 n ends call
  obtain ⟨hpl, hw⟩ := core_countCore s1 c.val 0x01
  have htime : n.timebase = s1.timebase := timebase_countCore s1 c.val 0x01
  have hcall : ∀ cause sub fn, n.callTrap c.val { cause := cause, sub := sub, word := wordF 0x31 (BitVec.ofNat 4 fn) o } =
      call cause sub fn := fun _ _ _ => rfl
  obtain ⟨hscall, hpcall, hinstr⟩ := exec_calls c o s
  have hmcall : ∀ {t}, 1 ≤ k.pl → n.mcall c.val (wordF 0x31 (BitVec.ofNat 4 2) o) o.sys = t →
      exec (.mcall c o) s = ends t { trapped := true } := by
    intro t hl ht
    rw [← ht, hinstr]
    exact callInstr_of_level h hs (mcallEntry c.val o.sys) hl
  refine ⟨?scall, ?pcall, ?lost, ?sealed, ?opened, ?below, ?brk, ?refused, ?rfe⟩
  case scall => exact hscall.trans (callInstr_of_level h hs (callEntry c.val 0x10) (Nat.zero_le _))
  case pcall =>
    split
    case isTrue hl => exact hpcall.trans (callInstr_of_level h hs (callEntry c.val 0x11) hl)
    case isFalse hl => exact hpcall.trans (callInstr_of_below h hs (callEntry c.val 0x11) (Nat.not_le.mp hl))
  case lost => exact fun hl h0 => hmcall hl ((mcall_of_lost h0).trans (hcall 0x17 1 2))
  case sealed => exact fun hl h0 hk => hmcall hl ((mcall_of_sealed h0 (hw.trans hk)).trans (hcall 0x12 0 2))
  case opened =>
    intro hl h0 hk
    refine hmcall hl ((mcall_of_open h0 (hw.trans hk)).trans ?_)
    rw [hpl, htime, hcall 0x12 0 2]
  case below => exact fun hl => hinstr.trans (callInstr_of_below h hs (mcallEntry c.val o.sys) hl)
  case brk => exact done_position_of_trap h slot_allowed rfl
  case refused => exact fun hr => execRfe_of_refused h hs hr
  case rfe => exact fun hl hr hc => execRfe_of_unchained h hs hl hr (Core.chains_of_not hc)

end Sys2Proof.Machine
end

section
/-! SUPPORT. Interrupt requests at a core and their acceptance, and obligation O30 (R102, R105, R317). -/

namespace Sys2Proof.Machine

theorem Core.acceptsNow_iff (k : Core) (i : IntClass) :
    k.acceptsNow i = true ↔ k.w = false ∧ k.infast = false ∧ match i with
      | .fast => k.pl ≤ 1 ∧ k.fie = true
      | .pl2 => k.pl ≤ 2 ∧ k.pie = true
      | .normal => k.pl ≤ 1 ∧ k.nie = true := by
  cases i <;> simp [Core.acceptsNow, and_assoc]

theorem State.atBoundary_iff (s : State) (c : Nat) :
    s.atBoundary c = true ↔ ((s.core c).run = .running ∨ (s.core c).run = .waiting) ∧ (s.core c).halted = false ∧
      (s.core c).frozen = false ∧ (s.core c).dev = none ∧ (s.core c).ctx.isSome = true ∧ s.leadOf c = c := by
  simp [State.atBoundary, and_assoc]

/-- A request of a class that the core holds and could accept (R105). -/
def Core.takes (k : Core) (i : IntClass) : Prop := i ∈ k.intReq ∧ k.acceptsNow i = true

theorem Core.takes_iff (k : Core) (i : IntClass) : k.takes i ↔ (k.intReq.contains i && k.acceptsNow i) = true := by
  simp [Core.takes]

section
variable {s : State} {c : CoreId} {i : IntClass}

theorem acceptInt_of_not (h : ¬ (s.atBoundary c.val = true ∧ (s.core c.val).takes i)) : s.acceptInt c.val i = s := by
  rw [Core.takes_iff] at h
  refine if_neg fun hc => h ?_
  simp only [Bool.and_eq_true] at hc ⊢
  exact ⟨hc.1.1.1, hc.1.1.2, hc.1.2⟩

/-- A request that no class before it bars is accepted, and in a stream with no wrong item pending the entry stands. -/
theorem acceptInt_of_takes (hb : s.atBoundary c.val = true) (ha : (s.trio (trioOf c.val)).inj = none)
    (ht : (s.core c.val).takes i) (hn : ∀ j ∈ ahead i, ¬ (s.core c.val).takes j) :
    s.acceptInt c.val i =
      (s.modCore c.val (fun q => { q.settle q.arch.posn with run := .running, intReq := (s.core c.val).intReq.erase i })).enterTrap
        c.val (intSet i) { cause := intCause i } 0 0 := by
  have hany : (ahead i).any (fun j => (s.core c.val).intReq.contains j && (s.core c.val).acceptsNow j) = false := by
    rw [List.any_eq_false]
    exact fun j hj => (Core.takes_iff ..).not.mp (hn j hj)
  rw [Core.takes_iff] at ht
  have hcond : (s.atBoundary c.val && (s.core c.val).intReq.contains i && (s.core c.val).acceptsNow i &&
      !(ahead i).any (fun j => (s.core c.val).intReq.contains j && (s.core c.val).acceptsNow j)) = true := by
    rw [hany, hb, Bool.true_and, ht]
    rfl
  exact (if_pos hcond).trans (compared_agreed _ _ _ ha)

/-- A request of an Independent stream reaches its core at once. -/
theorem exec_interruptRequest_of_alone (hw : s.throughWelt c.val = false) :
    exec (.interruptRequest c i) s = .next (s.requestAt (s.leadOf c.val) i).finish :=
  congrArg done (if_neg (by rw [hw]; decide))

/-- A request of a redundant stream waits at the Welt (R209). -/
theorem exec_interruptRequest_of_redundant (hw : s.throughWelt c.val = true) (hr : s.requested (s.leadOf c.val) i = true) :
    exec (.interruptRequest c i) s =
      .next (s.modTrio (trioOf c.val) (fun q => { q with welt := q.welt ++ [(0, .interrupt i)] })).finish :=
  congrArg done ((if_pos hw).trans (if_pos hr))

end

/-- Settles O30: a class is accepted where no class before it could be; a raised request reaches its core or the Welt. -/
theorem interrupts : Obligations.Interrupts := by
  intro s c k may ready free agreed enter
  have hready : ∀ i, ready i ↔ k.takes i := fun i => and_congr_right fun _ => (Core.acceptsNow_iff k i).symm
  have hfree : free ↔ s.atBoundary c.val = true := (State.atBoundary_iff s c.val).symm
  have haccept : ∀ i, free → agreed → ready i → (∀ j ∈ ahead i, ¬ ready j) →
      exec (.interruptAccept c i) s = enter i (intSet i) (intCause i) := fun i hf ha hi hn =>
    congrArg done (acceptInt_of_takes (hfree.mp hf) ha ((hready i).mp hi) fun j hj => (hready j).not.mp (hn j hj))
  refine ⟨?fast, ?pl2, ?normal, ?barred, ?alone, ?welt⟩
  case fast => exact fun hf ha hi => haccept .fast hf ha hi (by simp [ahead])
  case pl2 => exact fun hf ha hi h1 => haccept .pl2 hf ha hi (by simpa [ahead] using h1)
  case normal => exact fun hf ha hi h1 h2 => haccept .normal hf ha hi (by simpa [ahead] using ⟨h1, h2⟩)
  case barred =>
    intro i hn
    rw [hready, hfree] at hn
    exact congrArg done (acceptInt_of_not hn)
  case alone =>
    intro i hl hw hr
    rw [exec_interruptRequest_of_alone hw, hl, State.requestAt, if_pos hr]
  case welt => exact fun i hw hr => exec_interruptRequest_of_redundant hw hr

end Sys2Proof.Machine
end

section
/-! SUPPORT. `ESTAT` and `CSTAT` as an entry to a trap set leaves them, field by field (R103). -/

namespace Sys2Proof.Machine

/-! ### `ESTAT` as an entry packs it (R103) -/

/-- The bits of a delay slot's state in `ESTAT`. -/
def slotBits (slot : Option SlotSt) : Nat :=
  match slot with
  | some sl => 1 <<< 21 ||| sl.taken.toNat <<< 22 ||| sl.annul.toNat <<< 23
  | none => 0

theorem testBit_flag (b : Bool) (j i : Nat) : (b.toNat <<< j).testBit i = (decide (i = j) && b) := by
  cases b
  · simp
  · rw [Bool.toNat_true, Nat.one_shiftLeft, Nat.testBit_two_pow, Bool.and_true]
    exact decide_eq_decide.mpr eq_comm

theorem testBit_low {x n i : Nat} (hx : x < 2 ^ n) : x.testBit i = (decide (i < n) && x.testBit i) := by
  by_cases hi : i < n
  · simp [hi]
  · simp [hi, Nat.testBit_lt_two_pow (hx.trans_le (Nat.pow_le_pow_right (by decide) (Nat.not_lt.mp hi)))]

theorem testBit_field {x n : Nat} (hx : x < 2 ^ n) (lo i : Nat) :
    (x <<< lo).testBit i = (decide (lo ≤ i ∧ i < lo + n) && x.testBit (i - lo)) := by
  conv_lhs => rw [Nat.testBit_shiftLeft, testBit_low hx, ← Bool.and_assoc, ← Bool.decide_and]
  by_cases h : lo ≤ i ∧ i < lo + n
  · rw [decide_eq_true h, decide_eq_true (by omega)]
  · rw [decide_eq_false h, decide_eq_false (by omega)]

theorem testBit_slotBits (slot : Option SlotSt) (i : Nat) : (slotBits slot).testBit i =
    (decide (i = 21) && slot.isSome || decide (i = 22) && (slot.map (·.taken)).getD false ||
      decide (i = 23) && (slot.map (·.annul)).getD false) := by
  cases slot with
  | none => simp [slotBits]
  | some sl =>
    rw [slotBits, show (1 <<< 21 : Nat) = true.toNat <<< 21 from rfl, Nat.testBit_or, Nat.testBit_or, testBit_flag, testBit_flag,
      testBit_flag]
    rfl

theorem Core.pl_lt (k : Core) : k.pl < 2 ^ 2 := fld_lt ..

/-- `ESTAT` bit by bit. -/
theorem Core.bit_estatAt (k : Core) (t : TrapSet) {cause sub : Nat} (hc : cause < 2 ^ 8) (hs : sub < 2 ^ 8) {i : Nat} (hi : i < 64) :
    (k.estatAt t cause sub).getLsbD i =
      if i < 8 then cause.testBit i
      else if i < 16 then sub.testBit (i - 8)
      else if i < 18 then k.pl.testBit (i - 16)
      else if i = 18 then k.w
      else if i = 19 then k.nie
      else if i = 20 then k.fie
      else if i < 24 then (slotBits k.arch.slot).testBit i
      else if i = 24 then (t = .pl2 || t = .pl3) && k.pie
      else if i = 25 then (t = .pl2 || t = .pl3) && k.infast
      else false := by
  have hpack : k.estatAt t cause sub = BitVec.ofNat 64 (cause ||| sub <<< 8 ||| k.pl <<< 16 ||| k.w.toNat <<< 18 |||
      k.nie.toNat <<< 19 ||| k.fie.toNat <<< 20 ||| slotBits k.arch.slot ||| ((t = .pl2 || t = .pl3) && k.pie).toNat <<< 24 |||
      ((t = .pl2 || t = .pl3) && k.infast).toNat <<< 25) := rfl
  rw [hpack, BitVec.getLsbD_ofNat, decide_eq_true hi, Bool.true_and]
  generalize (decide (t = .pl2) || decide (t = .pl3)) = high
  simp only [Nat.testBit_or, testBit_flag, testBit_slotBits, testBit_field hs, testBit_field k.pl_lt]
  rw [testBit_low hc]
  split_ifs <;> simp (disch := omega) only [decide_eq_true, decide_eq_false, Bool.true_and, Bool.false_and, Bool.or_false, Bool.false_or]

/-! ### Fields from bits -/

theorem fld_eq_of_bits {n : Nat} {x : BitVec n} {hi lo v : Nat} (hv : v < 2 ^ (hi + 1 - lo))
    (h : ∀ i, i < hi + 1 - lo → x.getLsbD (lo + i) = v.testBit i) : fld x hi lo = v := by
  apply Nat.eq_of_testBit_eq
  intro i
  rw [testBit_fld]
  by_cases hi' : i < hi + 1 - lo
  · rw [decide_eq_true hi', Bool.true_and, h i hi']
  · rw [decide_eq_false hi', Bool.false_and, testBit_low hv, decide_eq_false hi', Bool.false_and]

section
variable (k : Core) (t : TrapSet) {cause sub : Nat} (hc : cause < 2 ^ 8) (hs : sub < 2 ^ 8)
include hc hs

/-- `ESTAT` field by field (R103). -/
theorem Core.estatAt_fields :
    let es := k.estatAt t cause sub
    let high := decide (t = .pl2) || decide (t = .pl3)
    fld es 7 0 = cause ∧ fld es 15 8 = sub ∧ fld es 17 16 = k.pl ∧ es.getLsbD 18 = k.w ∧ es.getLsbD 19 = k.nie ∧
      es.getLsbD 20 = k.fie ∧ es.getLsbD 21 = k.arch.slot.isSome ∧ es.getLsbD 22 = (k.arch.slot.map (·.taken)).getD false ∧
      es.getLsbD 23 = (k.arch.slot.map (·.annul)).getD false ∧ es.getLsbD 24 = (high && k.pie) ∧
      es.getLsbD 25 = (high && k.infast) ∧ fld es 63 26 = 0 := by
  have hb : ∀ i, i < 64 → _ := fun i hi => Core.bit_estatAt k t hc hs (i := i) hi
  refine ⟨fld_eq_of_bits hc fun i hi => ?_, fld_eq_of_bits hs fun i hi => ?_, fld_eq_of_bits k.pl_lt fun i hi => ?_, hb 18 (by decide),
    hb 19 (by decide), hb 20 (by decide), ?_, ?_, ?_, hb 24 (by decide), hb 25 (by decide), fld_eq_of_bits (by decide) fun i hi => ?_⟩
  case refine_1 => rw [hb _ (by omega), if_pos (by omega), Nat.zero_add]
  case refine_2 => rw [hb _ (by omega), if_neg (by omega), if_pos (by omega), Nat.add_sub_cancel_left]
  case refine_3 => rw [hb _ (by omega), if_neg (by omega), if_neg (by omega), if_pos (by omega), Nat.add_sub_cancel_left]
  case refine_7 =>
    rw [Nat.zero_testBit, hb _ (by omega), if_neg (by omega), if_neg (by omega), if_neg (by omega), if_neg (by omega), if_neg (by omega),
      if_neg (by omega), if_neg (by omega), if_neg (by omega), if_neg (by omega)]
  all_goals
    refine (hb _ (by decide)).trans ((testBit_slotBits ..).trans ?_)
    simp

end

/-! ### `CSTAT` after an entry -/

theorem bit_setFld {n : Nat} (x : BitVec n) (hi lo v : Nat) {i : Nat} (h : i < n) :
    bit (setFld x hi lo v) i = if lo ≤ i ∧ i < hi + 1 then v.testBit (i - lo) else bit x i := getLsbD_setFld x hi lo v i h

theorem fld_two_bits {n : Nat} (x : BitVec n) (lo : Nat) :
    fld x (lo + 1) lo = (bit x lo).toNat + 2 * (bit x (lo + 1)).toNat := by
  have hbit : ∀ i, (bit x i).toNat = x.toNat / 2 ^ i % 2 := fun i => by
    rw [bit, BitVec.getLsbD, Nat.testBit_eq_decide_div_mod_eq]
    rcases Nat.mod_two_eq_zero_or_one (x.toNat / 2 ^ i) with h | h <;> rw [h] <;> rfl
  rw [hbit, hbit, Nat.pow_succ, ← Nat.div_div_eq_div_mul, fld, Nat.shiftRight_eq_div_pow, show lo + 1 + 1 - lo = 2 by omega]
  omega

/-- `CSTAT` after an entry, field by field (R103). -/
theorem cstatAt_fields (t : TrapSet) (w : Dword) :
    fld (cstatAt t w) 4 3 = t.level ∧ bit (cstatAt t w) 5 = decide (t = .pl3) ∧ bit (cstatAt t w) 6 = decide (t = .fast) ∧
      bit (cstatAt t w) 0 = (decide (t = .fast) && bit w 0) ∧ bit (cstatAt t w) 1 = (decide (t = .pl1) && bit w 1) := by
  have hpl : t.level = (decide (t ≠ .pl2)).toNat + 2 * (decide (t = .pl2 ∨ t = .pl3)).toNat := by cases t <;> rfl
  rw [fld_two_bits, hpl]
  cases t <;> simp [cstatAt, bit_setFld] <;> decide

end Sys2Proof.Machine
end

section
/-! SUPPORT. What the drain of the pipeline leaves in a core's control registers, and how an entry to a trap set ends (R48, R79, R103). -/

namespace Sys2Proof.Machine

/-! ### The drain (R48) -/

/-- A control register that no result reaches: neither a flag register nor the records' `EPRC`. -/
def Settled (n : Nat) : Prop := n ≠ 0x001 ∧ n ≠ 0x002 ∧ ∀ t : TrapSet, n ≠ t.base + 8

theorem Core.csr_orFlags (k : Core) (ff : BitVec 5) (af : BitVec 3) {n : Nat} (h1 : n ≠ 0x001) (h2 : n ≠ 0x002) :
    (k.orFlags ff af).csr n = k.csr n := by
  have hf : (if ff = 0 then k else k.setCsr 0x002 (k.csr 0x002 ||| ff.zeroExtend 64)).csr n = k.csr n := by
    split
    · rfl
    · exact Core.csr_setCsr_other _ _ h2
  unfold Core.orFlags
  simp only
  split
  · exact hf
  · exact (Core.csr_setCsr_other _ _ h1).trans hf

theorem Core.csr_applyRes (k : Core) (r : PendRes) {n : Nat} (h : Settled n) : (k.applyRes r).csr n = k.csr n := by
  obtain ⟨h1, h2, h3⟩ := h
  have hreg : ∀ k : Core, (k.orFlags r.fflags r.aflags).csr n = k.csr n := fun k => Core.csr_orFlags k _ _ h1 h2
  have hw : ∀ key, ({ k with arch := k.arch.wr key r.val } : Core).csr n = k.csr n := fun key => by
    unfold Arch.wr
    split <;> rfl
  unfold Core.applyRes
  cases r.reg <;> cases r.rcd <;> simp only [hreg, hw, Core.csr_setCsr_other _ _ (h3 _)]

/-- A fold that keeps a part of a core. -/
theorem Core.foldl_keeps {α β : Type} {p : Core → β} {f : Core → α → Core} (h : ∀ k a, p (f k a) = p k) (l : List α) (k : Core) :
    p (l.foldl f k) = p k := by
  induction l generalizing k with
  | nil => rfl
  | cons a l ih => exact (ih _).trans (h k a)

theorem Core.csr_settle (k : Core) (p : Nat) {n : Nat} (h : Settled n) : (k.settle p).csr n = k.csr n :=
  (Core.foldl_keeps (p := fun k => k.csr n) (fun k r => Core.csr_applyRes k r h) _ _).trans rfl

/-- The flags of a result that stays in flight are taken, and its armed record is spent. -/
def Core.spend (k : Core) (x : PendRes) : Core := k.applyRes { x with reg := none }

/-- The core with nothing in flight any more, before the records are written. -/
def Core.drained (k : Core) (r : Nat) : Core :=
  let k' := (k.arch.pend.filter (fun x => decide (r < x.vis))).foldl Core.spend (k.settle r)
  { k' with arch := { k'.arch with pend := [] } }

/-- The records of a set written. -/
def Core.recorded (k : Core) (base r : Nat) (recs : List PendRes) : Core :=
  (recs.zipIdx).foldl (fun k x => k.setCsr (base + 9 + x.2) x.1.val) (k.setCsr (base + 8) (eprcOf recs r))

theorem Core.drainTo_eq (k : Core) (base r : Nat) : k.drainTo base r = (k.drained r).recorded base r (recordsAt k.arch.pend r) := rfl

theorem length_recordsAt (pend : List PendRes) (r : Nat) : (recordsAt pend r).length ≤ 4 := List.length_take_le 4 _

theorem Core.csr_recorded (k : Core) {base r n : Nat} {recs : List PendRes} (hl : recs.length ≤ 4) (h : n < base + 8 ∨ base + 12 < n) :
    (k.recorded base r recs).csr n = k.csr n := by
  have hf : ∀ (l : List (PendRes × Nat)) (k : Core), (∀ x ∈ l, x.2 < 4) →
      (l.foldl (fun k x => k.setCsr (base + 9 + x.2) x.1.val) k).csr n = k.csr n := by
    intro l
    induction l with
    | nil => exact fun k _ => rfl
    | cons x l ih =>
      intro k hx
      have hx4 : x.2 < 4 := hx x (by simp)
      exact (ih _ fun y hy => hx y (by simp [hy])).trans (Core.csr_setCsr_other _ _ (by omega))
  refine (hf _ _ fun x hx => ?_).trans (Core.csr_setCsr_other _ _ (by omega))
  have := (List.mem_zipIdx' hx).1
  omega

theorem Core.csr_drained (k : Core) (r : Nat) {n : Nat} (h : Settled n) : (k.drained r).csr n = k.csr n :=
  (Core.foldl_keeps (f := Core.spend) (p := fun k => k.csr n) (fun k _ => Core.csr_applyRes k _ h)
    (k.arch.pend.filter (fun x => decide (r < x.vis))) (k.settle r)).trans (Core.csr_settle k r h)

theorem Core.csr_drainTo (k : Core) {base n : Nat} (r : Nat) (hn : Settled n) (h : n < base + 8 ∨ base + 12 < n) :
    (k.drainTo base r).csr n = k.csr n :=
  (Core.csr_recorded _ (length_recordsAt ..) h).trans (Core.csr_drained k r hn)

theorem Core.drainTo_posn (k : Core) (base r : Nat) : (k.drainTo base r).arch.posn = k.arch.posn :=
  calc (k.drainTo base r).arch.posn
    _ = ((k.drained r).setCsr (base + 8) (eprcOf (recordsAt k.arch.pend r) r)).arch.posn :=
      Core.foldl_keeps (p := fun k => k.arch.posn) (fun _ _ => Core.setCsr_posn ..) _ _
    _ = (k.drained r).arch.posn := Core.setCsr_posn ..
    _ = (k.settle r).arch.posn := 
      Core.foldl_keeps (f := Core.spend) (p := fun k => k.arch.posn) (fun k _ => (Core.applyRes_keeps k _).2.1)
        (k.arch.pend.filter (fun x => decide (r < x.vis))) _
    _ = k.arch.posn := (Core.settle_keeps k r).2.1

theorem Core.drainTo_pend (k : Core) (base r : Nat) : (k.drainTo base r).arch.pend = [] :=
  (Core.foldl_keeps (p := fun k => k.arch.pend) (fun _ _ => Core.setCsr_pend ..) _ _).trans
    ((Core.setCsr_pend ..).trans rfl)

/-! ### The entry (R103) -/

/-- What an entry writes to a set's registers: where it resumes, `ESTAT`, and what the cause reports. -/
def Core.tells (k : Core) (t : TrapSet) (x : Trap) (epc es etgt : Dword) : Core :=
  let b := t.base
  let k := ((k.setCsr (b + 1) epc).setCsr (b + 2) es).setCsr (b + 3) etgt
  if t = .fast then k
  else (k.setCsr (b + 4) (if causeEva x.cause then x.eva else 0)).setCsr (b + 5) (if causeWord x.cause then x.word.zeroExtend 64 else 0)

/-- The status that an entry leaves. -/
def Core.raisedTo (k : Core) (t : TrapSet) : Core :=
  let k := k.setCsr 0x100 (cstatAt t k.cstat)
  if t = .pl2 ∨ t = .pl3 then k.setCsr 0x200 (setBit (k.csr 0x200) 0 false) else k

/-- The core at the set's vector, with nothing in flight. -/
def Core.vectored (k : Core) (t : TrapSet) (cause posn : Nat) : Core :=
  { k with
    arch := { k.arch with
      pc := simm ((k.csr (t.base + 6)).truncate 48 : BitVec 48) + BitVec.ofNat 64 (0x40 * cause), posn := posn, slot := none }
    resv := none, spec := [] }

/-- The core that an entry leaves within one world. -/
def Core.entered (k : Core) (t : TrapSet) (x : Trap) (r off : Nat) : Core :=
  let epc := match k.arch.slot with
    | some sl => sl.branch
    | none => k.arch.pc + BitVec.ofNat 64 off
  let etgt := match k.arch.slot with
    | some sl => sl.target
    | none => 0
  let d := ((k.drainTo t.base (k.arch.posn + r)).tells t x epc (k.estatAt t x.cause x.sub) etgt).raisedTo t
  d.vectored t x.cause (d.arch.posn + r)

/-- How an entry with core `k` ends: what a change of world asks for, the count, and the packet. -/
def State.enters (s : State) (c : Nat) (wasW : Bool) (x : Trap) (epc es : Dword) (k : Core) : State :=
  let s := s.setCore c k
  let s := if (s.core c).w ≠ wasW then s.changeWorld c else s
  let k := s.core c
  let s := s.countCore c 0x0D
  if bit (s.reg (ltCore c)) 0 then
    s.emitCore c 0x04 epc.toNat [BitVec.ofNat 64 (x.cause ||| x.sub <<< 8 ||| fld es 22 21 <<< 16 ||| k.pl <<< 18 |||
      k.w.toNat <<< 20)]
  else s

theorem enterTrap_eq_enters (s : State) (c : Nat) (t : TrapSet) (x : Trap) (r off : Nat) :
    let k := (s.modCore c Core.closeAll).core c
    ∃ epc, s.enterTrap c t x r off =
      (s.modCore c Core.closeAll).enters c k.w x epc (k.estatAt t x.cause x.sub) (k.entered t x r off) := ⟨_, rfl⟩

/-- Within one world the trace and the counters alone follow an entry. -/
theorem observes_enters (s : State) (c : Nat) (x : Trap) (epc es : Dword) (k : Core) :
    Observes c (s.setCore c k) (s.enters c k.w x epc es k) := by
  unfold State.enters
  simp only [State.core_setCore, ne_eq, not_true_eq_false, if_false]
  split
  · exact (observes_countCore _ _).trans (observes_emitCore _ _ _ _ _)
  · exact observes_countCore _ _

theorem observes_enterTrap (s : State) (c : Nat) (t : TrapSet) (x : Trap) (r off : Nat)
    (hw : ((s.core c).closeAll.entered t x r off).w = (s.core c).w) :
    Observes c ((s.modCore c Core.closeAll).setCore c ((s.core c).closeAll.entered t x r off)) (s.enterTrap c t x r off) := by
  obtain ⟨epc, he⟩ := enterTrap_eq_enters s c t x r off
  rw [State.core_modCore] at he
  have hk : (s.core c).closeAll.w = ((s.core c).closeAll.entered t x r off).w := hw.symm
  rw [he, hk]
  exact observes_enters ..

section
variable (k : Core) (t : TrapSet) (x : Trap)

/-- The set's registers as an entry tells them. -/
theorem Core.csr_tells (epc es etgt : Dword) :
    let u := k.tells t x epc es etgt
    u.csr (t.base + 1) = epc ∧ u.csr (t.base + 2) = es ∧ u.csr (t.base + 3) = etgt ∧
      (t ≠ .fast → u.csr (t.base + 4) = (if causeEva x.cause then x.eva else 0) ∧
        u.csr (t.base + 5) = (if causeWord x.cause then x.word.zeroExtend 64 else 0)) ∧
      ∀ n, n ≤ t.base ∨ t.base + 5 < n → u.csr n = k.csr n := by
  unfold Core.tells
  split
  case isTrue hf =>
    refine ⟨?_, ?_, ?_, fun h => absurd hf h, fun n hn => ?_⟩
    case refine_4 =>
      rw [Core.csr_setCsr_other _ _ (by omega), Core.csr_setCsr_other _ _ (by omega), Core.csr_setCsr_other _ _ (by omega)]
    all_goals simp [Core.csr_setCsr]
  case isFalse =>
    refine ⟨?_, ?_, ?_, fun _ => ⟨?_, ?_⟩, fun n hn => ?_⟩
    case refine_6 =>
      rw [Core.csr_setCsr_other _ _ (by omega), Core.csr_setCsr_other _ _ (by omega), Core.csr_setCsr_other _ _ (by omega),
        Core.csr_setCsr_other _ _ (by omega), Core.csr_setCsr_other _ _ (by omega)]
    all_goals simp [Core.csr_setCsr]

end

end Sys2Proof.Machine
end

section
/-! SUPPORT. The set that takes a trap and the core that the entry leaves: obligation O31 (R99-R103, R467). -/

namespace Sys2Proof.Machine

/-! ### The core that an entry leaves -/

section
variable (k : Core) (t : TrapSet) (x : Trap)

theorem Core.csr_raisedTo_other {n : Nat} (h1 : n ≠ 0x100) (h2 : n ≠ 0x200) : (k.raisedTo t).csr n = k.csr n := by
  unfold Core.raisedTo
  simp only
  split
  · rw [Core.csr_setCsr_other _ _ h2, Core.csr_setCsr_other _ _ h1]
  · rw [Core.csr_setCsr_other _ _ h1]

theorem Core.cstat_raisedTo : (k.raisedTo t).cstat = cstatAt t k.cstat := by
  unfold Core.raisedTo Core.cstat
  simp only
  split
  · rw [Core.csr_setCsr_other _ _ (by decide), Core.csr_setCsr_same]
  · rw [Core.csr_setCsr_same]

/-- An entry to PL2 or PL3 turns off the interrupts routed to PL2. -/
theorem Core.pie_raisedTo : (k.raisedTo t).pie = (decide (t = .pl1 ∨ t = .fast) && k.pie) := by
  unfold Core.raisedTo Core.pie
  cases t
  case pl1 | fast =>
    rw [if_neg (by simp), Core.csr_setCsr_other _ _ (by decide)]
    rfl
  case pl2 | pl3 =>
    rw [if_pos (by simp), Core.csr_setCsr_same, bit_setBit _ _ _ _ (by decide)]
    rfl

theorem Core.raisedTo_keeps : (k.raisedTo t).arch.posn = k.arch.posn ∧ (k.raisedTo t).arch.pend = k.arch.pend := by
  unfold Core.raisedTo
  simp only
  split <;> simp only [Core.setCsr_posn, Core.setCsr_pend, and_self]

theorem Core.tells_keeps (epc es etgt : Dword) :
    (k.tells t x epc es etgt).arch.posn = k.arch.posn ∧ (k.tells t x epc es etgt).arch.pend = k.arch.pend := by
  unfold Core.tells
  simp only
  split <;> simp only [Core.setCsr_posn, Core.setCsr_pend, and_self]

/-- The address at which an entry says that it resumes. -/
def Core.epcAt (k : Core) (off : Nat) : Dword :=
  match k.arch.slot with
  | some sl => sl.branch
  | none => k.arch.pc + BitVec.ofNat 64 off

/-- The target of the branch whose slot an entry interrupts. -/
def Core.etgtAt (k : Core) : Dword :=
  match k.arch.slot with
  | some sl => sl.target
  | none => 0

theorem settled_of_entry {n : Nat} (h : n = 0x100 ∨ n = 0x200 ∨ n = t.base + 6) : Settled n := by
  refine ⟨?_, ?_, fun u => ?_⟩
  case refine_3 => cases t <;> cases u <;> simp only [TrapSet.base] at h ⊢ <;> omega
  all_goals cases t <;> simp only [TrapSet.base] at h <;> omega

theorem TrapSet.base_add {j : Nat} (hl : 1 ≤ j) (hu : j ≤ 6) : t.base + j ≠ 0x100 ∧ t.base + j ≠ 0x200 := by
  cases t <;> simp only [TrapSet.base] <;> omega

section
variable (r off : Nat)

/-- What stands in the core's registers after an entry (R103). -/
theorem Core.csr_entered :
    let u := k.entered t x r off
    u.csr (t.base + 1) = k.epcAt off ∧ u.csr (t.base + 2) = k.estatAt t x.cause x.sub ∧ u.csr (t.base + 3) = k.etgtAt ∧
      (t ≠ .fast → u.csr (t.base + 4) = (if causeEva x.cause then x.eva else 0) ∧
        u.csr (t.base + 5) = (if causeWord x.cause then x.word.zeroExtend 64 else 0)) ∧
      u.csr (t.base + 6) = k.csr (t.base + 6) ∧ u.cstat = cstatAt t k.cstat ∧
      u.pie = (decide (t = .pl1 ∨ t = .fast) && k.pie) := by
  let d := k.drainTo t.base (k.arch.posn + r)
  let w := d.tells t x (k.epcAt off) (k.estatAt t x.cause x.sub) k.etgtAt
  obtain ⟨h1, h2, h3, h45, hother⟩ := Core.csr_tells d t x (k.epcAt off) (k.estatAt t x.cause x.sub) k.etgtAt
  have hd : ∀ n, (n = 0x100 ∨ n = 0x200 ∨ n = t.base + 6) → w.csr n = k.csr n := fun n hn => by
    refine (hother n ?_).trans (Core.csr_drainTo k _ (settled_of_entry t hn) ?_)
    all_goals cases t <;> simp only [TrapSet.base] at hn ⊢ <;> omega
  have hset : ∀ j, 1 ≤ j → j ≤ 6 → (k.entered t x r off).csr (t.base + j) = w.csr (t.base + j) := fun j hl hu =>
    Core.csr_raisedTo_other w t (t.base_add hl hu).1 (t.base_add hl hu).2
  refine ⟨?_, ?_, ?_, fun hf => ⟨?_, ?_⟩, ?_, ?_, ?_⟩
  · exact (hset 1 (by decide) (by decide)).trans h1
  · exact (hset 2 (by decide) (by decide)).trans h2
  · exact (hset 3 (by decide) (by decide)).trans h3
  · exact (hset 4 (by decide) (by decide)).trans (h45 hf).1
  · exact (hset 5 (by decide) (by decide)).trans (h45 hf).2
  · exact (hset 6 (by decide) (by decide)).trans (hd _ (Or.inr (Or.inr rfl)))
  · exact (Core.cstat_raisedTo w t).trans (congrArg (cstatAt t) (hd 0x100 (Or.inl rfl)))
  · refine (Core.pie_raisedTo w t).trans (congrArg (decide (t = .pl1 ∨ t = .fast) && ·) ?_)
    exact congrArg (bit · 0) (hd 0x200 (Or.inr (Or.inl rfl)))

/-- Where an entry leaves the program. -/
theorem Core.arch_entered :
    let u := k.entered t x r off
    u.arch.pc = simm ((k.csr (t.base + 6)).truncate 48 : BitVec 48) + BitVec.ofNat 64 (0x40 * x.cause) ∧
      u.arch.posn = k.arch.posn + r ∧ u.arch.slot = none ∧ u.arch.pend = [] ∧ u.resv = none := by
  let d := k.drainTo t.base (k.arch.posn + r)
  let w := d.tells t x (k.epcAt off) (k.estatAt t x.cause x.sub) k.etgtAt
  obtain ⟨hp, hq⟩ := Core.raisedTo_keeps w t
  obtain ⟨hp', hq'⟩ := Core.tells_keeps d t x (k.epcAt off) (k.estatAt t x.cause x.sub) k.etgtAt
  obtain ⟨-, -, -, -, hvec, -, -⟩ := Core.csr_entered k t x r off
  refine ⟨?_, ?_, rfl, ?_, rfl⟩
  · rw [← hvec]
    rfl
  · exact congrArg (· + r) (hp.trans (hp'.trans (Core.drainTo_posn ..)))
  · exact hq.trans (hq'.trans (Core.drainTo_pend ..))

end

end

/-! ### The obligation -/

/-- Settles the first part of O31: the tests of a cause in their order. -/
theorem trapSets : TrapSets := by
  intro k
  refine ⟨fun cause h => if_pos h, fun cause hw hc hf => ?fast, fun hw hf => ?plain⟩
  case fast =>
    rw [Core.syncSet, if_neg (by rw [hw]; simp [hc]), if_pos hf]
  case plain =>
    have hset : ∀ cause, cause ≠ 0x12 → k.syncSet cause =
        if cause = 0x11 ∨ 2 ≤ k.pl then .pl2
        else if cause = 0x10 ∨ cause = 0x17 then .pl1
        else if cause ≤ 0x13 ∧ bit (k.csr 0x210) (if cause = 0x13 then 19 else cause) then .pl1 else .pl2 := fun cause hc => by
      rw [Core.syncSet, if_neg (by rw [hw]; simp [hc]), if_neg (by rw [hf]; decide)]
    refine ⟨hset 0x11 (by decide), (hset 0x10 (by decide)).trans (by simp), (hset 0x17 (by decide)).trans (by simp),
      fun cause hc => ?delegated⟩
    case delegated =>
      rw [hset cause (by omega)]
      by_cases hl : 2 ≤ k.pl
      · rw [if_pos (Or.inr hl), if_neg (by omega)]
      · rw [if_neg (by omega), if_neg (by omega)]
        exact if_congr ⟨fun h => ⟨by omega, h.2⟩, fun h => ⟨by omega, h.2⟩⟩ rfl rfl

/-- Settles the second part of O31: within one world the trace and the counters alone follow the core that an entry leaves. -/
theorem trapEntry : TrapEntry := by
  intro s c set x r off hcause hsub hworld k t b es high
  obtain ⟨hepc, hes, hetgt, hinfo, -, hstat, hpie⟩ := Core.csr_entered k.closeAll set x r off
  obtain ⟨hpc, hposn, hslot, hpend, hresv⟩ := Core.arch_entered k.closeAll set x r off
  obtain ⟨hpl, hw, hin, hnie, hfie⟩ := cstatAt_fields set k.cstat
  have hsame : (k.closeAll.entered set x r off).w = k.w := by
    rw [Core.w, hstat]
    refine hw.trans ?_
    rw [Bool.eq_iff_iff, decide_eq_true_iff]
    exact hworld.symm
  have ho := observes_enterTrap s c set x r off hsame
  obtain ⟨e, a, n, g, l, ht⟩ := ho.core c
  rw [State.core_setCore] at ht
  have hcsr : ∀ n, t.csr n = (k.closeAll.entered set x r off).csr n := fun n => by rw [show t = _ from ht]; rfl
  have harch : t.arch = (k.closeAll.entered set x r off).arch := by rw [show t = _ from ht]
  have hkept : t.resv = (k.closeAll.entered set x r off).resv := by rw [show t = _ from ht]
  have hcstat : t.cstat = cstatAt set k.cstat := (hcsr 0x100).trans hstat
  have hestat : es = k.closeAll.estatAt set x.cause x.sub := (hcsr _).trans hes
  obtain ⟨h1, h2, h3, h4, h5, h6, h7, h8, h9, h10, h11, h12⟩ := Core.estatAt_fields k.closeAll set hcause hsub
  rw [← hestat] at h1 h2 h3 h4 h5 h6 h7 h8 h9 h10 h11 h12
  refine ⟨(hcsr _).trans hepc, (hcsr _).trans hetgt, h1, h2, h3, h4, h5, h6, h7, h8, h9, ?pie, ?infast, h12, fun hf => ?info,
    (congrArg Arch.pc harch).trans hpc, (congrArg Arch.posn harch).trans hposn, (congrArg Arch.slot harch).trans hslot,
    (congrArg Arch.pend harch).trans hpend, hkept.trans hresv, ?level, ?w, ?nie, ?fie, ?newPie, ?newFast, ?others⟩
  case pie => rw [h10]; simp only [high, Bool.and_eq_true, Bool.or_eq_true, decide_eq_true_iff]; rfl
  case infast => rw [h11]; simp only [high, Bool.and_eq_true, Bool.or_eq_true, decide_eq_true_iff]; rfl
  case info =>
    obtain ⟨heva, hword⟩ := hinfo hf
    refine ⟨(hcsr _).trans (heva.trans ?_), (hcsr _).trans (hword.trans ?_)⟩
    · exact if_congr (by simp [causeEva]) rfl rfl
    · exact if_congr (by simp [causeWord]) rfl rfl
  case level =>
    rw [Core.pl, hcstat, hpl]
    cases set <;> rfl
  case w =>
    rw [← hsame, Core.w, hcstat, Core.w, hstat]
    rfl
  case nie => rw [Core.nie, hcstat, hnie]; rfl
  case fie => rw [Core.fie, hcstat, hfie]; rfl
  case newPie => exact (congrArg (bit · 0) (hcsr 0x200)).trans hpie
  case newFast => rw [Core.infast, hcstat, hin]
  case others =>
    intro y hy
    obtain ⟨e, a, n, g, l, h⟩ := ho.core y
    rw [h, State.core_setCore_other _ _ hy, State.core_modCore_other _ _ hy]

/-- Settles O31: the sets by the tests of a cause, the entry by the core that it leaves. -/
theorem takingATrap : Obligations.TakingATrap := ⟨trapSets, trapEntry⟩

end Sys2Proof.Machine
end


section
/-! SUPPORT. Redundancy and debugging (O54), refuted: a change of lead emits a SYNC (R377), and the statement's dissent of copy 0
emits none. -/

namespace Sys2Proof.Machine

/-- The state after reset, with the code of the service trio open to trace (`DBG_EN` bit 3) and its source 252 Tracing. -/
def tracedService : State := (State.reset.setRf ⟨.dbgEn, 0, 0, 0⟩ 3 3 1).setRf (lsrc 252) 25 24 2

/-- The packets on their way to the funnel in the state that an outcome leaves. -/
def packetsOf : Host.Outcome State Fault Refusal → List Packet
  | .next s => s.lace.out
  | _ => []

/-- The SYNC of the service trio at its reset vector: no context, PL 3, W = 1. -/
def serviceSync : Packet := mkPkt 252 0x01 0x3FFFFFF00000 [0, BitVec.ofNat 64 (0x1FFF ||| 3 <<< 18 ||| 1 <<< 20)]

/-- An error of core 252, which leads the service trio, passes the lead to core 253, and its SYNC leaves. -/
theorem packetsOf_coreError_lead : packetsOf (exec (.coreError 252 .regFile) tracedService) = [serviceSync] := by decide

/-- Refutes O54: core 252 errs while it leads its Voted trio, whose source is Tracing. The lead passes to core 253, which emits a SYNC
(R377); the state that `CoreErrors` names for a dissent of copy 0 has the new lead in `TRIO_RSTAT` and no such packet. -/
theorem not_redundancyAndDebug : ¬ Obligations.RedundancyAndDebug := by
  unfold Obligations.RedundancyAndDebug CoreErrors
  rintro ⟨errors, -, -, -⟩
  obtain ⟨-, -, -, dissents, -⟩ := errors tracedService 252 .regFile
  have named := congrArg packetsOf (dissents (by decide) (.inl rfl) (by decide) (by decide))
  exact absurd (packetsOf_coreError_lead.symm.trans named) (by decide)

end Sys2Proof.Machine
end


section
/-! SUPPORT. What memory, coherence, tracing and records leave of the state: what a core's code works with, its predictor, the slots of
each trio and `SEC_CTL`; and of a merging buffer, entries leave and none opens. Stated for any property of the state that rests on
these parts. -/

namespace Sys2Proof.Machine

/-! ### Properties that last -/

/-- A merging buffer after another: no longer, and closed where that was closed. -/
def Drained (m was : List MergeEntry) : Prop :=
  m.length ≤ was.length ∧ ((∀ e ∈ was, e.isOpen = false) → ∀ e ∈ m, e.isOpen = false)

theorem Drained.refl (m : List MergeEntry) : Drained m m := ⟨Nat.le_refl _, id⟩

/-- A core after what the memory system does to it: its code's state, its context and its predictor stay. -/
structure Core.Served (k was : Core) : Prop where
  arch : k.arch = was.arch
  own : k.own = was.own
  ctx : k.ctx = was.ctx
  dirTab : k.dirTab = was.dirTab
  btb : k.btb = was.btb
  merge : Drained k.merge was.merge

/-- A register other than `SEC_CTL`. -/
def RegRef.Spares (r : RegRef) : Prop := r.off ≠ secCtlR.off

/-- A property of the state that rests on its cores as `Core.Served` keeps them, the slots of its trios, and `SEC_CTL`. -/
structure Lasting where
  Holds : State → Prop
  of_eq : ∀ {s t : State}, Holds s → t.cores = s.cores → t.trios = s.trios → t.mcs = s.mcs → Holds t
  core : ∀ {s : State} (c : Nat) (f : Core → Core), Holds s → (f (s.core c)).Served (s.core c) → Holds (s.modCore c f)
  trio : ∀ {s : State} (t : Nat) (f : Trio → Trio), Holds s → (f (s.trio t)).slots = (s.trio t).slots → Holds (s.modTrio t f)
  reg : ∀ {s : State} (r : RegRef) (v : Dword), Holds s → r.Spares → Holds (s.setReg r v)

namespace Lasting.Holds

variable {L : Lasting} {s t : State}

theorem ite {p : Prop} [Decidable p] (hs : L.Holds s) (ht : L.Holds t) : L.Holds (if p then s else t) := by
  split
  · exact hs
  · exact ht

theorem fst {α : Type} {x : α} (h : L.Holds s) : L.Holds (s, x).1 := h

theorem ite_fst {α : Type} {p : Prop} [Decidable p] {x y : State × α} (hx : L.Holds x.1) (hy : L.Holds y.1) :
    L.Holds (if p then x else y).1 := by
  split
  · exact hx
  · exact hy

theorem foldl {α : Type} {f : State → α → State} {l : List α} (h : L.Holds s)
    (hf : ∀ s, ∀ a ∈ l, L.Holds s → L.Holds (f s a)) : L.Holds (l.foldl f s) :=
  List.foldlRecOn l f h (fun s hs a ha => hf s a ha hs)

theorem forN {f : Nat → State → State} {n : Nat} (h : L.Holds s) (hf : ∀ i s, L.Holds s → L.Holds (f i s)) :
    L.Holds (forN n f s) :=
  h.foldl (fun s i _ hs => hf i s hs)

/-- A change of a core that leaves all that `Core.Served` names. -/
theorem modCore {c : Nat} {f : Core → Core} (h : L.Holds s)
    (hf : ∀ k, ((f k).arch, (f k).own, (f k).ctx, (f k).dirTab, (f k).btb, (f k).merge) =
      (k.arch, k.own, k.ctx, k.dirTab, k.btb, k.merge)) : L.Holds (s.modCore c f) := by
  have e := hf (s.core c)
  simp only [Prod.mk.injEq] at e
  obtain ⟨ha, ho, hc, hd, hb, hm⟩ := e
  exact L.core c f h ⟨ha, ho, hc, hd, hb, hm ▸ Drained.refl _⟩

end Lasting.Holds

/-! ### Registers apart from `SEC_CTL` -/

theorem secCtlR_off : secCtlR.off = 0x39000008 := rfl

theorem spares_lsrc {id : Nat} (h : id < 512) : (lsrc id).Spares := by
  unfold RegRef.Spares
  rw [secCtlR_off]
  simp only [RegRef.off, lsrc, Reg.place, zoneBase]
  omega

theorem spares_haStatus {n : Nat} : RegRef.Spares ⟨.haStatus, 0, n, 0⟩ := by
  unfold RegRef.Spares
  rw [secCtlR_off]
  simp only [RegRef.off, Reg.place, zoneBase]
  omega

theorem spares_mcTstat {m n : Nat} : RegRef.Spares ⟨.mcTstat, 0, m, n⟩ := by
  unfold RegRef.Spares
  rw [secCtlR_off]
  simp only [RegRef.off, Reg.place, zoneBase]
  omega

theorem spares_cxeTstat {n : Nat} : RegRef.Spares ⟨.cxeTstat, 0, n, 0⟩ := by
  unfold RegRef.Spares
  rw [secCtlR_off]
  simp only [RegRef.off, Reg.place, zoneBase]
  omega

theorem spares_fqIdx {n : Nat} (h : n ≤ 32) : RegRef.Spares ⟨.fqIdx, 0, n, 0⟩ := by
  unfold RegRef.Spares
  rw [secCtlR_off]
  simp only [RegRef.off, Reg.place, zoneBase]
  omega

theorem spares_soleRate {n : Nat} (h : n ≤ 31) : RegRef.Spares ⟨.soleRate, 0, n, 0⟩ := by
  unfold RegRef.Spares
  rw [secCtlR_off]
  simp only [RegRef.off, Reg.place, zoneBase]
  omega

theorem spares_soleStatR : soleStatR.Spares := by
  unfold RegRef.Spares
  decide

theorem spares_fiCtlR {n : Nat} : (fiCtlR n).Spares := by
  unfold RegRef.Spares
  rw [secCtlR_off]
  simp only [RegRef.off, fiCtlR, Reg.place, zoneBase]
  omega

theorem spares_fiCntR {n : Nat} : (fiCntR n).Spares := by
  unfold RegRef.Spares
  rw [secCtlR_off]
  simp only [RegRef.off, fiCntR, Reg.place, zoneBase]
  omega

/-- The blocks whose counters the memory system moves: those of trios, dies and channels. -/
def PmcBlock.OfMemory : PmcBlock → Prop
  | .trio _ | .die _ | .mc _ => True
  | .core _ | .link _ => False

/-- A trio's block begins at a multiple of 1 MiB (R31). -/
theorem trioBase_mod (t : Nat) : trioBase t % 0x100000 = 0 := by
  unfold trioBase
  split <;> omega

theorem spares_cnt {b : PmcBlock} (hb : b.OfMemory) {n : Nat} (hn : n < b.size) : (b.cnt n).Spares := by
  unfold RegRef.Spares
  rw [secCtlR_off]
  cases b with
  | core c => exact hb.elim
  | link j => exact hb.elim
  | trio t =>
    have hb := trioBase_mod t
    simp only [PmcBlock.size] at hn
    simp only [RegRef.off, PmcBlock.cnt, Reg.place, zoneBase]
    omega
  | die d =>
    simp only [PmcBlock.size] at hn
    simp only [RegRef.off, PmcBlock.cnt, Reg.place, zoneBase]
    omega
  | mc m =>
    simp only [PmcBlock.size] at hn
    simp only [RegRef.off, PmcBlock.cnt, Reg.place, zoneBase]
    omega

namespace Lasting.Holds

variable {L : Lasting} {s t : State}

/-! ### The parts of the state -/

theorem setReg (h : L.Holds s) {r : RegRef} (hr : r.Spares) {v : Dword} : L.Holds (s.setReg r v) := L.reg r v h hr
theorem setRf (h : L.Holds s) {r : RegRef} (hr : r.Spares) {hi lo v : Nat} : L.Holds (s.setRf r hi lo v) := L.reg r _ h hr
theorem incRf (h : L.Holds s) {r : RegRef} (hr : r.Spares) {hi lo : Nat} : L.Holds (s.incRf r hi lo) := L.reg r _ h hr
theorem modHome (h : L.Holds s) {n : Nat} {f : Home → Home} : L.Holds (s.modHome n f) := L.of_eq h rfl rfl rfl
theorem modMc (h : L.Holds s) {m : Nat} {f : Mc → Mc} : L.Holds (s.modMc m f) := L.of_eq h rfl rfl rfl
theorem modXl (h : L.Holds s) {k : Nat} {f : Xl → Xl} : L.Holds (s.modXl k f) := L.of_eq h rfl rfl rfl
theorem modArea (h : L.Holds s) {a : Nat} {f : SoleArea → SoleArea} : L.Holds (s.modArea a f) := L.of_eq h rfl rfl rfl
theorem raise (h : L.Holds s) {n : Nat} : L.Holds (s.raise n) := L.of_eq h rfl rfl rfl
theorem post (h : L.Holds s) {cid ev : Nat} {org : Origin} : L.Holds (s.post cid ev org) := L.of_eq h rfl rfl rfl
theorem answer (h : L.Holds s) {r : Resp} : L.Holds (s.answer r) := L.of_eq h rfl rfl rfl
theorem emit (h : L.Holds s) {p : Packet} : L.Holds (s.emit p) := L.of_eq h rfl rfl rfl
theorem msc (h : L.Holds s) {m : Msc} : L.Holds { s with msc := m } := L.of_eq h rfl rfl rfl
theorem net (h : L.Holds s) {l : List Sent} : L.Holds { s with net := l } := L.of_eq h rfl rfl rfl

theorem modL2 (h : L.Holds s) {a : Nat} {f : L2 → L2} : L.Holds (s.modL2 a f) := by
  unfold State.modL2
  split
  · exact L.trio a _ h rfl
  · exact L.of_eq h rfl rfl rfl

/-! ### Tracing and counting -/

theorem emitOwn (h : L.Holds s) {c : Nat} {p : Packet} : L.Holds (s.emitOwn c p) := h.emit.modCore (fun _ => rfl)

theorem flushAtom (h : L.Holds s) {c : Nat} : L.Holds (s.flushAtom c) := by
  unfold State.flushAtom
  split
  · exact h
  · exact h.emitOwn.modCore (fun _ => rfl)

theorem sync (h : L.Holds s) {c : Nat} : L.Holds (s.sync c) := by
  unfold State.sync
  exact h.flushAtom.emit.modCore (fun _ => rfl)

theorem emitEvent (h : L.Holds s) {id code data : Nat} : L.Holds (s.emitEvent id code data) := h.emit.ite h

theorem flushSource (h : L.Holds s) {id : Nat} : L.Holds (s.flushSource id) := h.flushAtom.ite h

theorem syncSource (h : L.Holds s) {id : Nat} : L.Holds (s.syncSource id) := h.sync.ite h

theorem setTrig (h : L.Holds s) {id : Nat} (hid : id < 512) {st cause : Nat} : L.Holds (s.setTrig id st cause) :=
  have hr := spares_lsrc hid
  h.ite ((h.setRf hr).emit.ite ((h.flushSource.setRf hr).emitOwn.ite (h.flushSource.setRf hr)))

theorem fireAt (h : L.Holds s) {id : Nat} (hid : id < 512) {n : Nat} : L.Holds (s.fireAt id n) :=
  (h.setTrig hid).syncSource.ite ((h.setTrig hid).ite h)

theorem fireAll (h : L.Holds s) {ids : List Nat} (hids : ∀ id ∈ ids, id < 512) {hits : List Nat} : L.Holds (s.fireAll ids hits) :=
  (h.foldl (fun _ _ _ hs => hs.raise)).foldl
    (fun _ id hid hs => hs.foldl (fun _ _ _ hs => (hs.fireAt (hids id hid)).ite hs))

theorem fireOverflow (h : L.Holds s) : L.Holds s.fireOverflow :=
  h.ite (h.fireAll (fun _ hid => List.mem_range.mp (List.mem_of_mem_filter hid)))

theorem bump (h : L.Holds s) {b : PmcBlock} (hb : b.OfMemory) {fuel n k : Nat} : L.Holds (s.bump b fuel n k) := by
  induction fuel generalizing s n k with
  | zero => exact h
  | succ fuel ih =>
    unfold State.bump
    split
    · exact h
    next hn =>
      have hr := spares_cnt hb (Nat.lt_of_not_le hn)
      have hover {u : State} (hu : L.Holds u) : L.Holds (if bit (u.reg (b.sel n)) 45 then u.fireOverflow else u) :=
        hu.fireOverflow.ite hu
      exact (h.setReg hr).ite ((ih (hover ((h.setReg hr).setRf hr))).ite (hover ((h.setReg hr).setRf hr)))

theorem count (h : L.Holds s) {b : PmcBlock} (hb : b.OfMemory) {code k : Nat} {pl : Option Nat} {tids : Option (List Nat)} :
    L.Holds (s.count b code k pl tids) :=
  h.forN (fun _ _ hs => (hs.bump hb).ite hs)

theorem countTrio (h : L.Holds s) {t code : Nat} : L.Holds (s.countTrio t code) := h.count (b := .trio t) True.intro
theorem countDie (h : L.Holds s) {d code : Nat} : L.Holds (s.countDie d code) := h.count (b := .die d) True.intro
theorem countMc (h : L.Holds s) {m code : Nat} : L.Holds (s.countMc m code) := h.count (b := .mc m) True.intro

/-! ### The memory side -/

theorem setPoison (h : L.Holds s) {line : Nat} {b : Bool} : L.Holds (s.setPoison line b) := L.of_eq h rfl rfl rfl

theorem setBytes (h : L.Holds s) {a : Nat} {l : List Byte} : L.Holds (s.setBytes a l) := by
  induction l generalizing s a with
  | nil => exact h
  | cons b l ih => exact ih (s := s.setByte a b) (L.of_eq h rfl rfl rfl)

theorem dramWrite (h : L.Holds s) {line : Nat} {d : LineData} {psn : Bool} : L.Holds (s.dramWrite line d psn) := by
  unfold State.dramWrite
  split
  · exact L.of_eq h rfl rfl rfl
  · exact h.ite h.setBytes.setPoison

theorem mscEvict (h : L.Holds s) {l : MscLine} : L.Holds (s.mscEvict l) := (h.dramWrite.ite h).msc

theorem mscFill (h : L.Holds s) {line tid : Nat} {w : Bool} {d : LineData} {dirty psn : Bool} {age : Nat} :
    L.Holds (s.mscFill line tid w d dirty psn age).1 := by
  unfold State.mscFill
  dsimp only
  split
  · exact h
  · refine msc ?_
    split
    · exact h.mscEvict
    · exact h

theorem mcCharge (h : L.Holds s) {r : Rq} {line : Nat} : L.Holds (s.mcCharge r line).1 :=
  have hlost := (h.incRf spares_mcTstat).countMc
  (h.setRf spares_mcTstat).ite ((hlost.ite hlost.modMc.raise.emitEvent).ite h)

theorem mcEnter (h : L.Holds s) {r : Rq} {line : Nat} : L.Holds (s.mcEnter r line) := h.mcCharge.modMc.countMc

theorem mscMeet (h : L.Holds s) {w : Bool} {line : Nat} : L.Holds (s.mscMeet w line) := by
  unfold State.mscMeet
  split
  · exact h.mscEvict.ite h
  · exact h

theorem memRead (h : L.Holds s) {r : Rq} {line : Nat} {alloc : Bool} : L.Holds (s.memRead r line alloc).1 := by
  have hmeet : L.Holds ((s.mcEnter r line).mscMeet r.w line) := h.mcEnter.mscMeet
  unfold State.memRead
  dsimp only
  refine ite_fst hmeet (ite_fst ?_ (ite_fst hmeet.countMc.mscFill hmeet.countMc))
  split
  · exact hmeet.msc.countMc
  · exact ite_fst hmeet.countMc.mscFill hmeet.countMc

theorem memWriteLine (h : L.Holds s) {tid : Nat} {w : Bool} {line : Nat} {d : LineData} {psn : Bool} :
    L.Holds (s.memWriteLine tid w line d psn) := by
  have hmeet : L.Holds ((s.countMc (chanOf line) 0x03).mscMeet w line) := h.countMc.mscMeet
  unfold State.memWriteLine
  refine hmeet.ite ?_
  split
  · exact hmeet.msc
  · exact (hmeet.mscFill.ite hmeet.mscFill.dramWrite).ite hmeet.dramWrite

theorem memPut (h : L.Holds s) {w : Bool} {line : Nat} {d : LineData} {psn : Bool} : L.Holds (s.memPut w line d psn) := by
  have hmeet : L.Holds ((s.countMc (chanOf line) 0x03).mscMeet w line) := h.countMc.mscMeet
  unfold State.memPut
  refine hmeet.ite ?_
  split
  · exact hmeet.msc
  · exact hmeet.dramWrite

theorem memMerge (h : L.Holds s) {r : Rq} {line : Nat} {d : LineData} {mask : BitVec 64} : L.Holds (s.memMerge r line d mask) :=
  h.mcEnter.memPut

end Lasting.Holds

end Sys2Proof.Machine
end


section
/-! SUPPORT. What the coherence protocol leaves of a lasting property. -/

namespace Sys2Proof.Machine

/-! ### The merging buffer's entries (R114) -/

theorem length_closeUpTo (m : List MergeEntry) (n : Nat) : (closeUpTo m n).length = m.length := by
  induction m generalizing n with
  | nil => rfl
  | cons e m ih =>
    cases n with
    | zero => rfl
    | succ n => exact congrArg Nat.succ (ih n)

theorem closed_closeUpTo {m : List MergeEntry} (h : ∀ e ∈ m, e.isOpen = false) (n : Nat) :
    ∀ e ∈ closeUpTo m n, e.isOpen = false := by
  induction m generalizing n with
  | nil => exact h
  | cons e m ih =>
    obtain ⟨-, hm⟩ := List.forall_mem_cons.mp h
    cases n with
    | zero => exact List.forall_mem_cons.mpr ⟨rfl, hm⟩
    | succ n => exact List.forall_mem_cons.mpr ⟨rfl, ih hm n⟩

theorem Drained.closeUpTo (m : List MergeEntry) (n : Nat) : Drained (closeUpTo m n) m :=
  ⟨Nat.le_of_eq (length_closeUpTo m n), fun h => closed_closeUpTo h n⟩

theorem Drained.trans {m n was : List MergeEntry} (h : Drained m n) (h' : Drained n was) : Drained m was :=
  ⟨h.1.trans h'.1, fun hw => h.2 (h'.2 hw)⟩

theorem Drained.settleMerge (m : List MergeEntry) : Drained (settleMerge m) m := by
  have hlast {n : List MergeEntry} (hn : Drained n m) : Drained (if 6 ≤ n.length then Machine.closeUpTo n 0 else n) m := by
    split
    · exact (Drained.closeUpTo n 0).trans hn
    · exact hn
  unfold Machine.settleMerge
  refine hlast ?_
  split
  · exact Drained.closeUpTo m _
  · exact refl m

theorem Drained.tail (e : MergeEntry) (rest : List MergeEntry) : Drained (Machine.settleMerge rest) (e :: rest) :=
  (Drained.settleMerge rest).trans ⟨Nat.le_succ _, fun h => (List.forall_mem_cons.mp h).2⟩

namespace Lasting.Holds

variable {L : Lasting} {s t : State}

/-! ### Lines and the directory -/

theorem l2Lose (h : L.Holds s) {t line : Nat} : L.Holds (s.l2Lose t line) := by
  unfold State.l2Lose
  exact ite (h.modL2.forN (fun i u hu => hu.modCore (f := fun k => k.loseLine line) (fun _ => rfl))) h.modL2

theorem send (h : L.Holds s) {k : MsgKind} {a line : Nat} : L.Holds (s.send k a line) := h.net
theorem sendData (h : L.Holds s) {k : MsgKind} {a : AgentId} {line : LineAddr} {d : LineData} {psn w1 : Bool} :
    L.Holds (s.sendData k a line d psn w1) := h.net
theorem respondData (h : L.Holds s) {k : MsgKind} {m : Msg} {d : LineData × Bool} : L.Holds (s.respondData k m d) := h.net
theorem taken (h : L.Holds s) {m : Sent} : L.Holds (s.taken m) := h.net
theorem haSync (h : L.Holds s) {n : Nat} : L.Holds (s.haSync n) := (h.setRf spares_haStatus).setRf spares_haStatus
theorem ackHeld (h : L.Holds s) {n : Nat} {m : Msg} : L.Holds (s.ackHeld n m) := h.send.modHome
theorem arbitrated (h : L.Holds s) {n port : Nat} : L.Holds (s.arbitrated n port) := h.setRf spares_haStatus
theorem evictDead (h : L.Holds s) {n a : Nat} : L.Holds (s.evictDead n a) := h.modHome.haSync
theorem poisonLine (h : L.Holds s) {line tid : Nat} : L.Holds (s.poisonLine line tid) := by
  unfold State.poisonLine
  exact (h.msc.setPoison.incRf spares_haStatus).modHome
theorem missDone (h : L.Holds s) {t : Nat} {line : LineAddr} : L.Holds (s.missDone t line) := h.modL2

theorem backInvalidate (h : L.Holds s) {line : Nat} : L.Holds (s.backInvalidate line) := by
  unfold State.backInvalidate
  dsimp only
  split
  · exact h
  · exact (h.foldl (fun _ _ _ hs => hs.send)).modHome.haSync

theorem dirWrite (h : L.Holds s) {line : Nat} {st : DirSt} {agents : List Nat} {tid : Nat} :
    L.Holds (s.dirWrite line st agents tid) := by
  have hroom : L.Holds (if s.dirFull line then s.backInvalidate line else s) := h.backInvalidate.ite h
  unfold State.dirWrite
  refine h.modHome.haSync.ite ?_
  split
  · exact h.modHome.haSync
  · dsimp only
    split
    · exact hroom.modHome.haSync
    · exact hroom

theorem unlist (h : L.Holds s) {a line : Nat} : L.Holds (s.unlist a line) := by
  unfold State.unlist
  dsimp only
  split
  · exact h.ite h.modHome.haSync
  · exact h

theorem disown (h : L.Holds s) {a line : Nat} : L.Holds (s.disown a line) := by
  unfold State.disown
  dsimp only
  split
  · exact h.ite (h.modHome.haSync.ite h.unlist)
  · exact h

/-! ### Snoops and grants -/

theorem snoop (h : L.Holds s) {a : Nat} {k : Snp} {line : Nat} : L.Holds (s.snoop a k line).1 := by
  have hcount : L.Holds (if a ≤ 84 then s.countTrio a 0x04 else s) := h.countTrio.ite h
  unfold State.snoop
  dsimp only
  split
  · exact ite_fst hcount hcount.modL2.fst
  · split
    · exact hcount
    · refine ite_fst hcount.l2Lose ?_
      split
      · exact hcount
      · exact hcount.modL2.fst
      · exact hcount.modL2.fst
      · exact hcount
      · exact hcount.l2Lose
      · exact hcount.l2Lose
      · exact hcount.l2Lose
      · exact hcount.l2Lose
      · exact hcount.l2Lose
      · exact hcount

theorem takeAns (h : L.Holds s) {k : Snp} {line tid : Nat} {w : Bool} {g : Gathered} {a : Nat} {x : Ans} :
    L.Holds (s.takeAns k line tid w g a x).1 := by
  cases x with
  | i => exact h
  | s => exact h
  | fwd d p w1 => exact ite_fst h.memWriteLine (ite_fst h h)
  | dirty d p => exact h.memWriteLine

theorem snoopAll (h : L.Holds s) {line tid : Nat} {w : Bool} {plan : List (Nat × Snp)} :
    L.Holds (s.snoopAll line tid w plan).1 :=
  List.foldlRecOn (motive := fun sg : State × Gathered => L.Holds sg.1) plan _ h (fun _ hs _ _ => hs.snoop.takeAns)

theorem startReclaim (h : L.Holds s) {n a : Nat} : L.Holds (s.startReclaim n a) :=
  h.modHome.ite ((h.modHome.setRf spares_haStatus).setRf spares_haStatus)

theorem resolveEntry (h : L.Holds s) {line a : Nat} : L.Holds (s.resolveEntry line a) := by
  unfold State.resolveEntry
  dsimp only
  split
  · exact h
  · exact ((h.foldl (fun _ _ _ hs => hs.l2Lose)).ite h).poisonLine.modHome.haSync.ite h.unlist

theorem resolveDead (h : L.Holds s) {line : Nat} : L.Holds (s.resolveDead line) := h.foldl (fun _ _ _ hs => hs.resolveEntry)

theorem grantShared (h : L.Holds s) {agent tid line : Nat} {gone : List Nat} : L.Holds (s.grantShared agent tid line gone).1 := by
  unfold State.grantShared
  exact ite_fst h.dirWrite.fst h.dirWrite.fst

/-! ### Lines of an L2 -/

theorem sendWb (h : L.Holds s) {a : Nat} {l : L2Line} : L.Holds (s.sendWb a l) := (h.modL2.countTrio.ite h.modL2).net

theorem l2Evict (h : L.Holds s) {a : Nat} {l : L2Line} : L.Holds (s.l2Evict a l) := h.l2Lose.sendWb.ite h.l2Lose

theorem ioFill (h : L.Holds s) {a : Nat} {l : L2Line} : L.Holds (s.ioFill a l) := by
  unfold State.ioFill
  refine modL2 (ite ?_ h)
  split
  · exact h.l2Evict
  · exact h

theorem l2Fill (h : L.Holds s) {t : Nat} {r : Rq} {line : Nat} {d : LineData} {psn : Bool} {st : LState} {age : Nat} :
    L.Holds (s.l2Fill t r line d psn st age).1 := by
  unfold State.l2Fill
  refine ite_fst h.ioFill ?_
  dsimp only
  split
  · exact h
  · refine fst (modL2 ?_)
    split
    · exact h.l2Evict
    · exact h

theorem l2Put (h : L.Holds s) {t c line : Nat} {d : LineData} {mask : BitVec 64} {st : LState} :
    L.Holds (s.l2Put t c line d mask st) :=
  h.modL2.forN (fun _ _ hs => hs.ite (hs.modCore (fun _ => rfl)))

theorem l2Store (h : L.Holds s) {t c : Nat} {r : Rq} {ty : MemType} {line : Nat} {d : LineData} {mask : BitVec 64} :
    L.Holds (s.l2Store t c r ty line d mask) := by
  unfold State.l2Store
  refine ite ?_ h.l2Put
  dsimp only
  split
  · exact h.l2Put.mcEnter.memPut
  · exact h.l2Put

theorem dropTagged (h : L.Holds s) {t line : Nat} : L.Holds (s.dropTagged t line) := by
  unfold State.dropTagged
  split
  · exact h.l2Evict
  · exact h

theorem ringCount (h : L.Holds s) {t : Nat} {res : Bool} : L.Holds (s.ringCount t res) :=
  (countDie (L.trio _ _ h rfl)).ite h

/-! ### Transactions -/

theorem grant (h : L.Holds s) {x : Txn} : L.Holds (s.grant x) := by
  unfold State.grant
  dsimp only
  split
  · exact h.respondData.ite h.grantShared.respondData
  · exact h.dirWrite.memMerge.net.ite h.dirWrite.respondData
  · exact h.dirWrite.net.ite h.dirWrite.memRead.respondData

theorem answerDead (h : L.Holds s) {n : Nat} {x : Txn} : L.Holds (s.answerDead n x).1 :=
  List.foldlRecOn (motive := fun sx : State × Txn => L.Holds sx.1) _ _ h (fun _ hs _ _ => ite_fst hs.resolveEntry hs)

theorem tryFinish (h : L.Holds s) {n : Nat} {line : LineAddr} : L.Holds (s.tryFinish n line) := by
  unfold State.tryFinish
  split
  · exact h
  next x _ =>
    have hdead : L.Holds (s.answerDead n x).1 := h.answerDead
    exact hdead.modHome.ite (hdead.modHome.modHome.grant.foldl (fun _ _ _ hs => hs.ackHeld))

theorem finishAll (h : L.Holds s) {n : Nat} : L.Holds (s.finishAll n) := h.foldl (fun _ _ _ hs => hs.tryFinish)

theorem beginTxn (h : L.Holds s) {n : Nat} {q : HomeReq} : L.Holds (s.beginTxn n q) := by
  unfold State.beginTxn
  dsimp only
  refine ite (ite (L.of_eq h.modL2 rfl rfl rfl) h.modL2) (tryFinish (modHome ?_))
  have hsent {l : List (Nat × Snp)} :
      L.Holds (l.foldl (fun s p => s.send p.2.msg p.1 q.msg.line.toNat) (s.resolveDead q.msg.line.toNat)) :=
    h.resolveDead.foldl (fun _ _ _ hs => hs.send)
  exact ite (ite_fst hsent.memRead hsent.fst).send (ite_fst hsent.memRead hsent.fst)

theorem accept (h : L.Holds s) {n : Nat} {q : HomeReq} (e : s.accept n q = some t) : L.Holds t := by
  unfold State.accept at e
  dsimp only at e
  split at e
  · cases e
  · obtain rfl := Option.some.inj e
    exact h.arbitrated.modHome.modHome.ite h.arbitrated.modHome.beginTxn

theorem chainBegin (h : L.Holds s) {line : LineAddr} (e : s.chainBegin line = some t) : L.Holds t := by
  unfold State.chainBegin at e
  dsimp only at e
  split at e
  · cases e
  · obtain ⟨q, _, rfl⟩ := Option.map_eq_some_iff.mp e
    exact h.modHome.beginTxn

/-! ### What an arriving message does -/

theorem memIn (h : L.Holds s) {m : Sent} : L.Holds (s.memIn m) := by
  unfold State.memIn
  dsimp only
  split
  · exact h.taken
  · exact h.taken.modHome.tryFinish

theorem snoopIn (h : L.Holds s) {k : Snp} {m : Sent} : L.Holds (s.snoopIn k m) := by
  unfold State.snoopIn
  exact h.taken.modL2

theorem answerSnoop (h : L.Holds s) {a : AgentId} {line : LineAddr} : L.Holds (s.answerSnoop a line) := by
  unfold State.answerSnoop
  split
  · exact h
  next p _ =>
    have hs := (h.modL2 (a := a.val) (f := fun k => { k with answers := k.answers.erase p })).snoop
      (a := a.val) (k := p.2) (line := line.toNat)
    dsimp only
    split
    next e => rw [e] at hs; exact hs.send
    next e => rw [e] at hs; exact hs.send
    next e => rw [e] at hs; exact hs.sendData
    next e => rw [e] at hs; exact hs.sendData

theorem answered (h : L.Holds s) {m : Sent} {x : Ans} : L.Holds (s.answered m x) := by
  unfold State.answered
  dsimp only
  split
  · refine tryFinish (modHome (foldl ?_ (fun _ _ _ hs => hs.ackHeld)))
    exact h.taken.takeAns.unlist.ite h.taken.takeAns
  · split
    · exact h.taken
    · exact (h.taken.takeAns.foldl (fun _ _ _ hs => hs.ackHeld)).modHome.haSync.finishAll

theorem writeBack (h : L.Holds s) {a : Nat} {m : Msg} : L.Holds (s.writeBack a m) := h.memWriteLine.disown.ite h

theorem wbIn (h : L.Holds s) {m : Msg} : L.Holds (s.wbIn m) := h.modHome.ite (h.modHome.ite h.writeBack.send)

theorem ackIn (h : L.Holds s) {m : Sent} : L.Holds (s.ackIn m) := h.taken.modL2

/-- The head of a merging buffer leaves it. -/
theorem popHead (h : L.Holds s) {c : Nat} {e : MergeEntry} {rest : List MergeEntry} (hm : (s.core c).merge = e :: rest) :
    L.Holds (s.modCore c (fun k => { k with merge := settleMerge rest })) :=
  L.core c _ h ⟨rfl, rfl, rfl, rfl, rfl, hm ▸ Drained.tail e rest⟩

theorem performHeads (h : L.Holds s) {t line : Nat} : L.Holds (s.performHeads t line) := by
  unfold State.performHeads
  refine h.ite (h.forN (fun i u hu => ?_))
  dsimp only
  split
  next e rest l hm _ => exact (hu.popHead hm).l2Store.ite hu
  · exact hu

theorem dataIn (h : L.Holds s) {x : Sent} {st : LState} : L.Holds (s.dataIn x st) := by
  unfold State.dataIn
  refine h.taken.ite (missDone (performHeads ?_))
  split
  · exact h.taken.modL2
  · have hfill : L.Holds (if 84 < x.agent.val || (s.taken x).l2Room x.agent.val { agent := x.agent.val, tid := x.tid.val, w := x.w } then
        (s.taken x).l2Fill x.agent.val { agent := x.agent.val, tid := x.tid.val, w := x.w } x.line.toNat x.data x.psn st
          (if x.h then 3 else 0) else (s.taken x, false)).1 := ite_fst h.taken.l2Fill h.taken.fst
    exact hfill.ite hfill.sendWb

theorem cmpIn (h : L.Holds s) {x : Sent} : L.Holds (s.cmpIn x) := h.taken.ite h.taken.modL2.performHeads.missDone

theorem noticeIn (h : L.Holds s) {m : Sent} : L.Holds (s.noticeIn m) :=
  h.taken.modHome.ite h.taken.modHome.modHome.startReclaim.evictDead.finishAll

theorem deliver (h : L.Holds s) {m : Sent} : L.Holds (s.deliver m) := by
  unfold State.deliver
  split
  · exact h.snoopIn
  · exact h.snoopIn
  · exact h.snoopIn
  · exact h.answered
  · exact h.answered
  · exact h.answered
  · exact h.answered
  · exact h.dataIn
  · exact h.dataIn
  · exact h.dataIn
  · exact h.cmpIn
  · exact h.ackIn
  · exact h.taken.wbIn
  · exact h.memIn
  · exact h.noticeIn

theorem bringIn (h : L.Holds s) {m : Sent} : L.Holds (s.bringIn m) := by
  unfold State.bringIn
  refine ite ?_ h.deliver
  split
  · exact h.answerSnoop
  · exact h.deliver

/-! ### What is in progress on a line completes -/

theorem lineStep (h : L.Holds s) {line : LineAddr} (e : s.lineStep line = some t) : L.Holds t := by
  unfold State.lineStep at e
  dsimp only at e
  split at e
  · obtain rfl := Option.some.inj e
    exact h.answerSnoop
  · split at e
    · obtain rfl := Option.some.inj e
      exact h.bringIn
    · obtain ⟨m, _, rfl⟩ := Option.map_eq_some_iff.mp e
      exact h.bringIn

theorem settleStep (h : L.Holds s) {line : LineAddr} (e : s.settleStep line = some t) : L.Holds t := by
  unfold State.settleStep at e
  split at e
  next e' => cases e; exact h.lineStep e'
  · dsimp only at e
    split at e
    next e' => cases e; exact h.chainBegin e'
    · exact h.lineStep e
    · cases e

theorem settleN (h : L.Holds s) {line : LineAddr} {n : Nat} : L.Holds (s.settleN line n) := by
  induction n generalizing s with
  | zero => exact h
  | succ n ih =>
    unfold State.settleN
    split
    next e => exact ih (h.settleStep e)
    · exact h

theorem settleLine (h : L.Holds s) {line : Nat} : L.Holds (s.settleLine line) := h.settleN

theorem passArbiter (h : L.Holds s) {n : Nat} {own : HomeReq} {fuel : Nat} : L.Holds (s.passArbiter n own fuel) := by
  induction fuel generalizing s with
  | zero => exact h.arbitrated
  | succ fuel ih =>
    unfold State.passArbiter
    split
    · exact h.arbitrated
    · refine h.arbitrated.ite ?_
      split
      next e => exact ih (h.accept e)
      · exact h.arbitrated

theorem turnAt (h : L.Holds s) {r : Rq} {line : Nat} : L.Holds (s.turnAt r line) := h.settleLine.passArbiter.settleLine

/-! ### Uncached writes, and frames being filled -/

theorem ncWriteNow (h : L.Holds s) {r : Rq} {line : Nat} {d : LineData} {mask : BitVec 64} : L.Holds (s.ncWriteNow r line d mask) :=
  h.resolveDead.snoopAll.dirWrite.memMerge

theorem entryNow (h : L.Holds s) {ea : Nat} : L.Holds (s.entryNow ea).1 := by
  unfold State.entryNow
  exact h.resolveDead.snoopAll.dirWrite.fst

theorem putEntry (h : L.Holds s) {r : Rq} {ea : Nat} {d : Dword} : L.Holds (s.putEntry r ea d) := h.memMerge

theorem zeroFill (h : L.Holds s) {t frame : Nat} : L.Holds (s.zeroFill t frame) := h.forN (fun _ _ hs => hs.turnAt.ncWriteNow)

theorem allocInstall (h : L.Holds s) {t ea frame : Nat} {store : Bool} : L.Holds (s.allocInstall t ea frame store).1 := by
  have hnow := h.entryNow (ea := ea)
  unfold State.allocInstall
  exact hnow.putEntry

theorem eraseFill {r : State × Dword × Dword} (h : L.Holds r.1) {z : ZeroFill} :
    L.Holds (({ r.1 with fills := r.1.fills.erase z }, r.2) : State × Dword × Dword).1 := L.of_eq h rfl rfl rfl

theorem fillDone (h : L.Holds s) {z : ZeroFill} : L.Holds (s.fillDone z).1 := h.zeroFill.allocInstall.eraseFill

theorem fillEnds (h : L.Holds s) {z : ZeroFill} : L.Holds (s.fillEnds z) := h.fillDone.answer.foldl (fun _ _ _ hs => hs.answer)

theorem calm (h : L.Holds s) {line : Nat} : L.Holds (s.calm line) := by
  unfold State.calm
  dsimp only
  split
  · exact h.settleLine
  · exact (h.settleLine.foldl (fun _ _ _ hs => hs.fillEnds)).settleLine

theorem turn (h : L.Holds s) {r : Rq} {line : Nat} : L.Holds (s.turn r line) := h.calm.turnAt.calm

theorem ncWrite (h : L.Holds s) {r : Rq} {line : Nat} {d : LineData} {mask : BitVec 64} : L.Holds (s.ncWrite r line d mask).1 := by
  unfold State.ncWrite
  exact ite_fst h.turn.fst (ite_fst h.turn.fst h.turn.ncWriteNow.fst)

end Lasting.Holds

end Sys2Proof.Machine
end


section
/-! SUPPORT. What fault records, requests of a trio and a draining buffer leave of a lasting property. -/

namespace Sys2Proof.Machine

namespace Lasting.Holds

variable {L : Lasting} {s t : State}

/-! ### Records -/

theorem stage (h : L.Holds s) {a : Nat} {r : List Dword} (e : s.stage a r = some t) : L.Holds t := by
  unfold State.stage at e
  dsimp only at e
  split at e
  · obtain rfl := Option.some.inj e
    exact L.of_eq h rfl rfl rfl
  · cases e

theorem soleSys (h : L.Holds s) {a : Nat} {r : List Dword} : L.Holds (s.soleSys a r) := by
  unfold State.soleSys
  refine (h.incRf spares_soleStatR).ite ?_
  split
  next e => exact h.stage e
  · exact (h.incRf spares_soleStatR).modArea

theorem refill (h : L.Holds s) {n : Nat} : L.Holds (s.refill n) := by
  unfold State.refill
  exact h.modArea

theorem takeToken (h : L.Holds s) {n : Nat} : L.Holds (s.takeToken n) := by
  unfold State.takeToken
  exact h.modArea

theorem suppress (h : L.Holds s) {n : Nat} (hn : n ≤ 31) : L.Holds (s.suppress n) := (h.incRf (spares_soleRate hn)).modArea

theorem soleTenant (h : L.Holds s) {n : Nat} (hn : n ≤ 31) {r : List Dword} : L.Holds (s.soleTenant n r) := by
  have hfill : L.Holds (s.refill n) := h.refill
  have hnote {u : State} (hu : L.Holds u) : L.Holds (match u.stage n r with | some u => u.takeToken n | none => u.suppress n) := by
    split
    next e => exact (hu.stage e).takeToken
    · exact hu.suppress hn
  unfold State.soleTenant
  refine (h.incRf spares_soleStatR).ite ((hfill.suppress hn).ite (hnote (ite ?_ hfill)))
  split
  next e => exact (hfill.stage e).takeToken.modArea
  · exact hfill

theorem soleRec (h : L.Holds s) {tid : Nat} {r : List Dword} : L.Holds (s.soleRec tid r) := by
  unfold State.soleRec
  split
  next hn => exact h.soleTenant hn.2
  · exact h.soleSys

theorem notify (h : L.Holds s) {tid n ev : Nat} : L.Holds (s.notify tid n ev) := by
  unfold State.notify
  split
  · exact h.post
  · exact h.incRf spares_cxeTstat

theorem fqPut (h : L.Holds s) {q : Nat} (hq : q ≤ 32) {r : List Dword} : L.Holds (s.fqPut q r) := by
  have hseq {g : Gce} : L.Holds { s with gce := g } := L.of_eq h rfl rfl rfl
  have hput {u : State} (hu : L.Holds u) {g : Gce} {p : Prop} [Decidable p] : L.Holds (if p then { u with gce := g } else u) :=
    ite (L.of_eq hu rfl rfl rfl) hu
  have hr := spares_fqIdx hq
  unfold State.fqPut
  exact ite (hseq.incRf hr) (ite (hput (hseq.ncWrite.setRf hr)).raise (hput (hseq.ncWrite.setRf hr)))

theorem record (h : L.Holds s) {queues : List Nat} (hq : ∀ q ∈ queues, q ≤ 32) {tid : Nat} {r : List Dword} :
    L.Holds (s.record queues tid r) :=
  (h.foldl (fun _ q hm hs => hs.fqPut (hq q hm))).soleRec

/-- A tenant's record goes to its own queue, and that of TID 0 to queue 32 too. -/
theorem queuesOf_le {tid : Nat} (ht : tid < 32) {pm : Bool} : ∀ q ∈ queuesOf tid pm, q ≤ 32 := by
  unfold queuesOf
  split <;> simp <;> omega

theorem tidRecord (h : L.Holds s) {tid cause sub kind : Nat} (ht : tid < 32) {p : List Dword} :
    L.Holds (s.tidRecord tid cause sub kind p) :=
  (h.record (queuesOf_le ht)).notify.ite (h.record (queuesOf_le ht))

/-! ### Requests of a trio -/

theorem dirRoom (h : L.Holds s) {line : Nat} : L.Holds (s.dirRoom line) := by
  unfold State.dirRoom
  dsimp only
  split
  · exact h.settleLine.ite h
  · exact h

theorem rdOwn (h : L.Holds s) {r : Rq} {line : Nat} : L.Holds (s.rdOwn r line).1 := by
  unfold State.rdOwn
  exact ite_fst h.turn.fst h.turn.resolveDead.snoopAll.memRead.dirRoom.dirWrite.fst

theorem upgrade (h : L.Holds s) {r : Rq} {line : Nat} : L.Holds (s.upgrade r line).1 := by
  unfold State.upgrade
  refine ite_fst h.turn.fst ?_
  exact ite_fst h.turn.resolveDead.snoopAll.dirRoom.dirWrite.fst h.turn.resolveDead.snoopAll.dirRoom.dirWrite.memRead.fst

theorem l2Touch (h : L.Holds s) {t line : Nat} : L.Holds (s.l2Touch t line) := h.modL2

theorem missWait (h : L.Holds s) {t : Nat} : L.Holds (s.missWait t) := by
  refine h.forN (fun _ _ hs => ?_)
  split
  · exact hs.ite hs.calm
  · exact hs

theorem storePast (h : L.Holds s) {t : Nat} {r : Rq} {line : Nat} {d : LineData} {mask : BitVec 64} :
    L.Holds (s.storePast t r line d mask).1 := h.dropTagged.ringCount.ncWrite

theorem ownedStore (h : L.Holds s) {t c : Nat} {r : Rq} {ty : MemType} {line : Nat} {d : LineData} {mask : BitVec 64} {dirty : Bool} :
    L.Holds (s.ownedStore t c r ty line d mask dirty) := h.l2Put.memMerge.ite h.l2Store

/-- A line that its L2 has a way for takes the store; else the store goes past the L2. -/
theorem filled {f : State × Bool} (h : L.Holds f.1) {t c : Nat} {r : Rq} {ty : MemType} {line : Nat} {d old : LineData}
    {mask : BitVec 64} :
    L.Holds (if f.2 then (f.1.ownedStore t c r ty line d mask true, .ok old) else f.1.ncWrite r line d mask).1 :=
  ite_fst h.ownedStore.fst h.ncWrite

theorem storeMiss (h : L.Holds s) {t c : Nat} {r : Rq} {ty : MemType} {line : Nat} {d : LineData} {mask : BitVec 64} :
    L.Holds (s.storeMiss t c r ty line d mask).1 := by
  have hdrop : L.Holds ((((s.calm line).dropTagged t line).calm line).ringCount t r.res) := h.calm.dropTagged.calm.ringCount
  have hown := hdrop.rdOwn (r := r) (line := line)
  unfold State.storeMiss
  refine ite_fst h.calm.fst (ite_fst ?_ hdrop.ncWrite)
  split
  next e => rw [e] at hown; exact hown.fst
  next e => rw [e] at hown; exact hown.l2Fill.filled

theorem drainBytes (h : L.Holds s) {t c : Nat} {r : Rq} {ty : MemType} {line : Nat} {d : LineData} {mask : BitVec 64} :
    L.Holds (s.drainBytes t c r ty line d mask).1 := by
  unfold State.drainBytes
  refine ite_fst (ite_fst h.calm.fst h.calm.storePast) ?_
  extract_lets owns u
  have hu : L.Holds u := by
    simp only [u]
    split
    · exact h.ite h.missWait.calm
    · exact h.missWait.calm
  clear_value u
  split
  · exact hu.storeMiss
  · refine ite_fst hu.l2Touch.ownedStore.fst ?_
    have hup := hu.l2Touch (t := t) (line := line) |>.upgrade (r := r) (line := line)
    split
    next e => rw [e] at hup; exact hup.fst
    next e =>
      rw [e] at hup
      split
      · exact hup.ownedStore.fst
      · exact hup.modL2.ownedStore.fst
      · exact hup.l2Fill.filled

/-! ### Remote accesses -/

theorem inject (h : L.Holds s) {i cls : Nat} {head : Word} : L.Holds (s.inject i cls head).1 := by
  have hcount {u : State} (hu : L.Holds u) {l : Links} : L.Holds { u with links := l } := L.of_eq hu rfl rfl rfl
  have hlfsr {p : Prop} [Decidable p] {v : Nat} : L.Holds (if p then s.setRf (fiCtlR i) 47 32 v else s) := (h.setRf spares_fiCtlR).ite h
  unfold State.inject
  refine ite_fst h.fst (ite_fst ?_ (hcount hlfsr).fst)
  exact fst (ite ((hcount hlfsr).incRf spares_fiCntR) (((hcount hlfsr).incRf spares_fiCntR).setRf spares_fiCtlR))

theorem sendXl (h : L.Holds s) {k : Nat} {kind : XKind} {data : List Dword} : L.Holds (s.sendXl k kind data) := by
  have hin := h.inject (i := 12 + k) (cls := kind.cls) (head := Config.xlHead kind.num data)
  unfold State.sendXl
  dsimp only
  split
  · exact hin.modXl
  · exact hin.modXl.ite hin.modXl

theorem remoteSend (h : L.Holds s) {k c tid pa : Nat} {store : Bool} {data : List Dword} :
    L.Holds (s.remoteSend k c tid pa store data) := by
  unfold State.remoteSend
  split
  · exact h.modXl.sendXl
  · exact h

/-! ### A merging buffer drains -/

theorem postedFail (h : L.Holds s) {tid pa cause sub : Nat} (ht : tid < 32) : L.Holds (s.postedFail tid pa cause sub) :=
  h.tidRecord ht

theorem drainEntry (h : L.Holds s) {c : Nat} {e : MergeEntry} : L.Holds (s.drainEntry c e) := by
  have ht : e.tid.val < 32 := e.tid.isLt
  unfold State.drainEntry
  dsimp only
  split
  · have hd := h.drainBytes (t := trioOf c) (c := c) (r := s.rq c e.tid.val e.w e.line.toNat false) (ty := e.ty)
      (line := e.line.toNat) (d := e.data) (mask := e.mask)
    split
    next q => rw [q] at hd; exact hd
    next q => rw [q] at hd; exact hd.postedFail ht
    next q => rw [q] at hd; exact hd.postedFail ht
  · exact h.modCore (fun _ => rfl)
  · exact h.modCore (fun _ => rfl)
  · split
    · exact h.remoteSend
    · exact h.postedFail ht
  · exact h.postedFail ht
  · exact h.postedFail ht
  · exact h.postedFail ht

theorem drainFirst (h : L.Holds s) {c : Nat} : L.Holds (s.drainFirst c) := by
  unfold State.drainFirst
  split
  · exact h
  next hm => exact h.ite (h.popHead hm).drainEntry

end Lasting.Holds

end Sys2Proof.Machine
end


section
/-! SUPPORT. A change of world (R96, R99): obligation O29. -/

namespace Sys2Proof.Machine

/-! ### A merging buffer empties -/

theorem Core.Served.refl (k : Core) : k.Served k := ⟨rfl, rfl, rfl, rfl, rfl, Drained.refl _⟩

theorem Core.Served.trans {k j was : Core} (h : k.Served j) (h' : j.Served was) : k.Served was :=
  ⟨h.arch.trans h'.arch, h.own.trans h'.own, h.ctx.trans h'.ctx, h.dirTab.trans h'.dirTab, h.btb.trans h'.btb, h.merge.trans h'.merge⟩

/-- The memory system has served core `c` since state `was`. -/
structure ServedSince (was : State) (c : Nat) (s : State) : Prop where
  core : (s.core c).Served (was.core c)
  slots : ∀ t, (s.trio t).slots = (was.trio t).slots
  secCtl : s.reg secCtlR = was.reg secCtlR

theorem ServedSince.refl (s : State) (c : Nat) : ServedSince s c s := ⟨Core.Served.refl _, fun _ => rfl, rfl⟩

/-- That a core has only been served lasts. -/
def servedSince (was : State) (c : Nat) : Lasting where
  Holds := ServedSince was c
  of_eq := by
    intro s t h hc ht hm
    refine ⟨?_, fun n => ?_, ?_⟩
    · rw [State.core, hc]; exact h.core
    · rw [State.trio, ht]; exact h.slots n
    · rw [State.reg, hm]; exact h.secCtl
  core := by
    intro s x f h hf
    refine ⟨?_, h.slots, h.secCtl⟩
    by_cases hx : c = x
    · subst hx; rw [State.core_modCore]; exact hf.trans h.core
    · rw [State.core_modCore_other s f hx]; exact h.core
  trio := by
    intro s x f h hf
    refine ⟨h.core, fun n => ?_, h.secCtl⟩
    by_cases hn : n = x
    · subst hn; rw [State.trio_modTrio, hf]; exact h.slots n
    · rw [State.trio_modTrio_other s f hn]; exact h.slots n
  reg := by
    intro s r v h hr
    exact ⟨h.core, h.slots, (State.reg_setReg_other s v (Ne.symm hr)).trans h.secCtl⟩

theorem ServedSince.drainFirst (s : State) (c : Nat) : ServedSince s c (s.drainFirst c) :=
  Lasting.Holds.drainFirst (L := servedSince s c) (ServedSince.refl s c)

/-- The oldest entry of a closed buffer leaves it. -/
theorem length_drainFirst {s : State} {c : Nat} (hc : ∀ e ∈ (s.core c).merge, e.isOpen = false) :
    ((s.drainFirst c).core c).merge.length ≤ (s.core c).merge.length - 1 := by
  unfold State.drainFirst
  split
  next hm => simp [hm]
  next e rest hm =>
    rw [hm] at hc ⊢
    rw [if_neg (by simp [hc e List.mem_cons_self])]
    let popped := s.modCore c (fun k => { k with merge := settleMerge rest })
    have hpop : (popped.core c).merge = settleMerge rest := congrArg Core.merge (State.core_modCore s c _)
    have hserved := Lasting.Holds.drainEntry (L := servedSince popped c) (ServedSince.refl popped c) (c := c) (e := e)
    calc ((popped.drainEntry c e).core c).merge.length
        ≤ (popped.core c).merge.length := hserved.core.merge.1
      _ = (settleMerge rest).length := congrArg List.length hpop
      _ ≤ rest.length := (Drained.settleMerge rest).1

/-- As many drains as a closed buffer has entries empty it. -/
theorem merge_drains {c : Nat} (l : List MergeEntry) (s : State) (hc : ∀ e ∈ (s.core c).merge, e.isOpen = false)
    (hl : (s.core c).merge.length ≤ l.length) : ((l.foldl (fun s _ => s.drainFirst c) s).core c).merge = [] := by
  induction l generalizing s with
  | nil => exact List.length_eq_zero_iff.mp (Nat.le_zero.mp hl)
  | cons x l ih =>
    have hshort := length_drainFirst hc
    exact ih (s.drainFirst c) ((ServedSince.drainFirst s c).core.merge.2 hc) (by rw [List.length_cons] at hl; omega)

theorem closed_closeAll (k : Core) : ∀ e ∈ k.closeAll.merge, e.isOpen = false := by
  intro e he
  obtain ⟨_, _, rfl⟩ := List.mem_map.mp he
  rfl

theorem Core.served_closeAll (k : Core) : k.closeAll.Served k :=
  ⟨rfl, rfl, rfl, rfl, rfl, Nat.le_of_eq (List.length_map _), fun _ => closed_closeAll k⟩

theorem merge_drainMerge (s : State) (c : Nat) : ((s.drainMerge c).core c).merge = [] :=
  merge_drains _ _ (by rw [State.core_modCore]; exact closed_closeAll _) (Nat.le_refl _)

theorem ServedSince.drainMerge (s : State) (c : Nat) : ServedSince s c (s.drainMerge c) :=
  Lasting.Holds.foldl (L := servedSince s c) ((servedSince s c).core c Core.closeAll (refl s c) (Core.served_closeAll _))
    (fun _ _ _ hs => Lasting.Holds.drainFirst hs)

/-! ### The caches clear, and the new world's switch shows -/

/-- The key of the world that core `c` is in (R96). -/
def State.worldKey (s : State) (c : Nat) : Word :=
  if (s.core c).w then Config.sealedKey
  else match (s.core c).ctx with
    | some n => BitVec.ofNat 32 (s.slot (trioOf c) n.val).pkey
    | none => 0

/-- The prediction switch of that world (R96). -/
def State.worldPred (s : State) (c : Nat) : Bool :=
  if (s.core c).w then bit (s.reg secCtlR) 20
  else match (s.core c).ctx with
    | some n => (s.slot (trioOf c) n.val).preden
    | none => false

/-- What leaves a core at a change of world, and its new key. -/
def Core.cleared (k : Core) (key : Word) : Core :=
  { k with l1i := [], l1d := [], ras := [], streams := [], fbuf := none, key := key }

/-- What a halt asked for may change of a core. -/
theorem core_askHalt (s : State) (c : Nat) : ∃ w b, (s.askHalt c).core c = { s.core c with haltWait := w, halted := b } := by
  unfold State.askHalt
  dsimp only
  split
  · exact ⟨false, (s.core c).halted, State.core_modCore s c (fun k => { k with haltWait := false })⟩
  · exact ⟨false, true, by rw [State.core_modCore, State.core_modCore]⟩

theorem slots_askHalt (s : State) (c t : Nat) : ((s.askHalt c).trio t).slots = (s.trio t).slots := by
  unfold State.askHalt
  dsimp only
  split
  · by_cases ht : t = trioOf c
    · subst ht; rw [State.trio_modTrio]; rfl
    · rw [State.trio_modTrio_other _ _ ht]; rfl
  · rfl

theorem reg_askHalt (s : State) (c : Nat) (r : RegRef) : (s.askHalt c).reg r = s.reg r := by
  unfold State.askHalt
  dsimp only
  split <;> rfl

theorem core_setPred (s : State) (c : Nat) :
    (s.setPred c).core c = (s.core c).setCsr 0x100 (setBit (s.core c).cstat 7 (s.worldPred c)) := by
  have hbit : decide (s.rf ⟨.secCtl, 0, 0, 0⟩ 20 20 = 1) = bit (s.reg secCtlR) 20 := by
    rw [State.rf, fld_bit, secCtlR]
    cases bit (s.reg ⟨.secCtl, 0, 0, 0⟩) 20 <;> rfl
  unfold State.worldPred
  rw [← hbit]
  exact State.core_setCore s c _

/-- The drained core with its caches invalid, its return stack and streams empty, and the key of its world. -/
def State.clearCore (s : State) (c : Nat) : State := s.modCore c (fun k => k.cleared (s.worldKey c))

/-- A halt that waits for W = 0 is made where the core is in it (R310). -/
def State.haltOpen (s : State) (c : Nat) : State := if !(s.core c).w && (s.core c).haltWait then s.askHalt c else s

theorem changeWorld_eq (s : State) (c : Nat) : s.changeWorld c = ((((s.drainMerge c).clearCore c)).haltOpen c).setPred c := rfl

theorem core_haltOpen (s : State) (c : Nat) : ∃ w b, (s.haltOpen c).core c = { s.core c with haltWait := w, halted := b } := by
  unfold State.haltOpen
  split
  · exact core_askHalt s c
  · exact ⟨(s.core c).haltWait, (s.core c).halted, rfl⟩

theorem slot_haltOpen (s : State) (c t n : Nat) : (s.haltOpen c).slot t n = s.slot t n := by
  unfold State.haltOpen
  split
  · rw [State.slot, slots_askHalt]; rfl
  · rfl

theorem reg_haltOpen (s : State) (c : Nat) (r : RegRef) : (s.haltOpen c).reg r = s.reg r := by
  unfold State.haltOpen
  split
  · exact reg_askHalt s c r
  · rfl

theorem worldPred_haltOpen (s : State) (c : Nat) : (s.haltOpen c).worldPred c = s.worldPred c := by
  obtain ⟨w, b, hk⟩ := core_haltOpen s c
  unfold State.worldPred
  simp only [hk, slot_haltOpen, reg_haltOpen]
  rfl

theorem core_clearCore (s : State) (c : Nat) : (s.clearCore c).core c = (s.core c).cleared (s.worldKey c) := State.core_modCore s c _

theorem worldPred_clearCore (s : State) (c : Nat) : (s.clearCore c).worldPred c = s.worldPred c := by
  unfold State.worldPred
  rw [core_clearCore]
  rfl

/-- The core after a change of world: the drained core, cleared, with its prediction switch. -/
theorem core_changeWorld (s : State) (c : Nat) : ∃ w b,
    let d := s.drainMerge c
    let k : Core := { (d.core c).cleared (d.worldKey c) with haltWait := w, halted := b }
    (s.changeWorld c).core c = k.setCsr 0x100 (setBit k.cstat 7 (d.worldPred c)) := by
  obtain ⟨w, b, hk⟩ := core_haltOpen ((s.drainMerge c).clearCore c) c
  refine ⟨w, b, ?_⟩
  rw [changeWorld_eq, core_setPred, worldPred_haltOpen, worldPred_clearCore, hk, core_clearCore]

/-! ### The drain keeps what the key and the switch rest on -/

section
variable {s d : State} {c : Nat} (h : ServedSince s c d)
include h

theorem ServedSince.w : (d.core c).w = (s.core c).w := by
  rw [Core.w, Core.w, Core.cstat, Core.cstat, Core.csr, Core.csr, h.core.arch, h.core.own]

theorem ServedSince.pl : (d.core c).pl = (s.core c).pl := by
  rw [Core.pl, Core.pl, Core.cstat, Core.cstat, Core.csr, Core.csr, h.core.arch, h.core.own]

theorem ServedSince.worldKey : d.worldKey c = s.worldKey c := by
  simp only [State.worldKey, h.w, h.core.ctx, State.slot, h.slots]

theorem ServedSince.worldPred : d.worldPred c = s.worldPred c := by
  simp only [State.worldPred, h.w, h.core.ctx, State.slot, h.slots, h.secCtl]

end

/-- A new prediction switch in `CSTAT` leaves the world and the level. -/
theorem setCsr_pred (k : Core) (p : Bool) : let t := k.setCsr 0x100 (setBit k.cstat 7 p)
    t.w = k.w ∧ t.pl = k.pl ∧ t.pred = p := by
  dsimp only
  rw [Core.w, Core.pl, Core.pred, Core.cstat, Core.csr_setCsr_same]
  refine ⟨?_, ?_, ?_⟩
  · rw [bit_setBit _ _ _ _ (by decide), if_neg (by decide)]; rfl
  · rw [setBit, fld_setFld_other _ _ _ _ _ _ (by decide) (by decide)]; rfl
  · rw [bit_setBit _ _ _ _ (by decide), if_pos rfl]

/-- Settles O29: the buffer's entries drain one by one, which leaves what the core's code works with; then the caches clear and
`setPred` writes one bit of `CSTAT`. -/
theorem changeOfWorld : Obligations.ChangeOfWorld := by
  intro s c
  have hd := ServedSince.drainMerge s c
  have hempty := merge_drainMerge s c
  obtain ⟨w, b, hk⟩ := core_changeWorld s c
  dsimp only at hk ⊢
  rw [hd.worldKey, hd.worldPred] at hk
  generalize (s.changeWorld c).core c = t at hk ⊢
  generalize s.drainMerge c = d at hd hempty hk
  subst hk
  have hregs : (d.core c).arch.regs = (s.core c).arch.regs := congrArg Arch.regs hd.core.arch
  have hpc : (d.core c).arch.pc = (s.core c).arch.pc := congrArg Arch.pc hd.core.arch
  obtain ⟨hw, hpl, hpred⟩ := setCsr_pred { (d.core c).cleared (s.worldKey c) with haltWait := w, halted := b } (s.worldPred c)
  refine ⟨hempty, rfl, rfl, rfl, rfl, hd.core.dirTab, hd.core.btb, hregs, hpc,
    hw.trans hd.w, hpl.trans hd.pl, fun hs => ⟨?_, ?_⟩, fun n ho hn => ⟨?_, ?_⟩⟩
  · show s.worldKey c = _
    rw [State.worldKey, if_pos hs]
  · rw [hpred, State.worldPred, if_pos hs, bit]
  · show s.worldKey c = _
    rw [State.worldKey, if_neg (by rw [ho]; decide), hn]
  · rw [hpred, State.worldPred, if_neg (by rw [ho]; decide), hn]

end Sys2Proof.Machine
end

section
/-! SUPPORT. Requests at a home: when one may be sent, which one the arbiter takes, and obligation O43 (R116, R167, R168, R170, R171). -/

namespace Sys2Proof.Machine

/-! ### Sending a request (R116, R170, R171) -/

theorem maySend_iff (s : State) (kind : ReqKind) (m : Msg) :
    s.maySend kind m = true ↔ (∀ x ∈ (s.l2At m.agent.val).miss, x.line ≠ m.line) ∧ (s.l2At m.agent.val).miss.length < 32 ∧
      (s.l2At m.agent.val).findWp m.line.toNat = none ∧
      (kind = .upgrade → ∃ l, (s.l2At m.agent.val).find m.line.toNat = some l ∧ (l.st = .s ∨ l.st = .o)) ∧
      (kind ≠ .upgrade → (s.l2At m.agent.val).find m.line.toNat = none) := by
  unfold State.maySend
  cases kind <;> cases hf : (s.l2At m.agent.val).find m.line.toNat <;> simp [hf, and_assoc]

section
variable {s : State} {kind : ReqKind} {m : Msg}

/-- A request that its agent may send waits at its home's port, with a miss register of its agent for a line to be kept. -/
theorem requestArrives_of_sent (ha : m.agent.val ≤ 0x57) (h : m.nc = true ∨ s.maySend kind m = true) :
    s.requestArrives kind m = (if m.nc then s else s.modL2 m.agent.val (fun k => { k with miss := k.miss ++ [⟨m.line, m.tag, []⟩] })).modHome
      (chanOf m.line.toNat) (fun k => { k with queue := k.queue ++ [⟨portOf m.agent.val, kind, m⟩] }) :=
  if_neg (by rcases h with h | h <;> simp [h, Nat.not_lt.mpr ha])

theorem requestArrives_of_not_sent (hn : m.nc = false) (h : s.maySend kind m = false) : s.requestArrives kind m = s :=
  if_pos (by simp [hn, h])

end

/-! ### Arbitration (R167) -/

theorem lt_of_range {n i : Nat} {front back : List Nat} (h : List.range n = front ++ i :: back) : i < n :=
  List.mem_range.mp (h ▸ by simp)

/-- The numbers that stand before one in a range are the smaller ones. -/
theorem mem_front_of_range {n i j : Nat} {front back : List Nat} (h : List.range n = front ++ i :: back) (hj : j < i) : j ∈ front := by
  have hs : (front ++ i :: back).Pairwise (· < ·) := h ▸ List.pairwise_lt_range
  have hm : j ∈ front ++ i :: back := h ▸ List.mem_range.mpr (hj.trans (lt_of_range h))
  rcases List.mem_append.mp hm with hm | hm
  · exact hm
  · rcases List.mem_cons.mp hm with rfl | hm
    · omega
    · have := (List.pairwise_cons.mp (List.pairwise_append.mp hs).2.1).1 j hm
      omega

/-- What a search of the ports from the pointer on finds: a request of the class at the first port that has one. -/
theorem findSome_port {l : List HomeReq} {res : Bool} {rr : Nat} {q : HomeReq}
    (h : (List.range 13).findSome? (fun i => l.find? (fun q => decide (q.port = (rr + i) % 13) && q.msg.res == res)) = some q) :
    q ∈ l ∧ q.msg.res = res ∧
      ∀ x ∈ l, x.port < 13 → x.msg.res = res → (q.port + 13 - rr % 13) % 13 ≤ (x.port + 13 - rr % 13) % 13 := by
  obtain ⟨front, i, back, hr, hq, hf⟩ := List.findSome?_eq_some_iff.mp h
  have hp := List.find?_some hq
  simp only [Bool.and_eq_true, decide_eq_true_eq, beq_iff_eq] at hp
  obtain ⟨hp, hres⟩ := hp
  refine ⟨List.mem_of_find?_eq_some hq, hres, fun x hx hport hxr => ?_⟩
  by_contra hlt
  have hj := hf ((x.port + 13 - rr % 13) % 13) (mem_front_of_range hr (by have := lt_of_range hr; omega))
  refine List.find?_eq_none.mp hj x hx ?_
  simp only [Bool.and_eq_true, decide_eq_true_eq, beq_iff_eq]
  exact ⟨by omega, hxr⟩

theorem findSome_port_eq_none {l : List HomeReq} {res : Bool} {rr : Nat}
    (h : (List.range 13).findSome? (fun i => l.find? (fun q => decide (q.port = (rr + i) % 13) && q.msg.res == res)) = none) :
    ∀ x ∈ l, x.port < 13 → x.msg.res = !res := by
  intro x hx hport
  have hn := List.findSome?_eq_none_iff.mp h ((x.port + 13 - rr % 13) % 13) (List.mem_range.mpr (by omega))
  have hx := List.find?_eq_none.mp hn x hx
  have hat : x.port = (rr + (x.port + 13 - rr % 13) % 13) % 13 := by omega
  rw [decide_eq_true hat, Bool.true_and, beq_iff_eq] at hx
  exact Bool.eq_not.mpr hx

section
variable {k : Home} {rr : Nat} {q : HomeReq} (h : k.winner rr = some q)
include h

/-- The arbiter's request is found among the reserved ones, or, where no port has one, among the best-effort ones. -/
theorem winner_cases :
    (List.range 13).findSome? (fun i => k.queue.find? (fun q => decide (q.port = (rr + i) % 13) && q.msg.res == true)) = some q ∨
    (List.range 13).findSome? (fun i => k.queue.find? (fun q => decide (q.port = (rr + i) % 13) && q.msg.res == true)) = none ∧
      (List.range 13).findSome? (fun i => k.queue.find? (fun q => decide (q.port = (rr + i) % 13) && q.msg.res == false)) = some q :=
  Option.or_eq_some_iff.mp h

theorem winner_mem : q ∈ k.queue := by
  rcases winner_cases h with h | ⟨-, h⟩ <;> exact (findSome_port h).1

theorem res_of_winner (hq : q.msg.res = false) : ∀ x ∈ k.queue, x.port < 13 → x.msg.res = false := by
  rcases winner_cases h with h | ⟨h, -⟩
  · exact absurd ((findSome_port h).2.1.symm.trans hq) (by decide)
  · exact findSome_port_eq_none h

theorem winner_nearest : ∀ x ∈ k.queue, x.port < 13 → x.msg.res = q.msg.res →
    (q.port + 13 - rr % 13) % 13 ≤ (x.port + 13 - rr % 13) % 13 := by
  rcases winner_cases h with h | ⟨-, h⟩ <;>
  · obtain ⟨-, hres, hnear⟩ := findSome_port h
    exact fun x hx hport hxr => hnear x hx hport (hxr.trans hres)

end

theorem winner_nil {k : Home} (rr : Nat) (h : k.queue = []) : k.winner rr = none := by
  simp [Home.winner, h]

/-! ### Acceptance and chains (R167, R168) -/

section
variable {s : State} {h : Nat} {q : HomeReq}

/-- A request waits for its line while the line is busy or others wait for it. -/
def State.LineWaits (s : State) (h : Nat) (q : HomeReq) : Prop :=
  s.lineBusy q.msg.line = true ∨ ∃ x ∈ (s.home h).chain, x.msg.line = q.msg.line

theorem lineWaits_iff : (s.lineBusy q.msg.line || (s.home h).chain.any (fun c => decide (c.msg.line = q.msg.line))) = true ↔ s.LineWaits h q := by
  simp [State.LineWaits]

theorem accept_of_waits (hw : s.LineWaits h q) : s.accept h q = some (((s.arbitrated h q.port).modHome h
    (fun k => { k with queue := k.queue.erase q })).modHome h (fun k => { k with chain := k.chain ++ [q] })) := by
  simp [State.accept, lineWaits_iff.mpr hw]

theorem accept_of_free (hw : ¬ s.LineWaits h q) (hn : (s.home h).txns.length < 256) : s.accept h q =
    some (((s.arbitrated h q.port).modHome h (fun k => { k with queue := k.queue.erase q })).beginTxn h q) := by
  simp [State.accept, Bool.eq_false_iff.mpr (mt lineWaits_iff.mp hw), hn]

theorem accept_of_full (hw : ¬ s.LineWaits h q) (hn : 256 ≤ (s.home h).txns.length) : s.accept h q = none := by
  simp [State.accept, Bool.eq_false_iff.mpr (mt lineWaits_iff.mp hw), hn]

end

/-- The one request of a line's chain begins on a free line of a home with room. -/
theorem chainBegin_of_alone {s : State} {line : LineAddr} {q : HomeReq} (hb : s.lineBusy line = false)
    (hn : (s.home (chanOf line.toNat)).txns.length < 256) (hc : (s.home (chanOf line.toNat)).chain = [q]) (hq : q.msg.line = line) :
    s.chainBegin line = some ((s.modHome (chanOf line.toNat) (fun k => { k with chain := [] })).beginTxn (chanOf line.toNat) q) := by
  have herase : s.modHome (chanOf line.toNat) (fun k => { k with chain := k.chain.erase q })
      = s.modHome (chanOf line.toNat) (fun k => { k with chain := [] }) := by
    simp [State.modHome, hc]
  simp [State.chainBegin, hb, Nat.not_le.mpr hn, hc, hq, herase]

theorem exec_homeAccept_of_some {s t : State} {h : Chan} {q : HomeReq} (hq : (s.home h.val).winner (s.rf (haR h.val) 35 32) = some q)
    (ha : s.accept h.val q = some t) : exec (.homeAccept h) s = .next t.finish := by
  show execHomeAccept h s = _
  simp [execHomeAccept, hq, ha, done]

theorem exec_homeAccept_of_none {s : State} {h : Chan} (hq : ∀ q, (s.home h.val).winner (s.rf (haR h.val) 35 32) = some q →
    s.accept h.val q = none) : exec (.homeAccept h) s = .next s.finish := by
  show execHomeAccept h s = _
  unfold execHomeAccept
  split
  · rfl
  case _ q hw => rw [hq q hw]; rfl

/-- Settles O43: a sent request by its guard, the arbiter's choice by its search of the ports, and acceptance by whether the line is
free and the home has room. -/
theorem requestsArrive : Obligations.RequestsArrive := by
  intro s m h ha
  dsimp only
  have row : ∀ (i : Instr) (kind : ReqKind), exec i s = done (s.requestArrives kind m) → _ := fun i kind hi =>
    And.intro (fun hs => hi.trans (congrArg done (requestArrives_of_sent ha hs)))
      (And.intro (fun hn hs => hi.trans (congrArg done (requestArrives_of_not_sent hn hs))) (maySend_iff s kind m))
  refine ⟨row _ _ rfl, row _ _ rfl, row _ _ rfl, fun hq => exec_homeAccept_of_none fun q hw => ?_, fun q hw => ⟨fun hl => ?_,
    fun hl hn => ?_, fun hl hn => ?_⟩, fun q hw => ⟨winner_mem hw, res_of_winner hw, winner_nearest hw⟩, fun q hb hn hc hq => ?_⟩
  · rw [winner_nil _ hq] at hw; cases hw
  · exact exec_homeAccept_of_some hw (accept_of_waits hl)
  · exact exec_homeAccept_of_some hw (accept_of_free hl hn)
  · exact exec_homeAccept_of_none fun q' hw' => Option.some.inj (hw.symm.trans hw') ▸ accept_of_full hl hn
  · show execChainBegin m.line s = _
    rw [execChainBegin, chainBegin_of_alone hb hn hc hq]
    rfl

end Sys2Proof.Machine
end

section
/-! SUPPORT. A line written at the memory side (O42), refuted: the statement lets a reader charge the credit of any tenant number, and
the credit of tenant 6080 would stand where `MSC_CTL` stands. -/

namespace Sys2Proof.Machine

/-- A Memory-Side Cache that is enabled and holds line 0, clean. -/
def heldAtMemory : State :=
  ({ State.reset with msc := { State.reset.msc with lines := [⟨0, 0, false, 0, 0, false, 0, false⟩] } }).setReg mscCtlR 1

/-- A reserved reader with W = 1 and a number that no tenant has: the register map has 32 tenants. -/
def strangeReader : Rq := { agent := 0, tid := 6080, w := true, res := true }

/-- The two registers have one offset, by which the state finds a register. -/
theorem offset_mcTstat_strangeReader : (⟨.mcTstat, 0, 0, strangeReader.tid⟩ : RegRef).off = mscCtlR.off := by decide

theorem chanLost_heldAtMemory : heldAtMemory.chanLost (chanOf 0) = false := by decide

/-- The charge for the read has cleared `MSC_CTL`.EN: the read takes line 0 from DRAM, where the written line is not. -/
theorem memRead_strangeReader :
    lineNum ((heldAtMemory.memWriteLine 0 true 0 1 false).memRead strangeReader 0 false).2.1 0 64 = 0 := by decide +kernel

theorem lineNum_one : lineNum 1 0 64 ≠ 0 := by decide +kernel

/-- Refutes O42: line 0, held by the enabled Memory-Side Cache, is written there with 1; a reserved reader of tenant number 6080, whose
`MC_TSTAT` of controller 0 would lie at the offset of `MSC_CTL`, is charged (R340), which turns the cache off, and reads 0. -/
theorem not_memoryKeepsLines : ¬ Obligations.MemoryKeepsLines := by
  unfold Obligations.MemoryKeepsLines
  intro h
  have hread := (h heldAtMemory 0 true 0 1 strangeReader (by decide) chanLost_heldAtMemory rfl).1
  exact absurd (memRead_strangeReader.symm.trans hread) lineNum_one.symm

end Sys2Proof.Machine
end

section
/-! SUPPORT. Events of the caches (O46), refuted: the end of an L2's clean is stated without the premise that no refused store awaits its
record, and what that record settles may write the directory's count of a home beyond the twelve, which would stand where `L2_CTL` stands. -/

namespace Sys2Proof.Machine

/-- A home whose directory names agent 1 as owner of line 0, and at which three of the four notices of agent 0's death have arrived. -/
def homeWithNotices : Home := { notices := [(0, 1), (0, 2), (0, 3)], dir := [⟨0, 0, .x, [1], false, 0, 0⟩] }

/-- The service trio's L2 is being cleaned; a refused posted store awaits its record in a fault queue of sixteen; on the way are agent 0's
fourth notice, for home number 2564, and, behind it, a response about line 0. -/
def cleaningWithNotice : State :=
  let s := { State.reset with
    refusals := [⟨0, 0, 0x0F, 0⟩]
    homes := [(2564, homeWithNotices)]
    net := [{ kind := .agentDead, agent := 0, line := BitVec.ofNat 40 (noticeKey 2564 0) }, { kind := .rspI, agent := 0, line := 0 }] }
  (s.setReg (l2CtlR svcTrio) 2).setReg ⟨.fqCfg, 0, 0, 0⟩ 4

/-- The two registers have one offset, by which the state finds a register. -/
theorem offset_haStatus_2564 : (⟨.haStatus, 0, 2564, 0⟩ : RegRef).off = (l2CtlR svcTrio).off := by decide

/-- `L2_CTL`.EN and CLEAN of the service trio in the state that an outcome leaves. -/
def l2EnableOf : Host.Outcome State Fault Refusal → Nat
  | .next s => s.rf (l2CtlR svcTrio) 1 0
  | _ => 0

/-- The record is written to line 0: the response is delivered, before it the notice, and the count of one directory entry sets EN. -/
theorem l2EnableOf_l2CleanComplete : l2EnableOf (exec (.l2CleanComplete 84) cleaningWithNotice) = 1 := by decide +kernel

/-- Refutes O46: the service trio's clean ends while a refused posted store awaits its record; writing the record settles line 0, for which
the last notice of a dead agent arrives at home number 2564, and the count of that home's directory stands at the offset of the service
trio's `L2_CTL`, so that EN reads 1 where the statement has 0. -/
theorem not_cacheEvents : ¬ Obligations.CacheEvents := by
  unfold Obligations.CacheEvents CacheControlEvents
  rintro ⟨-, control⟩
  obtain ⟨clean, -⟩ := control cleaningWithNotice 84 ⟨by decide, by decide⟩
  obtain ⟨u, hu, -, hctl, -⟩ := clean (by decide) (by decide)
  have hoff : l2EnableOf (exec (.l2CleanComplete 84) cleaningWithNotice) = 0 := by
    rw [hu]
    exact hctl
  exact absurd (l2EnableOf_l2CleanComplete.symm.trans hoff) (by decide)

end Sys2Proof.Machine
end

section
/-! SUPPORT. The merging buffer as a list: its bytes over a line, and its open entries as the youngest: obligation O22 (R114, R115). -/

namespace Sys2Proof.Machine

/-! ### Bytes of merged lines -/

theorem lineByte_lineFrom (f : Nat → Byte) {i : Nat} (hi : i < 64) : lineByte (lineFrom f) i = f i := by
  have hlt : ofBytes ((List.range 64).map f) < 2 ^ 512 := by
    have h := ofBytes_lt ((List.range 64).map f)
    rwa [List.length_map, List.length_range, show 256 = 2 ^ 8 from rfl, ← Nat.pow_mul, show 8 * 64 = 512 from rfl] at h
  have hbyte : ((List.range 64).map f).getD i 0 = f i := by simp [hi]
  have h256 : 2 ^ (8 * i) = 256 ^ i := Nat.pow_mul 2 8 i
  have hnat : (lineFrom f).toNat = ofBytes ((List.range 64).map f) :=
    (BitVec.toNat_ofNat ..).trans (Nat.mod_eq_of_lt hlt)
  refine BitVec.eq_of_toNat_eq ?_
  rw [lineByte, BitVec.truncate_eq_setWidth, BitVec.toNat_setWidth, BitVec.toNat_ushiftRight, hnat, Nat.shiftRight_eq_div_pow, h256, ← hbyte]
  exact ofBytes_byte _ i

theorem lineByte_mergeLine (old new : LineData) (mask : BitVec 64) {i : Nat} (hi : i < 64) :
    lineByte (mergeLine old new mask) i = if mask.getLsbD i then lineByte new i else lineByte old i := lineByte_lineFrom _ hi

/-! ### What the entries hold for a line -/

/-- The bytes of a list of entries over a line's. -/
def overlaid (m : List MergeEntry) (line : Nat) (d : LineData) : LineData :=
  m.foldl (fun d e => if e.line.toNat = line then mergeLine d e.data e.mask else d) d

theorem overlay_eq (k : Core) (line : Nat) (d : LineData) : k.overlay line d = overlaid k.merge line d := rfl

theorem overlaid_append (m n : List MergeEntry) (line : Nat) (d : LineData) :
    overlaid (m ++ n) line d = overlaid n line (overlaid m line d) := List.foldl_append

theorem overlaid_cons (e : MergeEntry) (m : List MergeEntry) (line : Nat) (d : LineData) :
    overlaid (e :: m) line d = overlaid m line (if e.line.toNat = line then mergeLine d e.data e.mask else d) := rfl

theorem overlaid_nil (line : Nat) (d : LineData) : overlaid [] line d = d := rfl

/-- Entries of other lines hold nothing for a line. -/
theorem overlaid_other {m : List MergeEntry} {line : Nat} (h : ∀ e ∈ m, e.line.toNat ≠ line) (d : LineData) : overlaid m line d = d := by
  induction m generalizing d with
  | nil => rfl
  | cons e m ih => rw [overlaid_cons, if_neg (h e (List.mem_cons_self ..)), ih fun x hx => h x (List.mem_cons_of_mem _ hx)]

theorem overlaid_closeUpTo (m : List MergeEntry) (n line : Nat) (d : LineData) : overlaid (closeUpTo m n) line d = overlaid m line d := by
  induction m generalizing n d with
  | nil => rfl
  | cons e m ih =>
    cases n with
    | zero => rfl
    | succ n => exact ih n _

/-! ### Entries that close -/

/-- What closing entries keeps, `settleMerge` keeps. -/
theorem settleMerge_keeps {P : List MergeEntry → Prop} (hc : ∀ m n, P m → P (closeUpTo m n)) {m : List MergeEntry} (h : P m) :
    P (settleMerge m) := by
  unfold settleMerge
  dsimp only
  split <;> split
  · exact hc _ _ (hc _ _ h)
  · exact hc _ _ h
  · exact hc _ _ h
  · exact h

theorem overlaid_settleMerge (m : List MergeEntry) (line : Nat) (d : LineData) : overlaid (settleMerge m) line d = overlaid m line d :=
  settleMerge_keeps (P := fun n => overlaid n line d = overlaid m line d) (fun n i h => (overlaid_closeUpTo n i line d).trans h) rfl

/-- The open entries are the youngest. -/
def OpenLast (m : List MergeEntry) : Prop := m.Pairwise (fun e x => e.isOpen = true → x.isOpen = true)

theorem openLast_iff (m : List MergeEntry) : OpenLast m ↔
    ∀ (front back : List MergeEntry) (e : MergeEntry), m = front ++ e :: back → e.isOpen = true → ∀ x ∈ back, x.isOpen = true := by
  constructor
  · rintro h front back e rfl he x hx
    exact (List.pairwise_cons.mp (List.pairwise_append.mp h).2.1).1 x hx he
  · intro h
    induction m with
    | nil => exact List.Pairwise.nil
    | cons e m ih =>
      exact List.Pairwise.cons (fun x hx he => h [] m e rfl he x hx) (ih fun front back y hm => h (e :: front) back y (by rw [hm]; rfl))

theorem closeUpTo_eq (m : List MergeEntry) (n : Nat) :
    closeUpTo m n = (m.take (n + 1)).map (fun e => { e with isOpen := false }) ++ m.drop (n + 1) := by
  induction m generalizing n with
  | nil => rfl
  | cons e m ih =>
    cases n with
    | zero => rfl
    | succ n => exact congrArg _ (ih n)

theorem openLast_of_closed {m : List MergeEntry} (h : ∀ e ∈ m, e.isOpen = false) : OpenLast m :=
  List.pairwise_of_forall_mem_list fun e he _ _ ho => absurd (ho.symm.trans (h e he)) (by decide)

theorem OpenLast.closeUpTo {m : List MergeEntry} (h : OpenLast m) (n : Nat) : OpenLast (closeUpTo m n) := by
  rw [closeUpTo_eq]
  have hclosed : ∀ e ∈ (m.take (n + 1)).map (fun e => { e with isOpen := false }), e.isOpen = false := fun e he => by
    obtain ⟨y, -, rfl⟩ := List.mem_map.mp he
    rfl
  exact List.pairwise_append.mpr ⟨openLast_of_closed hclosed, h.drop, fun e he _ _ ho => absurd (ho.symm.trans (hclosed e he)) (by decide)⟩

/-- Entries that all close leave no open one. -/
theorem openLast_closeUpTo_length (m : List MergeEntry) (e : MergeEntry) : OpenLast (Machine.closeUpTo (m ++ [e]) m.length) := by
  rw [closeUpTo_eq, List.take_of_length_le (by simp), List.drop_eq_nil_of_le (by simp), List.append_nil]
  refine openLast_of_closed fun x hx => ?_
  obtain ⟨y, -, rfl⟩ := List.mem_map.mp hx
  rfl

theorem OpenLast.settleMerge {m : List MergeEntry} (h : OpenLast m) : OpenLast (settleMerge m) :=
  settleMerge_keeps (fun _ n h => h.closeUpTo n) h

/-! ### The entry that a store merges into -/

/-- A search of a range from its end finds the last number that passes. -/
theorem find_reverse_range {n i : Nat} {p : Nat → Bool} :
    (List.range n).reverse.find? p = some i ↔ i < n ∧ p i = true ∧ ∀ j, i < j → j < n → p j = false := by
  induction n with
  | zero => simp
  | succ n ih =>
    rw [List.range_succ, List.reverse_concat, List.find?_cons]
    cases hn : p n with
    | true =>
      constructor
      · rintro ⟨⟩
        exact ⟨Nat.lt_succ_self _, hn, fun j h1 h2 => by omega⟩
      · rintro ⟨hi, -, hlast⟩
        by_cases h : i < n
        · rw [hlast n h (Nat.lt_succ_self n)] at hn; cases hn
        · exact congrArg some (by omega)
    | false =>
      refine ih.trans ⟨fun ⟨hi, hp, hlast⟩ => ⟨by omega, hp, fun j h1 h2 => ?_⟩,
        fun ⟨hi, hp, hlast⟩ => ⟨?_, hp, fun j h1 h2 => hlast j h1 (by omega)⟩⟩
      · by_cases h : j = n
        · exact h ▸ hn
        · exact hlast j h1 (by omega)
      · by_contra h
        have : i = n := by omega
        rw [this, hn] at hp; cases hp

/-- The entry found for a line is open, of that line, and the youngest such. -/
theorem mergeAt_split {m : List MergeEntry} {line i : Nat} (h : mergeAt m line = some i) : ∃ front e back, m = front ++ e :: back ∧
    front.length = i ∧ e.isOpen = true ∧ e.line.toNat = line ∧ ∀ x ∈ back, x.isOpen = true → x.line.toNat ≠ line := by
  obtain ⟨hi, hp, hlast⟩ := find_reverse_range.mp h
  rw [List.getElem?_eq_getElem hi] at hp
  simp only [Bool.and_eq_true, decide_eq_true_eq] at hp
  refine ⟨m.take i, m[i], m.drop (i + 1), by simp, by simp; omega, hp.1, hp.2, fun x hx ho hl => ?_⟩
  obtain ⟨j, hj, rfl⟩ := List.mem_iff_getElem.mp hx
  rw [List.length_drop] at hj
  have := hlast (i + 1 + j) (by omega) (by omega)
  rw [List.getElem?_eq_getElem (by omega)] at this
  rw [List.getElem_drop] at ho hl
  simp [ho, hl] at this

/-- A store merges into the youngest open entry of its line, where one is, or takes a new entry. -/
theorem mergeIn_cases (k : Core) (line tid : Nat) (w : Bool) (ty : MemType) (d : LineData) (mask : BitVec 64) :
    (∃ front e back, k.merge = front ++ e :: back ∧ e.isOpen = true ∧ e.line.toNat = line ∧
      (∀ x ∈ back, x.isOpen = true → x.line.toNat ≠ line) ∧ (k.mergeIn line tid w ty d mask).merge =
        settleMerge (front ++ { e with data := mergeLine e.data d mask, mask := e.mask ||| mask } :: back)) ∨
    ∃ e : MergeEntry, e.line = BitVec.ofNat 40 line ∧ e.data = d ∧ e.mask = mask ∧
      ((k.mergeIn line tid w ty d mask).merge = settleMerge (closeUpTo (k.merge ++ [e]) k.merge.length) ∨
        e.isOpen = true ∧ (k.mergeIn line tid w ty d mask).merge = settleMerge (k.merge ++ [e])) := by
  unfold Core.mergeIn
  split
  case _ i h =>
    unfold Core.mergeTo at h
    split at h
    · cases h
    · obtain ⟨front, e, back, hm, rfl, ho, hl, hb⟩ := mergeAt_split h
      refine .inl ⟨front, e, back, hm, ho, hl, hb, ?_⟩
      rw [hm]
      exact congrArg settleMerge (List.modifyTailIdx_add _ 0 front (e :: back))
  case _ =>
    refine .inr ⟨⟨BitVec.ofNat 40 line, d, mask, !ty.alone, ty, BitVec.ofNat 5 tid |>.toFin, w⟩, rfl, rfl, rfl, ?_⟩
    cases hty : ty.alone
    · exact .inr ⟨rfl, by simp⟩
    · exact .inl (by simp)

/-! ### A store's bytes, read again (R115) -/

section
variable {k : Core} {line tid : Nat} {w : Bool} {ty : MemType} {d : LineData} {mask : BitVec 64}

/-- With the open entries the youngest, what stands behind an open entry that is the youngest open one of its line is of other lines. -/
theorem OpenLast.back_other {front back : List MergeEntry} {e : MergeEntry} (h : OpenLast (front ++ e :: back)) (ho : e.isOpen = true)
    (hb : ∀ x ∈ back, x.isOpen = true → x.line.toNat ≠ line) : ∀ x ∈ back, x.line.toNat ≠ line :=
  fun x hx => hb x hx ((openLast_iff _).mp h front back e rfl ho x hx)

theorem lineByte_overlay_mergeIn (h : OpenLast k.merge) (hl : line < 2 ^ 40) (base : LineData) {i : Nat} (hi : i < 64) :
    lineByte ((k.mergeIn line tid w ty d mask).overlay line base) i =
      if mask.getLsbD i then lineByte d i else lineByte (k.overlay line base) i := by
  rcases mergeIn_cases k line tid w ty d mask with ⟨front, e, back, hm, ho, he, hb, hm'⟩ | ⟨e, he, rfl, rfl, hm'⟩
  · have hback := (hm ▸ h : OpenLast (front ++ e :: back)).back_other ho hb
    simp only [overlay_eq, hm, hm', overlaid_settleMerge, overlaid_append, overlaid_cons, overlaid_other hback, he, if_true,
      lineByte_mergeLine _ _ _ hi, BitVec.getLsbD_or]
    by_cases hd : mask.getLsbD i <;> simp [hd]
  · have hel : e.line.toNat = line := by rw [he, BitVec.toNat_ofNat, Nat.mod_eq_of_lt hl]
    have hm'' : (k.mergeIn line tid w ty e.data e.mask).overlay line base = mergeLine (k.overlay line base) e.data e.mask := by
      rcases hm' with hm' | ⟨-, hm'⟩ <;>
        simp only [overlay_eq, hm', overlaid_settleMerge, overlaid_closeUpTo, overlaid_append, overlaid_cons, overlaid_nil, hel, if_true]
    rw [hm'', lineByte_mergeLine _ _ _ hi]

theorem overlay_mergeIn_other (hl : line < 2 ^ 40) {other : Nat} (hne : other ≠ line) (base : LineData) :
    (k.mergeIn line tid w ty d mask).overlay other base = k.overlay other base := by
  rcases mergeIn_cases k line tid w ty d mask with ⟨front, e, back, hm, -, he, -, hm'⟩ | ⟨e, he, -, -, hm'⟩
  · simp only [overlay_eq, hm, hm', overlaid_settleMerge, overlaid_append, overlaid_cons, he, if_neg (Ne.symm hne)]
  · have hel : e.line.toNat ≠ other := by rw [he, BitVec.toNat_ofNat, Nat.mod_eq_of_lt hl]; exact Ne.symm hne
    rcases hm' with hm' | ⟨-, hm'⟩ <;>
      simp only [overlay_eq, hm', overlaid_settleMerge, overlaid_closeUpTo, overlaid_append, overlaid_cons, overlaid_nil, if_neg hel]

theorem openLast_mergeIn (h : OpenLast k.merge) : OpenLast (k.mergeIn line tid w ty d mask).merge := by
  rcases mergeIn_cases k line tid w ty d mask with ⟨front, e, back, hm, -, -, -, hm'⟩ | ⟨e, -, -, -, hm' | ⟨ho, hm'⟩⟩ <;> rw [hm']
  · rw [hm] at h
    obtain ⟨hf, hr, hfr⟩ := List.pairwise_append.mp h
    obtain ⟨he, hb⟩ := List.pairwise_cons.mp hr
    refine OpenLast.settleMerge (List.pairwise_append.mpr ⟨hf, List.pairwise_cons.mpr ⟨he, hb⟩, fun x hx y hy => ?_⟩)
    rcases List.mem_cons.mp hy with rfl | hy
    · exact hfr x hx e (List.mem_cons_self ..)
    · exact hfr x hx y (List.mem_cons_of_mem _ hy)
  · exact (openLast_closeUpTo_length _ _).settleMerge
  · refine OpenLast.settleMerge (List.pairwise_append.mpr ⟨h, List.pairwise_singleton _ _, fun x _ y hy _ => ?_⟩)
    rw [List.mem_singleton.mp hy]
    exact ho

end

/-- Settles the first part of O22: a store's bytes stand in the youngest entry of its line, on top of every other. -/
theorem bufferedBytesAreRead : BufferedBytesAreRead := by
  intro k line tid w ty d base mask i hi hl hopen
  have h := (openLast_iff _).mpr hopen
  exact ⟨lineByte_overlay_mergeIn h hl base hi, fun other _ hne => overlay_mergeIn_other hl hne base, (openLast_iff _).mp (openLast_mergeIn h)⟩

end Sys2Proof.Machine
end

section
/-! SUPPORT. The merging buffer's own events: its time-out and the drain of an entry into an owned line: obligation O22 (R112, R114, R170, R189). -/

namespace Sys2Proof.Machine

/-! ### An idle entry closes -/

theorem closeUpTo_length (front back : List MergeEntry) (e : MergeEntry) :
    closeUpTo (front ++ e :: back) front.length = (front ++ [e]).map (fun x => { x with isOpen := false }) ++ back := by
  have happ : front ++ e :: back = (front ++ [e]) ++ back := by simp
  rw [closeUpTo_eq, happ, List.take_left' (by simp), List.drop_left' (by simp)]

/-- The time-out names the youngest open entry of its line, which closes with every older one. -/
theorem exec_mergeEntryTimeout {s : State} {c : CoreId} {front back : List MergeEntry} {e : MergeEntry}
    (hm : (s.core c.val).merge = front ++ e :: back) (ho : e.isOpen = true) (hb : ∀ x ∈ back, ¬(x.isOpen = true ∧ x.line = e.line)) :
    exec (.mergeEntryTimeout c e.line) s = .next (s.modCore c.val (fun k => { k with merge := closeUpTo k.merge front.length })).finish := by
  have hfind : (List.range (s.core c.val).merge.length).reverse.find? (fun i =>
      ((s.core c.val).merge[i]?.map (fun x => x.isOpen && decide (x.line = e.line))).getD false) = some front.length := by
    refine find_reverse_range.mpr ⟨by simp [hm], by simp [hm, ho], fun j hj hlen => ?_⟩
    obtain ⟨n, rfl⟩ := Nat.exists_eq_add_of_lt hj
    rw [hm, List.length_append, List.length_cons] at hlen
    have hn : n < back.length := by omega
    have hx : (s.core c.val).merge[front.length + n + 1]? = some back[n] := by
      rw [hm, List.getElem?_append_right (by omega), show front.length + n + 1 - front.length = n + 1 by omega, List.getElem?_cons_succ,
        List.getElem?_eq_getElem hn]
    rw [hx, Option.map_some, Option.getD_some, Bool.and_eq_false_iff, decide_eq_false_iff_not, ← Bool.not_eq_true]
    exact not_and_or.mp (hb _ (List.getElem_mem hn))
  show execMergeEntryTimeout c e.line s = _
  unfold execMergeEntryTimeout
  simp only [hfind]
  rfl

/-! ### The numbers of a trio's cores -/

theorem coreNo_trioOf (x : Nat) : coreNo (trioOf x) (x % 3) = x := by unfold coreNo trioOf; omega
theorem trioOf_coreNo (t : Nat) {i : Nat} (hi : i < 3) : trioOf (coreNo t i) = t := by unfold coreNo trioOf; omega
theorem trioOf_le (c : CoreId) : trioOf c.val ≤ 84 := by unfold trioOf; have := c.isLt; omega

theorem modL2_of_trio (s : State) {t : Nat} (ht : t ≤ 84) (f : L2 → L2) : s.modL2 t f = s.modTrio t (fun k => { k with l2 := f k.l2 }) :=
  if_pos ht

theorem l2_modL2 (s : State) {t : Nat} (ht : t ≤ 84) (f : L2 → L2) : ((s.modL2 t f).trio t).l2 = f (s.trio t).l2 := by
  rw [modL2_of_trio s ht, State.trio_modTrio]

/-! ### A line of an L2 that changes in place -/

/-- A change that keeps a line present and its number keeps which line is found. -/
theorem find_update (k : L2) (line q : Nat) {f : L2Line → L2Line} (hf : ∀ l, (f l).line = l.line)
    (hs : ∀ l, l.st ≠ .wp → (f l).st ≠ .wp) :
    (k.update line f).find q = (k.find q).map (fun l => if q = line then f l else l) := by
  have hp : ∀ l : L2Line, (decide ((if l.line.toNat = line ∧ l.st ≠ .wp then f l else l).line.toNat = q) &&
      decide ((if l.line.toNat = line ∧ l.st ≠ .wp then f l else l).st ≠ .wp)) = (decide (l.line.toNat = q) && decide (l.st ≠ .wp)) := by
    intro l
    split
    case isTrue hl => rw [hf, decide_eq_true (hs l hl.2), decide_eq_true hl.2]
    case isFalse => rfl
  have hfind : (k.update line f).find q = (k.find q).map (fun l => if l.line.toNat = line ∧ l.st ≠ .wp then f l else l) := by
    unfold L2.find L2.update
    rw [List.find?_map]
    exact congrArg (Option.map _) (congrArg (k.lines.find? ·) (funext hp))
  rw [hfind]
  refine Option.map_congr fun l hl => ?_
  have hat := List.find?_some (Option.mem_def.mp hl)
  simp only [Bool.and_eq_true, decide_eq_true_eq] at hat
  exact if_congr ⟨fun h => hat.1.symm.trans h.1, fun h => ⟨hat.1.trans h, hat.2⟩⟩ rfl rfl

/-! ### A store's bytes in an owned line (R189) -/

/-- A core that loses its L1D copy of a line. -/
def Core.dropL1d (k : Core) (line : Nat) : Core := { k with l1d := k.l1d.filter (fun l => decide (l.line.toNat ≠ line)) }

/-- A copy lost twice is lost once. -/
theorem dropL1d_ite (k : Core) (line : Nat) (P Q : Prop) [Decidable P] [Decidable Q] :
    (if P then (if Q then k.dropL1d line else k).dropL1d line else if Q then k.dropL1d line else k) = if Q ∨ P then k.dropL1d line else k := by
  have hidem : (k.dropL1d line).dropL1d line = k.dropL1d line := by simp [Core.dropL1d]
  by_cases hP : P <;> by_cases hQ : Q <;> simp [hP, hQ, hidem]

/-- Core `i` of the trio loses its copy, unless it is the storing core. -/
def State.otherDrops (s : State) (t c line i : Nat) : State :=
  if coreNo t i = c then s else s.modCore (coreNo t i) (fun k => k.dropL1d line)

/-- A line with a store's bytes in it. -/
def L2Line.put (l : L2Line) (d : LineData) (mask : BitVec 64) (st : LState) : L2Line :=
  { l with data := mergeLine l.data d mask, st := st, poison := l.poison && decide (mask ≠ BitVec.allOnes 64) }

theorem core_otherDrops (s : State) (t c line i x : Nat) :
    (s.otherDrops t c line i).core x = if x ≠ c ∧ x = coreNo t i then (s.core x).dropL1d line else s.core x := by
  unfold State.otherDrops
  split
  case isTrue h => rw [if_neg (fun hx => hx.1 (hx.2.trans h))]
  case isFalse h =>
    by_cases hx : x = coreNo t i
    · subst hx
      rw [if_pos ⟨h, rfl⟩, State.core_modCore]
    · rw [if_neg (fun h => hx h.2), State.core_modCore_other _ _ hx]

theorem otherDrops_keeps {α : Type} {p : State → α} (h : ∀ s c f, p (State.modCore s c f) = p s) (s : State) (t c line i : Nat) :
    p (s.otherDrops t c line i) = p s := by
  unfold State.otherDrops
  split <;> [rfl; exact h s _ _]

section
variable (s : State) (t c line : Nat) (d : LineData) (mask : BitVec 64) (st : LState)

theorem l2Put_eq : s.l2Put t c line d mask st =
    (((s.modL2 t (fun k => k.update line (fun l => l.put d mask st))).otherDrops t c line 0).otherDrops t c line 1).otherDrops t c line 2 := rfl

theorem l2Put_keeps {α : Type} {p : State → α} (h : ∀ s c f, p (State.modCore s c f) = p s) :
    p (s.l2Put t c line d mask st) = p (s.modL2 t (fun k => k.update line (fun l => l.put d mask st))) := by
  rw [l2Put_eq, otherDrops_keeps h, otherDrops_keeps h, otherDrops_keeps h]

/-- Of the cores of the trio all but the storing one lose their copy. -/
theorem core_l2Put (x : Nat) :
    (s.l2Put t c line d mask st).core x = if x ≠ c ∧ trioOf x = t then (s.core x).dropL1d line else s.core x := by
  have hin : trioOf x = t ↔ x = coreNo t 0 ∨ x = coreNo t 1 ∨ x = coreNo t 2 := by unfold trioOf coreNo; omega
  rw [l2Put_eq, core_otherDrops, core_otherDrops, core_otherDrops, State.modL2_core, dropL1d_ite, dropL1d_ite]
  refine if_congr ?_ rfl rfl
  rw [hin, and_or_left, and_or_left]

end

/-! ### An entry drains into a line that the L2 owns -/

/-- An L2 that allocates serves hits and is not being cleaned. -/
theorem l2Ctl_of_l2Alloc {s : State} {t : Nat} (h : s.l2Alloc t = true) : s.l2On t = true ∧ s.rf (l2CtlR t) 1 1 = 0 := by
  unfold State.l2Alloc at h
  unfold State.l2On
  simp only [State.rf, fld, decide_eq_true_eq, Nat.shiftRight_eq_div_pow] at h ⊢
  change _ ∧ ((s.reg ⟨.l2Ctl, t, 0, 0⟩).toNat / 2 ^ 1) % 2 = 0
  omega

/-- The state with a store's bytes in a line that the trio's L2 owns. -/
def State.storedIn (s : State) (c : Nat) (e : MergeEntry) : State :=
  (s.l2Touch (trioOf c) e.line.toNat).l2Put (trioOf c) c e.line.toNat e.data e.mask .m

section
variable {s : State} {c : Nat} {e : MergeEntry} {l : L2Line} (ha : s.l2Alloc (trioOf c) = true)
  (hl : (s.trio (trioOf c)).l2.find e.line.toNat = some l) (hown : l.st = .m ∨ l.st = .e) (hw : l.w = true → e.w = true)
include ha hl hown hw

theorem drainBytes_of_owned (r : Rq) (hr : r.w = e.w) :
    s.drainBytes (trioOf c) c r .wb e.line.toNat e.data e.mask = (s.storedIn c e, .ok l.data) := by
  obtain ⟨hon, hclean⟩ := l2Ctl_of_l2Alloc ha
  have hvis : l.visible e.w = true := by
    unfold L2Line.visible
    cases h : l.w
    · simp
    · simp [hw h]
  have hhit : s.l2Hit (trioOf c) r.w e.line.toNat = some l := by
    rw [State.l2Hit, if_pos hon, hl, Option.filter_some, hr, hvis, if_pos rfl]
  have hown' : decide (l.st = .m ∨ l.st = .e) = true := decide_eq_true hown
  have hclean' : (s.l2Touch (trioOf c) e.line.toNat).rf (l2CtlR (trioOf c)) 1 1 ≠ 1 := by
    rw [State.rf, State.l2Touch, State.modL2_reg, ← State.rf, hclean]
    decide
  unfold State.drainBytes State.ownedStore
  simp only [hhit, hown', if_true]
  rw [if_neg (by decide)]
  exact congrArg (·, _) (if_neg hclean')

theorem drainEntry_of_owned (hr : s.region (e.line.toNat * 64 + maskLow e.mask) = .dram) (hty : e.ty = .wb) :
    s.drainEntry c e = s.storedIn c e := by
  unfold State.drainEntry
  simp only [hr, hty, drainBytes_of_owned ha hl hown hw (s.rq c e.tid.val e.w e.line.toNat false) rfl]

end

section
variable (s : State) (c : Nat) (e : MergeEntry)

/-- What a change of one core and of its trio's L2 keeps, the store keeps. -/
theorem storedIn_keeps {α : Type} {p : State → α} (hc : ∀ s c f, p (State.modCore s c f) = p s) (hl : ∀ s t f, p (State.modL2 s t f) = p s) :
    p (s.storedIn c e) = p s := by
  rw [State.storedIn, l2Put_keeps _ _ _ _ _ _ _ hc, hl, State.l2Touch, hl]

theorem core_storedIn (x : Nat) :
    (s.storedIn c e).core x = if x ≠ c ∧ trioOf x = trioOf c then (s.core x).dropL1d e.line.toNat else s.core x := by
  rw [State.storedIn, core_l2Put, State.l2Touch, State.modL2_core]

theorem l2_storedIn (ht : trioOf c ≤ 84) (q : Nat) : ((s.storedIn c e).trio (trioOf c)).l2.find q =
    ((s.trio (trioOf c)).l2.find q).map (fun l => if q = e.line.toNat then { l with age := 0 }.put e.data e.mask .m else l) := by
  rw [State.storedIn, l2Put_keeps (p := fun s => (s.trio (trioOf c)).l2) _ _ _ _ _ _ _ (fun _ _ _ => rfl), State.l2Touch,
    l2_modL2 _ ht, l2_modL2 _ ht, find_update (f := fun l => l.put e.data e.mask .m) _ _ _ (fun _ => rfl) (fun _ _ => LState.noConfusion),
    find_update (f := fun l => { l with age := 0 }) _ _ _ (fun _ => rfl) (fun _ h => h), Option.map_map]
  refine Option.map_congr fun l _ => ?_
  by_cases hq : q = e.line.toNat <;> simp [hq]

end

/-- The oldest entry, closed, leaves the buffer and drains, with nothing to compare. -/
theorem exec_mergeEntryDrain {s : State} {c : CoreId} {e : MergeEntry} {rest : List MergeEntry} (hm : (s.core c.val).merge = e :: rest)
    (ho : e.isOpen = false) (hi : (s.trio (trioOf c.val)).inj = none) : exec (.mergeEntryDrain c) s =
      .next ((s.modCore c.val (fun k => { k with merge := settleMerge rest })).drainEntry c.val e).finish := by
  have hfirst : s.drainFirst c.val = (s.modCore c.val (fun k => { k with merge := settleMerge rest })).drainEntry c.val e := by
    simp [State.drainFirst, hm, ho]
  show execMergeEntryDrain c s = _
  unfold execMergeEntryDrain
  dsimp only
  rw [hfirst, compared_agreed _ _ _ hi, ite_self]
  rfl

/-- Settles the second part of O22: a time-out closes entries and nothing else; a drain writes the owned line of the L2, and the end of the
step changes neither. -/
theorem bufferedBytesDrain : BufferedBytesDrain := by
  intro s c href
  refine ⟨fun front back e hm ho hb => ?timeout, fun e rest l hm ho hr hty ha hl hown hw hi => ?drain⟩
  case timeout =>
    have hs := settles_finish (s.modCore c.val (fun k => { k with merge := closeUpTo k.merge front.length })) href
    obtain ⟨p, q, hk⟩ := hs.core c.val
    rw [State.core_modCore] at hk
    refine ⟨_, exec_mergeEntryTimeout hm ho hb, ?_, hs.mem, by rw [hk]⟩
    rw [← closeUpTo_length, ← hm, hk]
  case drain =>
    have hcore := State.core_modCore s c.val (fun k => { k with merge := settleMerge rest })
    have hother : ∀ x, x ≠ c.val → _ := fun x hx => State.core_modCore_other s (fun k => { k with merge := settleMerge rest }) hx
    rw [exec_mergeEntryDrain hm ho hi]
    have hdrain : (s.modCore c.val (fun k => { k with merge := settleMerge rest })).drainEntry c.val e =
      (s.modCore c.val (fun k => { k with merge := settleMerge rest })).storedIn c.val e := drainEntry_of_owned ha hl hown hw hr hty
    rw [hdrain]
    generalize hu : s.modCore c.val (fun k => { k with merge := settleMerge rest }) = u at hcore hother
    have hs := settles_finish (u.storedIn c.val e) ((storedIn_keeps u c.val e (p := State.refusals) (fun _ _ _ => rfl)
      State.modL2_refusals).trans (hu ▸ href))
    have htrio : ((u.storedIn c.val e).finish.trio (trioOf c.val)).l2 = ((u.storedIn c.val e).trio (trioOf c.val)).l2 := by
      rw [State.trio, State.trio, hs.trios]
    have hl2 : ∀ q, ((u.storedIn c.val e).finish.trio (trioOf c.val)).l2.find q = _ := fun q =>
      (congrArg (L2.find · q) htrio).trans (l2_storedIn u c.val e (trioOf_le c) q)
    have hwas : (u.trio (trioOf c.val)).l2 = (s.trio (trioOf c.val)).l2 := by rw [← hu]; rfl
    refine ⟨_, rfl, ?_, ?_, fun q hq => ?_, fun x hx ht y hy => ?_, fun x => ?_, fun a => ?_, ?_, ?_⟩
    · obtain ⟨p, q, hk⟩ := hs.core c.val
      rw [hk, core_storedIn, if_neg (fun h => h.1 rfl), hcore]
    · rw [hl2, hwas, hl]
      simp [L2Line.put]
    · rw [hl2, hwas]
      simp [hq]
    · obtain ⟨p, q, hk⟩ := hs.core x
      rw [hk, core_storedIn, if_pos ⟨hx, ht⟩] at hy
      have := (List.mem_filter.mp hy).2
      rw [decide_eq_true_eq] at this
      exact fun h => this (congrArg BitVec.toNat h)
    · obtain ⟨p, q, hk⟩ := hs.core x
      rw [hk, core_storedIn]
      have harch : (u.core x).arch = (s.core x).arch := by
        by_cases hx : x = c.val
        · rw [hx, hcore]
        · rw [hother x hx]
      rw [← harch]
      split <;> rfl
    · rw [State.byte, hs.mem, storedIn_keeps u c.val e (p := State.mem) (fun _ _ _ => rfl) State.modL2_mem, ← hu]
      rfl
    · rw [hs.homes, storedIn_keeps u c.val e (p := State.homes) (fun _ _ _ => rfl) State.modL2_homes, ← hu]
      rfl
    · rw [hs.msc, storedIn_keeps u c.val e (p := State.msc) (fun _ _ _ => rfl) State.modL2_msc, ← hu]
      rfl

/-- Settles O22: the buffer as a list of entries, then its own events. -/
theorem mergingBuffer : Obligations.MergingBuffer := ⟨bufferedBytesAreRead, bufferedBytesDrain⟩

end Sys2Proof.Machine
end

section
/-! SUPPORT. A load that the trio's L2 serves: what counting leaves of the registers, and what the read leaves of the state: obligation O17
(R109, R111, R120, R123). -/

namespace Sys2Proof.Machine

/-! ### What a read leaves -/

/-- A register that neither tracing nor the counters of core `c` and of its trio write. -/
structure RegRef.Uncounted (c : Nat) (r : RegRef) : Prop where
  lsrc : ∀ id, id < 512 → r.off ≠ (Machine.lsrc id).off
  core : ∀ n, n < 6 → r.off ≠ ((PmcBlock.core c).cnt n).off
  trio : ∀ n, n < 8 → r.off ≠ ((PmcBlock.trio (trioOf c)).cnt n).off

/-- No trio's block lies where the trace units' registers lie. -/
theorem trioBase_far (c : CoreId) : trioBase (trioOf c.val) < 0x30000000 ∨ 0x3D000000 ≤ trioBase (trioOf c.val) := by
  have := trioOf_le c
  unfold trioBase svcTrio
  split <;> omega

theorem uncounted_l2Ctl (c : CoreId) : RegRef.Uncounted c.val (l2CtlR (trioOf c.val)) := by
  have hm := trioBase_mod (trioOf c.val)
  have hb := trioBase_far c
  constructor <;> intro n hn
  · simp only [RegRef.off, l2CtlR, Machine.lsrc, Reg.place, zoneBase]
    omega
  · have hi : coreIn c.val < 3 := Nat.mod_lt _ (by decide)
    simp only [RegRef.off, l2CtlR, PmcBlock.cnt, Reg.place, zoneBase]
    omega
  · simp only [RegRef.off, l2CtlR, PmcBlock.cnt, Reg.place, zoneBase]
    omega

theorem uncounted_coreCache (c : CoreId) : RegRef.Uncounted c.val (coreCacheR c.val) := by
  have hm := trioBase_mod (trioOf c.val)
  have hb := trioBase_far c
  have hi : coreIn c.val < 3 := Nat.mod_lt _ (by decide)
  constructor <;> intro n hn
  · simp only [RegRef.off, coreCacheR, Machine.lsrc, Reg.place, zoneBase]
    omega
  · simp only [RegRef.off, coreCacheR, PmcBlock.cnt, Reg.place, zoneBase]
    omega
  · simp only [RegRef.off, coreCacheR, PmcBlock.cnt, Reg.place, zoneBase]
    omega

/-- Two states that a read by core `c` from its trio's L2 may turn one into the other. -/
structure ReadsOnly (c : Nat) (s t : State) : Prop where
  reg : ∀ r : RegRef, r.Uncounted c → t.reg r = s.reg r
  mem : t.mem = s.mem
  msc : t.msc = s.msc
  homes : t.homes = s.homes
  net : t.net = s.net
  trio : ∀ x, x ≠ trioOf c → t.trio x = s.trio x
  arch : ∀ x, (t.core x).arch = (s.core x).arch
  data : ∀ q, ((t.trio (trioOf c)).l2.find q).map (·.data) = ((s.trio (trioOf c)).l2.find q).map (·.data)

theorem ReadsOnly.refl (c : Nat) (s : State) : ReadsOnly c s s :=
  ⟨fun _ _ => rfl, rfl, rfl, rfl, rfl, fun _ _ => rfl, fun _ => rfl, fun _ => rfl⟩

theorem ReadsOnly.trans {c : Nat} {s t u : State} (h : ReadsOnly c s t) (k : ReadsOnly c t u) : ReadsOnly c s u where
  reg r hr := (k.reg r hr).trans (h.reg r hr)
  mem := k.mem.trans h.mem
  msc := k.msc.trans h.msc
  homes := k.homes.trans h.homes
  net := k.net.trans h.net
  trio x hx := (k.trio x hx).trans (h.trio x hx)
  arch x := (k.arch x).trans (h.arch x)
  data q := (k.data q).trans (h.data q)

variable {c : Nat}

theorem Observes.readsOnly {s t : State} (h : Observes c s t) : ReadsOnly c s t where
  reg r hr := h.reg r hr.lsrc hr.core
  mem := h.mem
  msc := h.msc
  homes := h.homes
  net := h.net
  trio x _ := by rw [State.trio, State.trio, h.trios]
  arch x := by
    obtain ⟨e, a, n, w, l, hk⟩ := h.core x
    rw [hk]
  data q := by rw [State.trio, State.trio, h.trios]

theorem readsOnly_foldl {α : Type} {f : State → α → State} {l : List α} (h : ∀ s a, a ∈ l → ReadsOnly c s (f s a)) (s : State) :
    ReadsOnly c s (l.foldl f s) := by
  induction l generalizing s with
  | nil => exact ReadsOnly.refl c s
  | cons a l ih => exact (h s a (List.mem_cons_self ..)).trans (ih (fun s b hb => h s b (List.mem_cons_of_mem _ hb)) _)

theorem readsOnly_setReg_cnt (s : State) {n : Nat} (v : Dword) (h : n < 8) :
    ReadsOnly c s (s.setReg ((PmcBlock.trio (trioOf c)).cnt n) v) :=
  { ReadsOnly.refl c s with reg := fun _ hr => State.reg_setReg_other s _ (hr.trio n h) }

theorem readsOnly_ite {s t u : State} {P : Prop} [Decidable P] (ht : ReadsOnly c s t) (hu : ReadsOnly c s u) :
    ReadsOnly c s (if P then t else u) := by
  split
  · exact ht
  · exact hu

theorem readsOnly_bump (fuel : Nat) (s : State) (n k : Nat) : ReadsOnly c s (s.bump (.trio (trioOf c)) fuel n k) := by
  induction fuel generalizing s n k with
  | zero => exact ReadsOnly.refl c s
  | succ fuel ih =>
    unfold State.bump
    split
    · exact ReadsOnly.refl c s
    · next h =>
      have hn : n < 8 := Nat.not_le.mp h
      extract_lets v total u w x up
      have hu : ReadsOnly c s u := readsOnly_setReg_cnt s _ hn
      have hw : ReadsOnly c s w := hu.trans (readsOnly_setReg_cnt u _ hn)
      have hx : ReadsOnly c s x := hw.trans (readsOnly_ite (observes_fireOverflow w).readsOnly (ReadsOnly.refl c w))
      exact readsOnly_ite hu (readsOnly_ite (hx.trans (ih _ _ _)) hx)

theorem readsOnly_countTrioFor (s : State) (tid code : Nat) : ReadsOnly c s (s.countTrioFor (trioOf c) tid code) :=
  readsOnly_foldl (fun _ _ _ => readsOnly_ite (readsOnly_bump _ _ _ _) (ReadsOnly.refl c _)) _

theorem readsOnly_l2Touch (s : State) (ht : trioOf c ≤ 84) (line : Nat) : ReadsOnly c s (s.l2Touch (trioOf c) line) where
  reg _ _ := State.modL2_reg ..
  mem := State.modL2_mem ..
  msc := State.modL2_msc ..
  homes := State.modL2_homes ..
  net := State.modL2_net ..
  trio x hx := by rw [State.l2Touch, modL2_of_trio s ht, State.trio_modTrio_other _ _ hx]
  arch x := congrArg Core.arch (State.modL2_core ..)
  data q := by
    rw [State.l2Touch, l2_modL2 s ht, find_update (f := fun l => { l with age := 0 }) _ _ _ (fun _ => rfl) (fun _ h => h), Option.map_map]
    refine Option.map_congr fun l _ => ?_
    by_cases hq : q = line <;> simp [hq]

theorem readsOnly_l1dPut (s : State) (line : Nat) (w : Bool) : ReadsOnly c s (s.l1dPut c line w) :=
  { ReadsOnly.refl c s with
    arch := fun x => by
      by_cases hx : x = c
      · rw [hx, State.l1dPut, State.core_modCore]
      · rw [State.l1dPut, State.core_modCore_other _ _ hx] }

/-! ### The read -/

/-- With its L1D prefetcher off a core trains no stream. -/
theorem l1dTrain_off {s : State} (h : bit (s.reg (coreCacheR c)) 3 = false) (pc va : Dword) (pa : Nat) (miss : Bool) :
    s.l1dTrain c pc va pa miss = s := by
  unfold State.l1dTrain
  simp [h]

theorem l2Hit_of_find {s : State} {t line : Nat} {l : L2Line} {w : Bool} (hl : (s.trio t).l2.find line = some l) (hon : s.l2On t = true)
    (hw : l.w = true → w = true) : s.l2Hit t w line = some l := by
  have hvis : l.visible w = true := by
    unfold L2Line.visible
    cases h : l.w
    · simp
    · simp [hw h]
  rw [State.l2Hit, if_pos hon, hl, Option.filter_some, hvis, if_pos rfl]

/-- A demand that hits in the L2 makes the line young and counts as a hit. -/
theorem l2Demand_of_hit {s : State} {t line : Nat} {r : Rq} {l : L2Line} (hh : s.l2Hit t r.w line = some l) (hp : r.pf = false) :
    s.l2Demand t r line = ((s.l2Touch t line).countTrioFor t r.tid 0x01, .ok (l.data, l.poison, true, 3)) := by
  have hhit : (s.l2On t && (((s.trio t).l2.find line).filter (fun l => l.visible r.w)).isSome) = true := by
    unfold State.l2Hit at hh
    split at hh
    · next hon => rw [hon, hh]; rfl
    · cases hh
  have hread : s.l2Read t r line = ((s.l2Touch t line).countTrioFor t r.tid 0x01, .ok (l.data, l.poison, true, 3)) := by
    unfold State.l2Read
    simp only [hh, hp]
    rfl
  unfold State.l2Demand
  simp only [hhit, hread, if_true]

/-- Settles O17: a line in L1D is read without a change; else the read counts, makes the line of the L2 young and may place it in L1D. -/
theorem loadsHitTheL2 : Obligations.LoadsHitTheL2 := by
  intro s c m pa l hl hon hw hoff
  have hmain : ∃ t served, s.loadLine c.val m pa = (t, .ok (l.data, l.poison, served)) ∧ (served = 1 ∨ served = 3) ∧ ReadsOnly c.val s t := by
    by_cases hin : (s.l1dOn c.val && (s.core c.val).l1d.any (fun x => decide (x.line.toNat = pa / 64) && ((s.core c.val).w || !x.w))) = true
    · refine ⟨s, 1, ?_, .inl rfl, ReadsOnly.refl _ s⟩
      unfold State.loadLine
      simp only [hin, hl, if_true, l1dTrain_off hoff]
    · have hcount := (observes_countCore (c := c.val) s 0x04).readsOnly
      have hl' : ((s.countCore c.val 0x04).trio (trioOf c.val)).l2.find (pa / 64) = some l := by
        rw [State.trio, (observes_countCore (c := c.val) s 0x04).trios]
        exact hl
      have hon' : (s.countCore c.val 0x04).l2On (trioOf c.val) = true := by
        have hreg : (s.countCore c.val 0x04).reg (l2CtlR (trioOf c.val)) = s.reg (l2CtlR (trioOf c.val)) := hcount.reg _ (uncounted_l2Ctl c)
        exact (congrArg (fun v => decide (fld v 1 0 ≠ 0)) hreg).trans hon
      have hd := l2Demand_of_hit (r := s.rq c.val (s.tidOn c.val) (s.core c.val).w (pa / 64) m.h) (l2Hit_of_find hl' hon' hw) rfl
      have hread := (hcount.trans (readsOnly_l2Touch _ (trioOf_le c) (pa / 64))).trans (readsOnly_countTrioFor _ (s.tidOn c.val) 0x01)
      generalize hu : ((s.countCore c.val 0x04).l2Touch (trioOf c.val) (pa / 64)).countTrioFor (trioOf c.val) (s.tidOn c.val) 0x01 = u at hread
      have hput := readsOnly_ite (P := (true && u.l1dOn c.val && !l.poison) = true)
        (hread.trans (readsOnly_l1dPut u (pa / 64) (s.core c.val).w)) hread
      refine ⟨_, 3, ?_, .inr rfl, hput⟩
      have hoff' := (congrArg (bit · 3) (hput.reg _ (uncounted_coreCache c))).trans hoff
      subst hu
      unfold State.loadLine
      simp only [hin, hd]
      exact congrArg (·, _) (l1dTrain_off hoff' _ _ _ _)
  obtain ⟨t, served, ht, hs, h⟩ := hmain
  exact ⟨t, served, ht, hs, fun a => by rw [State.byte, State.byte, h.mem], h.msc, h.homes, h.net, h.trio, h.arch, h.data⟩

end Sys2Proof.Machine
end

section
/-! SUPPORT. Writes that act on caches, translation, package links and checking hardware: obligation O49 (R130-R133, R138, R159, R164, R212). -/

namespace Sys2Proof.Machine

/-! ### A write that completes later, and single bits -/

/-- What a requester is answered when its write of the space comes to `w` (R113, R464). -/
def Wr.answered (s : State) : Wr → Host.Outcome State Fault Refusal
  | .ok t => wrote t
  | .err e => refusedWrite s (BitVec.ofNat 8 e)
  | .wait t => waitingWrite t
  | .stay => .next s.finish

section
variable {s : State} {who : Requester} {r : RegRef} {v : Dword} (h : Accepted s who r v)
include h

theorem rowWrite_of_mcsWrite {w : Wr} (hm : s.mcsWrite who r.off 3 v = w) : s.rowWrite who r v = w.answered s := by
  unfold State.rowWrite State.write
  simp only [h.up, h.port, Bool.or_self, Bool.false_eq_true, if_false, hm]
  cases w <;> rfl

/-- A write that its register holds back completes later (R113). -/
theorem rowWrite_of_wait {t : State} (hl : ¬ (r.reg = .mcCfg ∨ r.reg = .ftuCfg)) (hw : s.regWrite who r v = .wait t) :
    s.rowWrite who r v = waitingWrite t := rowWrite_of_mcsWrite h ((mcsWrite_of_accepted h).trans ((regWriteLimited_eq hl).trans hw))

end

theorem setBit_bit (v : Dword) (i : Nat) : setBit v i (bit v i) = v := by
  refine BitVec.eq_of_getLsbD_eq fun j hj => ?_
  refine (bit_setBit v i j (bit v i) hj).trans ?_
  split
  · next h => rw [h]; rfl
  · rfl

theorem setBit_zero_true (v : Dword) : setBit v 0 true = v ||| 1 := by
  refine BitVec.eq_of_getLsbD_eq fun j hj => ?_
  refine (bit_setBit v 0 j true hj).trans ?_
  rw [BitVec.getLsbD_or, show (1 : Dword).getLsbD j = decide (j = 0) by simp [BitVec.getLsbD_one]]
  by_cases h : j = 0 <;> simp [h, bit]

/-- The two low bits of a word. -/
theorem bits_of_low2 {v : Dword} {k : Nat} (h : fld v 1 0 = k) : bit v 0 = k.testBit 0 ∧ bit v 1 = k.testBit 1 := by
  subst h
  simp only [testBit_fld, bit]
  exact ⟨by simp, by simp⟩

theorem bit_of_fld {v : Dword} {i : Nat} {b : Bool} (h : fld v i i = b.toNat) : bit v i = b := by
  rw [fld_bit] at h
  cases hb : bit v i <;> cases b <;> simp_all

/-! ### The L2 and the L1D (R130-R132) -/

section
variable {s : State} {t : Nat} {v : Dword}

theorem writeL2Ctl_clean (hv : bit v 0 = false) (h : s.rf (l2CtlR t) 1 0 = 1) :
    s.writeL2Ctl t v = .wait ((s.writeReg (l2CtlR t) (v ||| 1)).setRf (l2CtlR t) 1 1 1) := by
  obtain ⟨h0, h1⟩ : bit _ 0 = true ∧ bit _ 1 = false := bits_of_low2 h
  unfold State.writeL2Ctl
  simp [h0, h1, hv, setBit_zero_true]

theorem writeL2Ctl_enable (hv : bit v 0 = true) (h1 : s.rf (l2CtlR t) 1 1 = 0) (h2 : s.rf (l2CtlR t) 2 2 = 0) :
    s.writeL2Ctl t v = .ok (s.writeReg (l2CtlR t) v) := by
  have h1 : bit (s.reg (l2CtlR t)) 1 = false := bit_of_fld h1
  have h2 : bit (s.reg (l2CtlR t)) 2 = false := bit_of_fld h2
  unfold State.writeL2Ctl
  simp only [h1, h2, hv, Bool.false_eq_true, if_false, Bool.not_true, Bool.and_false, Bool.false_and]
  rw [← hv, setBit_bit]

/-- A write that enables while the L2 clears or cleans waits. -/
theorem writeL2Ctl_held (hv : bit v 0 = true) (hn : (s.trio t).l2.cleanNext = none)
    (h : s.rf (l2CtlR t) 2 0 = 4 ∨ s.rf (l2CtlR t) 1 1 = 1) :
    s.writeL2Ctl t v = .wait (s.modL2 t (fun k => { k with cleanNext := some v })) := by
  unfold State.writeL2Ctl
  rcases h with h | h
  · obtain ⟨h0, h1, h2⟩ : bit _ 0 = false ∧ bit _ 1 = false ∧ bit _ 2 = true := bits_of_low3 h
    simp [h0, h1, h2, hv, hn]
  · have h1 : bit (s.reg (l2CtlR t)) 1 = true := bit_of_fld h
    simp [h1, hn]

end

theorem writeCoreCache_drains {s : State} {c : Nat} {v : Dword} (hv : bit v 1 = false) :
    s.writeCoreCache c v = (s.drainMerge c).writeReg (coreCacheR c) v := by
  unfold State.writeCoreCache
  simp [hv]

/-! ### The Memory-Side Cache and translation (R133, R138, R159) -/

theorem writeMscCtl_clean {s : State} {v : Dword} (hv : bit v 0 = false) (h : s.rf mscCtlR 1 0 = 1) :
    s.writeMscCtl v = .wait (s.setRf mscCtlR 1 1 1) := by
  obtain ⟨h0, h1⟩ : bit _ 0 = true ∧ bit _ 1 = false := bits_of_low2 h
  unfold State.writeMscCtl
  simp [h0, h1, hv]

section
variable {s : State} {v : Dword}

/-- The table that a value of `HIT_CFG` names has a legal size, is aligned and lies in installed DRAM. -/
def State.tableFits (s : State) (v : Dword) : Prop :=
  14 ≤ fld v 8 4 ∧ fld v 8 4 ≤ 27 ∧ fld v 45 21 * 2 ^ 21 % 2 ^ (fld v 8 4 + 7) = 0 ∧
    s.rangeInstalled (fld v 45 21 * 2 ^ 21) (2 ^ (fld v 8 4 + 7)) = true

theorem hitCfg_check : (!bit v 0 || (decide (14 ≤ fld v 8 4 ∧ fld v 8 4 ≤ 27) && decide (fld v 45 21 * 2 ^ 21 % 2 ^ (fld v 8 4 + 7) = 0) &&
    s.rangeInstalled (fld v 45 21 * 2 ^ 21) (2 ^ (fld v 8 4 + 7)))) = true ↔ fld v 0 0 = 0 ∨ s.tableFits v := by
  have hv : bit v 0 = false ↔ fld v 0 0 = 0 := by rw [fld_bit]; cases bit v 0 <;> decide
  simp only [Bool.or_eq_true, Bool.not_eq_true', Bool.and_eq_true, decide_eq_true_eq, hv, State.tableFits, and_assoc]

theorem writeHitCfg_fits (h : fld v 0 0 = 0 ∨ s.tableFits v) : s.writeHitCfg v = .ok (s.writeReg hitCfgR v) := if_pos (hitCfg_check.mpr h)

theorem writeHitCfg_refused (h : ¬ (fld v 0 0 = 0 ∨ s.tableFits v)) : s.writeHitCfg v = .err 0 := if_neg (mt hitCfg_check.mp h)

end

section
variable {s : State} {n : Nat} {v : Dword}

theorem writeQuota_within (h : s.rf (tqStatusR n) 31 0 ≤ ((s.writeReg (tqQuotaR n) v).reg (tqQuotaR n)).toNat) :
    s.writeQuota n v = (s.writeReg (tqQuotaR n) v).setRf (tqStatusR n) 63 63 0 := if_neg (Nat.not_lt.mpr h)

section
variable (h : ((s.writeReg (tqQuotaR n) v).reg (tqQuotaR n)).toNat < s.rf (tqStatusR n) 31 0)
include h

theorem writeQuota_over_again (hw : s.rf (tqStatusR n) 63 63 = 1) :
    s.writeQuota n v = (s.writeReg (tqQuotaR n) v).setRf (tqStatusR n) 63 63 1 := (if_pos h).trans (if_pos hw)

/-- A quota that the frames in use exceed for the first time leaves a record (R159). -/
theorem writeQuota_over (hw : s.rf (tqStatusR n) 63 63 = 0) : s.writeQuota n v =
    ((s.writeReg (tqQuotaR n) v).setRf (tqStatusR n) 63 63 1).tidRecord n 0x0D 0 0
      [s.reg (tqQuotaR n), (s.writeReg (tqQuotaR n) v).reg (tqQuotaR n), BitVec.ofNat 64 (s.rf (tqStatusR n) 31 0)] :=
  (if_pos h).trans (if_neg (by rw [hw]; decide))

end

theorem tqQuotaR_off_ne_tqStatusR (n : Nat) : (tqQuotaR n).off ≠ (tqStatusR n).off := by
  simp only [tqQuotaR, tqStatusR, RegRef.off, Reg.place, zoneBase]
  omega

theorem writeRelease_eq : s.writeRelease n v =
    if s.rf (tqStatusR n) 31 0 - fld v 31 0 ≤ s.rf (tqQuotaR n) 31 0 then
      (s.setRf (tqStatusR n) 31 0 (s.rf (tqStatusR n) 31 0 - fld v 31 0)).setRf (tqStatusR n) 63 63 0
    else s.setRf (tqStatusR n) 31 0 (s.rf (tqStatusR n) 31 0 - fld v 31 0) := by
  unfold State.writeRelease
  dsimp only
  rw [rf_setRf_other_reg _ _ _ _ _ _ (tqQuotaR_off_ne_tqStatusR n)]

end

/-- Settles the first part of O49: each register's own rule, behind the checks that let the write pass. -/
theorem cacheRegisterCommands : CacheRegisterCommands := by
  intro s who v t c n l2 hit size base fits quota used q left
  refine ⟨fun h hv hc => rowWrite_of_wait h nofun (writeL2Ctl_clean hv hc),
    fun h hv h1 h2 => rowWrite_of_ok h nofun (writeL2Ctl_enable hv h1 h2),
    fun h hv hn hc => rowWrite_of_wait h nofun (writeL2Ctl_held hv hn hc),
    fun h hv => rowWrite_of_ok h nofun ?l1d, fun h hv hc => rowWrite_of_wait h nofun ?msc,
    fun h hf => rowWrite_of_ok h nofun (writeHitCfg_fits hf),
    fun h hf => rowWrite_of_err h nofun (writeHitCfg_refused hf),
    fun h hq => rowWrite_of_ok h nofun (congrArg Wr.ok (writeQuota_within hq)),
    fun h hq hw => rowWrite_of_ok h nofun (congrArg Wr.ok (writeQuota_over_again hq hw)),
    fun h hq hw => rowWrite_of_ok h nofun (congrArg Wr.ok (writeQuota_over hq hw)),
    fun h hq => rowWrite_of_ok h nofun (congrArg Wr.ok (writeRelease_eq.trans (if_neg (Nat.not_le.mpr hq)))),
    fun h hq => rowWrite_of_ok h nofun (congrArg Wr.ok (writeRelease_eq.trans (if_pos hq)))⟩
  case l1d =>
    show Wr.ok (s.writeCoreCache (coreNo (trioOf c.val) (c.val % 3)) v) = _
    rw [coreNo_trioOf, writeCoreCache_drains hv]
  case msc =>
    show (if (s.bootStore && bit v 0) = true then Wr.err 0 else s.writeMscCtl v) = _
    rw [hv, Bool.and_false, if_neg (by decide), writeMscCtl_clean hv hc]

/-! ### Package links and checking hardware (R164, R212) -/

section
variable {s : State} {d : Nat} {v : Dword}

theorem writePlinkCtl_retrain (h0 : bit v 0 = true) (h1 : bit v 1 = false) :
    s.writePlinkCtl d v = if s.plinkState d = 2 then s.plinkRetrain d else s := by
  unfold State.writePlinkCtl
  simp [h0, h1]

theorem writePlinkCtl_clears (h0 : bit v 0 = false) (h1 : bit v 1 = true) :
    s.writePlinkCtl d v = ((s.setRf (plinkR d) 63 48 0).setRf (plinkR d) 47 32 0).setRf (plinkR d) 31 24 0 := by
  unfold State.writePlinkCtl
  simp [h0, h1]

end

section
variable {s : State} {t : Nat} {v : Dword}

theorem rstat_off_ne_rctlR (t : Nat) : (rstat t).off ≠ (rctlR t).off := by
  simp only [rstat, rctlR, RegRef.off, Reg.place, zoneBase]
  omega

theorem writeRctl_eq (hv : bit v 1 = true) : s.writeRctl t v =
    if s.trioMode t = 0 ∧ s.rf (rstat t) 9 8 ≠ 1 then (s.writeReg (rctlR t) v).setRf (rstat t) 9 8 1 else s.writeReg (rctlR t) v := by
  have hreg : (s.writeReg (rctlR t) v).reg (rstat t) = s.reg (rstat t) := State.reg_writeReg_other s v (rstat_off_ne_rctlR t)
  have hmode : (s.writeReg (rctlR t) v).trioMode t = s.trioMode t := congrArg (fld · 1 0) hreg
  unfold State.writeRctl
  dsimp only
  rw [hmode, State.rf, hreg, ← State.rf]
  simp only [hv, true_and]

/-- `TRIO_INJ` of a trio. -/
def trioInjR (t : Nat) : RegRef := ⟨.trioInj, t, 0, 0⟩

/-- `LINK_TEST`. -/
def linkTestR : RegRef := ⟨.linkTest, 0, 0, 0⟩

theorem linkTestR_off_ne_trioInjR (t : Nat) : linkTestR.off ≠ (trioInjR t).off := by
  have := trioBase_mod t
  simp only [linkTestR, trioInjR, RegRef.off, Reg.place, zoneBase]
  omega

theorem reg_linkTest_writeReg : (s.writeReg (trioInjR t) v).reg linkTestR = s.reg linkTestR :=
  State.reg_writeReg_other s v (linkTestR_off_ne_trioInjR t)

theorem writeInj_arms {k : Fin 3} {g : Fin 32} (hv : bit v 7 = true) (hk : fld v 6 5 = k.val) (hg : fld v 4 0 = g.val)
    (ht : bit (s.reg linkTestR) 0 = true) :
    s.writeInj t v = (s.writeReg (trioInjR t) v).modTrio t (fun x => { x with inj := some (some k, g) }) := by
  have hfin : (⟨fld v 6 5, hk ▸ k.isLt⟩ : Fin 3) = k := Fin.ext hk
  have hof : Fin.ofNat 32 (fld v 4 0) = g := by rw [hg]; exact Fin.ofNat_val_eq_self g
  have hgo : bit v 7 = true ∧ bit ((s.writeReg (trioInjR t) v).reg linkTestR) 0 = true := ⟨hv, by rw [reg_linkTest_writeReg, ht]⟩
  unfold State.writeInj
  dsimp only
  rw [dif_pos (hk ▸ k.isLt), hfin, hof]
  exact if_pos hgo

theorem writeInj_ignored (ht : bit (s.reg linkTestR) 0 = false) : s.writeInj t v = s.writeReg (trioInjR t) v := by
  have hgo : ¬ (bit v 7 = true ∧ bit ((s.writeReg (trioInjR t) v).reg linkTestR) 0 = true) := by rw [reg_linkTest_writeReg, ht]; simp
  unfold State.writeInj
  dsimp only
  split
  · exact if_neg hgo
  · rfl

end

/-- Settles the second part of O49. -/
theorem checkingRegisterCommands : CheckingRegisterCommands := by
  intro s who v t d k g link rctl inj
  refine ⟨fun h h0 h1 hs => rowWrite_of_ok h nofun (congrArg Wr.ok ((writePlinkCtl_retrain h0 h1).trans (if_pos hs))),
    fun h h0 h1 hs => rowWrite_of_ok h nofun (congrArg Wr.ok ((writePlinkCtl_retrain h0 h1).trans (if_neg hs))),
    fun h h0 h1 => rowWrite_of_ok h nofun (congrArg Wr.ok (writePlinkCtl_clears h0 h1)),
    fun h hv hm hs => rowWrite_of_ok h nofun (congrArg Wr.ok ((writeRctl_eq hv).trans (if_pos ⟨hm, hs⟩))),
    fun h hv hs => rowWrite_of_ok h nofun (congrArg Wr.ok ((writeRctl_eq hv).trans (if_neg ?_))),
    fun h hv hk hg ht => rowWrite_of_ok h nofun (congrArg Wr.ok (writeInj_arms hv hk hg ht)),
    fun h hv ht => rowWrite_of_ok h nofun (congrArg Wr.ok (writeInj_ignored ht))⟩
  exact fun hn => hs.elim (fun h => h hn.1) hn.2

end Sys2Proof.Machine
end

section
/-! SUPPORT. Writes that act on the frame tick and the seasons: obligation O49 (R223, R225, R226, R238, R240, R15). -/

namespace Sys2Proof.Machine

/-! ### The frame tick (R223, R226) -/

section
variable {s u : State} {who : Requester} {r : RegRef} {v : Dword} (h : Accepted s who r v)
include h

/-- A period that the limit registers do not allow is refused, another is written (R15). -/
theorem rowWrite_of_limited (hr : r.reg = .mcCfg ∨ r.reg = .ftuCfg) (hw : s.regWrite who r v = .ok u) :
    s.rowWrite who r v = if s.overCommits u then refusedWrite s 0 else wrote u := by
  have hm : s.mcsWrite who r.off 3 v = if s.overCommits u = true then .err 0 else .ok u := by
    rw [mcsWrite_of_accepted h, State.regWriteLimited, hw]
    simp only [hr, true_and]
  rw [rowWrite_of_mcsWrite h hm]
  split <;> rfl

/-- A value that the register's own checks refuse is refused whatever the limits say. -/
theorem rowWrite_of_limited_err (hw : s.regWrite who r v = .err 0) : s.rowWrite who r v = refusedWrite s 0 :=
  rowWrite_of_mcsWrite h (w := .err 0) (by rw [mcsWrite_of_accepted h, State.regWriteLimited, hw])

end

section
variable (s : State) (v : Dword)

/-- `FTU_CFG` after a write of `v`. -/
def State.ftuNew : Dword := writeFields Reg.ftuCfg.fields (s.locked ftuCfgR) (s.reg ftuCfgR) v

/-- A legal period and source. -/
def ftuLegal (new : Dword) : Prop := 5000 ≤ fld new 27 8 ∧ fld new 27 8 ≤ 1000000 ∧ (fld new 35 34 = 3 → fld new 39 36 ≤ 2)

/-- Period and frames as they were. -/
def ftuSame (new old : Dword) : Prop := fld new 27 8 = fld old 27 8 ∧ fld new 33 28 = fld old 33 28

theorem ftu_refused_iff (new old : Dword) :
    ((bit old 0 = true ∧ (fld new 27 8 ≠ fld old 27 8 ∨ fld new 33 28 ≠ fld old 33 28)) ∨
      fld new 27 8 < 5000 ∨ 1000000 < fld new 27 8 ∨ (fld new 35 34 = 3 ∧ 2 < fld new 39 36)) ↔
    ¬ ftuLegal new ∨ (bit old 0 = true ∧ ¬ ftuSame new old) := by
  unfold ftuLegal ftuSame
  rw [not_and_or (a := fld new 27 8 = fld old 27 8)]
  constructor
  · rintro (h | h)
    · exact .inr h
    · exact .inl (by omega)
  · rintro (h | h)
    · exact .inr (by omega)
    · exact .inl h

variable {s v}

theorem writeFtuCfg_refused (h : ¬ ftuLegal (s.ftuNew v) ∨ (bit (s.reg ftuCfgR) 0 = true ∧ ¬ ftuSame (s.ftuNew v) (s.reg ftuCfgR))) :
    s.writeFtuCfg v = .err 0 := if_pos ((ftu_refused_iff _ _).mpr h)

/-- A legal write: starting, stopping, changing the source, or neither (R225). -/
theorem writeFtuCfg_legal (hl : ftuLegal (s.ftuNew v)) (hs : bit (s.reg ftuCfgR) 0 = true → ftuSame (s.ftuNew v) (s.reg ftuCfgR)) :
    s.writeFtuCfg v =
      let cfg := s.setReg ftuCfgR (s.ftuNew v)
      let go := if fld (s.ftuNew v) 35 34 = 0 then 1 else 2
      if bit (s.ftuNew v) 0 = true then
        if (!bit (s.reg ftuCfgR) 0) = true then .ok ({ cfg with ftu := { cfg.ftu with phase := cfg.rf ftuAlignR 19 0 } }.setFtu go)
        else if fld (s.ftuNew v) 39 34 ≠ fld (s.reg ftuCfgR) 39 34 then .ok (cfg.setFtu go)
        else .ok cfg
      else if bit (s.reg ftuCfgR) 0 = true then .ok (cfg.setFtu 0)
      else .ok cfg :=
  if_neg (fun h => ((ftu_refused_iff _ _).mp h).elim (· hl) (fun h => h.2 (hs h.1)))

theorem writeFtuAlign_refused (h : s.period ≤ fld v 19 0) : s.writeFtuAlign v = .err 0 := if_pos h

theorem writeFtuAlign_eq (h : fld v 19 0 < s.period) : s.writeFtuAlign v = if s.seasonsOn = true then .ok (s.writeReg ftuAlignR v)
    else .ok { s.writeReg ftuAlignR v with ftu := { s.ftu with phase := (s.writeReg ftuAlignR v).rf ftuAlignR 19 0 } } := by
  have hreg : (s.writeReg ftuAlignR v).reg seasonCtlR = s.reg seasonCtlR := State.reg_writeReg_other s v (by decide)
  unfold State.writeFtuAlign State.seasonsOn
  rw [if_neg (Nat.not_le.mpr h)]
  dsimp only
  rw [hreg]
  rfl

/-! ### The seasons (R238, R240) -/

/-- A slot whose season runs, comes next, or is kept for a forced one: its load is refused (R238). -/
def State.slotKept (s : State) (slot : Nat) : Prop :=
  (s.seasonsOn = true ∧ slot = s.active) ∨ (s.changePending = true ∧ slot = s.nextSeason) ∨ (s.gce.lalt = some slot ∧ s.valid slot = true)

theorem slotKept_writeReg_seasonLoad (slot : Nat) : (s.writeReg seasonLoadR v).slotKept slot ↔ s.slotKept slot := by
  have hreg : (s.writeReg seasonLoadR v).reg seasonCtlR = s.reg seasonCtlR := State.reg_writeReg_other s v (by decide)
  simp only [State.slotKept, State.seasonsOn, State.active, State.changePending, State.nextSeason, State.valid, State.rf, hreg,
    State.writeReg_gce]

theorem rf_seasonStat_writeReg_seasonLoad : (s.writeReg seasonLoadR v).rf seasonStatR 0 0 = s.rf seasonStatR 0 0 :=
  congrArg (fld · 0 0) (State.reg_writeReg_other s v (by decide))

theorem writeSeasonLoad_busy (h : s.rf seasonStatR 0 0 = 1) : s.writeSeasonLoad v = .ok (s.writeReg seasonLoadR v) :=
  if_neg (fun hg => by rw [rf_seasonStat_writeReg_seasonLoad, h] at hg; exact absurd hg.2 (by decide))

theorem writeSeasonLoad_go (hv : bit v 0 = true) (h : s.rf seasonStatR 0 0 = 0) : s.writeSeasonLoad v =
    .ok ((s.writeReg seasonLoadR v).loadGo ((s.writeReg seasonLoadR v).rf seasonLoadR 45 12 * 64) ((s.writeReg seasonLoadR v).rf seasonLoadR 5 4)) :=
  if_pos ⟨hv, rf_seasonStat_writeReg_seasonLoad.trans h⟩

theorem loadGo_kept {line slot : Nat} (h : s.slotKept slot) : s.loadGo line slot = s.loadEnd slot (some (0x04, 0, 0x1F)) := if_pos h

theorem loadGo_starts {line slot : Nat} (h : ¬ s.slotKept slot) : s.loadGo line slot =
    { (s.setValid slot false).setRf seasonStatR 0 0 1 with gce := { (s.setValid slot false).gce with load := some (line, slot) } } := if_neg h

/-- The season that a write of `SEASON_CTL` names stands in NEXT, and its validity is as before. -/
theorem valid_nextSeason_named :
    (s.setRf seasonCtlR 7 6 (fld v 7 6)).valid (s.setRf seasonCtlR 7 6 (fld v 7 6)).nextSeason = s.valid (fld v 7 6) := by
  have hlt := fld_lt v 7 6
  have hnext : (s.setRf seasonCtlR 7 6 (fld v 7 6)).nextSeason = fld v 7 6 := rf_setRf_same s _ (by decide) hlt
  rw [hnext, State.valid, State.valid, State.reg_setRf, bit, getLsbD_setFld _ _ _ _ _ (by omega), if_neg (by omega), bit]

theorem writeSeasonCtl_pending (hp : s.changePending = true) (hon : s.seasonsOn = true) : s.writeSeasonCtl v = .ok s := by
  unfold State.writeSeasonCtl
  simp [hp, hon]

section
variable (hp : s.changePending = false)
include hp

theorem writeSeasonCtl_requests (hv : bit v 4 = true) (hon : s.seasonsOn = true) : s.writeSeasonCtl v =
    if s.valid (fld v 7 6) = true then .ok (s.setRf seasonCtlR 7 6 (fld v 7 6)).requestSeason else .ok (s.setRf seasonCtlR 7 6 (fld v 7 6)) := by
  unfold State.writeSeasonCtl
  simp [hp, hon, hv, valid_nextSeason_named]

theorem writeSeasonCtl_enables (hv : bit v 3 = true) (hon : s.seasonsOn = false) : s.writeSeasonCtl v =
    if s.running = true ∧ s.valid (fld v 7 6) = true then .ok ((s.setRf seasonCtlR 7 6 (fld v 7 6)).setRf seasonCtlR 3 3 1).requestSeason
    else .ok (s.setRf seasonCtlR 7 6 (fld v 7 6)) := by
  have hrun : (s.setRf seasonCtlR 7 6 (fld v 7 6)).running = s.running := congrArg (bit · 0) (State.reg_setRf_other s _ _ _ (by decide))
  unfold State.writeSeasonCtl
  simp [hp, hon, hv, valid_nextSeason_named, hrun]

end

end

/-- Settles the third part of O49. -/
theorem timeRegisterCommands : TimeRegisterCommands := by
  intro s who v new old cfg source legal same limited load line slot kept named asked
  refine ⟨fun h => ⟨?refused, ?start, ?idle, ?keep, ?source, ?stop⟩, fun h => ⟨?alignBad, ?alignOn, ?alignOff⟩,
    fun h hv => ⟨?busy, ?kept, ?load⟩, fun h hv hon => ⟨?request, ?invalid, ?pending⟩, fun h hv hon hp => ⟨?enable, ?notEnabled⟩⟩
  case refused => exact fun hbad => rowWrite_of_limited_err h (writeFtuCfg_refused hbad)
  case start =>
    intro hl ho hn
    refine rowWrite_of_limited h (.inr rfl) ((writeFtuCfg_legal hl (fun hr => absurd (ho.symm.trans hr) (by decide))).trans ?_)
    exact (if_pos hn).trans (if_pos (by rw [ho]; rfl))
  case idle =>
    intro hl ho hn
    refine rowWrite_of_limited h (.inr rfl) ((writeFtuCfg_legal hl (fun hr => absurd (ho.symm.trans hr) (by decide))).trans ?_)
    exact (if_neg (fun hb => absurd (hn.symm.trans hb) (by decide))).trans (if_neg (by rw [ho]; decide))
  case keep =>
    intro hl hs ho hn hsrc
    refine rowWrite_of_limited h (.inr rfl) ((writeFtuCfg_legal hl (fun _ => hs)).trans ?_)
    exact (if_pos hn).trans ((if_neg (by rw [ho]; decide)).trans (if_neg (not_not_intro hsrc)))
  case source =>
    intro hl hs ho hn hsrc
    refine rowWrite_of_limited h (.inr rfl) ((writeFtuCfg_legal hl (fun _ => hs)).trans ?_)
    exact (if_pos hn).trans ((if_neg (by rw [ho]; decide)).trans (if_pos hsrc))
  case stop =>
    intro hl hs ho hn
    refine rowWrite_of_limited h (.inr rfl) ((writeFtuCfg_legal hl (fun _ => hs)).trans ?_)
    exact (if_neg (fun hb => absurd (hn.symm.trans hb) (by decide))).trans (if_pos ho)
  case alignBad => exact fun hb => rowWrite_of_err h nofun (writeFtuAlign_refused hb)
  case alignOn => exact fun hb hon => rowWrite_of_ok h nofun ((writeFtuAlign_eq hb).trans (if_pos hon))
  case alignOff => exact fun hb hon => rowWrite_of_ok h nofun ((writeFtuAlign_eq hb).trans (if_neg (by rw [hon]; decide)))
  case busy => exact fun hb => rowWrite_of_ok h nofun (writeSeasonLoad_busy hb)
  case kept =>
    exact fun hb hk => rowWrite_of_ok h nofun ((writeSeasonLoad_go hv hb).trans
      (congrArg Wr.ok (loadGo_kept ((slotKept_writeReg_seasonLoad _).mpr hk))))
  case load =>
    exact fun hb hk => rowWrite_of_ok h nofun ((writeSeasonLoad_go hv hb).trans
      (congrArg Wr.ok (loadGo_starts (mt (slotKept_writeReg_seasonLoad _).mp hk))))
  case request => exact fun hp hval => rowWrite_of_ok h nofun ((writeSeasonCtl_requests hp hv hon).trans (if_pos hval))
  case invalid => exact fun hp hval => rowWrite_of_ok h nofun ((writeSeasonCtl_requests hp hv hon).trans (if_neg (by rw [hval]; decide)))
  case pending => exact fun hp => rowWrite_of_ok h nofun (writeSeasonCtl_pending hp hon)
  case enable => exact fun hr hval => rowWrite_of_ok h nofun ((writeSeasonCtl_enables hp hv hon).trans (if_pos ⟨hr, hval⟩))
  case notEnabled =>
    intro hn
    refine rowWrite_of_ok h nofun ((writeSeasonCtl_enables hp hv hon).trans (if_neg fun hb => ?_))
    rcases hn with hn | hn
    · exact absurd (hn.symm.trans hb.1) (by decide)
    · exact absurd (hn.symm.trans hb.2) (by decide)

end Sys2Proof.Machine
end

section
/-! SUPPORT. Writes that act on contexts, tenants and Queue DMA: obligation O49 (R259, R277, R292, R293, R299). -/

namespace Sys2Proof.Machine

/-! ### A doubleword of a slot's page (R259) -/

section
variable {t n : Nat} {a : BitVec 12} (ht : t < 84) (hn : n < 64)
include ht hn

/-- The offset of a doubleword of a slot's page lies in its trio's block (R31). -/
theorem trioAt_slotPage : trioAt (trioBase t + 0x80000 + 0x1000 * n + a.toNat) = some (t, 0x80000 + 0x1000 * n + a.toNat) := by
  have := a.isLt
  have hb : trioBase t = 0x04000000 * (t / 7) + 0x00100000 * (t % 7) := if_neg (by unfold svcTrio; omega)
  unfold trioAt
  rw [hb, if_pos (by omega), if_pos (by omega), Option.some.injEq, Prod.mk.injEq]
  exact ⟨by omega, by omega⟩

theorem mcsUnit_slotPage : mcsUnit (trioBase t + 0x80000 + 0x1000 * n + a.toNat) = .slot t n (a.toNat / 8) := by
  have := a.isLt
  unfold mcsUnit
  rw [trioAt_slotPage ht hn]
  dsimp only
  rw [if_pos (by unfold svcTrio; omega), show (0x80000 + 0x1000 * n + a.toNat) / 0x1000 % 64 = n by omega,
    show (0x80000 + 0x1000 * n + a.toNat) % 0x1000 / 8 = a.toNat / 8 by omega]

end

section
variable {s : State} {t n i : Nat} {v : Dword}

theorem slotWrite_ignored (h : imgItem i = .nothing ∨ imgItem i = .stat ∨ ∃ k, imgItem i = .desc k) : s.slotWrite t n i v = .ok s := by
  unfold State.slotWrite
  rcases h with h | h | ⟨k, h⟩ <;> simp [h]

theorem slotWrite_image (hn : imgItem i ≠ .nothing) (hs : imgItem i ≠ .stat) (hd : ∀ k, imgItem i ≠ .desc k) : s.slotWrite t n i v =
    if (s.slot t n).state = .suspended ∨ (s.slot t n).state = .faulted then .ok (s.setSlot t n ((s.slot t n).imgWrite i v)) else .err 0 := by
  unfold State.slotWrite
  cases h : imgItem i <;> simp_all

end

section
variable {s : State} {who : Requester} {t : TrioId} {slot : Fin 64} {a : BitVec 12} {v : Dword}

/-- A write of a slot's page whose checks pass answers what the page does with it. -/
theorem exec_slotImageWrite (hdown : s.down = false) (hport : s.dapAbsent who = false) (ht : t.val < 84)
    (hans : s.mcsAnswers who (trioBase t.val + 0x80000 + 0x1000 * slot.val + a.toNat) (.slot t.val slot.val (a.toNat / 8)) = none)
    (hdap : s.dapRefused who true = false) (hseal : s.slotSealed who t.val slot.val (a.toNat / 8) = false) (ha : a.toNat % 8 = 0) :
    exec (.slotImageWrite who t slot a v) s = (s.slotWrite t.val slot.val (a.toNat / 8) v).answered s := by
  have hoff : (trioBase t.val + 0x80000 + 0x1000 * slot.val + a.toNat) % 8 = 0 := by
    have := trioBase_mod t.val
    omega
  have hsize : sizeOk (trioBase t.val + 0x80000 + 0x1000 * slot.val + a.toNat) 3 = true := by
    simp only [sizeOk, hoff, decide_true, Bool.and_self]
  have hm : s.mcsWrite who (trioBase t.val + 0x80000 + 0x1000 * slot.val + a.toNat) 3 v = s.slotWrite t.val slot.val (a.toNat / 8) v := by
    unfold State.mcsWrite
    simp only [mcsUnit_slotPage ht slot.isLt, hans, hdap, hseal, hsize, Bool.false_eq_true, or_self, if_false, Bool.not_true]
  show done (s.write who _ 3 v) = _
  unfold State.write
  simp only [hdown, hport, Bool.or_self, Bool.false_eq_true, if_false, hm]
  cases s.slotWrite t.val slot.val (a.toNat / 8) v <;> rfl

end

/-! ### Tenants (R292, R293) -/

section
variable {s : State} {t : Nat} {v : Dword}

theorem writeTntRst_go (h : bit v 0 = true) : s.writeTntRst v = (s.writeReg ⟨.tntRst, 0, 0, 0⟩ v).tenantReset (fld v 36 32) := if_pos h

/-- A valid season holds the tenant. -/
def State.tenantHeld (s : State) (t : Nat) : Bool := (List.range 4).any (fun sl => s.valid sl && bit (s.tenantRec sl t) 0)

theorem writeTntCfg_zero (h : t = 0) : s.writeTntCfg t v = .ok s := if_pos h

theorem writeTntCfg_takes (h0 : t ≠ 0) (h : fld v 2 1 = s.classOf t ∨ s.tenantHeld t = false) :
    s.writeTntCfg t v = .ok (s.writeReg (tntR t) v) := by
  refine (if_neg h0).trans (if_neg fun hb => ?_)
  rcases h with h | h
  · exact hb.1 h
  · exact absurd (h.symm.trans hb.2) (by decide)

theorem writeTntCfg_refused (h0 : t ≠ 0) (h : fld v 2 1 ≠ s.classOf t) (hh : s.tenantHeld t = true) : s.writeTntCfg t v = .err 0 :=
  (if_neg h0).trans (if_pos ⟨h, hh⟩)

end

/-- Settles the fourth part of O49. -/
theorem tenantRegisterCommands : TenantRegisterCommands := by
  intro s who v q t n slot at' tnt rst idx off i b used
  refine ⟨fun h => rowWrite_of_ok h nofun ?doorbell, fun hdown hport ht hans hdap hseal ha =>
      ⟨fun hi => ?ignored, fun h1 h2 h3 => ⟨fun hb => ?kept, fun hb1 hb2 => ?refused⟩⟩,
    fun h hv => rowWrite_of_ok h nofun (congrArg Wr.ok (writeTntRst_go hv)), fun h hn => rowWrite_of_ok h nofun (writeTntCfg_zero hn),
    fun h hn hc => rowWrite_of_ok h nofun (writeTntCfg_takes hn hc), fun h hn hc hu => rowWrite_of_err h nofun (writeTntCfg_refused hn hc hu),
    fun h => rowWrite_of_ok h nofun rfl⟩
  case doorbell =>
    show Wr.ok ((s.writeReg (cxqIdxR q.val) v).skipBad (Fin.ofNat 33 q.val) 4096) = _
    rw [Fin.ofNat_val_eq_self]
  case ignored => rw [exec_slotImageWrite hdown hport ht hans hdap hseal ha, slotWrite_ignored hi]; rfl
  case kept => rw [exec_slotImageWrite hdown hport ht hans hdap hseal ha, slotWrite_image h1 h2 h3, if_pos hb]; rfl
  case refused =>
    rw [exec_slotImageWrite hdown hport ht hans hdap hseal ha, slotWrite_image h1 h2 h3, if_neg (fun hb => hb.elim hb1 hb2)]
    rfl

/-- Settles O49: the writes of caches and translation, of checking, of time, and of tenants. -/
theorem computeRegisterCommands : Obligations.ComputeRegisterCommands :=
  ⟨cacheRegisterCommands, checkingRegisterCommands, timeRegisterCommands, tenantRegisterCommands⟩

end Sys2Proof.Machine
end

section
/-! SUPPORT. Loads and stores that no cache allocates: obligation O20 (R44, R112, R113, R115). -/

namespace Sys2Proof.Machine

/-! ### An access answered at once -/

/-- What a load's register key comes to, kept as a number: no key is 0. -/
theorem dest_getD (k : Core) (isF : Bool) (rd : BitVec 5) :
    (if (k.dest isF rd).getD 0 = 0 then none else some ((k.dest isF rd).getD 0)) = k.dest isF rd := by
  unfold Core.dest
  split
  · rw [if_neg (by rw [Option.getD_some, fKey]; omega)]
    rfl
  · split
    · rfl
    · next h =>
      have hpos : gKey k.infast rd ≠ 0 := by
        have : rd.toNat ≠ 0 := fun h0 => h (BitVec.eq_of_toNat_eq h0)
        unfold gKey
        split <;> omega
      rw [Option.getD_some, if_neg hpos]

/-- The end of a position leaves what its core waits for. -/
theorem dev_endPos (s : State) (c : CoreId) (pc : Dword) (h : Happened) : ((s.endPos c.val pc h).core c.val).dev = (s.core c.val).dev := by
  obtain ⟨e, a, n, w, l, hk⟩ := (observes_afterPos (c := c.val) s pc h c.isLt).core c.val
  rw [State.endPos, State.core_modCore, hk]
  rfl

theorem dev_lands (s : State) (c : Nat) (dst : Option Nat) (v : Dword) (dist : Nat) : ((s.lands c dst v dist).core c).dev = (s.core c).dev := by
  cases dst with
  | none => rfl
  | some key => rw [State.lands, State.core_modCore]; rfl

/-- Of an access without a sequence, its end: the core waits no longer, and a load's value is on its way. -/
def State.accessEnds (s : State) (c : CoreId) (a : DevAcc) (v : Dword) : State :=
  (s.modCore c.val (fun k => { k with dev := none })).lands c.val (if a.store ∨ a.reg = 0 then none else some a.reg)
    (loadVal a.size a.signed (a.seen v)) 3

section
variable {s : State} {c : CoreId} {a : DevAcc}

theorem dev_accessEnds (v : Dword) : ((s.accessEnds c a v).core c.val).dev = none := by
  rw [State.accessEnds, dev_lands, State.core_modCore]

/-- What the trace is told of an access that completes. -/
def DevAcc.toldDone (a : DevAcc) (v : Dword) : Happened :=
  { acc := some { va := a.va, val := loadVal a.size a.signed (a.seen v), kind := a.store.toNat, size := a.size, served := 6 } }

variable (hf : a.flags = [])
include hf

/-- The access for which the core waits completes and ends its position. -/
theorem finishRun_accessEnds (ha : (s.core c.val).dev = some a) (v : Dword) (sub : Nat) : (s.finishRun c.val true v sub).1 =
    ((s.accessEnds c a v).modCore c.val (fun k => k.advance none)).endPos c.val (s.core c.val).arch.pc (a.toldDone v) := by
  have hflags : (s.modCore c.val (fun k => { k with dev := none })).modCore c.val (fun k => k.seqFlags a.flags) =
      s.modCore c.val (fun k => { k with dev := none }) := by
    rw [hf, State.modCore_modCore]
    rfl
  rw [finishRun_ok ha, hflags]
  rfl

theorem dev_finishRun (ha : (s.core c.val).dev = some a) (v : Dword) (sub : Nat) :
    ((s.finishRun c.val true v sub).1.core c.val).dev = none := by
  rw [finishRun_accessEnds hf ha, dev_endPos, State.core_modCore]
  exact dev_accessEnds v

end

/-! ### Loads -/

/-- Core `c` waits for the completion of an access. -/
def State.awaiting (s : State) (c : CoreId) (a : DevAcc) : State := s.modCore c.val (fun k => { k with dev := some a })

section
variable {s s2 : State} {c : CoreId} {m : Mref} {p : Page}

/-- A load's answer that passes no Welt ends the position at once. -/
theorem answerLoad_alone (hw : s.throughWelt c.val = false) (hm : m.flags = []) (pa : Nat) (v : Dword) :
    let a := s.devLoad c.val m pa false
    s.answerLoad c m pa v = (((s.accessEnds c a v).modCore c.val (fun k => k.advance none)).endPos c.val (s.core c.val).arch.pc (a.toldDone v),
      .ended false) := by
  intro a
  have ha : ((s.awaiting c a).core c.val).dev = some a := by rw [State.awaiting, State.core_modCore]
  have hends : (s.awaiting c a).accessEnds c a v = s.accessEnds c a v := by
    unfold State.accessEnds State.awaiting
    rw [State.modCore_modCore]
  have hpc : ((s.awaiting c a).core c.val).arch.pc = (s.core c.val).arch.pc := by rw [State.awaiting, State.core_modCore]
  have hresp : (s.awaiting c a).respond c.val true v = _ :=
    (respond_alone (s := s.awaiting c a) hw true v).trans (finishRun_accessEnds (a := a) hm ha v 0)
  have hdev : (((s.awaiting c a).respond c.val true v).core c.val).dev = none :=
    (congrArg (fun t => (State.core t c.val).dev) (respond_alone (s := s.awaiting c a) hw true v)).trans (dev_finishRun (a := a) hm ha v 0)
  rw [hends, hpc] at hresp
  have hend : (if (((s.awaiting c a).respond c.val true v).core c.val).dev.isSome = true then PosRes.stay else .ended false) = .ended false :=
    if_neg (by rw [hdev]; decide)
  exact Prod.ext hresp hend

section
variable (hm : m.misaligned = false) (ht : s.translate c.val .load m.va = (s2, .ok p))
  (hr : p.region = .dram ∨ p.region = .mcs ∨ p.region = .pcie)
include hm ht hr

theorem loadOp_of_uncached (hty : p.ty = .uc ∨ p.ty = .wc) : s.loadOp c m none = s2.uncachedLoad c m p none false := by
  unfold State.loadOp
  simp only [hm, Bool.false_and, Bool.false_eq_true, if_false, ht]
  rcases hr with hr | hr | hr <;> rcases hty with hty | hty <;> simp only [hr, hty, reduceCtorEq, if_false]

theorem loadOp_of_device (hty : p.ty = .devStrict ∨ p.ty = .devRelaxed) :
    s.loadOp c m none = (s2.drainMerge c.val).uncachedLoad c m p none false := by
  unfold State.loadOp
  simp only [hm, Bool.false_and, Bool.false_eq_true, if_false, ht]
  rcases hr with hr | hr | hr <;> rcases hty with hty | hty <;> simp only [hr, hty, reduceCtorEq, if_false]

end

theorem uncachedLoad_dram {s3 : State} {d : LineData} {st : LState} (hr : p.region = .dram)
    (h : s.rdShared (s.rq c.val (s.tidOn c.val) (s.core c.val).w (p.pa / 64) false) (p.pa / 64) true false = (s3, .ok (d, false, st))) :
    s.uncachedLoad c m p none false = s3.answerLoad c m p.pa (BitVec.ofNat 64 (lineNum d (p.pa % 64) m.size)) := by
  unfold State.uncachedLoad
  simp only [hr, State.lineUpset, h, Bool.or_self, Bool.false_eq_true, if_false]

theorem uncachedLoad_mcs {s3 : State} {v : Dword} (hr : p.region = .mcs)
    (h : s.mcsRead (.core c) (p.pa - 0x3F0000000000) (sizeLog m.size) = (s3, .ok v)) :
    s.uncachedLoad c m p none false = s3.answerLoad c m p.pa v := by
  unfold State.uncachedLoad
  simp only [hr, h]

theorem uncachedLoad_pcie (hr : p.region = .pcie) : s.uncachedLoad c m p none false =
    (s.awaiting c (s.devLoad c.val m p.pa false), .stay) := by
  unfold State.uncachedLoad
  simp only [hr]
  rfl

end

/-- A part that has itself ended the position leaves the state as it is. -/
theorem done_position_of_ended {s s1 t : State} {c : CoreId} (h : Ready s c s1) {w : Word} {forbid : Bool} {body : State → State × PosRes}
    {st : Bool} (hf : forbid = true → (s.core c.val).arch.slot = none) (hb : body s1 = (t, .ended st)) :
    done (s.position c.val w forbid body) = .next t.finish := by
  rw [position_ready h w forbid body hf, hb]
  rfl

/-- What core `c` remembers of a load of format C, with the bytes that its merging buffer holds. -/
def State.awaitedLoad (t : State) (c : CoreId) (k : Core) (major : BitVec 6) (o : OpsC) (n : Nat) (signed isF : Bool) (pa : Nat) : DevAcc :=
  t.devLoad c.val (mrefOf k major o n signed (k.dest isF o.rt)) pa false

section
variable {s s1 s2 s3 : State} {c : CoreId} {o : OpsC} {p : Page} (h : Ready s c s1) {major : BitVec 6} {n : Nat} {signed isF : Bool}
  {ext : Nat → Dword} (hext : ∀ v : Dword, loadVal n signed v = ext v.toNat)
include h hext

/-- A load whose part ends in an answer: the value under the bytes of the merging buffer is on its way to the load's register. -/
theorem loadInstr_of_answer {v : Dword} (hw : s3.throughWelt c.val = false)
    (hb : s1.loadOp c (mrefOf (s1.core c.val) major o n signed ((s1.core c.val).dest isF o.rt)) none =
      s3.answerLoad c (mrefOf (s1.core c.val) major o n signed ((s1.core c.val).dest isF o.rt)) p.pa v) :
    let a := s3.awaitedLoad c (s1.core c.val) major o n signed isF p.pa
    ∃ e, done (loadInstr c major o n signed isF none s) = .next (retired ((s3.modCore c.val (fun q => { q with dev := none })).lands c.val
      ((s1.core c.val).dest isF o.rt) (ext (a.seen v).toNat) 3) c (s3.core c.val).arch.pc e none) := by
  intro a
  have hends : s3.accessEnds c a v = (s3.modCore c.val (fun q => { q with dev := none })).lands c.val
      ((s1.core c.val).dest isF o.rt) (ext (a.seen v).toNat) 3 := by
    have hdst : (if a.store = true ∨ a.reg = 0 then none else some a.reg) = (s1.core c.val).dest isF o.rt :=
      (if_congr (or_iff_right Bool.false_ne_true) rfl rfl).trans (dest_getD (s1.core c.val) isF o.rt)
    rw [State.accessEnds, hdst, ← hext]
    rfl
  rw [← hends]
  exact ⟨_, done_position_of_ended h slot_allowed (hb.trans (answerLoad_alone hw rfl p.pa v))⟩

/-- What a load of `n` bytes comes to that no cache allocates. -/
theorem loadInstr_uncached {run : Host.Outcome State Fault Refusal} (hrun : run = done (loadInstr c major o n signed isF none s))
    (hm : ((s1.core c.val).g o.rb + o.disp.signExtend 64).toNat % n = 0)
    (ht : s1.translate c.val .load ((s1.core c.val).g o.rb + o.disp.signExtend 64) = (s2, .ok p)) :
    let awaited := fun (t : State) => t.awaitedLoad c (s1.core c.val) major o n signed isF p.pa
    let ends := fun (t : State) (v : Dword) => ∃ e, run = .next (retired ((t.modCore c.val (fun q => { q with dev := none })).lands c.val
      ((s1.core c.val).dest isF o.rt) (ext ((awaited t).seen v).toNat) 3) c (t.core c.val).arch.pc e none)
    (∀ s3 d st, p.region = .dram → (p.ty = .uc ∨ p.ty = .wc) →
      s2.rdShared (s2.rq c.val (s2.tidOn c.val) (s2.core c.val).w (p.pa / 64) false) (p.pa / 64) true false = (s3, .ok (d, false, st)) →
      s3.throughWelt c.val = false → ends s3 (BitVec.ofNat 64 (lineNum d (p.pa % 64) n))) ∧
    (∀ s3 v, p.region = .mcs → p.ty = .devStrict → (s2.drainMerge c.val).mcsRead (.core c) (p.pa - 0x3F0000000000) (sizeLog n) = (s3, .ok v) →
      s3.throughWelt c.val = false → ends s3 v) ∧
    (p.region = .pcie → (p.ty = .devStrict ∨ p.ty = .devRelaxed) →
      run = .next (((s2.drainMerge c.val).awaiting c (awaited (s2.drainMerge c.val))).freeze c.val).finish) := by
  intro awaited ends
  subst hrun
  have hmis : (mrefOf (s1.core c.val) major o n signed ((s1.core c.val).dest isF o.rt)).misaligned = false := decide_eq_false (not_not.mpr hm)
  refine ⟨fun s3 d st hr hty hrd hw => ?dram, fun s3 v hr hty hrd hw => ?mcs, fun hr hty => ?pcie⟩
  case dram =>
    exact loadInstr_of_answer h hext hw ((loadOp_of_uncached hmis ht (.inl hr) hty).trans (uncachedLoad_dram hr hrd))
  case mcs =>
    exact loadInstr_of_answer h hext hw ((loadOp_of_device hmis ht (.inr (.inl hr)) (.inl hty)).trans (uncachedLoad_mcs hr hrd))
  case pcie =>
    exact done_position_of_stay h slot_allowed ((loadOp_of_device hmis ht (.inr (.inr hr)) hty).trans (uncachedLoad_pcie hr))

end

/-! ### Stores -/

/-- The core before a store that awaits its completion: the buffer drained, a reservation on the line ended (R59, R113). -/
def State.strictReady (s : State) (c : CoreId) (line : Nat) : State :=
  (s.drainMerge c.val).modCore c.val (fun k => { k.breakResv line with wfence := false })

section
variable {s s2 : State} {c : CoreId} {m : Mref} {p : Page} (v : Dword)

theorem storeOp_of_strict (hm : m.misaligned = false) (ht : s.translate c.val .store m.va = (s2, .ok p)) (hr : p.region ≠ .unpopulated)
    (hf : s2.fenced c.val = false) (hty : p.ty = .devStrict) :
    s.storeOp c m v = (s2.strictReady c (p.pa / 64)).strictStore c m p (loadVal m.size false v) := by
  unfold State.storeOp
  simp only [hm, Bool.false_and, Bool.false_eq_true, if_false, ht, hr, hf, hty, if_true]
  rfl

theorem strictStore_pcie (hr : p.region = .pcie) : s.strictStore c m p v = (s.awaiting c (m.dev p.pa true), .stay) := by
  unfold State.strictStore
  simp only [hr]
  rfl

/-- A store to a register ends its position once the register's action has, while the core still waits for it. -/
theorem strictStore_mcs {t : State} (hr : p.region = .mcs)
    (hw : (s.awaiting c (m.dev p.pa true)).mcsWrite (.core c) (p.pa - 0x3F0000000000) (sizeLog m.size) v = .ok t)
    (ht : (t.core c.val).dev = some (m.dev p.pa true)) : s.strictStore c m p v = ((t.finishRun c.val true 0 0).1, .ended true) := by
  unfold State.strictStore
  simp only [hr]
  rw [show s.modCore c.val (fun k => { k with dev := some (m.dev p.pa true) }) = s.awaiting c (m.dev p.pa true) from rfl, hw]
  exact if_pos ht

end

/-- A store of format C as the core makes it. -/
def storeRef (k : Core) (major : BitVec 6) (o : OpsC) (n : Nat) : Mref :=
  { word := wordC major o, va := k.g o.rb + o.disp.signExtend 64, size := n }

section
variable {s s1 s2 : State} {c : CoreId} {o : OpsC} {p : Page} (h : Ready s c s1) {major : BitVec 6} {n : Nat} {isF : Bool} {v : Dword}
  (hv : loadVal n false (if isF then (s1.core c.val).f o.rt else (s1.core c.val).g o.rt) = v)
include h hv

/-- What a store of `n` bytes comes to that awaits its completion. -/
theorem storeInstr_strict {run : Host.Outcome State Fault Refusal} (hrun : run = done (storeInstr c major o n isF s))
    (hm : ((s1.core c.val).g o.rb + o.disp.signExtend 64).toNat % n = 0)
    (ht : s1.translate c.val .store ((s1.core c.val).g o.rb + o.disp.signExtend 64) = (s2, .ok p)) (hf : s2.fenced c.val = false)
    (hty : p.ty = .devStrict) :
    let a := (storeRef (s1.core c.val) major o n).dev p.pa true
    let s3 := (s2.strictReady c (p.pa / 64)).awaiting c a
    (p.region = .pcie → run = .next (s3.freeze c.val).finish) ∧
    (∀ t, p.region = .mcs → s3.mcsWrite (.core c) (p.pa - 0x3F0000000000) (sizeLog n) v = .ok t → (t.core c.val).dev = some a →
      ∃ e, run = .next (retired (t.modCore c.val (fun q => { q with dev := none })) c (t.core c.val).arch.pc e none)) := by
  intro a s3
  subst hv hrun
  have hmis : (storeRef (s1.core c.val) major o n).misaligned = false := decide_eq_false (not_not.mpr hm)
  have hop := fun hr => storeOp_of_strict (m := storeRef (s1.core c.val) major o n)
    (if isF then (s1.core c.val).f o.rt else (s1.core c.val).g o.rt) hmis ht hr hf hty
  refine ⟨fun hr => ?pcie, fun t hr hw hd => ?mcs⟩
  case pcie =>
    exact done_position_of_stay h slot_allowed ((hop (by rw [hr]; decide)).trans (strictStore_pcie _ hr))
  case mcs =>
    have hend := (hop (by rw [hr]; decide)).trans (strictStore_mcs _ hr hw hd)
    rw [finishRun_accessEnds (a := a) rfl hd 0 0] at hend
    exact ⟨_, done_position_of_ended h slot_allowed hend⟩

end

/-- A stored value of a size that an instruction has. -/
theorem loadVal_stored {n : Nat} (hn : n ∈ [1, 2, 4]) (v : Dword) : loadVal n false v = BitVec.ofNat 64 (v.toNat % 2 ^ (8 * n)) := by
  rw [← loadVal_unsigned hn, BitVec.ofNat_toNat, BitVec.setWidth_eq]

/-- A loaded value from the number that its bytes spell. -/
theorem loadVal_signed_toNat (v : Dword) : loadVal 1 true v = (BitVec.ofNat 8 v.toNat).signExtend 64 ∧
    loadVal 2 true v = (BitVec.ofNat 16 v.toNat).signExtend 64 ∧ loadVal 4 true v = (BitVec.ofNat 32 v.toNat).signExtend 64 := by
  have h := loadVal_signed v.toNat
  rwa [BitVec.ofNat_toNat, BitVec.setWidth_eq] at h

/-- Settles O20: each size and its extension, over one load that is answered or waits and one store that waits for its completion. -/
theorem uncachedAccesses : Obligations.UncachedAccesses := by
  intro s s1 s2 c o p h k va line acc load store
  have hs := loadVal_signed_toNat
  have hu := fun (n : Nat) (hn : n ∈ [1, 2, 4]) => loadVal_stored hn
  have h8 : ∀ v : Dword, loadVal 8 false v = BitVec.ofNat 64 v.toNat := fun v => by rw [BitVec.ofNat_toNat, BitVec.setWidth_eq]; rfl
  have hload : ∀ (i : Instr) (major : BitVec 6) (n : Nat) (signed isF : Bool) (ext : Nat → Dword),
      exec i s = done (loadInstr c major o n signed isF none s) → (∀ v, loadVal n signed v = ext v.toNat) → load i major n signed isF ext :=
    fun _ _ _ _ _ _ hi hext hm ht => loadInstr_uncached h hext hi hm ht
  have hstore : ∀ (i : Instr) (major : BitVec 6) (n : Nat) (isF : Bool) (v : Dword), exec i s = done (storeInstr c major o n isF s) →
      loadVal n false (if isF then k.f o.rt else k.g o.rt) = v → store i major n v :=
    fun _ _ _ _ _ hi hv hm ht hf hty => storeInstr_strict h hv hi hm ht hf hty
  clear_value load store
  exact ⟨hload _ _ _ _ _ _ rfl fun v => (hs v).1, hload _ _ _ _ _ _ rfl (hu 1 (by decide)),
    hload _ _ _ _ _ _ rfl fun v => (hs v).2.1, hload _ _ _ _ _ _ rfl (hu 2 (by decide)),
    hload _ _ _ _ _ _ rfl fun v => (hs v).2.2, hload _ _ _ _ _ _ rfl (hu 4 (by decide)), hload _ _ _ _ _ _ rfl h8,
    hload _ _ _ _ _ _ rfl (hu 4 (by decide)), hload _ _ _ _ _ _ rfl h8,
    hstore _ _ _ false _ rfl (hu 1 (by decide) _), hstore _ _ _ false _ rfl (hu 2 (by decide) _), hstore _ _ _ false _ rfl (hu 4 (by decide) _),
    hstore _ _ _ false _ rfl rfl, hstore _ _ _ true _ rfl (hu 4 (by decide) _), hstore _ _ _ true _ rfl rfl⟩

end Sys2Proof.Machine
end

section
/-! SUPPORT. Fences and translation invalidation: obligation O37 (R128, R144, R153, R154, R191). -/

namespace Sys2Proof.Machine

/-! ### FENCE (R191) -/

section
variable {s s1 : State} {c : CoreId} {o : OpsF} (h : Ready s c s1)
include h

theorem fence_reserved (hk : fld o.sys 1 0 = 0) :
    exec (.fence c o) s = .next (trapped s1 c (wordF 0x33 0 o) { cause := 0x04 }) :=
  done_position_of_trap h slot_allowed (by simp only [hk])

theorem fence_of_loads (hk : fld o.sys 1 0 = 1) : exec (.fence c o) s = .next (retired s1 c (s.core c.val).arch.pc {} none) :=
  done_position_of_next h slot_allowed (by simp only [hk])

theorem fence_of_stores (hk : fld o.sys 1 0 = 2) :
    exec (.fence c o) s = .next (retired (s1.fenceW c.val) c (s.core c.val).arch.pc {} none) :=
  done_position_of_next h slot_allowed (by simp only [hk])

theorem fence_of_all_done (hk : fld o.sys 1 0 = 3) (hd : ((s1.drainMerge c.val).wbsAcked c.val).storesDone c.val = true) :
    exec (.fence c o) s = .next (retired (((s1.drainMerge c.val).wbsAcked c.val).modCore c.val (fun q => { q with wfence := false })) c
      (s.core c.val).arch.pc {} none) :=
  done_position_of_next h slot_allowed (by simp only [hk, hd, if_true])

theorem fence_of_all_waits (hk : fld o.sys 1 0 = 3) (hd : ((s1.drainMerge c.val).wbsAcked c.val).storesDone c.val = false) :
    exec (.fence c o) s = .next (((s1.drainMerge c.val).wbsAcked c.val).freeze c.val).finish :=
  done_position_of_stay h slot_allowed (by simp only [hk, hd, Bool.false_eq_true, if_false])

end

/-! ### TLBINV (R153, R154) -/

/-- The invalidations of core `c` that still await a core; those that await none any longer count for nothing (R154). -/
def State.liveInvs (s : State) (c : Nat) : List InvOut := (s.core c).invs.filter (fun v => s.stillAwaits v)

section
variable {s s1 : State} {c : CoreId} {o : OpsF}

/-- Which invalidations are outstanding has no part in what TLBINV's operands spell. -/
theorem selOf_modInvs (l : List InvOut) : (s.modCore c.val (fun q => { q with invs := l })).selOf c.val o = s.selOf c.val o := by
  simp only [State.selOf, State.tidOn, State.core_modCore]
  rfl

theorem selOf_va (hk : fld o.sys 1 0 = 0) :
    let k := s.core c.val
    s.selOf c.val o = .va (k.g o.rs1) (BitVec.ofNat 12 (fld (k.g o.rd) 11 0))
      (BitVec.ofNat 5 (if k.pl = 1 then s.tidOn c.val else fld (k.g o.rd) 20 16)) := by
  simp only [State.selOf, hk, decide_eq_true_eq]

theorem selOf_asid (hk : fld o.sys 1 0 = 1) :
    let k := s.core c.val
    s.selOf c.val o = .asid (BitVec.ofNat 12 (fld (k.g o.rd) 11 0))
      (BitVec.ofNat 5 (if k.pl = 1 then s.tidOn c.val else fld (k.g o.rd) 20 16)) := by
  simp only [State.selOf, hk, decide_eq_true_eq]

theorem selOf_tid (hk : fld o.sys 1 0 = 2) :
    s.selOf c.val o = .tid (BitVec.ofNat 5 (fld ((s.core c.val).g o.rs1) 4 0)) := by
  simp only [State.selOf, hk]

theorem selOf_all (hk : fld o.sys 1 0 = 3) : s.selOf c.val o = .all := by
  simp only [State.selOf, hk]

variable (h : Ready s c s1)
include h

theorem tlbinv_denied (hp : (s1.core c.val).pl < (if fld o.sys 1 0 < 2 then 1 else 2)) :
    exec (.tlbinv c o) s = .next (trapped s1 c (wordF 0x33 1 o) { cause := 0x06 }) :=
  done_position_of_trap h slot_allowed (if_pos hp)

theorem tlbinv_waits (hp : ¬ (s1.core c.val).pl < (if fld o.sys 1 0 < 2 then 1 else 2)) (hl : 8 ≤ (s1.liveInvs c.val).length) :
    exec (.tlbinv c o) s = .next (s1.freeze c.val).finish :=
  done_position_of_stay h slot_allowed ((if_neg hp).trans (if_pos hl))

/-- TLBINV with fewer than eight invalidations outstanding: those that count for nothing leave, earlier stores are ordered, and the
selection leaves the core's own TLBs and sets out for the others. -/
theorem tlbinv_of_room {sel : InvSel} (hp : ¬ (s1.core c.val).pl < (if fld o.sys 1 0 < 2 then 1 else 2))
    (hl : (s1.liveInvs c.val).length < 8) (hs : s1.selOf c.val o = sel) :
    exec (.tlbinv c o) s = .next (retired
      ((((s1.modCore c.val (fun q => { q with invs := s1.liveInvs c.val })).fenceW c.val).modCore c.val (fun q => q.tlbInv sel)).broadcastInv
        c.val sel) c (s.core c.val).arch.pc {} none) := by
  have hlive : s1.modCore c.val (fun q => { q with invs := q.invs.filter (fun v => s1.stillAwaits v) }) =
      s1.modCore c.val (fun q => { q with invs := s1.liveInvs c.val }) := rfl
  refine done_position_of_next h slot_allowed ((if_neg hp).trans ((if_neg (Nat.not_le.mpr hl)).trans ?_))
  dsimp only
  rw [hlive, selOf_modInvs, hs]

end

/-! ### TLBSYNC (R154) -/

section
variable {s s1 : State} {c : CoreId} {o : OpsF}

theorem any_stillAwaits_iff {l : List InvOut} :
    l.any (fun v => s.stillAwaits v) = true ↔ ∃ v ∈ l, ∃ d ∈ v.await ++ v.acks, s.awaited d = true := by
  simp only [List.any_eq_true, State.stillAwaits]

variable (h : Ready s c s1)
include h

theorem tlbsync_denied (hp : (s1.core c.val).pl < 1) :
    exec (.tlbsync c o) s = .next (trapped s1 c (wordF 0x33 2 o) { cause := 0x06 }) :=
  done_position_of_trap h slot_allowed (if_pos hp)

theorem tlbsync_waits (hp : 1 ≤ (s1.core c.val).pl)
    (hw : ∃ v ∈ (s1.core c.val).invs, ∃ d ∈ v.await ++ v.acks, s1.awaited d = true) :
    exec (.tlbsync c o) s = .next (s1.freeze c.val).finish :=
  done_position_of_stay h slot_allowed ((if_neg (Nat.not_lt.mpr hp)).trans (if_pos (any_stillAwaits_iff.mpr hw)))

theorem tlbsync_completes (hp : 1 ≤ (s1.core c.val).pl)
    (hw : ∀ v ∈ (s1.core c.val).invs, ∀ d ∈ v.await ++ v.acks, s1.awaited d = false) :
    exec (.tlbsync c o) s = .next (retired (s1.modCore c.val (fun q => { q with invs := [] })) c (s.core c.val).arch.pc {} none) := by
  have hno : ¬ (s1.core c.val).invs.any (fun v => s1.stillAwaits v) = true := fun ha => by
    obtain ⟨v, hv, d, hd, ht⟩ := any_stillAwaits_iff.mp ha
    exact Bool.false_ne_true ((hw v hv d hd).symm.trans ht)
  exact done_position_of_next h slot_allowed ((if_neg (Nat.not_lt.mpr hp)).trans (if_neg hno))

end

/-- FENCE, TLBINV and TLBSYNC: one lemma for each branch of the instruction, and TLBINV's selection by its form. -/
theorem fencesAndInvalidations : FencesAndInvalidations := by
  intro s s1 c o h k p0 drained fenced live drained' fenced' x tid inv
  have low : ∀ {n}, 1 ≤ k.pl → fld o.sys 1 0 = n → n < 2 → ¬ k.pl < (if fld o.sys 1 0 < 2 then 1 else 2) :=
    fun hp hk hn => by rw [hk, if_pos hn]; exact Nat.not_lt.mpr hp
  have high : 2 ≤ k.pl → ¬ k.pl < (if fld o.sys 1 0 < 2 then 1 else 2) := fun hp => by split <;> omega
  exact ⟨fence_of_loads h, fence_of_stores h, fence_of_all_done h, fence_of_all_waits h, fence_reserved h,
    fun hp hl hk => tlbinv_of_room h (low hp hk (by decide)) hl (selOf_va hk),
    fun hp hl hk => tlbinv_of_room h (low hp hk (by decide)) hl (selOf_asid hk),
    fun hp hl hk => tlbinv_of_room h (high hp) hl (selOf_tid hk),
    fun hp hl hk => tlbinv_of_room h (high hp) hl (selOf_all hk),
    tlbinv_denied h, fun hp hl => tlbinv_waits h (high hp) hl,
    tlbsync_completes h, tlbsync_waits h, tlbsync_denied h⟩

/-! ### An invalidation at the other cores (R154) -/

/-- A change of a core is what it makes of that core as it stands. -/
theorem modCore_eq {s : State} {c : Nat} {f g : Core → Core} (hfg : f (s.core c) = g (s.core c)) : s.modCore c f = s.modCore c g := by
  rw [State.modCore, State.modCore, hfg]

section
variable {s : State} {c issuer : CoreId} {seq : Nat} {v : InvOut} (hv : (s.core issuer.val).invs = [v]) (hseq : v.seq = seq)
include hv hseq

/-- The one invalidation outstanding reaches a core that it awaits. -/
theorem tlbinvBroadcast_reaches (hc : c.val ∈ v.await) :
    exec (.tlbinvBroadcast c issuer seq) s = .next ((s.modCore issuer.val (fun k =>
        { k with invs := [{ v with await := v.await.erase c.val, acks := v.acks ++ [c.val] }] })).modCore c.val (fun k =>
      if k.run = .nap ∨ k.run = .off then { k with wakeFlush := true } else k.tlbInv v.sel)).finish := by
  have hfind : (s.core issuer.val).invs.find? (fun w => decide (w.seq = seq) && w.await.contains c.val) = some v := by
    rw [hv]
    exact List.find?_cons_of_pos (by simp [hseq, hc])
  change execTlbinvBroadcast c issuer seq s = _
  unfold execTlbinvBroadcast
  rw [hfind]
  refine congrArg (fun u : State => done (u.modCore c.val _)) (modCore_eq ?_)
  rw [hv, List.map_cons, List.map_nil, if_pos hseq]

/-- Its acknowledgement comes back; with the last one it is outstanding no more. -/
theorem tlbinvAck_counts : exec (.tlbinvAck issuer seq c) s = .next (s.modCore issuer.val (fun k =>
    { k with invs := if v.await = [] ∧ v.acks.erase c.val = [] then [] else [{ v with acks := v.acks.erase c.val }] })).finish := by
  refine congrArg done (modCore_eq ?_)
  rw [hv, List.map_cons, List.map_nil, if_pos hseq, List.filter_singleton]
  obtain ⟨n, sel, await, acks⟩ := v
  generalize acks.erase c.val = left
  cases await with
  | cons d ds => rfl
  | nil =>
    cases left with
    | nil => rfl
    | cons d ds => rfl

end

/-! ### What a selection removes (R153) -/

/-- The page number at a page size, from the number of the 4 KiB page. -/
theorem shiftRight_pageShift (a n : Nat) : a >>> (pageShift n - 12) = a * 2 ^ 12 / 2 ^ pageShift n := by
  have h12 : 12 ≤ pageShift n := by unfold pageShift; split_ifs <;> decide
  rw [Nat.shiftRight_eq_div_pow, ← Nat.sub_add_cancel h12, Nat.pow_add, Nat.add_sub_cancel, Nat.mul_div_mul_right _ _ (Nat.two_pow_pos 12)]

theorem bit_iff_fld {n : Nat} (x : BitVec n) (i : Nat) : bit x i = true ↔ fld x i i = 1 := by
  rw [fld_bit]
  cases bit x i <;> decide

section
variable {e : TlbEntry}

theorem selHits_va {va : Dword} {asid : BitVec 12} {tid : BitVec 5} : selHits (.va va asid tid) e = true ↔
    fld e.dw0 60 56 = tid.toNat ∧ (fld e.dw1 22 22 = 1 ∨ fld e.dw0 55 44 = asid.toNat) ∧
      fld e.dw0 43 8 * 2 ^ 12 / 2 ^ pageShift (fld e.dw0 62 61) = fld va 47 12 * 2 ^ 12 / 2 ^ pageShift (fld e.dw0 62 61) := by
  simp only [selHits, eBit, Bool.and_eq_true, Bool.or_eq_true, decide_eq_true_eq, bit_iff_fld, shiftRight_pageShift]
  tauto

theorem selHits_asid {asid : BitVec 12} {tid : BitVec 5} : selHits (.asid asid tid) e = true ↔
    fld e.dw0 60 56 = tid.toNat ∧ fld e.dw0 55 44 = asid.toNat ∧ fld e.dw1 22 22 = 0 := by
  have hg : (!bit e.dw1 22) = true ↔ fld e.dw1 22 22 = 0 := by rw [fld_bit]; cases bit e.dw1 22 <;> decide
  simp only [selHits, eBit, Bool.and_eq_true, decide_eq_true_eq, hg, and_assoc]

theorem selHits_tid {tid : BitVec 5} : selHits (.tid tid) e = true ↔ fld e.dw0 60 56 = tid.toNat := decide_eq_true_iff

/-- An entry stays in a TLB exactly when it was there and the selection does not name it. -/
theorem mem_tlbInv (k : Core) {x : InvSel} {gone : Prop} (hg : selHits x e = true ↔ gone) :
    (e ∈ (k.tlbInv x).itlb ↔ e ∈ k.itlb ∧ ¬ gone) ∧ (e ∈ (k.tlbInv x).dtlb ↔ e ∈ k.dtlb ∧ ¬ gone) ∧
      (e ∈ (k.tlbInv x).tlb2 ↔ e ∈ k.tlb2 ∧ ¬ gone) := by
  simp only [Core.tlbInv, List.mem_filter, Bool.not_eq_true', ← Bool.not_eq_true, hg, and_self]

end

theorem invalidationsTravel : InvalidationsTravel := by
  intro s c issuer seq
  refine ⟨fun v _ hv hseq hc => tlbinvBroadcast_reaches hv hseq hc, fun v hv hseq => tlbinvAck_counts hv hseq, fun k x e => ?_⟩
  cases x with
  | va va asid tid => exact mem_tlbInv k selHits_va
  | asid asid tid => exact mem_tlbInv k selHits_asid
  | tid tid => exact mem_tlbInv k selHits_tid
  | all => exact mem_tlbInv k (iff_of_true rfl trivial)

/-- Settles O37: the instructions, and the invalidation on its way. -/
theorem orderInstructions : Obligations.OrderInstructions := ⟨fencesAndInvalidations, invalidationsTravel⟩

end Sys2Proof.Machine
end

section
/-! SUPPORT. The home's operations on an entry of the table: obligation O39 (R149, R156-R158). -/

namespace Sys2Proof.Machine

/-! ### The address of an entry, and the bits A and D -/

/-- An aligned entry is where its address says. -/
theorem entry_aligned {entry : BitVec 46} (ha : entry.toNat % 16 = 0) : entry.toNat / 16 * 16 = entry.toNat :=
  Nat.div_mul_cancel (Nat.dvd_of_mod_eq_zero ha)

theorem setBit_true (x : Dword) (i : Nat) : setBit x i true = x ||| BitVec.twoPow 64 i := by
  refine BitVec.eq_of_getLsbD_eq fun j hj => (bit_setBit x i j true hj).trans ?_
  rw [BitVec.getLsbD_or, BitVec.getLsbD_twoPow, bit]
  by_cases h : j = i
  · simp [h, h ▸ hj]
  · simp [h, Ne.symm h]

/-- A is set, and D too where `b` says so. -/
theorem marks_eq (x : Dword) (b : Bool) :
    (if b then setBit (setBit x 21 true) 20 true else setBit x 21 true) = if b then x ||| 0x300000 else x ||| 0x200000 := by
  cases b
  · exact setBit_true x 21
  · have hm : BitVec.twoPow 64 21 ||| BitVec.twoPow 64 20 = (0x300000 : Dword) := by decide
    rw [if_pos rfl, if_pos rfl, setBit_true, setBit_true, BitVec.or_assoc, hm]

/-! ### Setting A and D (R149) -/

section
variable {s u : State} {t ea : Nat} {d0 h0 h1 : Dword} {b : Bool} (hh : s.homeEntry t ea = (u, h0, h1))
include hh

theorem markEntry_same (hs : h0 = d0 ∧ h0.getLsbD 63 = true) : s.markEntry t ea d0 b =
    (u.putEntry (homeRq t) ea (if b then h1 ||| 0x300000 else h1 ||| 0x200000),
      some (if b then h1 ||| 0x300000 else h1 ||| 0x200000)) := by
  unfold State.markEntry
  rw [hh, ← marks_eq]
  exact if_pos hs

theorem markEntry_changed (hs : ¬ (h0 = d0 ∧ h0.getLsbD 63 = true)) : s.markEntry t ea d0 b = (u, none) := by
  unfold State.markEntry
  rw [hh]
  exact if_neg hs

end

section
variable {s u : State} {entry : BitVec 46} {d0 : Dword} {b : Bool} (ha : entry.toNat % 16 = 0) (hi : s.inInstalled entry.toNat = true)
include ha hi

theorem adUpdate_of_marked {d1 : Dword} (hm : s.markEntry (fld d0 60 56) entry.toNat d0 b = (u, some d1)) :
    exec (.adUpdate entry d0 b) s = .next (u.answer (.data [d0, d1])).finish := by
  change execAdUpdate entry d0 b s = _
  simp only [execAdUpdate, State.entryOk, entry_aligned ha, hi, hm, Bool.not_true, Bool.false_eq_true, if_false]
  rfl

theorem adUpdate_of_changed (hm : s.markEntry (fld d0 60 56) entry.toNat d0 b = (u, none)) :
    exec (.adUpdate entry d0 b) s = .next (u.answer (.data [])).finish := by
  change execAdUpdate entry d0 b s = _
  simp only [execAdUpdate, State.entryOk, entry_aligned ha, hi, hm, Bool.not_true, Bool.false_eq_true, if_false]
  rfl

end

/-! ### An allocation up to its pop (R156, R158) -/

/-- The fill that an allocation begins, while its frame is being popped. -/
def fillStarted (t ea : Nat) (b : Bool) : ZeroFill :=
  { frame := 0, entry := BitVec.ofNat 46 ea, store := b, tid := Fin.ofNat 32 t, popping := true }

/-- The same fill, its frame popped. -/
def fillPopped (t ea : Nat) (b : Bool) (f : Nat) : ZeroFill := { fillStarted t ea b with frame := BitVec.ofNat 34 f, popping := false }

/-- A pool whose indices meet is empty. -/
theorem popFrame_empty {s : State} {t : Nat} (he : s.rf (fpoolIdxR t) 19 0 % 2 ^ s.rf (fpoolBaseR t) 4 0 =
    s.rf (fpoolIdxR t) 51 32 % 2 ^ s.rf (fpoolBaseR t) 4 0) : ∀ fuel, s.popFrame t fuel = (s, none)
  | 0 => rfl
  | fuel + 1 => by
    rw [State.popFrame]
    exact if_pos he

/-- Doubleword 0 is no longer the valid one that the walk matched. -/
theorem entryChanged_iff {d0 h0 : Dword} : h0 ≠ d0 ∨ (!eV h0) = true ↔ ¬ (h0 = d0 ∧ h0.getLsbD 63 = true) := by
  rw [Bool.not_eq_true', ← Bool.not_eq_true, not_and_or]
  rfl

section
variable {s u : State} {t ea : Nat} {d0 h0 h1 : Dword} {b : Bool} (hh : s.homeEntry t ea = (u, h0, h1))
include hh

theorem allocStart_changed (hs : ¬ (h0 = d0 ∧ h0.getLsbD 63 = true)) : s.allocStart t ea d0 b = (u, .changed) := by
  unfold State.allocStart
  rw [hh]
  exact if_pos (entryChanged_iff.mpr hs)

variable (hs : h0 = d0 ∧ h0.getLsbD 63 = true)
include hs

theorem allocStart_installed (hf : h1.getLsbD 18 = true) : s.allocStart t ea d0 b = (u, .installed h1) := by
  unfold State.allocStart
  rw [hh]
  exact (if_neg (not_not.mpr hs ∘ entryChanged_iff.mp)).trans (if_pos hf)

variable (hf : ¬ h1.getLsbD 18 = true)
include hf

theorem allocStart_quota (hq : u.rf (tqQuotaR t) 31 0 ≤ u.rf (tqStatusR t) 31 0) : s.allocStart t ea d0 b = (u, .quota 0) := by
  unfold State.allocStart
  rw [hh]
  exact (if_neg (not_not.mpr hs ∘ entryChanged_iff.mp)).trans ((if_neg hf).trans (if_pos hq))

variable (hq : u.rf (tqStatusR t) 31 0 < u.rf (tqQuotaR t) 31 0)
include hq

/-- An allocation within its quota whose pool is empty is refused, and its fill is no more. -/
theorem allocStart_empty (hp : ∀ y ∈ u.fills, y.popping = false)
    (he : u.rf (fpoolIdxR t) 19 0 % 2 ^ u.rf (fpoolBaseR t) 4 0 = u.rf (fpoolIdxR t) 51 32 % 2 ^ u.rf (fpoolBaseR t) 4 0) :
    s.allocStart t ea d0 b = (u, .quota 1) := by
  have hnew : fillStarted t ea b ∉ u.fills := fun hz => Bool.noConfusion (hp _ hz)
  have hback : (u.fills ++ [fillStarted t ea b]).erase (fillStarted t ea b) = u.fills := by
    rw [List.erase_append_right _ hnew, List.erase_cons_head, List.append_nil]
  have hpop := popFrame_empty (s := { u with fills := u.fills ++ [fillStarted t ea b] }) he (2 ^ 20)
  unfold State.allocStart
  rw [hh]
  refine (if_neg (not_not.mpr hs ∘ entryChanged_iff.mp)).trans ((if_neg hf).trans ((if_neg (Nat.not_le.mpr hq)).trans ?_))
  unfold fillStarted at hpop
  dsimp only
  rw [hpop]
  exact congrArg (fun l => (({ u with fills := l } : State), Alloc.quota 1)) hback

/-- An allocation within its quota counts the frame that it pops, which is the frame of its fill. -/
theorem allocStart_pops {p : State} {f : Nat}
    (hp : { u with fills := u.fills ++ [fillStarted t ea b] }.popFrame t (2 ^ 20) = (p, some f)) :
    s.allocStart t ea d0 b =
      ({ p with fills := p.fills.map (fun y => if y = fillStarted t ea b then fillPopped t ea b f else y) }.setRf (tqStatusR t) 31 0
        (p.rf (tqStatusR t) 31 0 + 1), .frame (fillPopped t ea b f)) := by
  unfold State.allocStart
  rw [hh]
  refine (if_neg (not_not.mpr hs ∘ entryChanged_iff.mp)).trans ((if_neg hf).trans ((if_neg (Nat.not_le.mpr hq)).trans ?_))
  unfold fillStarted at hp
  dsimp only
  rw [hp]
  rfl

end

/-! ### What an allocation answers (R156, R158) -/

/-- What the home leaves of a state after an allocation's decision: an answer, or nothing yet while the frame is filled. -/
def Alloc.leaves (d0 : Dword) (s : State) : Alloc → State
  | .changed => s.answer (.data [])
  | .installed d1 => s.answer (.data [d0, d1])
  | .quota sub => s.answer (.err (BitVec.ofNat 8 sub))
  | .frame _ => s

section
variable {s : State} {entry : BitVec 46} {d0 : Dword} {b : Bool} (ha : entry.toNat % 16 = 0) (hi : s.inInstalled entry.toNat = true)
include ha hi

/-- An allocation that meets no fill of its entry. -/
theorem demandAllocation_of_start {u : State} {a : Alloc} (hn : ∀ y ∈ s.fills, y.ea ≠ entry.toNat)
    (hst : s.allocStart (fld d0 60 56) entry.toNat d0 b = (u, a)) :
    exec (.demandAllocation entry d0 b) s = .next (a.leaves d0 u).finish := by
  have hfind : s.fills.find? (fun z => decide (z.ea = entry.toNat)) = none :=
    List.find?_eq_none.mpr fun y hy => by simpa using hn y hy
  change execDemandAllocation entry d0 b s = _
  simp only [execDemandAllocation, State.entryOk, entry_aligned ha, hi, hfind, hst, Bool.not_true, Bool.false_eq_true, if_false]
  cases a <;> rfl

/-- An allocation that meets the fill of its entry waits behind it. -/
theorem demandAllocation_chains {y : ZeroFill} (hy : s.fills = [y]) (he : y.ea = entry.toNat) :
    exec (.demandAllocation entry d0 b) s = .next ({ s with fills := [{ y with chained := y.chained ++ [d0] }] }).finish := by
  have hfind : s.fills.find? (fun z => decide (z.ea = entry.toNat)) = some y := by
    rw [hy]
    exact List.find?_cons_of_pos (decide_eq_true he)
  change execDemandAllocation entry d0 b s = _
  simp only [execDemandAllocation, State.entryOk, entry_aligned ha, hi, hfind, Bool.not_true, Bool.false_eq_true, if_false]
  rw [hy, List.map_cons, List.map_nil, if_pos rfl]
  rfl

end

/-! ### The end of a zero-fill (R156-R158) -/

/-- The fill in progress ends, and its entry goes to the allocation and to those behind it. -/
theorem zeroFillComplete_one {s : State} {y : ZeroFill} (hy : s.fills = [y]) :
    exec (.zeroFillComplete y.frame) s = .next (s.fillEnds y).finish := by
  have hfind : s.fills.find? (fun z => decide (z.frame = y.frame)) = some y := by
    rw [hy]
    exact List.find?_cons_of_pos (decide_eq_true rfl)
  change execZeroFillComplete y.frame s = _
  unfold execZeroFillComplete
  rw [hfind]
  rfl

/-- The installed doubleword names the frame and has FP. -/
theorem allocInstall_framed (s : State) (t ea : Nat) (frame : BitVec 34) (b : Bool) :
    fld (s.allocInstall t ea frame.toNat b).2.2 63 30 = frame.toNat ∧ (s.allocInstall t ea frame.toNat b).2.2.getLsbD 18 = true := by
  simp only [State.allocInstall]
  constructor
  · rw [fld_setFld_other _ _ _ _ _ _ (by decide) (.inr (by decide)), fld_setFld_other _ _ _ _ _ _ (by decide) (.inr (by decide)),
      fld_setFld _ _ _ _ (by decide)]
    exact Nat.mod_eq_of_lt frame.isLt
  · rw [getLsbD_setFld _ _ _ _ _ (by decide), if_neg (by decide), getLsbD_setFld _ _ _ _ _ (by decide), if_pos (by decide)]
    decide

/-- Settles O39: the marks, each outcome of an allocation, and the end of a fill. -/
theorem tableEvents : Obligations.TableEvents := by
  intro s entry dw0 b ha hi ea tid h same fp quota used ring d1 z
  have hh : s.homeEntry tid ea = (h.1, h.2.1, h.2.2) := rfl
  have alloc : (∀ y ∈ s.fills, y.ea ≠ ea) → ∀ {u a}, s.allocStart tid ea dw0 b = (u, a) →
      exec (.demandAllocation entry dw0 b) s = .next (a.leaves dw0 u).finish := fun hn _ _ => demandAllocation_of_start ha hi hn
  -- `(… :)`: each outcome is elaborated by itself before it meets its clause
  exact ⟨fun hs => adUpdate_of_marked ha hi (markEntry_same hh hs), fun hs => adUpdate_of_changed ha hi (markEntry_changed hh hs),
    fun hn => ⟨fun hs => (alloc hn (allocStart_changed hh hs) :), fun hs hf => (alloc hn (allocStart_installed hh hs hf) :),
      fun hs hf hq => (alloc hn (allocStart_quota hh hs hf hq) :), fun hs hf hq he hp => (alloc hn (allocStart_empty hh hs hf hq hp he) :),
      fun hs hf hq p f hp => (alloc hn (allocStart_pops hh hs hf hq hp) :)⟩,
    fun y hy he => demandAllocation_chains ha hi hy he,
    fun y hy => ⟨zeroFillComplete_one hy, allocInstall_framed _ _ _ _ _⟩⟩

end Sys2Proof.Machine
end

section
/-! SUPPORT. What tracing, counting and the memory side write: registers, traces, the memory controllers, DRAM and the Memory-Side Cache,
and nothing that the coherence protocol holds (agents, homes, messages). -/

namespace Sys2Proof.Machine

/-- The state without what tracing, counting and the memory side write. -/
def State.beyondMemory (s : State) : State :=
  { s with cores := [], mcs := [], evg := {}, lace := {}, mcc := [], msc := {}, mem := [], poison := [], boot := {}, free := 0 }

/-! ### Registers, cores, controllers -/

@[simp] theorem beyondMemory_setReg (s : State) (r : RegRef) (v : Dword) : (s.setReg r v).beyondMemory = s.beyondMemory := rfl
@[simp] theorem beyondMemory_setRf (s : State) (r : RegRef) (hi lo v : Nat) : (s.setRf r hi lo v).beyondMemory = s.beyondMemory := rfl
@[simp] theorem beyondMemory_incRf (s : State) (r : RegRef) (hi lo : Nat) : (s.incRf r hi lo).beyondMemory = s.beyondMemory := rfl
@[simp] theorem beyondMemory_raise (s : State) (n : Nat) : (s.raise n).beyondMemory = s.beyondMemory := rfl
@[simp] theorem beyondMemory_emit (s : State) (p : Packet) : (s.emit p).beyondMemory = s.beyondMemory := rfl
@[simp] theorem beyondMemory_modCore (s : State) (c : Nat) (f : Core → Core) : (s.modCore c f).beyondMemory = s.beyondMemory := rfl
@[simp] theorem beyondMemory_modMc (s : State) (m : Nat) (f : Mc → Mc) : (s.modMc m f).beyondMemory = s.beyondMemory := rfl
@[simp] theorem beyondMemory_msc (s : State) (k : Msc) : ({ s with msc := k } : State).beyondMemory = s.beyondMemory := rfl

theorem beyondMemory_setPoison (s : State) (line : Nat) (b : Bool) : (s.setPoison line b).beyondMemory = s.beyondMemory := rfl
theorem beyondMemory_boot (s : State) (b : Boot) : ({ s with boot := b } : State).beyondMemory = s.beyondMemory := rfl

@[simp] theorem beyondMemory_ite (p : Prop) [Decidable p] (s t : State) :
    (if p then s else t).beyondMemory = if p then s.beyondMemory else t.beyondMemory := by
  split <;> rfl

@[simp] theorem beyondMemory_ite_fst {α : Type} (p : Prop) [Decidable p] (x y : State × α) :
    (if p then x else y).1.beyondMemory = if p then x.1.beyondMemory else y.1.beyondMemory := by
  split <;> rfl

/-! ### Tracing and counting -/

/-- Tracing at a core, and counting, leave what lies beyond the memory side. -/
theorem Observes.beyondMemory {c : Nat} {s t : State} (h : Observes c s t) : t.beyondMemory = s.beyondMemory := by
  unfold State.beyondMemory
  rw [h.pending, h.timebase, h.trios, h.homes, h.net, h.ioBuf, h.refusals, h.fills, h.ftu, h.gce, h.sec, h.links, h.power, h.sole, h.resp]

@[simp] theorem beyondMemory_fireOverflow (s : State) : s.fireOverflow.beyondMemory = s.beyondMemory :=
  (observes_fireOverflow (c := 0) s).beyondMemory

@[simp] theorem beyondMemory_bump (s : State) (b : PmcBlock) (fuel n k : Nat) : (s.bump b fuel n k).beyondMemory = s.beyondMemory := by
  induction fuel generalizing s n k with
  | zero => rfl
  | succ fuel ih => simp [State.bump, ih]

@[simp] theorem beyondMemory_count (s : State) (b : PmcBlock) (code k : Nat) (pl : Option Nat) (tids : Option (List Nat)) :
    (s.count b code k pl tids).beyondMemory = s.beyondMemory :=
  forN_keeps State.beyondMemory (fun n s => by simp) _ _

@[simp] theorem beyondMemory_countTrio (s : State) (t code : Nat) : (s.countTrio t code).beyondMemory = s.beyondMemory :=
  beyondMemory_count s _ _ _ _ _

@[simp] theorem beyondMemory_countMc (s : State) (m code : Nat) : (s.countMc m code).beyondMemory = s.beyondMemory :=
  beyondMemory_count s _ _ _ _ _

@[simp] theorem beyondMemory_emitEvent (s : State) (id code data : Nat) : (s.emitEvent id code data).beyondMemory = s.beyondMemory := by
  simp [State.emitEvent]

/-! ### The memory side -/

@[simp] theorem beyondMemory_setBytes (s : State) (a : Nat) (l : List Byte) : (s.setBytes a l).beyondMemory = s.beyondMemory := by
  induction l generalizing s a with
  | nil => rfl
  | cons b l ih => exact ih _ _

@[simp] theorem beyondMemory_dramWrite (s : State) (line : Nat) (d : LineData) (psn : Bool) :
    (s.dramWrite line d psn).beyondMemory = s.beyondMemory := by
  unfold State.dramWrite
  split
  · exact beyondMemory_boot s _
  · split
    · rfl
    · rw [beyondMemory_setPoison, beyondMemory_setBytes]

@[simp] theorem beyondMemory_mscEvict (s : State) (l : MscLine) : (s.mscEvict l).beyondMemory = s.beyondMemory := by
  simp [State.mscEvict]

@[simp] theorem beyondMemory_mscFill (s : State) (line tid : Nat) (w : Bool) (d : LineData) (dirty psn : Bool) (age : Nat) :
    (s.mscFill line tid w d dirty psn age).1.beyondMemory = s.beyondMemory := by
  unfold State.mscFill
  dsimp only
  split
  · rfl
  · dsimp only
    split
    · exact beyondMemory_mscEvict s _
    · rfl

@[simp] theorem beyondMemory_mcCharge (s : State) (r : Rq) (line : Nat) : (s.mcCharge r line).1.beyondMemory = s.beyondMemory := by
  simp [State.mcCharge]

@[simp] theorem beyondMemory_mcEnter (s : State) (r : Rq) (line : Nat) : (s.mcEnter r line).beyondMemory = s.beyondMemory := by
  simp [State.mcEnter, State.mcCount]

@[simp] theorem beyondMemory_mscMeet (s : State) (w : Bool) (line : Nat) : (s.mscMeet w line).beyondMemory = s.beyondMemory := by
  unfold State.mscMeet
  split
  · simp
  · rfl

@[simp] theorem beyondMemory_memRead (s : State) (r : Rq) (line : Nat) (alloc : Bool) :
    (s.memRead r line alloc).1.beyondMemory = s.beyondMemory := by
  unfold State.memRead
  dsimp only
  split
  · simp
  · split
    · split
      · simp
      · simp
    · simp

@[simp] theorem beyondMemory_memWriteLine (s : State) (tid : Nat) (w : Bool) (line : Nat) (d : LineData) (psn : Bool) :
    (s.memWriteLine tid w line d psn).beyondMemory = s.beyondMemory := by
  unfold State.memWriteLine
  dsimp only
  split
  · simp
  · split <;> simp

/-! ### What the protocol's parts are after that -/

section
variable {s t : State} (h : t.beyondMemory = s.beyondMemory)
include h

theorem trios_of_beyondMemory : t.trios = s.trios := (congrArg State.trios h :)
theorem homes_of_beyondMemory : t.homes = s.homes := (congrArg State.homes h :)
theorem net_of_beyondMemory : t.net = s.net := (congrArg State.net h :)
theorem refusals_of_beyondMemory : t.refusals = s.refusals := (congrArg State.refusals h :)
theorem trio_of_beyondMemory (x : Nat) : t.trio x = s.trio x := by rw [State.trio, trios_of_beyondMemory h, State.trio]
theorem home_of_beyondMemory (x : Nat) : t.home x = s.home x := by rw [State.home, homes_of_beyondMemory h, State.home]

end

end Sys2Proof.Machine
end

section
/-! SUPPORT. What the counters of a block leave of the registers. -/

namespace Sys2Proof.Machine

/-- A register that is neither a trace source's trigger state nor a counter of block `b`. -/
structure RegRef.OffCounters (b : PmcBlock) (r : RegRef) : Prop where
  lsrc : ∀ id, id < 512 → r.off ≠ (Machine.lsrc id).off
  cnt : ∀ n, n < b.size → r.off ≠ (b.cnt n).off

/-- The counters of a core that is numbered high enough lie beyond any offset. -/
theorem off_ne_cnt_far (a n : Nat) : a ≠ ((PmcBlock.core (21 * (a + 13))).cnt n).off := by
  have ht : trioOf (21 * (a + 13)) = 7 * (a + 13) := by unfold trioOf; omega
  have hb : a < trioBase (7 * (a + 13)) := by unfold trioBase svcTrio; split <;> omega
  simp only [RegRef.off, PmcBlock.cnt, Reg.place, zoneBase, ht]
  omega

theorem reg_fireOverflow {s : State} {r : RegRef} (h : ∀ id, id < 512 → r.off ≠ (lsrc id).off) : s.fireOverflow.reg r = s.reg r :=
  (observes_fireOverflow s).reg r h (fun n _ => off_ne_cnt_far r.off n)

theorem reg_ite {p : Prop} [Decidable p] {s t : State} {r : RegRef} {v : Dword} (hs : s.reg r = v) (ht : t.reg r = v) :
    (if p then s else t).reg r = v := by
  split
  · exact hs
  · exact ht

section
variable {b : PmcBlock} {r : RegRef} (h : r.OffCounters b)
include h

theorem reg_bump (s : State) (fuel n k : Nat) : (s.bump b fuel n k).reg r = s.reg r := by
  induction fuel generalizing s n k with
  | zero => rfl
  | succ fuel ih =>
    unfold State.bump
    split
    · rfl
    · next hn =>
      have hc := h.cnt n (Nat.not_le.mp hn)
      extract_lets v total u w x up
      have hu : u.reg r = s.reg r := State.reg_setReg_other s _ hc
      have hw : w.reg r = s.reg r := (State.reg_setRf_other u _ _ _ hc).trans hu
      have hx : x.reg r = s.reg r := reg_ite ((reg_fireOverflow h.lsrc).trans hw) hw
      exact reg_ite hu (reg_ite ((ih _ _ _).trans hx) hx)

theorem reg_count (s : State) (code k : Nat) (pl : Option Nat) (tids : Option (List Nat)) :
    (s.count b code k pl tids).reg r = s.reg r := by
  refine forN_keeps (State.reg · r) (fun n s => ?_) _ s
  exact reg_ite (reg_bump h s 8 n k) rfl

end

/-- No counter of a die's fabric is the die's `PLINK_STATUS`. -/
theorem offCounters_plinkR (d : DieId) : (plinkR d.val).OffCounters (.die d.val) where
  lsrc id hid := by
    have := d.isLt
    simp only [RegRef.off, plinkR, lsrc, Reg.place, zoneBase]
    omega
  cnt n _ := by
    simp only [RegRef.off, plinkR, PmcBlock.cnt, Reg.place, zoneBase]
    omega

theorem plinkState_countDie (s : State) (d : DieId) (code : Nat) : (s.countDie d.val code).plinkState d.val = s.plinkState d.val :=
  congrArg (fld · 2 0) (reg_count (offCounters_plinkR d) s code 1 none none)

end Sys2Proof.Machine
end

section
/-! SUPPORT. What an agent answers to a snoop, and obligation O40 (R173, R174, R408). -/

namespace Sys2Proof.Machine

/-! ### Lines that leave an L2 -/

theorem find_drop (k : L2) (line : Nat) : (k.drop line).find line = none := by
  refine List.find?_eq_none.mpr fun l hl => ?_
  have hkept := List.of_mem_filter hl
  simp only [Bool.or_eq_true, Bool.and_eq_true, decide_eq_true_eq] at hkept ⊢
  exact fun h => hkept.elim (fun hn => hn h.1) h.2

theorem st_of_find {k : L2} {line : Nat} {l : L2Line} (h : k.find line = some l) : l.st ≠ .wp := by
  have := List.find?_some h
  simp only [Bool.and_eq_true, decide_eq_true_eq] at this
  exact this.2

section
variable (s : State) {t : Nat} (ht : t ≤ 84) (line : Nat)
include ht

theorem l2At_trio : s.l2At t = (s.trio t).l2 := if_pos ht

theorem l2Lose_eq : s.l2Lose t line = (((s.modL2 t (fun k => k.drop line)).modCore (coreNo t 0) (fun k => k.loseLine line)).modCore
    (coreNo t 1) (fun k => k.loseLine line)).modCore (coreNo t 2) (fun k => k.loseLine line) := by
  rw [State.l2Lose, if_pos ht]
  rfl

theorem l2_l2Lose : ((s.l2Lose t line).trio t).l2 = (s.trio t).l2.drop line := by
  rw [l2Lose_eq s ht, State.modCore_trio, State.modCore_trio, State.modCore_trio, l2_modL2 s ht]

theorem core_l2Lose {i : Nat} (hi : i < 3) : (s.l2Lose t line).core (coreNo t i) = (s.core (coreNo t i)).loseLine line := by
  have hne {i j : Nat} (h : i ≠ j) : coreNo t i ≠ coreNo t j := by unfold coreNo; omega
  rw [l2Lose_eq s ht]
  obtain rfl | rfl | rfl : i = 0 ∨ i = 1 ∨ i = 2 := by omega
  · rw [State.core_modCore_other _ _ (hne (by decide)), State.core_modCore_other _ _ (hne (by decide)), State.core_modCore, State.modL2_core]
  · rw [State.core_modCore_other _ _ (hne (by decide)), State.core_modCore, State.core_modCore_other _ _ (hne (by decide)), State.modL2_core]
  · rw [State.core_modCore, State.core_modCore_other _ _ (hne (by decide)), State.core_modCore_other _ _ (hne (by decide)), State.modL2_core]

theorem l1d_l2Lose {i : Nat} (hi : i < 3) : ∀ y ∈ ((s.l2Lose t line).core (coreNo t i)).l1d, y.line.toNat ≠ line := by
  rw [core_l2Lose s ht line hi]
  exact fun y hy => of_decide_eq_true (List.mem_filter.mp hy).2

end

/-! ### The table of R173 -/

/-- What an agent that holds a line answers. -/
def L2Line.snooped (l : L2Line) : Snp → Ans
  | .share => if l.st = .s then .s else .fwd l.data l.poison false
  | .own => if l.st = .s then .i else .fwd l.data l.poison false
  | .inv => if l.st = .m ∨ l.st = .o then .dirty l.data l.poison else .i

/-- The count of a snoop leaves the trio as it was. -/
theorem trio_countTrio (s : State) (t code y : Nat) : (s.countTrio t code).trio y = s.trio y :=
  trio_of_beyondMemory (beyondMemory_countTrio s t code) y

section
variable {s : State} {t line : Nat} {l : L2Line} (ht : t ≤ 84) (x : Snp)
include ht

theorem snoop_absent (hw : (s.trio t).l2.findWp line = none) (hf : (s.trio t).l2.find line = none) :
    s.snoop t x line = (s.countTrio t 0x04, .i) := by
  simp only [State.snoop, if_pos ht, l2At_trio _ ht, trio_countTrio, hw, hf]

theorem snoop_wp (hw : (s.trio t).l2.findWp line = some l) : s.snoop t x line =
    if (s.trio t).l2.superseded.contains (BitVec.ofNat 40 line) then (s.countTrio t 0x04, .i)
    else ((s.countTrio t 0x04).modL2 t (fun k => { k with superseded := k.superseded ++ [BitVec.ofNat 40 line] }),
      .fwd l.data l.poison true) := by
  simp only [State.snoop, if_pos ht, l2At_trio _ ht, trio_countTrio, hw]

section
variable (hr : (s.trio t).retention = false) (hw : (s.trio t).l2.findWp line = none) (hf : (s.trio t).l2.find line = some l)
include hr hw hf

/-- SnpShare leaves the line: shared, or owned where it was dirty. -/
theorem snoop_share : (s.snoop t .share line).2 = l.snooped .share ∧ (((s.snoop t .share line).1.trio t).l2.find line).map (·.st) =
    some (if l.st = .m ∨ l.st = .o then .o else .s) := by
  have hupd (st : LState) (hst : st ≠ .wp) : ((((s.countTrio t 0x04).modL2 t (fun k => k.update line (fun l => { l with st := st }))).trio
      t).l2.find line).map (·.st) = some st := by
    rw [l2_modL2 _ ht, trio_countTrio, find_update (f := fun l => { l with st := st }) _ _ _ (fun _ => rfl) (fun _ _ => hst), hf]
    simp
  have hkept : (((s.countTrio t 0x04).trio t).l2.find line).map (·.st) = some l.st := by rw [trio_countTrio, hf]; rfl
  have hne := st_of_find hf
  simp only [State.snoop, if_pos ht, l2At_trio _ ht, trio_countTrio, hw, hf, hr]
  cases hst : l.st with
  | m => simp [L2Line.snooped, hst, hupd]
  | o => simp [L2Line.snooped, hst, hkept]
  | e => simp [L2Line.snooped, hst, hupd]
  | s => simp [L2Line.snooped, hst, hkept]
  | wp => exact absurd hst hne

/-- SnpOwn and SnpInv take the line. -/
theorem snoop_takes (hx : x ≠ .share) : s.snoop t x line = ((s.countTrio t 0x04).l2Lose t line, l.snooped x) := by
  simp only [State.snoop, if_pos ht, l2At_trio _ ht, trio_countTrio, hw, hf, hr]
  cases x with
  | share => exact absurd rfl hx
  | own => cases hst : l.st <;> simp [L2Line.snooped, hst]
  | inv => cases hst : l.st <;> simp [L2Line.snooped, hst]

end
end

/-- Settles O40: from each state of the line by the rows of R173's table, and from the writeback buffer by whether the line has been
forwarded. -/
theorem snoopTable : Obligations.SnoopTable := by
  intro s t line l _ hr
  have ht : t.val ≤ 84 := Nat.le_of_lt_succ t.isLt
  dsimp only
  refine ⟨fun hw hf x => ?_, fun hw hf => ?_, fun hw x => ?_⟩
  · rw [snoop_absent ht x hw hf]
    exact ⟨rfl, (congrArg (L2.find · line) (congrArg Trio.l2 (trio_countTrio ..))).trans hf⟩
  · obtain ⟨hans, hst⟩ := snoop_share ht hr hw hf
    have htakes (x : Snp) (hx : x ≠ .share) : (s.snoop t.val x line).2 = l.snooped x ∧
        ((s.snoop t.val x line).1.trio t.val).l2.find line = none := by
      rw [snoop_takes ht x hr hw hf hx]
      exact ⟨rfl, by rw [l2_l2Lose _ ht]; exact find_drop _ _⟩
    obtain ⟨hown, hownst⟩ := htakes .own (by decide)
    obtain ⟨hinv, hinvst⟩ := htakes .inv (by decide)
    rw [hans, hst, hown, hinv]
    refine ⟨fun h => ?_, fun h => ?_, fun h => ?_, fun h => ?_, fun x hx i hi => ?_⟩
    · simp [L2Line.snooped, h, hownst, hinvst]
    · simp [L2Line.snooped, h, hownst, hinvst]
    · simp [L2Line.snooped, h, hownst, hinvst]
    · simp [L2Line.snooped, h, hownst, hinvst]
    have hne : x ≠ .share := by
      rintro rfl
      rw [hx] at hst
      cases hst
    rw [snoop_takes ht x hr hw hf hne]
    exact l1d_l2Lose _ ht line hi
  · rw [snoop_wp ht x hw]
    refine ⟨fun hn => ?_, fun hm => ?_⟩
    · rw [if_neg (by simpa using hn), l2_modL2 _ ht]
      exact ⟨rfl, List.mem_append_right _ (List.mem_singleton_self _)⟩
    · rw [if_pos (List.contains_iff_mem.mpr hm)]

end Sys2Proof.Machine
end

section
/-! SUPPORT. The first grant of a line: obligation O41 (R171, R172, R176, R178). -/

namespace Sys2Proof.Machine

/-! ### An entry for a line that has none (R176, R179) -/

/-- Fewer than sixteen entries leave one of the sixteen ways free. -/
theorem free_way_of_lt {es : List DirEntry} (h : es.length < 16) :
    ∃ w, (List.range 16).find? (fun w => !es.any (fun e => decide (e.way = w))) = some w := by
  refine Option.isSome_iff_exists.mp (by_contra fun hn => ?_)
  have hall := List.find?_eq_none.mp (Option.not_isSome_iff_eq_none.mp hn)
  have hsub : List.range 16 ⊆ es.map (·.way) := fun w hw => by simpa using hall w hw
  have := (List.subperm_of_subset List.nodup_range hsub).length_le
  simp only [List.length_range, List.length_map] at this
  omega

/-- The line's entry names the agent alone, as owner in X, for the tenant. -/
def State.OwnedBy (u : State) (line agent tid : Nat) : Prop :=
  ∃ e, (u.home (chanOf line)).entry line = some e ∧ e.st = .x ∧ e.ptrs = [agentId agent] ∧ e.bc = false ∧ e.tid.val = tid

theorem ownedBy_of_homes {s t : State} {line agent tid : Nat} (hh : t.homes = s.homes) (h : s.OwnedBy line agent tid) :
    t.OwnedBy line agent tid := by
  simpa only [State.OwnedBy, State.home, hh] using h

theorem dirFull_of_homes {s t : State} (h : t.homes = s.homes) (line : Nat) : t.dirFull line = s.dirFull line := by
  rw [State.dirFull, State.dirFull, State.home, State.home, h]

section
variable {s : State} {line tid : Nat} (agent : Nat) (hl : line < 2 ^ 40) (ht : tid < 32) (he : (s.home (chanOf line)).entry line = none)
  (hf : s.dirFull line = false)
include hl ht he hf

theorem dirWrite_first : (s.dirWrite line .x [agent] tid).OwnedBy line agent tid := by
  have hroom : ((s.home (chanOf line)).dir.filter (fun e => decide (dirSet e.line.toNat = dirSet line))).length < 16 := by
    simpa [State.dirFull, he] using hf
  obtain ⟨way, hway⟩ := free_way_of_lt hroom
  have hline : (BitVec.ofNat 40 line).toNat = line := Nat.mod_eq_of_lt hl
  refine ⟨mkEntry line way .x [agent] none tid, ?_, rfl, rfl, rfl, Nat.mod_eq_of_lt ht⟩
  simp only [State.dirWrite, he, hf, hway, List.isEmpty_cons, Bool.false_eq_true, if_false]
  rw [State.haSync, State.setRf_home, State.setRf_home, State.home_modHome]
  refine (List.find?_append ..).trans ?_
  rw [show (s.home (chanOf line)).dir.find? (fun e => decide (e.line.toNat = line)) = none from he, Option.none_or]
  exact List.find?_cons_of_pos (decide_eq_true hline)

end

/-! ### Requests for a line without an entry -/

theorem resolveDead_of_none {s : State} {line : Nat} (h : s.deadAt (chanOf line) = []) : s.resolveDead line = s := by
  rw [State.resolveDead, h]
  rfl

theorem dirRoom_of_room {s : State} {line : Nat} (h : s.dirFull line = false) : s.dirRoom line = s := by
  unfold State.dirRoom
  dsimp only
  split
  · rw [h]; rfl
  · rfl

/-- Where no entry names a holder, SnpShare, SnpOwn and SnpInv go to nobody. -/
theorem snoopAll_none (s : State) (line tid : Nat) (w : Bool) (kind : ReqKind) (agent : Nat) (nc wr : Bool) :
    s.snoopAll line tid w (s.snoopPlan kind none agent nc wr) = (s, {}) := rfl

theorem homes_memRead (s : State) (r : Rq) (line : Nat) (alloc : Bool) : (s.memRead r line alloc).1.homes = s.homes :=
  homes_of_beyondMemory (beyondMemory_memRead s r line alloc)

theorem grantShared_first {s : State} {line : Nat} (he : (s.home (chanOf line)).entry line = none) (agent tid : Nat) (gone : List Nat) :
    s.grantShared agent tid line gone = (s.dirWrite line .x [agent] tid, .e) := by
  simp only [State.grantShared, he, List.isEmpty_nil, if_true]

section
variable {s : State} {r : Rq} {line : Nat} (hw : (s.turn r line).refused r.w line = false)
  (hd : (s.turn r line).deadAt (chanOf line) = []) (he : ((s.turn r line).home (chanOf line)).entry line = none)
include hw hd he

/-- An uncached read reads, and records nobody. -/
theorem rdShared_uncached (alloc : Bool) : s.rdShared r line true alloc =
    let m := (s.turn r line).memRead r line alloc
    (m.1, .ok (m.2.1, m.2.2, .s)) := by
  unfold State.rdShared
  simp only [hw, resolveDead_of_none hd, he, snoopAll_none]
  rfl

section
variable (hf : (s.turn r line).dirFull line = false)
include hf

theorem rdShared_first (alloc : Bool) : s.rdShared r line false alloc =
    let m := (s.turn r line).memRead r line alloc
    (m.1.dirWrite line .x [r.agent] r.tid, .ok (m.2.1, m.2.2, .e)) := by
  have hh := homes_memRead (s.turn r line) r line alloc
  have hroom := dirRoom_of_room ((dirFull_of_homes hh line).trans hf)
  have hentry : (((s.turn r line).memRead r line alloc).1.home (chanOf line)).entry line = none := by
    rw [State.home, hh]
    exact he
  unfold State.rdShared
  simp only [hw, resolveDead_of_none hd, he, snoopAll_none, hroom, grantShared_first hentry]
  rfl

theorem rdOwn_first : s.rdOwn r line =
    let m := (s.turn r line).memRead r line true
    (m.1.dirWrite line .x [r.agent] r.tid, .ok (m.2.1, m.2.2)) := by
  have hroom := dirRoom_of_room ((dirFull_of_homes (homes_memRead (s.turn r line) r line true) line).trans hf)
  unfold State.rdOwn
  simp only [hw, resolveDead_of_none hd, he, snoopAll_none, hroom]
  rfl

theorem upgrade_first : s.upgrade r line =
    let m := ((s.turn r line).dirWrite line .x [r.agent] r.tid).memRead r line true
    (m.1, .ok (some m.2)) := by
  unfold State.upgrade
  simp only [hw, resolveDead_of_none hd, he, snoopAll_none, dirRoom_of_room hf]
  rfl

end
end

/-- Settles O41: each first grant writes the entry anew, in a free way of its set; the memory read before or after it leaves the homes as
they are. -/
theorem firstGrants : Obligations.FirstGrants := by
  intro s r line hl _ ht
  dsimp only
  intro hw hd he hf
  have hread (alloc : Bool) := homes_memRead (s.turn r line) r line alloc
  have hentry (alloc : Bool) : (((s.turn r line).memRead r line alloc).1.home (chanOf line)).entry line = none := by
    rw [State.home, hread]
    exact he
  have howned (alloc : Bool) := dirWrite_first r.agent hl ht (hentry alloc) ((dirFull_of_homes (hread alloc) line).trans hf)
  rw [rdShared_first hw hd he hf, rdOwn_first hw hd he hf, upgrade_first hw hd he hf, rdShared_uncached hw hd he]
  dsimp only
  refine ⟨⟨_, _, rfl, howned true⟩, ⟨_, _, rfl, howned true⟩, ⟨_, rfl⟩, ?_, ⟨_, _, rfl, hentry false⟩⟩
  exact ownedBy_of_homes (homes_memRead ..) (dirWrite_first r.agent hl ht he hf)

end Sys2Proof.Machine
end

section
/-! SUPPORT. A line that enters an L2 with room for it (R120, R121, R124). -/

namespace Sys2Proof.Machine

/-! ### The way that an allocation takes -/

/-- The largest of the values and a first one: no value is above it, and it is one of them. -/
theorem foldl_max_spec (f : Nat → Nat) (l : List Nat) (a : Nat) : (∀ w ∈ l, f w ≤ l.foldl (fun m w => max m (f w)) a) ∧
    (l.foldl (fun m w => max m (f w)) a = a ∨ ∃ w ∈ l, f w = l.foldl (fun m w => max m (f w)) a) ∧ a ≤ l.foldl (fun m w => max m (f w)) a := by
  induction l generalizing a with
  | nil => simp
  | cons w l ih =>
    obtain ⟨hle, hat, ha⟩ := ih (max a (f w))
    rw [List.foldl_cons]
    generalize l.foldl (fun m w => max m (f w)) (max a (f w)) = top at hle hat ha
    refine ⟨List.forall_mem_cons.mpr ⟨(le_max_right ..).trans ha, hle⟩, ?_, (le_max_left ..).trans ha⟩
    rcases hat with rfl | ⟨v, hv, h⟩
    · rcases max_choice a (f w) with h | h
      · exact .inl h
      · exact .inr ⟨w, List.mem_cons_self, h.symm⟩
    · exact .inr ⟨v, List.mem_cons_of_mem _ hv, h⟩

/-- Of some candidate ways one is picked: an invalid one, or one of the oldest. -/
theorem pickWay_of_cons (w : Nat) (ws : List Nat) (age : Nat → Option Nat) : ∃ p, pickWay (w :: ws) age = some p := by
  unfold pickWay
  dsimp only
  split
  · exact ⟨_, rfl⟩
  · next hn =>
    obtain ⟨hle, hat, -⟩ := foldl_max_spec (fun v => (age v).getD 0) (w :: ws) 0
    generalize (w :: ws).foldl (fun m v => max m ((age v).getD 0)) 0 = top at hle hat
    have hsome : ∃ v ∈ w :: ws, (age v).getD 0 = top := by
      rcases hat with rfl | h
      · exact ⟨w, List.mem_cons_self, Nat.le_zero.mp (hle w List.mem_cons_self)⟩
      · exact h
    obtain ⟨v, hv, he⟩ := hsome
    obtain ⟨u, hu⟩ := Option.isSome_iff_exists.mp (List.find?_isSome (p := fun u => decide ((age u).getD 0 = top)).mpr ⟨v, hv, decide_eq_true he⟩)
    rw [hu]
    exact ⟨_, rfl⟩

theorem waysOf_ne_nil {mask : BitVec 16} (h : mask ≠ 0) : waysOf mask ≠ [] := by
  intro hn
  refine h (BitVec.eq_of_getLsbD_eq fun i hi => ?_)
  have := List.filter_eq_nil_iff.mp hn i (List.mem_range.mpr hi)
  simpa [bit] using this

/-! ### Lines that leave -/

theorem find_eq_none {k : L2} {q : Nat} : k.find q = none ↔ ∀ l ∈ k.lines, l.line.toNat = q → l.st = .wp := by
  simp [L2.find, List.find?_eq_none]

theorem beyondMemory_counted (s : State) (t : Nat) : (if t ≤ 84 then s.countTrio t 0x03 else s).beyondMemory = s.beyondMemory := by simp

theorem refusals_sendWb (s : State) (t : Nat) (l : L2Line) : (s.sendWb t l).refusals = s.refusals :=
  (refusals_of_beyondMemory (beyondMemory_counted _ t)).trans (State.modL2_refusals ..)

section
variable (s : State) {t : Nat} (ht : t ≤ 84) (l : L2Line)
include ht

/-- A line that is posted waits in the writeback buffer (R170). -/
theorem l2_sendWb : ((s.sendWb t l).trio t).l2 = { (s.trio t).l2 with lines := (s.trio t).l2.lines ++ [{ l with st := .wp }] } :=
  (congrArg Trio.l2 (trio_of_beyondMemory (beyondMemory_counted _ t) t)).trans
    (l2_modL2 s ht (fun k => { k with lines := k.lines ++ [{ l with st := .wp }] }))

theorem refusals_l2Lose (line : Nat) : (s.l2Lose t line).refusals = s.refusals := by
  rw [l2Lose_eq s ht, State.modCore_refusals, State.modCore_refusals, State.modCore_refusals, State.modL2_refusals]

theorem refusals_l2Evict : (s.l2Evict t l).refusals = s.refusals := by
  unfold State.l2Evict
  dsimp only
  split
  · rw [refusals_sendWb, refusals_l2Lose s ht]
  · exact refusals_l2Lose s ht _

/-- A line that was not there is not there after another one has left. -/
theorem find_l2Evict {q : Nat} (h : (s.trio t).l2.find q = none) : ((s.l2Evict t l).trio t).l2.find q = none := by
  have hdrop : ((s.l2Lose t l.line.toNat).trio t).l2.find q = none := by
    rw [l2_l2Lose s ht]
    exact find_eq_none.mpr fun x hx => find_eq_none.mp h x (List.mem_filter.mp hx).1
  unfold State.l2Evict
  dsimp only
  split
  · rw [l2_sendWb _ ht]
    refine find_eq_none.mpr fun x hx hq => ?_
    rcases List.mem_append.mp hx with hx | hx
    · exact find_eq_none.mp hdrop x hx hq
    · rw [List.mem_singleton.mp hx]
  · exact hdrop

end

/-! ### A line that enters -/

/-- A line that was not there is found once it has entered behind the others, whose ages alone change. -/
theorem find_entered {k : L2} {q : Nat} {g : L2Line → L2Line} {new : L2Line} (hn : k.find q = none)
    (hg : ∀ l, (g l).line = l.line ∧ (g l).st = l.st) (hq : new.line.toNat = q) (hst : new.st ≠ .wp) :
    ({ k with lines := k.lines.map g ++ [new] } : L2).find q = some new := by
  have hold : (k.lines.map g).find? (fun l => decide (l.line.toNat = q) && decide (l.st ≠ .wp)) = none := by
    rw [List.find?_map, Option.map_eq_none_iff, ← hn]
    exact congrArg (k.lines.find? ·) (funext fun l => by simp only [Function.comp, (hg l).1, (hg l).2])
  refine (List.find?_append ..).trans ?_
  rw [hold, Option.none_or]
  exact List.find?_cons_of_pos (by simp [hq, hst])

section
variable {s : State} {t : Nat} {r : Rq} {line : Nat} {d : LineData} {psn : Bool} {st : LState} {age : Nat} (ht : t ≤ 84)
include ht

theorem refusals_l2Fill : (s.l2Fill t r line d psn st age).1.refusals = s.refusals := by
  unfold State.l2Fill
  simp only [Nat.not_lt.mpr ht, if_false]
  split
  · rfl
  · simp only [State.modL2_refusals]
    split
    · exact refusals_l2Evict s ht _
    · rfl

/-- With room for it a line that is not there enters with its data and state. -/
theorem l2Fill_of_room (hroom : s.l2Room t r = true) (hl : line < 2 ^ 40) (hst : st ≠ .wp) (hn : (s.trio t).l2.find line = none) :
    (s.l2Fill t r line d psn st age).2 = true ∧
      ∃ l, ((s.l2Fill t r line d psn st age).1.trio t).l2.find line = some l ∧ l.st = st ∧ l.data = d ∧ l.poison = psn := by
  have hmask : s.l2Mask t r.tid r.w ≠ 0 := by
    simp only [State.l2Room, Bool.and_eq_true, decide_eq_true_eq] at hroom
    exact hroom.2
  obtain ⟨w, ws, hways⟩ := List.exists_cons_of_ne_nil (waysOf_ne_nil hmask)
  unfold State.l2Fill
  simp only [Nat.not_lt.mpr ht, if_false, hways]
  split
  case h_1 h =>
    obtain ⟨p, hp⟩ := pickWay_of_cons w ws _
    rw [hp] at h
    cases h
  case h_2 way add h =>
    refine ⟨rfl, ⟨BitVec.ofNat 40 line, way, st, d, age, r.w, (BitVec.ofNat 5 r.tid).toFin, psn⟩, ?_, rfl, rfl, rfl⟩
    rw [l2_modL2 _ ht]
    refine find_entered ?_ (fun l => ?_) (Nat.mod_eq_of_lt hl) hst
    · split
      · exact find_l2Evict s ht _ hn
      · exact hn
    · split <;> exact ⟨rfl, rfl⟩

end
end Sys2Proof.Machine
end

section
/-! SUPPORT. Messages as they arrive, each the only one on its way: obligation O44 (R116, R162, R170, R171, R173, R174). -/

namespace Sys2Proof.Machine

/-! ### The only message on its way (R162) -/

/-- The state with no coherence message on its way. -/
def State.quiet (s : State) : State := { s with net := [] }

section
variable {s : State} {x : Sent} (hn : s.net = [x])
include hn

theorem taken_only : s.taken x = s.quiet := by
  simp [State.taken, State.quiet, hn]

theorem sentOf_only (hk : x.kind = k) (ha : x.agent = a) (hl : x.line = line) : s.sentOf k a line = some x := by
  subst hk ha hl
  simp [State.sentOf, State.nextOf, hn]

theorem dataOf_only {m : Msg} (hk : x.kind = k) (ha : x.agent = m.agent) (hl : x.line = m.line)
    (hs : x.data = m.data ∧ x.psn = m.psn ∧ x.w1 = m.w1) : s.dataOf k m = some x := by
  obtain ⟨hd, hp, hw⟩ := hs
  simp [State.dataOf, sentOf_only hn hk ha hl, hd, hp, hw]

end

/-! ### What holds still -/

theorem forN_fixed {f : Nat → State → State} {n : Nat} {s : State} (h : ∀ i, i < n → f i s = s) : forN n f s = s :=
  List.foldlRecOn (motive := (· = s)) (List.range n) (fun s i => f i s) rfl
    (fun _ hu i hi => (congrArg (f i) hu).trans (h i (List.mem_range.mp hi)))

/-- No store waits in the merging buffers of a trio. -/
def State.NoStores (s : State) (t : Nat) : Prop := ∀ i, i < 3 → (s.core (coreNo t i)).merge = []

theorem performHeads_idle {s : State} {t : Nat} (h : s.NoStores t) (line : Nat) : s.performHeads t line = s := by
  unfold State.performHeads
  split
  · rfl
  · exact forN_fixed fun i hi => by simp only [h i hi]

/-- What the memory system does to a trio's cores brings no store into their merging buffers. -/
theorem noStores_of_lasting {s u : State} {t : Nat} (h : s.NoStores t) (hl : ∀ c, ServedSince s c u) : u.NoStores t := by
  intro i hi
  have hm := (hl (coreNo t i)).core.merge.1
  rw [h i hi] at hm
  exact List.length_eq_zero_iff.mp (Nat.le_zero.mp hm)

theorem noStores_modL2 {s : State} {t : Nat} (h : s.NoStores t) (a : Nat) (f : L2 → L2) : (s.modL2 a f).NoStores t := by
  intro i hi
  rw [State.modL2_core]
  exact h i hi

theorem noStores_l2Fill {s : State} {t : Nat} (h : s.NoStores t) (r : Rq) (line : Nat) (d : LineData) (psn : Bool) (st : LState) (age : Nat) :
    (s.l2Fill t r line d psn st age).1.NoStores t :=
  noStores_of_lasting h (fun c => Lasting.Holds.l2Fill (L := servedSince s c) (ServedSince.refl s c))

/-! ### Granted data and acknowledgements (R171) -/

section
variable {s : State} {t : Nat} (ht : t ≤ 84) (line : LineAddr)
include ht

theorem l2_missDone : ((s.missDone t line).trio t).l2 = { (s.trio t).l2 with
    miss := (s.trio t).l2.miss.filter (fun r => decide (r.line ≠ line))
    answers := (s.trio t).l2.answers ++
      (((s.trio t).l2.miss.filter (fun r => decide (r.line = line))).flatMap (fun r => r.held)).map (fun x => (line, x)) } :=
  l2_modL2 s ht _

theorem find_missDone (q : Nat) : ((s.missDone t line).trio t).l2.find q = (s.trio t).l2.find q := by
  rw [l2_missDone ht]
  rfl

theorem miss_missDone : ∀ q ∈ ((s.missDone t line).trio t).l2.miss, q.line ≠ line := by
  rw [l2_missDone ht]
  exact fun q hq => of_decide_eq_true (List.mem_filter.mp hq).2

end

/-- The line with what its data message brings. -/
def L2Line.granted (l : L2Line) (x : Sent) (st : LState) : L2Line :=
  { l with st := st, data := x.data, poison := x.psn, w := x.w, tid := x.tid }

/-- The state in which granted data have entered their agent's lines. -/
def State.entered (s : State) (x : Sent) (st : LState) : State :=
  match (s.l2At x.agent.val).find x.line.toNat with
  | some _ => s.modL2 x.agent.val (fun k => k.update x.line.toNat (·.granted x st))
  | none => (s.l2Fill x.agent.val { agent := x.agent.val, tid := x.tid.val, w := x.w } x.line.toNat x.data x.psn st (if x.h then 3 else 0)).1

section
variable {s : State} {x : Sent} (st : LState) (ht : x.agent.val ≤ 84) (hs : s.NoStores x.agent.val)
  (hroom : ((s.trio x.agent.val).l2.find x.line.toNat ≠ none) ∨
    s.l2Room x.agent.val { agent := x.agent.val, tid := x.tid.val, w := x.w } = true) (hst : st ≠ .wp)

include hs in
theorem noStores_entered : (s.entered x st).NoStores x.agent.val := by
  unfold State.entered
  split
  · exact noStores_modL2 hs _ _
  · exact noStores_l2Fill hs _ _ _ _ _ _

include ht

theorem refusals_entered : (s.entered x st).refusals = s.refusals := by
  unfold State.entered
  split
  · exact State.modL2_refusals ..
  · exact refusals_l2Fill ht

include hroom hst

theorem find_entered_line : ∃ l, ((s.entered x st).trio x.agent.val).l2.find x.line.toNat = some l ∧ l.st = st ∧ l.data = x.data ∧
    l.poison = x.psn := by
  unfold State.entered
  rw [l2At_trio s ht]
  split
  · next l hf =>
    rw [l2_modL2 s ht, find_update (f := (·.granted x st)) _ _ _ (fun _ => rfl) (fun _ _ => hst), hf]
    simp [L2Line.granted]
  · next hf => exact (l2Fill_of_room ht (hroom.resolve_left (· hf)) x.line.isLt hst hf).2

include hs

theorem dataIn_of_asked {u : State} (hu : u.taken x = s) (hnc : x.nc = false)
    (hm : ∃ q ∈ (s.trio x.agent.val).l2.miss, q.line = x.line) :
    u.dataIn x st = (s.entered x st).missDone x.agent.val x.line := by
  have hany : (s.l2At x.agent.val).miss.any (fun q => decide (q.line = x.line)) = true := by
    rw [l2At_trio s ht]
    simpa using hm
  have hidle := performHeads_idle (noStores_entered st hs) x.line.toNat
  unfold State.dataIn
  simp only [hu, hnc, hany, Bool.not_true, Bool.or_false, Bool.false_eq_true, if_false]
  rw [← hidle]
  congr 2
  unfold State.entered
  rw [l2At_trio s ht]
  cases hf : (s.trio x.agent.val).l2.find x.line.toNat with
  | some l => rfl
  | none =>
    have hr := hroom.resolve_left (· hf)
    simp only [hr, Bool.or_true, if_true, (l2Fill_of_room ht hr x.line.isLt hst hf).1, Bool.true_or]

end

/-! ### The arrivals -/

theorem exec_arrives {i : Instr} {s u : State} {x : Sent} {o : Option Sent} (hi : exec i s = done (s.arrives o)) (ho : o = some x)
    (hu : s.deliver x = u) : exec i s = .next u.finish := by
  rw [hi, ho, ← hu]
  rfl

section
variable {s : State} {x : Sent} (hn : s.net = [x])
include hn

/-- With no fill on its way a snoop waits for its answer (R173). -/
theorem snoopIn_only (n : Snp) : s.snoopIn n x = s.quiet.modL2 x.agent.val (fun k => { k with answers := k.answers ++ [(x.line, n)] }) := by
  unfold State.snoopIn
  rw [taken_only hn]
  rfl

theorem cmpIn_only (hnc : x.nc = false) (hs : s.NoStores x.agent.val) : s.cmpIn x =
    (s.quiet.modL2 x.agent.val (fun k => k.update x.line.toNat (fun l => { l with st := .m }))).missDone x.agent.val x.line := by
  have hs' : s.quiet.NoStores x.agent.val := hs
  have hidle := performHeads_idle (noStores_modL2 hs' x.agent.val (fun k => k.update x.line.toNat (fun l => { l with st := .m }))) x.line.toNat
  unfold State.cmpIn
  rw [taken_only hn]
  simp only [hnc, Bool.false_eq_true, if_false, hidle]

theorem memRead_only {line : LineAddr} (hk : x.kind = .memRead) (hl : x.line = line) :
    s.net.find? (fun m => decide (m.kind = .memRead) && decide (m.line = line)) = some x := by
  rw [hn]
  exact List.find?_cons_of_pos (by simp [hk, hl])

theorem memIn_none (hx : ∀ y ∈ (s.home (chanOf x.line.toNat)).txns, y.req.msg.line ≠ x.line) : s.memIn x = s.quiet := by
  have hnone : (s.quiet.home (chanOf x.line.toNat)).txnOf x.line = none := List.find?_eq_none.mpr fun y hy => by simpa using hx y hy
  unfold State.memIn
  rw [taken_only hn]
  simp only [hnone]

theorem memIn_one {y : Txn} (hy : (s.home (chanOf x.line.toNat)).txns = [y]) (hl : y.req.msg.line = x.line) : s.memIn x =
    (s.quiet.modHome (chanOf x.line.toNat) (fun k => { k with txns := [{ y with memIn := true }] })).tryFinish (chanOf x.line.toNat) x.line := by
  have hq : (s.quiet.home (chanOf x.line.toNat)).txns = [y] := hy
  have hsome : (s.quiet.home (chanOf x.line.toNat)).txnOf x.line = some y := by simp [Home.txnOf, hq, hl]
  unfold State.memIn
  rw [taken_only hn]
  simp only [hsome, State.modHome, Home.setTxn, hq, List.filterMap_cons, hl, if_true, List.filterMap_nil]

end

theorem agentId_val (a : AgentId) : agentId a.val = a := by
  refine Fin.ext ?_
  show a.val % 2 ^ 7 = a.val
  omega

/-- The message that carries an agent's answer. -/
def Ans.sent (a : AgentId) (line : LineAddr) : Ans → Sent
  | .i => { kind := .rspI, agent := a, line := line }
  | .s => { kind := .rspS, agent := a, line := line }
  | .fwd d p w1 => { kind := .rspFwd, agent := a, line := line, data := d, psn := p, w1 := w1 }
  | .dirty d p => { kind := .rspDirty, agent := a, line := line, data := d, psn := p }

/-- An agent's answer to its only waiting snoop (R173). -/
theorem answerSnoop_only {s : State} {a : AgentId} (ha : a.val ≤ 84) {line : LineAddr} {n : Snp}
    (h : (s.trio a.val).l2.answers = [(line, n)]) :
    s.answerSnoop a line =
      let r := (s.modL2 a.val (fun k => { k with answers := [] })).snoop a.val n line.toNat
      { r.1 with net := r.1.net ++ [r.2.sent a line] } := by
  have hmod : s.modL2 a.val (fun k => { k with answers := k.answers.erase (line, n) }) = s.modL2 a.val (fun k => { k with answers := [] }) := by
    rw [modL2_of_trio s ha, modL2_of_trio s ha]
    unfold State.modTrio
    simp [h]
  unfold State.answerSnoop
  rw [l2At_trio s ha, h]
  simp only [List.find?_cons, decide_true]
  rw [hmod]
  generalize (s.modL2 a.val (fun k => { k with answers := [] })).snoop a.val n line.toNat = r
  obtain ⟨u, x⟩ := r
  cases x <;> simp [State.send, State.sendData, Ans.sent, agentId_val]

theorem trio_finish {s : State} (h : s.refusals = []) (t : Nat) : s.finish.trio t = s.trio t := by
  rw [State.trio, (settles_finish s h).trios, State.trio]

theorem net_finish {s : State} (h : s.refusals = []) : s.finish.net = s.net := (settles_finish s h).net

/-! ### The obligation -/

section
variable {s : State} {t : TrioId} {m : Msg} {x : Sent} (hat : m.agent.val = t.val) (hn : s.net = [x]) (hr : s.refusals = [])
  (hxa : x.agent = m.agent) (hxl : x.line = m.line) (hnc : x.nc = false) (hs : s.NoStores t.val)
include hat hn hxa hxl

theorem exec_snoop_only {i : Instr} {kind : MsgKind} {n : Snp} (hi : exec i s = snoopRow n m.agent m.line s) (hmsg : n.msg = kind)
    (hdel : x.kind = kind → s.deliver x = s.snoopIn n x) (hk : x.kind = kind) :
    (s.snoopsAt m.agent.val < 16 →
      exec i s = .next (s.quiet.modL2 t.val (fun k => { k with answers := k.answers ++ [(m.line, n)] })).finish) ∧
    (16 ≤ s.snoopsAt m.agent.val → exec i s = .next s.finish) := by
  refine ⟨fun hlt => ?_, fun hge => hi.trans (congrArg done (if_pos hge))⟩
  rw [hi, snoopRow, if_neg (Nat.not_le.mpr hlt), sentOf_only hn (hk.trans hmsg.symm) hxa hxl]
  refine congrArg done ((hdel hk).trans ?_)
  rw [snoopIn_only hn, hxa, hxl, hat]

include hr hnc hs

/-- A data message gives its agent the line in the state granted, and its miss registers for the line are free. -/
theorem exec_data_only {i : Instr} {kind : MsgKind} {st : LState} (hi : exec i s = done (s.arrives (s.dataOf kind m)))
    (hdel : x.kind = kind → s.deliver x = s.dataIn x st) (hst : st ≠ .wp) (hk : x.kind = kind)
    (hsame : x.data = m.data ∧ x.psn = m.psn ∧ x.w1 = m.w1) (hasked : ∃ q ∈ (s.trio t.val).l2.miss, q.line = m.line)
    (hroom : (s.trio t.val).l2.find m.line.toNat ≠ none ∨ s.l2Room t.val { agent := m.agent.val, tid := x.tid.val, w := x.w } = true) :
    ∃ u l, exec i s = .next u ∧ (u.trio t.val).l2.find m.line.toNat = some l ∧ l.st = st ∧ l.data = m.data ∧ l.poison = m.psn ∧
      (∀ q ∈ (u.trio t.val).l2.miss, q.line ≠ m.line) ∧ ((s.trio t.val).l2.find m.line.toNat ≠ none → u.net = []) := by
  have ha : x.agent.val = t.val := (congrArg Fin.val hxa).trans hat
  have ht : t.val ≤ 84 := Nat.le_of_lt_succ t.isLt
  rw [hat, ← ha, ← hxl] at hroom
  rw [← ha, ← hxl] at hasked
  rw [← ha] at hs ht
  have ⟨hdata, hpsn, _⟩ := hsame
  have hin : s.deliver x = (s.quiet.entered x st).missDone x.agent.val x.line :=
    (hdel hk).trans (dataIn_of_asked (s := s.quiet) st ht hs hroom hst (taken_only hn) hnc hasked)
  obtain ⟨l, hl, hlst, hld, hlp⟩ := find_entered_line (s := s.quiet) st ht hroom hst
  have href : ((s.quiet.entered x st).missDone x.agent.val x.line).refusals = [] := by
    rw [State.missDone, State.modL2_refusals, refusals_entered st ht]
    exact hr
  refine ⟨_, l, exec_arrives hi (dataOf_only hn hk hxa hxl hsame) hin, ?_, hlst, hld.trans hdata, hlp.trans hpsn, ?_, fun hf => ?_⟩
  · rw [trio_finish href, ← ha, ← hxl, find_missDone ht, hl]
  · rw [trio_finish href, ← ha, ← hxl]
    exact miss_missDone ht _
  · rw [← ha, ← hxl] at hf
    obtain ⟨l', hf⟩ := Option.ne_none_iff_exists'.mp hf
    rw [net_finish href, State.missDone, State.modL2_net]
    unfold State.entered
    rw [l2At_trio _ ht, show (s.quiet.trio x.agent.val).l2.find x.line.toNat = some l' from hf]
    exact State.modL2_net ..

end

/-! ### Acknowledgements -/

section
variable {s : State} {x : Sent} (ht : x.agent.val ≤ 84) (hn : s.net = [x]) (hr : s.refusals = [])
include ht hn hr

/-- Cmp: the line, where it is there, becomes M with the data that it has (R171). -/
theorem cmpIn_finish (hnc : x.nc = false) (hs : s.NoStores x.agent.val) : (s.cmpIn x).finish.net = [] ∧
    ((s.cmpIn x).finish.trio x.agent.val).l2.find x.line.toNat =
      ((s.trio x.agent.val).l2.find x.line.toNat).map (fun l => { l with st := .m }) := by
  have hin := cmpIn_only hn hnc hs
  have href : (s.cmpIn x).refusals = [] := by
    rw [hin, State.missDone, State.modL2_refusals, State.modL2_refusals]
    exact hr
  rw [net_finish href, trio_finish href, hin, find_missDone ht, l2_modL2 _ ht,
    find_update (f := fun l => { l with st := .m }) _ _ _ (fun _ => rfl) (fun _ _ => LState.noConfusion), State.missDone, State.modL2_net,
    State.modL2_net]
  simp only [if_true]
  exact ⟨rfl, rfl⟩

/-- WbAck: the line leaves the writeback buffer, and the lines that the agent holds stay (R174). -/
theorem ackIn_finish : (s.ackIn x).finish.net = [] ∧ ((s.ackIn x).finish.trio x.agent.val).l2.findWp x.line.toNat = none ∧
    x.line ∉ ((s.ackIn x).finish.trio x.agent.val).l2.superseded ∧
    ((s.ackIn x).finish.trio x.agent.val).l2.find x.line.toNat = (s.trio x.agent.val).l2.find x.line.toNat := by
  have hin : s.ackIn x = s.quiet.modL2 x.agent.val (fun k => { k with
      lines := k.lines.filter (fun l => !(decide (l.line = x.line) && decide (l.st = .wp)))
      superseded := k.superseded.filter (fun l => decide (l ≠ x.line)) }) := by
    rw [State.ackIn, taken_only hn]
  have href : (s.ackIn x).refusals = [] := by
    rw [hin, State.modL2_refusals]
    exact hr
  rw [net_finish href, trio_finish href, hin, l2_modL2 _ ht, State.modL2_net]
  refine ⟨rfl, List.find?_eq_none.mpr fun l hl => ?_, fun h => ?_, ?_⟩
  · have hkept := (List.mem_filter.mp hl).2
    simpa [BitVec.toNat_inj, imp_iff_not_or] using hkept
  · simpa using (List.mem_filter.mp h).2
  · refine (List.find?_filter ..).trans (congrArg ((s.trio x.agent.val).l2.lines.find? ·) (funext fun l => ?_))
    by_cases hw : l.st = .wp <;> simp [hw]

end

/-- Settles O44: the only message on its way is the one that a row takes, and `deliver` acts by its kind. -/
theorem messagesArrive : Obligations.MessagesArrive := by
  intro s t a m x hat hma hn hr hxa hxl hnc hs
  subst hma
  have ht : m.agent.val ≤ 84 := hat ▸ Nat.le_of_lt_succ t.isLt
  have hax : x.agent.val = t.val := (congrArg Fin.val hxa).trans hat
  dsimp only
  refine ⟨?_, ?_, ?_, ?_, ?_, ?_, ?_, ?_, ?_, ?_, ?_, ?_, ?_, ?_, ?_⟩
  · exact exec_snoop_only hat hn hxa hxl rfl rfl (fun hk => by rw [State.deliver, hk])
  · exact exec_snoop_only hat hn hxa hxl rfl rfl (fun hk => by rw [State.deliver, hk])
  · exact exec_snoop_only hat hn hxa hxl rfl rfl (fun hk => by rw [State.deliver, hk])
  · exact exec_data_only hat hn hr hxa hxl hnc hs rfl (fun hk => by rw [State.deliver, hk]) (by decide)
  · exact exec_data_only hat hn hr hxa hxl hnc hs rfl (fun hk => by rw [State.deliver, hk]) (by decide)
  · exact exec_data_only hat hn hr hxa hxl hnc hs rfl (fun hk => by rw [State.deliver, hk]) (by decide)
  · exact fun hk _ => exec_arrives rfl (sentOf_only hn hk hxa hxl) (by rw [State.deliver, hk])
  · exact fun hk _ => exec_arrives rfl (sentOf_only hn hk hxa hxl) (by rw [State.deliver, hk])
  · intro hk hv
    have hsame := (hv.resolve_left (by simp)).resolve_left (by simp)
    obtain ⟨hd, hp, hw⟩ := hsame
    exact exec_arrives rfl (dataOf_only hn hk hxa hxl ⟨hd, hp, hw⟩) (by rw [State.deliver, hk, ← hd, ← hp, ← hw])
  · intro hk hv
    have hsame := (hv.resolve_left (by simp)).resolve_left (by simp)
    obtain ⟨hd, hp, hw⟩ := hsame
    exact exec_arrives rfl (dataOf_only hn hk hxa hxl ⟨hd, hp, hw⟩) (by rw [State.deliver, hk, ← hd, ← hp])
  · intro hk
    have hs' : s.NoStores x.agent.val := hax ▸ hs
    obtain ⟨hnet, hfind⟩ := cmpIn_finish (hax ▸ hat ▸ ht) hn hr hnc hs'
    rw [hxl, hax] at hfind
    refine ⟨_, exec_arrives rfl (sentOf_only hn hk hxa hxl) (by rw [State.deliver, hk]), hnet, ?_, fun hf => ?_⟩
    · rw [hfind, Option.map_map]
      rfl
    · obtain ⟨l, hf⟩ := Option.ne_none_iff_exists'.mp hf
      rw [hfind, hf]
      rfl
  · intro hk
    have hack := ackIn_finish (hax ▸ hat ▸ ht) hn hr
    rw [hxl, hax] at hack
    exact ⟨_, exec_arrives rfl (sentOf_only hn hk hxa hxl) (by rw [State.deliver, hk]), hack⟩
  · intro hk hx
    rw [← hxl] at hx
    exact exec_arrives rfl (memRead_only hn hk hxl) (by rw [State.deliver, hk]; exact memIn_none hn hx)
  · intro y hk hy hl
    rw [← hxl] at hy hl ⊢
    exact exec_arrives rfl (memRead_only hn hk rfl) (by rw [State.deliver, hk]; exact memIn_one hn hy hl)
  · intro n hans
    rw [← hat] at hans ⊢
    refine congrArg done ((answerSnoop_only ht hans).trans ?_)
    generalize (s.modL2 m.agent.val (fun k => { k with answers := [] })).snoop m.agent.val n m.line.toNat = r
    obtain ⟨u, x⟩ := r
    cases x <;> rfl

end Sys2Proof.Machine
end

section
/-! SUPPORT. Writebacks, deaths and directory errors at a home: obligation O45 (R174, R180, R182-R184). -/

namespace Sys2Proof.Machine

/-! ### An owner that leaves its entry (R174) -/

/-- What leaves an entry changes the home's directory and its counts, and nothing else. -/
def State.DirChanged (s u : State) (h : Nat) : Prop := u = s ∨ ∃ f, u = (s.modHome h f).haSync h

theorem unlist_dirChanged (s : State) (a line : Nat) : s.DirChanged (s.unlist a line) (chanOf line) := by
  unfold State.unlist
  dsimp only
  split
  · split
    · exact .inl rfl
    · exact .inr ⟨_, rfl⟩
  · exact .inl rfl

theorem disown_dirChanged (s : State) (a line : Nat) : s.DirChanged (s.disown a line) (chanOf line) := by
  unfold State.disown
  dsimp only
  split
  · split
    · exact .inl rfl
    · split
      · exact .inr ⟨_, rfl⟩
      · exact unlist_dirChanged s a line
  · exact .inl rfl

theorem home_haSync (s : State) (h x : Nat) : (s.haSync h).home x = s.home x := rfl

theorem entry_haSync_modHome (s : State) (h line : Nat) (f : Home → Home) :
    (((s.modHome h f).haSync h).home h).entry line = (f (s.home h)).entry line := by
  rw [home_haSync, State.home_modHome]

theorem State.DirChanged.outside {s u : State} {h : Nat} (hd : s.DirChanged u h) :
    u.refusals = s.refusals ∧ u.net = s.net ∧ u.msc = s.msc := by
  rcases hd with rfl | ⟨f, rfl⟩
  · exact ⟨rfl, rfl, rfl⟩
  · exact ⟨rfl, rfl, rfl⟩

/-- An entry changed in place is found where it was. -/
theorem entry_replaced {l : List DirEntry} {line : Nat} {e e' : DirEntry} (he : l.find? (fun x => decide (x.line.toNat = line)) = some e)
    (hl : e'.line = e.line) : (l.map (fun x => if x = e then e' else x)).find? (fun x => decide (x.line.toNat = line)) = some e' := by
  have hp : ∀ x : DirEntry, (if x = e then e' else x).line = x.line := by
    intro x
    split
    · next h => rw [hl, h]
    · rfl
  rw [List.find?_map]
  simp only [Function.comp_def, hp, he, Option.map_some, if_true]

theorem entry_free (k : Home) (line : Nat) : (k.free line).entry line = none := by
  simp [Home.entry, Home.free, List.find?_eq_none]

theorem owner_of_st {e : DirEntry} (h : e.st = .s) : e.owner = none := by
  unfold DirEntry.owner
  rw [h]

theorem owner_mem {e : DirEntry} {a : Nat} (ho : e.owner = some a) : e.ptrs.contains (agentId a) = true := by
  have hh : (e.ptrs.head?).map (·.val) = some a := by
    unfold DirEntry.owner at ho
    split at ho
    · cases ho
    · exact ho
  obtain ⟨b, hb, rfl⟩ := Option.map_eq_some_iff.mp hh
  rw [agentId_val]
  exact List.contains_iff_mem.mpr (List.mem_of_head? hb)

section
variable {s : State} {a line : Nat} {e : DirEntry} (he : (s.home (chanOf line)).entry line = some e) (ho : e.owner = some a)
include he ho

theorem owner_unlist (hb : e.bc = false) : ∀ e', ((s.unlist a line).home (chanOf line)).entry line = some e' → e'.owner = none := by
  intro e' he'
  simp only [State.unlist, he, hb, owner_mem ho, ho, Bool.not_true, Bool.or_self, Bool.false_eq_true, if_false, if_true,
    entry_haSync_modHome] at he'
  by_cases hp : (e.ptrs.filter (fun b => decide (b ≠ agentId a))).isEmpty = true
  · rw [if_pos hp] at he'
    exact absurd (he'.symm.trans (entry_free (s.home (chanOf line)) line)) (by simp)
  · rw [if_neg hp] at he'
    obtain rfl := Option.some.inj (he'.symm.trans (entry_replaced he rfl))
    exact owner_of_st rfl

theorem owner_disown : ∀ e', ((s.disown a line).home (chanOf line)).entry line = some e' → e'.owner = none := by
  intro e' he'
  unfold State.disown at he'
  simp only [he, ho, ne_eq, not_true, if_false] at he'
  split at he'
  · rw [entry_haSync_modHome] at he'
    obtain rfl := Option.some.inj (he'.symm.trans (entry_replaced he rfl))
    exact owner_of_st rfl
  · next hb => exact owner_unlist he ho (Bool.eq_false_iff.mpr hb) e' he'

end

/-! ### A writeback at its home (R174) -/

section
variable {s : State} {a : Nat} {m : Msg}

theorem writeBack_of_owner {e : DirEntry} (he : (s.home (chanOf m.line.toNat)).entry m.line.toNat = some e) (ho : e.owner = some a) :
    s.writeBack a m = (s.memWriteLine m.tid.val m.w m.line.toNat m.data m.psn).disown a m.line.toNat :=
  if_pos (by rw [he]; exact ho)

theorem writeBack_of_none (he : (s.home (chanOf m.line.toNat)).entry m.line.toNat = none) : s.writeBack a m = s :=
  if_neg (by rw [he]; simp)

/-- A writeback leaves the record of refused stores and the messages on their way as they are. -/
theorem writeBack_keeps : (s.writeBack a m).refusals = s.refusals ∧ (s.writeBack a m).net = s.net := by
  have hb := beyondMemory_memWriteLine s m.tid.val m.w m.line.toNat m.data m.psn
  have hd := disown_dirChanged (s.memWriteLine m.tid.val m.w m.line.toNat m.data m.psn) a m.line.toNat
  unfold State.writeBack
  dsimp only
  split
  · obtain ⟨hrefs, hnet, -⟩ := hd.outside
    exact ⟨hrefs.trans (refusals_of_beyondMemory hb), hnet.trans (net_of_beyondMemory hb)⟩
  · exact ⟨rfl, rfl⟩

/-- With no writeback of the line on its way, and the line not at its agent, the row's own message reaches the home. -/
theorem exec_wbdirty_of_none (ha : m.agent.val ≤ 0x57) (hf : (s.l2At m.agent.val).find m.line.toNat = none)
    (hnet : ∀ y ∈ s.net, ¬ (y.kind = .wbDirty ∧ y.agent = m.agent ∧ y.line = m.line)) : exec (.wbdirty m) s = .next (s.wbIn m).finish := by
  have hany : s.net.any (fun x => decide (x.kind = .wbDirty) && decide (x.agent = m.agent) && decide (x.line = m.line)) = false :=
    List.any_eq_false.mpr fun y hy => by simpa [and_assoc] using hnet y hy
  have hrow : execWbdirty m s = done (s.wbIn m) := by
    unfold execWbdirty
    dsimp only
    rw [if_neg (Nat.not_lt.mpr ha), hany, hf, if_neg Bool.false_ne_true]
  exact hrow

theorem wbIn_of_idle (ht : (s.home (chanOf m.line.toNat)).txns = []) (he : (s.home (chanOf m.line.toNat)).evict = []) :
    s.wbIn m = (s.writeBack m.agent.val m).send .wbAck m.agent.val m.line.toNat := by
  simp [State.wbIn, Home.txnOf, ht, he]

theorem wbIn_of_snooped {x : Txn} (ht : (s.home (chanOf m.line.toNat)).txns = [x]) (hl : x.req.msg.line = m.line)
    (hw : ∃ n, (m.agent, n) ∈ x.await) : s.wbIn m =
      s.modHome (chanOf m.line.toNat) (fun k => { k with txns := [{ x with heldWb := x.heldWb ++ [m] }] }) := by
  have hany : x.await.any (fun p => decide (p.1 = m.agent)) = true := by
    obtain ⟨n, hn⟩ := hw
    exact List.any_eq_true.mpr ⟨_, hn, decide_eq_true rfl⟩
  unfold State.wbIn State.modHome
  simp [Home.txnOf, ht, hl, hany]

end

/-! ### The death of an agent (R182) -/

theorem haR_off_ne_pendR (h : Chan) (g : Nat) : (haR h.val).off ≠ (pendR g).off := by
  have := h.isLt
  simp only [RegRef.off, haR, pendR, Reg.place, zoneBase]
  omega

theorem haR_off_ne_evgStat (h : Chan) : (haR h.val).off ≠ (RegRef.mk .evgStat 0 0 0).off := by
  have := h.isLt
  simp only [RegRef.off, haR, Reg.place, zoneBase]
  omega

theorem rf_haR_finish {s : State} (hr : s.refusals = []) (h : Chan) (hi lo : Nat) : s.finish.rf (haR h.val) hi lo = s.rf (haR h.val) hi lo :=
  congrArg (fld · hi lo) ((settles_finish s hr).reg _ (fun g _ => haR_off_ne_pendR h g) (haR_off_ne_evgStat h))

theorem home_finish {s : State} (hr : s.refusals = []) (h : Nat) : s.finish.home h = s.home h := by
  rw [State.home, (settles_finish s hr).homes, State.home]

/-- The counts of the slice stand below the fields of the reclaim in progress. -/
theorem rf_haSync (s : State) (h : Nat) {hi lo : Nat} (hn : hi < 64) (hl : 25 < lo) : (s.haSync h).rf (haR h) hi lo = s.rf (haR h) hi lo :=
  (rf_setRf_other_field _ _ _ _ _ hn (.inr hl)).trans (rf_setRf_other_field _ _ _ _ _ hn (.inr (by omega)))

theorem finishAll_of_idle {s : State} {h : Nat} (ht : (s.home h).txns = []) : s.finishAll h = s := by
  rw [State.finishAll, ht]
  rfl

/-- The reclaim of an agent begins at a home that has none in progress. -/
theorem startReclaim_of_idle {s : State} {h : Nat} (hd : (s.home h).dead = []) (a : Nat) : s.startReclaim h a =
    ((s.modHome h (fun k => { k with dead := [agentId a] })).setRf (haR h) 36 36 1).setRf (haR h) 43 37 a := by
  unfold State.startReclaim State.modHome
  simp [hd]
  rfl

end Sys2Proof.Machine
end

section
/-! SUPPORT. Deaths, and the writebacks' events as the rows give them: obligation O45 (R174, R180, R182-R184). -/

namespace Sys2Proof.Machine

/-! ### A writeback's row -/

section
variable {s : State} {m : Msg}

theorem net_send (s : State) (k : MsgKind) (a line : Nat) :
    (s.send k a line).net = s.net ++ [{ kind := k, agent := agentId a, line := BitVec.ofNat 40 line }] := rfl

theorem send_outside (s : State) (k : MsgKind) (a line : Nat) :
    (s.send k a line).refusals = s.refusals ∧ (s.send k a line).msc = s.msc ∧ (s.send k a line).mem = s.mem ∧
    (s.send k a line).homes = s.homes := ⟨rfl, rfl, rfl, rfl⟩

/-- What the tick keeps of a writeback's acknowledgement. -/
theorem finish_send {s : State} (hr : s.refusals = []) (k : MsgKind) (a line : Nat) :
    let u := (s.send k a line).finish
    { kind := k, agent := agentId a, line := BitVec.ofNat 40 line } ∈ u.net ∧ u.msc = s.msc ∧ u.mem = s.mem ∧ u.homes = s.homes := by
  obtain ⟨hrs, hmsc, hmem, hhomes⟩ := send_outside s k a line
  have hst := settles_finish (s.send k a line) (hrs.trans hr)
  refine ⟨?_, hst.msc.trans hmsc, hst.mem.trans hmem, hst.homes.trans hhomes⟩
  rw [hst.net, net_send]
  exact List.mem_append_right _ (List.mem_singleton_self _)

/-- Where nothing is outstanding a writeback is acknowledged; the owner's is written and leaves its sender no owner. -/
theorem wbIn_finish_of_idle (hr : s.refusals = []) (ht : (s.home (chanOf m.line.toNat)).txns = [])
    (hv : (s.home (chanOf m.line.toNat)).evict = []) :
    { kind := .wbAck, agent := agentId m.agent.val, line := BitVec.ofNat 40 m.line.toNat } ∈ (s.wbIn m).finish.net ∧
    (∀ e, (s.home (chanOf m.line.toNat)).entry m.line.toNat = some e → e.owner = some m.agent.val →
      (s.wbIn m).finish.msc = (s.memWriteLine m.tid.val m.w m.line.toNat m.data m.psn).msc ∧
      ∀ e', ((s.wbIn m).finish.home (chanOf m.line.toNat)).entry m.line.toNat = some e' → e'.owner = none) ∧
    ((s.home (chanOf m.line.toNat)).entry m.line.toNat = none → (s.wbIn m).finish.msc = s.msc ∧ (s.wbIn m).finish.mem = s.mem) := by
  obtain ⟨hrw, -⟩ := writeBack_keeps (s := s) (a := m.agent.val) (m := m)
  obtain ⟨hnet, hmsc, hmem, hhomes⟩ := finish_send (hrw.trans hr) .wbAck m.agent.val m.line.toNat
  rw [wbIn_of_idle ht hv]
  refine ⟨hnet, fun e he ho => ⟨?_, fun e' he' => ?_⟩, fun he => ?_⟩
  · rw [hmsc, writeBack_of_owner he ho]
    obtain ⟨-, -, hkept⟩ := (disown_dirChanged (s.memWriteLine m.tid.val m.w m.line.toNat m.data m.psn) m.agent.val m.line.toNat).outside
    exact hkept
  · rw [State.home, hhomes, writeBack_of_owner he ho] at he'
    refine owner_disown ?_ ho e' he'
    rw [home_of_beyondMemory (beyondMemory_memWriteLine s m.tid.val m.w m.line.toNat m.data m.psn)]
    exact he
  · rw [hmsc, hmem, writeBack_of_none he]
    exact ⟨rfl, rfl⟩

end

/-! ### A notice of a death (R182) -/

section
variable {s : State} {h : Chan} {b : AgentId} {cls : Fin 4}
  (hn : s.net = [{ kind := .agentDead, agent := b, line := BitVec.ofNat 40 (noticeKey h.val cls.val) }])

/-- The state after the only message on its way, a notice, has been noted. -/
def State.noticed (s : State) (h : Chan) (b : AgentId) (cls : Fin 4) : State :=
  s.quiet.modHome h.val (fun k => { k with notices := k.notices ++ [(b, cls)] })

theorem noticeKey_slice (h : Chan) (cls : Fin 4) : (BitVec.ofNat 40 (noticeKey h.val cls.val)).toNat / 4 = h.val := by
  have := h.isLt
  have := cls.isLt
  rw [BitVec.toNat_ofNat, noticeKey]
  omega

theorem noticeKey_class (h : Chan) (cls : Fin 4) : Fin.ofNat 4 (BitVec.ofNat 40 (noticeKey h.val cls.val)).toNat = cls := by
  have := h.isLt
  have := cls.isLt
  refine Fin.ext ?_
  show (BitVec.ofNat 40 (noticeKey h.val cls.val)).toNat % 4 = cls.val
  rw [BitVec.toNat_ofNat, noticeKey]
  omega

/-- The notices of a death, once there are four, are spent. -/
def State.forgot (s : State) (h : Chan) (b : AgentId) : State :=
  s.modHome h.val (fun k => { k with notices := k.notices.filter (fun n => decide (n.1 ≠ b)) })

theorem home_forgot (s : State) (h : Chan) (b : AgentId) (cls : Fin 4) : ((s.noticed h b cls).forgot h b).home h.val =
    { s.home h.val with notices := ((s.home h.val).notices ++ [(b, cls)]).filter (fun n => decide (n.1 ≠ b)) } := by
  rw [State.forgot, State.noticed, State.home_modHome, State.home_modHome]
  rfl

theorem rf_modHome (s : State) (x : Nat) (f : Home → Home) (r : RegRef) (hi lo : Nat) : (s.modHome x f).rf r hi lo = s.rf r hi lo := rfl

/-- What the start of a reclaim leaves of a slice that has none in progress. -/
theorem reclaim_of_idle {w : State} {h : Chan} {b : AgentId} (hd : (w.home h.val).dead = []) :
    let v := (w.startReclaim h.val b.val).evictDead h.val b.val
    v.rf (haR h.val) 36 36 = 1 ∧ v.rf (haR h.val) 43 37 = b.val ∧ (v.home h.val).notices = (w.home h.val).notices ∧
    (v.home h.val).txns = (w.home h.val).txns ∧ v.refusals = w.refusals := by
  have hb : b.val < 2 ^ 7 := b.isLt
  rw [startReclaim_of_idle hd]
  generalize hx : w.modHome h.val (fun k => { k with dead := [agentId b.val] }) = x
  have hxh : (x.home h.val).notices = (w.home h.val).notices ∧ (x.home h.val).txns = (w.home h.val).txns := by
    rw [← hx, State.home_modHome]
    exact ⟨rfl, rfl⟩
  have hxr : x.refusals = w.refusals := by rw [← hx]; rfl
  have hsame : ∀ y : State, ∀ f : Home → Home, ((y.modHome h.val f).haSync h.val).home h.val = f (y.home h.val) := by
    intro y f
    rw [home_haSync, State.home_modHome]
  dsimp only [State.evictDead]
  refine ⟨?_, ?_, ?_, ?_, hxr⟩
  · rw [rf_haSync _ h.val (by decide) (by decide), rf_modHome]
    exact (rf_setRf_other_field _ _ _ _ _ (by decide) (.inl (by decide))).trans (rf_setRf_same _ _ (by decide) (by decide))
  · rw [rf_haSync _ h.val (by decide) (by decide), rf_modHome]
    exact rf_setRf_same _ _ (by decide) hb
  · rw [hsame]
    exact hxh.1
  · rw [hsame]
    exact hxh.2

include hn

theorem noticeIn_only : s.noticeIn { kind := .agentDead, agent := b, line := BitVec.ofNat 40 (noticeKey h.val cls.val) } =
    if (((s.home h.val).notices ++ [(b, cls)]).filter (fun n => decide (n.1 = b))).length < 4 then s.noticed h b cls
    else ((((s.noticed h b cls).forgot h b).startReclaim h.val b.val).evictDead h.val b.val).finishAll h.val := by
  unfold State.noticeIn
  simp only [noticeKey_slice, noticeKey_class, taken_only hn, State.home_modHome]
  rfl

theorem exec_agentdead_only {u : State}
    (hu : s.noticeIn { kind := .agentDead, agent := b, line := BitVec.ofNat 40 (noticeKey h.val cls.val) } = u) :
    exec (.agentdead h b cls) s = .next u.finish :=
  exec_arrives rfl (sentOf_only hn rfl rfl rfl) hu

/-- With three notices of the death before it, a notice starts the reclaim and leaves none of them (R182). -/
theorem exec_agentdead_fourth (hc : ((s.home h.val).notices.filter (fun n => decide (n.1 = b))).length = 3)
    (ht : (s.home h.val).txns = []) (hd : (s.home h.val).dead = []) (hr : s.refusals = []) :
    ∃ u, exec (.agentdead h b cls) s = .next u ∧ u.rf (haR h.val) 36 36 = 1 ∧ u.rf (haR h.val) 43 37 = b.val ∧
      ∀ n ∈ (u.home h.val).notices, n.1 ≠ b := by
  have hw := home_forgot s h b cls
  generalize hwd : (s.noticed h b cls).forgot h b = w at hw
  have hrw : w.refusals = [] := by rw [← hwd]; exact hr
  obtain ⟨hbusy, hwho, hnot, htx, hrv⟩ := reclaim_of_idle (w := w) (h := h) (b := b) (by rw [hw]; exact hd)
  have hrow : s.noticeIn { kind := .agentDead, agent := b, line := BitVec.ofNat 40 (noticeKey h.val cls.val) } =
      (w.startReclaim h.val b.val).evictDead h.val b.val := by
    rw [noticeIn_only hn, if_neg (by simp [hc]), hwd]
    exact finishAll_of_idle (htx.trans (by rw [hw]; exact ht))
  refine ⟨_, exec_agentdead_only hn hrow, ?_, ?_, fun n hmem => ?_⟩
  · rw [rf_haR_finish (hrv.trans hrw), hbusy]
  · rw [rf_haR_finish (hrv.trans hrw), hwho]
  · rw [home_finish (hrv.trans hrw), hnot, hw] at hmem
    exact of_decide_eq_true (List.mem_filter.mp hmem).2

end

/-! ### The end of a reclaim (R182-R184) -/

theorem poisonRecords_of_nil (s : State) (tid n : Nat) : s.poisonRecords tid [] n = s := by
  cases n <;> rfl

/-- A slice whose directory is empty, with no death but the one in progress, has no reclaim in progress after the scan. -/
theorem exec_reclaimScanComplete_last {s : State} {h : Chan} (hg : s.rf (haR h.val) 36 36 = 1) (hdir : (s.home h.val).dir = [])
    (ht : (s.home h.val).txns = []) (hp : (s.home h.val).poisoned = []) (hd : (s.home h.val).dead = [agentId (s.rf (haR h.val) 43 37)])
    (hr : s.refusals = []) : ∃ u, exec (.reclaimScanComplete h) s = .next u ∧ u.rf (haR h.val) 36 36 = 0 ∧
      u.rf (haR h.val) 43 37 = 0x7F ∧ (u.home h.val).dead = [] := by
  let a := s.rf (haR h.val) 43 37
  let w := s.modHome h.val (fun k => { k with poisoned := [], dead := k.dead.filter (fun d => decide (d ≠ agentId a)) })
  let v := (w.setRf (haR h.val) 36 36 0).setRf (haR h.val) 43 37 0x7F
  have hw : (v.home h.val).dead = [] := by
    show (w.home h.val).dead = []
    simp only [w, State.home_modHome, hd, a]
    simp
  have hrow : execReclaimScanComplete h s = done v := by
    unfold execReclaimScanComplete
    dsimp only
    rw [show s.rf ⟨.haStatus, 0, h.val, 0⟩ 36 36 = 1 from hg, if_neg (by decide), hdir, List.foldl_nil, finishAll_of_idle ht, hp]
    simp only [List.filter_nil, List.map_nil, poisonRecords_of_nil]
    rw [forN_fixed fun _ _ => rfl]
    split
    · next hl => exact absurd (hw.symm.trans hl) (by simp)
    · rfl
  have hrv : v.refusals = [] := hr
  refine ⟨_, hrow, ?_, ?_, ?_⟩
  · rw [rf_haR_finish hrv]
    exact (rf_setRf_other_field _ _ _ _ _ (by decide) (.inl (by decide))).trans (rf_setRf_same _ _ (by decide) (by decide))
  · rw [rf_haR_finish hrv]
    exact rf_setRf_same _ _ (by decide) (by decide)
  · rw [home_finish hrv, hw]

/-! ### The obligation -/

/-- Settles O45: the owner's writeback through the rule of the memory-side write and of the entry its sender leaves; the death by the
count of its notices; the end of a reclaim with nothing to resolve. -/
theorem writebacksAndDeaths : Obligations.WritebacksAndDeaths := by
  intro s m h
  dsimp only
  refine ⟨fun ha hf hr hnet => ⟨fun ht hv => ?_, fun x hx hl hw => ?_⟩, fun b cls hn => ⟨fun hc => ?_, fun hc ht hd hr => ?_⟩,
    fun hg => ?_, fun hg hdir ht hp hd hr => exec_reclaimScanComplete_last hg hdir ht hp hd hr, rfl, rfl⟩
  · exact ⟨_, exec_wbdirty_of_none ha hf hnet, wbIn_finish_of_idle hr ht hv⟩
  · rw [exec_wbdirty_of_none ha hf hnet, wbIn_of_snooped hx hl hw]
  · exact exec_agentdead_only hn ((noticeIn_only hn).trans (if_pos (by simp; omega)))
  · exact exec_agentdead_fourth hn hc ht hd hr
  · have hrow : execReclaimScanComplete h s = done s := congrArg done (if_pos hg)
    exact hrow

end Sys2Proof.Machine
end

section
/-! SUPPORT. Votes among modules and the ticks of a partner: the last part of obligation O51 (R368, R369). -/

namespace Sys2Proof.Machine

/-! ### The majority (R368) -/

/-- Two disjoint parts of a part of a list are together no longer than it. -/
theorem length_filter_disjoint {α : Type} {p q r : α → Bool} (hp : ∀ x, p x → r x) (hq : ∀ x, q x → r x) (hd : ∀ x, p x → ¬ q x) (l : List α) :
    (l.filter p).length + (l.filter q).length ≤ (l.filter r).length := by
  induction l with
  | nil => exact Nat.le_refl 0
  | cons x l ih =>
    have hx : (if p x then 1 else 0) + (if q x then 1 else 0) ≤ if r x then 1 else 0 := by
      have := hp x
      have := hq x
      have := hd x
      split <;> split <;> simp_all
    simp only [← List.countP_eq_length_filter, List.countP_cons] at ih ⊢
    omega

section
variable (s : State) (c : Nat)

/-- How many of the participants in channel `c` contributed `x` to its round. -/
def State.votesFor (x : BitVec 256) : Nat := ((List.range 4).filter (fun i => s.votes c i && decide ((s.vote c).of i = some x))).length

variable {s c}

theorem exists_vote_of_votesFor {x : BitVec 256} (h : 0 < s.votesFor c x) : ∃ i ∈ List.range 4, s.votes c i = true ∧ (s.vote c).of i = some x := by
  obtain ⟨i, hi⟩ := List.exists_mem_of_length_pos h
  obtain ⟨hr, hv⟩ := List.mem_filter.mp hi
  obtain ⟨hv, ho⟩ := Bool.and_eq_true _ _ ▸ hv
  exact ⟨i, hr, hv, of_decide_eq_true ho⟩

theorem votesFor_add_le {x y : BitVec 256} (h : x ≠ y) : s.votesFor c x + s.votesFor c y ≤ ((List.range 4).filter (s.votes c)).length := by
  refine length_filter_disjoint (fun i h => (Bool.and_eq_true _ _ ▸ h).1) (fun i h => (Bool.and_eq_true _ _ ▸ h).1) (fun i hx hy => h ?_) _
  have hx := of_decide_eq_true (Bool.and_eq_true _ _ ▸ hx).2
  have hy := of_decide_eq_true (Bool.and_eq_true _ _ ▸ hy).2
  exact Option.some.inj (hx.symm.trans hy)

/-- The winner is the value that more than half of the participants contributed. -/
theorem voteWinner_iff (x : BitVec 256) : s.voteWinner c = some x ↔ ((List.range 4).filter (s.votes c)).length < 2 * s.votesFor c x := by
  constructor
  · intro h
    exact of_decide_eq_true (List.find?_some h :)
  · intro h
    obtain ⟨i, hi, hv, ho⟩ := exists_vote_of_votesFor (s := s) (c := c) (x := x) (by omega)
    cases hw : s.voteWinner c with
    | none =>
      have hmem : x ∈ (List.range 4).filterMap (fun m => if s.votes c m then (s.vote c).of m else none) :=
        List.mem_filterMap.mpr ⟨i, hi, by rw [if_pos hv, ho]⟩
      exact absurd (decide_eq_true h) (List.find?_eq_none.mp hw x hmem)
    | some y =>
      have hy : ((List.range 4).filter (s.votes c)).length < 2 * s.votesFor c y := of_decide_eq_true (List.find?_some hw :)
      by_contra hne
      have := votesFor_add_le (s := s) (c := c) (fun he : x = y => hne (congrArg some he.symm))
      omega

end

/-! ### The rows -/

theorem execVoteContribution_eq (k : XLink) (ch : Fin 64) (round : Word) (value : BitVec 256) (s : State) :
    let m := s.rf (xlStatusR k.val) 31 30
    execVoteContribution k ch round value s = done (if s.xlUp k.val = true ∧ bit (s.reg (vcfgR ch.val)) 63 = true ∧
        s.votes ch.val m = true ∧ (s.vote ch.val).older round = false ∧ ¬ ∃ x ∈ (s.vote ch.val).contrib, x.1.toNat = m ∧ x.2.1 = round then
      (s.modVote ch.val (fun q => { q with contrib := q.contrib ++ [(BitVec.ofNat 2 m, round, value)] })).voteCheck ch.val else s) := by
  unfold execVoteContribution
  simp only [Bool.or_eq_true, Bool.not_eq_true', List.any_eq_true, Bool.and_eq_true, decide_eq_true_eq]
  refine congrArg done ?_
  split <;> split <;> grind

/-- The last part of O51. -/
theorem votesAndTicks : VotesAndTicks := by
  intro s k ch round value ns arrival frame
  refine ⟨voteWinner_iff, fun ht hr => ?_, fun ht hr => ?_, fun ht => ?_, fun hu hc => ?_, fun h => ?_, fun h => ?_, fun h => ?_⟩
  · exact ((execVoteContribution_eq k ch round value s).trans (congrArg done (if_pos ht))).trans (congrArg done (if_neg (by simp [hr])))
  · exact ((execVoteContribution_eq k ch round value s).trans (congrArg done (if_pos ht))).trans (congrArg done (if_pos hr))
  · exact (execVoteContribution_eq k ch round value s).trans (congrArg done (if_neg ht))
  · have hrow : execVoteTimeout ch s = done (s.voteDecide ch.val) := congrArg done (if_pos ⟨hu, hc⟩)
    exact hrow
  · have hrow : execVoteTimeout ch s = done s := congrArg done (if_neg (by rintro ⟨hu, hc⟩; rcases h with h | h <;> simp_all))
    exact hrow
  · have hrow : execTick k ns arrival frame s = done (s.measure (ns + s.rf (xlStatusR k.val) 47 36 - arrival)) := congrArg done (if_pos h)
    exact hrow
  · have hrow : execTick k ns arrival frame s = done s := congrArg done (if_neg h)
    exact hrow

end Sys2Proof.Machine
end

section
/-! SUPPORT. Flits at a receiver, and the states of an external link: the second part of obligation O51 (R163, R361, R364). -/

namespace Sys2Proof.Machine

/-! ### What a receiver makes of a flit (R163) -/

section
variable {p : Plink} {f : Flit}

/-- What a flit in order without a CRC error leaves of the receiving end, with its count of NAKs in a row. -/
def Plink.after (p : Plink) (f : Flit) (nakIn : Nat) : Plink :=
  { p.told f with expect := p.expect + 1, acked := BitVec.ofNat 12 (fld f.ctl 51 40), nakSent := false, naks := 0, nakIn := nakIn }

/-- The end that has asked for a flit again. -/
def Plink.asking (p : Plink) : Plink := { p with nakSent := true, naks := p.naks + 1 }

theorem take_of_bad (hc : fld f.ctl 15 0 ≠ (flitCrc f).toNat) : p.take f false = (p.asking, .crc) :=
  if_pos (by simp [hc])

theorem take_of_good (hc : fld f.ctl 15 0 = (flitCrc f).toNat) (hs : fld f.ctl 63 52 = p.expect.toNat) (hn : bit f.ctl 39 = false) :
    p.take f false = (p.after f 0, if p.nakSent then .again else .good) := by
  simp [Plink.take, Plink.after, hc, hs, hn]

theorem take_of_nak (hc : fld f.ctl 15 0 = (flitCrc f).toNat) (hs : fld f.ctl 63 52 = p.expect.toNat) (hn : bit f.ctl 39 = true) :
    p.take f false = (p.after f (if BitVec.ofNat 12 (fld f.ctl 51 40) = p.acked then p.nakIn + 1 else 1), .nak) := by
  simp [Plink.take, Plink.after, hc, hs, hn]

end

/-! ### A transition of an external link (R361) -/

/-- A transition of link `k` to a state, recorded. -/
def State.xlTo (s : State) (k to' : Nat) : State := (s.setRf (xlStatusR k) 3 0 to').noteUnit

/-- The exchange of identities of link `k` starts afresh. -/
def State.xlFresh (s : State) (k : Nat) : State :=
  s.modXl k (fun q => { q with
    flits := {}, sentAccept := false, gotAccept := false, gotRefuse := false, echoes := 0, echoSum := 0, partner := 0 })

section
variable {s : State} {k st : Nat}

theorem xlGo_of_lt (h : st < 4) : s.xlGo k st = (s.xlTo k st).xlFresh k := if_pos h

theorem xlGo_of_le (h : 4 ≤ st) : s.xlGo k st = s.xlTo k st := if_neg (Nat.not_lt.mpr h)

theorem xlUp_iff : s.xlUp k = true ↔ s.xlState k = 4 ∨ s.xlState k = 5 ∨ s.xlState k = 6 := by
  simp [State.xlUp, or_assoc]

theorem xlDrop_of_up (h : s.xlState k = 4 ∨ s.xlState k = 5 ∨ s.xlState k = 6) (stop : Ended → State → State) :
    s.xlDrop k 1 stop = ((s.xlTo k 1).xlFresh k).partnerLeft k stop := by
  rw [State.xlDrop, if_neg (by omega), xlGo_of_lt (by decide)]
  exact if_pos (xlUp_iff.mpr h)

theorem xlDrop_of_not_up (h1 : s.xlState k ≠ 1) (h : ¬ (s.xlState k = 4 ∨ s.xlState k = 5 ∨ s.xlState k = 6)) (stop : Ended → State → State) :
    s.xlDrop k 1 stop = (s.xlTo k 1).xlFresh k := by
  rw [State.xlDrop, if_neg h1, xlGo_of_lt (by decide)]
  exact if_neg (fun hu => h (xlUp_iff.mp hu))

theorem xlRetrain_eq : s.xlRetrain k = ((s.incRf (xlStatusR k) 23 16).xlTo k 6).raise (31 * 32 + 4 * k + 3) := by
  rw [State.xlRetrain, xlGo_of_le (by decide)]

end

/-! ### A flit on an external link (R163, R361) -/

section
variable {s : State} {k : Nat} {f : Flit}

/-- Link `k` with the receiving end `p`, after a flit that is counted. -/
def State.xlHeld (s : State) (k : Nat) (p : Plink) : State := (s.modXl k (fun x => { x with flits := p })).countLink k 0x02

theorem xlReceive_closed (h : s.xlState k < 2 ∨ 5 < s.xlState k) : s.xlReceive k f = s := if_pos h

/-- What a flit that leaves the receiving end as `p` does to link `k` (R163, R361). -/
def State.xlFlit (s : State) (k : Nat) (p : Plink) (e : FlitEv) : State :=
  let u := if e = .nak then ((s.xlHeld k p).incRf (xlStatusR k) 63 48).countLink k 0x03 else s.xlHeld k p
  if s.xlState k = 4 then
    match e with
    | .crc | .nak | .gap => u.xlGo k 5
    | _ => u
  else if s.xlState k = 5 then
    if 8 ≤ p.naks ∨ 8 ≤ p.nakIn then u.xlRetrain k
    else match e with
      | .good => if p.acked = (s.xl k).flits.acked then u else u.xlGo k 4
      | .again => u.xlGo k 4
      | _ => u
  else u

theorem xlReceive_open (h : ¬ (s.xlState k < 2 ∨ 5 < s.xlState k)) :
    s.xlReceive k f = s.xlFlit k ((s.xl k).flits.take f false).1 ((s.xl k).flits.take f false).2 := if_neg h

section
variable {p : Plink}

theorem xlFlit_of_start (h4 : s.xlState k ≠ 4) (h5 : s.xlState k ≠ 5) {e : FlitEv} (he : e ≠ .nak) : s.xlFlit k p e = s.xlHeld k p := by
  unfold State.xlFlit
  rw [if_neg h4, if_neg h5, if_neg he]

theorem xlFlit_good_of_active (h : s.xlState k = 4) {e : FlitEv} (he : e = .good ∨ e = .again) : s.xlFlit k p e = s.xlHeld k p := by
  unfold State.xlFlit
  rw [if_pos h]
  rcases he with rfl | rfl <;> rfl

theorem xlFlit_crc_of_active (h : s.xlState k = 4) : s.xlFlit k p .crc = (s.xlHeld k p).xlTo k 5 := by
  unfold State.xlFlit
  rw [if_pos h]
  exact xlGo_of_le (by decide)

theorem xlFlit_nak_of_active (h : s.xlState k = 4) :
    s.xlFlit k p .nak = (((s.xlHeld k p).incRf (xlStatusR k) 63 48).countLink k 0x03).xlTo k 5 := by
  unfold State.xlFlit
  rw [if_pos h]
  exact xlGo_of_le (by decide)

theorem xlFlit_of_eighth (h : s.xlState k = 5) (hp : 8 ≤ p.naks) : s.xlFlit k p .crc = (s.xlHeld k p).xlRetrain k := by
  unfold State.xlFlit
  rw [if_neg (by omega), if_pos h]
  exact if_pos (.inl hp)

theorem xlFlit_again_of_replay (h : s.xlState k = 5) (hp : p.naks < 8) (hi : p.nakIn < 8) :
    s.xlFlit k p .again = (s.xlHeld k p).xlTo k 4 := by
  unfold State.xlFlit
  rw [if_neg (by omega), if_pos h]
  exact (if_neg (by omega)).trans (xlGo_of_le (by decide))

theorem xlFlit_good_of_replay (h : s.xlState k = 5) (hp : p.naks < 8) (hi : p.nakIn < 8) :
    s.xlFlit k p .good = if p.acked = (s.xl k).flits.acked then s.xlHeld k p else (s.xlHeld k p).xlTo k 4 := by
  unfold State.xlFlit
  rw [if_neg (by omega), if_pos h, ← xlGo_of_le (by decide)]
  exact if_neg (by omega)

end

end

/-! ### The rows -/

section
variable {s : State} {k : XLink} {f : Flit}

theorem exec_flitReceive_ext {u : State} (h : s.xlReceive k.val f = u) : exec (.flitReceive (.ext k) f) s = .next u.finish :=
  congrArg done h

theorem exec_flitReceive_ext_of_take (ho : ¬ (s.xlState k.val < 2 ∨ 5 < s.xlState k.val)) {p : Plink} {e : FlitEv} {u : State}
    (ht : (s.xl k.val).flits.take f false = (p, e)) (hu : s.xlFlit k.val p e = u) :
    exec (.flitReceive (.ext k) f) s = .next u.finish :=
  exec_flitReceive_ext (by rw [xlReceive_open ho, ht, hu])

/-- The loss of a link's lane lock beyond the quad's event (R361). -/
def State.xlLockLost (s : State) (k : Nat) : State :=
  if s.xlState k = 4 then s.xlRetrain k else if s.xlState k = 7 then s.xlGo k 1 else s

theorem exec_laneLockLost_of_noQuad (hq : s.quadOfXl k.val = none) : exec (.laneLockLost (.ext k)) s = .next (s.xlLockLost k.val).finish := by
  show done (State.xlLockLost (match s.quadOfXl k.val with
    | some q => if s.xlState k.val < 2 then s else s.raise (32 * (14 + q))
    | none => s) k.val) = _
  rw [hq]
  rfl

theorem exec_laneLockLost_of_quad {q : Nat} (hq : s.quadOfXl k.val = some q) (h : ¬ s.xlState k.val < 2) :
    exec (.laneLockLost (.ext k)) s = .next ((s.raise (32 * (14 + q))).xlLockLost k.val).finish := by
  show done (State.xlLockLost (match s.quadOfXl k.val with
    | some q => if s.xlState k.val < 2 then s else s.raise (32 * (14 + q))
    | none => s) k.val) = _
  rw [hq]
  exact congrArg (fun u : State => done (u.xlLockLost k.val)) (if_neg h)

end

/-- The second part of O51. -/
theorem externalLinkStates : ExternalLinkStates := by
  intro s k f
  refine ⟨fun h => ?_, fun h => ?_, fun h => ?_, fun h => ?_, fun h h' => ?_, fun h => ?_, fun h => ?_, fun h h' hp => ?_, fun h => ?_, fun h => ?_,
    fun hq => ⟨fun h => ?_, fun h => ?_, fun h h' => ?_⟩, fun q hq h => ?_, fun h => ?_, fun h hg => ?_, fun h hg hn => ?_,
    fun h hg hn ha => ?_, fun h hb => ?_, fun h hn => ?_, fun h hb hn => ?_⟩
  · exact congrArg done ((if_pos h).trans (xlGo_of_lt (by decide)))
  · exact congrArg done (if_neg h)
  · refine congrArg done ((if_pos h).trans ?_)
    rw [State.xlIdentify, xlGo_of_lt (by decide)]
    rfl
  · exact congrArg done ((if_neg (by omega)).trans ((if_pos h).trans (xlGo_of_le (by decide))))
  · exact congrArg done ((if_neg h).trans (if_neg h'))
  · refine congrArg done ((if_pos (h.imp_right .inl)).trans (xlDrop_of_not_up ?_ ?_ _))
    · omega
    · omega
  · exact congrArg done ((if_pos (.inr (.inr h))).trans (xlDrop_of_up (.inr (.inr h)) _))
  · refine congrArg done (if_neg ?_)
    rintro (hc | ⟨h3, hc⟩ | hc)
    · exact h hc
    · exact hp h3 hc
    · exact h' hc
  · exact congrArg done ((if_pos (xlUp_iff.mpr h)).trans (xlDrop_of_up h _))
  · exact congrArg done (if_neg (fun hu => by have := xlUp_iff.mp hu; omega))
  · refine (exec_laneLockLost_of_noQuad hq).trans (congrArg done ((if_pos h).trans xlRetrain_eq))
  · refine (exec_laneLockLost_of_noQuad hq).trans (congrArg done ?_)
    exact (if_neg (by omega)).trans ((if_pos h).trans (xlGo_of_lt (by decide)))
  · exact (exec_laneLockLost_of_noQuad hq).trans (congrArg done ((if_neg h).trans (if_neg h')))
  · exact (exec_laneLockLost_of_quad hq (by omega)).trans (congrArg done ((if_pos h).trans xlRetrain_eq))
  · exact exec_flitReceive_ext (xlReceive_closed h)
  · obtain ⟨hc, hs, hn⟩ := hg
    refine exec_flitReceive_ext_of_take (by omega) (take_of_good hc hs hn) ?_
    rcases h with h | h | h
    · exact xlFlit_of_start (by omega) (by omega) (by split <;> simp)
    · exact xlFlit_of_start (by omega) (by omega) (by split <;> simp)
    · exact xlFlit_good_of_active h (by split <;> simp)
  · obtain ⟨hc, hs, hk⟩ := hg
    refine exec_flitReceive_ext_of_take (by omega) (take_of_good hc hs hk) ?_
    split
    · exact xlFlit_again_of_replay h (Nat.succ_pos 7) (Nat.succ_pos 7)
    · next hns => exact (xlFlit_good_of_replay h (Nat.succ_pos 7) (Nat.succ_pos 7)).trans (if_neg (hn.resolve_left hns))
  · obtain ⟨hc, hs, hk⟩ := hg
    refine exec_flitReceive_ext_of_take (by omega) (take_of_good hc hs hk) ?_
    rw [hn]
    exact (xlFlit_good_of_replay h (Nat.succ_pos 7) (Nat.succ_pos 7)).trans (if_pos ha)
  · exact exec_flitReceive_ext_of_take (by omega) (take_of_bad hb) (xlFlit_crc_of_active h)
  · obtain ⟨hc, hs, hk⟩ := hn
    exact exec_flitReceive_ext_of_take (by omega) (take_of_nak hc hs hk) (xlFlit_nak_of_active h)
  · refine exec_flitReceive_ext_of_take (by omega) (take_of_bad hb) ((xlFlit_of_eighth h ?_).trans xlRetrain_eq)
    show 8 ≤ (s.xl k.val).flits.naks + 1
    omega

end Sys2Proof.Machine
end

section
/-! SUPPORT. Flits, trainings and spare lanes of a package link: the first part of obligation O51 (R161, R163, R164). -/

namespace Sys2Proof.Machine

/-! ### A transmitter's end (R163) -/

section
variable {p : Plink} {f : Flit}

/-- What a flit leaves of the end that sends it. -/
def Plink.sent (p : Plink) (f : Flit) : Plink :=
  let seq := BitVec.ofNat 12 (fld f.ctl 63 52)
  if seq = p.next then { p with unacked := p.unacked ++ [f], next := p.next + 1 }
  else { p with resend := if p.resend = some seq then none else p.resend }

theorem sends_of_full (h : BitVec.ofNat 12 (fld f.ctl 63 52) = p.next ∧ 256 ≤ p.unacked.length) : p.sends f = none := by
  obtain ⟨hs, hl⟩ := h
  exact (if_neg (not_not.mpr hs)).trans (if_pos hl)

theorem sends_of_not_full (h : ¬ (BitVec.ofNat 12 (fld f.ctl 63 52) = p.next ∧ 256 ≤ p.unacked.length)) : p.sends f = some (p.sent f) := by
  unfold Plink.sends Plink.sent
  dsimp only
  by_cases hs : BitVec.ofNat 12 (fld f.ctl 63 52) = p.next
  · rw [if_neg (not_not.mpr hs), if_neg (fun hl => h ⟨hs, hl⟩), if_pos hs]
  · rw [if_pos hs, if_neg hs]
    split <;> rfl

theorem mem_told_unacked (g : Flit) : g ∈ (p.told f).unacked ↔
    g ∈ p.unacked ∧ 2048 ≤ (BitVec.ofNat 12 (fld f.ctl 51 40) - BitVec.ofNat 12 (fld g.ctl 63 52)).toNat := by
  simp [Plink.told, covers]

end

/-! ### A flit on a package link (R163, R164) -/

/-- Both ends of a package link after a flit to its I/O die has been counted. -/
def State.plinkMet (s : State) (d : Nat) (q p : Plink) : State := ((s.setPlinkEnd d false q).setPlinkEnd d true p).countDie d 0x04

theorem plinkState_plinkMet (s : State) (d : DieId) (q p : Plink) : (s.plinkMet d.val q p).plinkState d.val = s.plinkState d.val :=
  plinkState_countDie ((s.setPlinkEnd d.val false q).setPlinkEnd d.val true p) d 0x04

theorem plinkState_incRf (s : State) (d : Nat) {hi lo : Nat} (h : 2 < lo) : (s.incRf (plinkR d) hi lo).plinkState d = s.plinkState d :=
  rf_setRf_other_field _ _ _ _ _ (by decide) (.inl h)

section
variable {s : State} {d : DieId} {p : Plink}

theorem plinkFlit_crc : s.plinkFlit d.val p .crc =
    if s.plinkState d.val = 2 then (s.incRf (plinkR d.val) 47 32).plinkReplay d.val
    else if s.plinkState d.val = 3 then
      if 8 ≤ p.naks ∨ 8 ≤ p.nakIn then (s.incRf (plinkR d.val) 47 32).plinkRetrain d.val else s.incRf (plinkR d.val) 47 32
    else s.incRf (plinkR d.val) 47 32 := by
  unfold State.plinkFlit
  dsimp only
  rw [plinkState_incRf s d.val (by decide)]

theorem plinkFlit_nak_of_active (h : s.plinkState d.val = 2) : s.plinkFlit d.val p .nak =
    ((s.incRf (plinkR d.val) 63 48).countDie d.val 0x06).plinkReplay d.val := by
  have hs : ((s.incRf (plinkR d.val) 63 48).countDie d.val 0x06).plinkState d.val = 2 :=
    (plinkState_countDie _ d _).trans ((plinkState_incRf s d.val (by decide)).trans h)
  exact if_pos hs

theorem plinkFlit_of_quiet (h : s.plinkState d.val ≠ 3) {e : FlitEv} (he : e = .good ∨ e = .again) : s.plinkFlit d.val p e = s := by
  unfold State.plinkFlit
  rcases he with rfl | rfl
  · simp only [if_neg h, ite_self]
  · simp only [if_neg h, ite_self]

theorem plinkFlit_good_of_replay (h : s.plinkState d.val = 3) (hp : p.naks < 8) (hi : p.nakIn < 8) : s.plinkFlit d.val p .good = s := by
  unfold State.plinkFlit
  dsimp only
  rw [if_neg (by omega), if_pos h, if_neg (by omega)]

theorem plinkFlit_again_of_replay (h : s.plinkState d.val = 3) (hp : p.naks < 8) (hi : p.nakIn < 8) :
    s.plinkFlit d.val p .again = s.setRf (plinkR d.val) 2 0 2 := by
  unfold State.plinkFlit
  dsimp only
  rw [if_neg (by omega), if_pos h, if_neg (by omega)]

end

/-- Both ends of a package link, with what the I/O die's end makes of a flit, `q` being the end that sent it. -/
def State.plinkTaken (s : State) (d : Nat) (q : Plink) (r : Plink × FlitEv) : State :=
  (s.plinkMet d (if r.2 = .nak then { q with nakSent := true } else q) r.1).plinkFlit d r.1 r.2

section
variable {s : State} {d : DieId} {f : Flit}

theorem plinkReceive_closed (h : ¬ (s.plinkState d.val = 1 ∨ s.plinkState d.val = 2 ∨ s.plinkState d.val = 3)) (io flipped : Bool) :
    s.plinkReceive d.val io f flipped = s := if_neg h

theorem plinkReceive_of_full (hf : BitVec.ofNat 12 (fld f.ctl 63 52) = (s.plinkEnd d.val false).next ∧
    256 ≤ (s.plinkEnd d.val false).unacked.length) : s.plinkReceive d.val true f false = s := by
  unfold State.plinkReceive
  simp only [Bool.not_true, sends_of_full hf, ite_self]

/-- What an end of a package link takes, and what it makes of it, go to both ends and to the link's state. -/
theorem plinkReceive_open (hs : s.plinkState d.val = 1 ∨ s.plinkState d.val = 2 ∨ s.plinkState d.val = 3)
    (hf : ¬ (BitVec.ofNat 12 (fld f.ctl 63 52) = (s.plinkEnd d.val false).next ∧ 256 ≤ (s.plinkEnd d.val false).unacked.length)) :
    s.plinkReceive d.val true f false = s.plinkTaken d.val ((s.plinkEnd d.val false).sent f) ((s.plinkEnd d.val true).take f false) := by
  unfold State.plinkReceive
  simp only [Bool.not_true, sends_of_not_full hf, if_pos hs]
  rfl

end

theorem plinkTaken_of_quiet {s : State} {d : DieId} {q p : Plink} {b : Bool} (h : s.plinkState d.val ≠ 3) :
    s.plinkTaken d.val q (p, if b then .again else .good) = s.plinkMet d.val q p := by
  have hm : (s.plinkMet d.val q p).plinkState d.val ≠ 3 := by rwa [plinkState_plinkMet]
  cases b
  · exact plinkFlit_of_quiet hm (.inl rfl)
  · exact plinkFlit_of_quiet hm (.inr rfl)

/-- A flit's sequence number as the field and as the counter. -/
theorem toNat_of_seq {f : Flit} {n : BitVec 12} (h : BitVec.ofNat 12 (fld f.ctl 63 52) = n) : fld f.ctl 63 52 = n.toNat := by
  rw [← h, BitVec.toNat_ofNat, Nat.mod_eq_of_lt (fld_lt f.ctl 63 52)]

/-! ### Spare lanes (R164) -/

theorem laneNamed_of_lt {l : BitVec 5} (h : l.toNat < 16) : laneNamed l = l := if_pos h

theorem spareLane_none (old : Nat) : spareLane old 0x1F = some old := if_pos (.inl rfl)

theorem ne_none_lane {l : BitVec 5} (h : l.toNat < 16) : l ≠ 0x1F := by
  rintro rfl
  exact absurd h (by decide)

theorem spareLane_first {l : BitVec 5} (h : l.toNat < 16) : spareLane 31 l = some l.toNat :=
  (if_neg (not_or.mpr ⟨ne_none_lane h, by omega⟩)).trans (if_pos rfl)

theorem spareLane_second {l : BitVec 5} {old : Nat} (h : l.toNat < 16) (ho : old < 31) (hne : old ≠ l.toNat) : spareLane old l = none :=
  (if_neg (not_or.mpr ⟨ne_none_lane h, hne.symm⟩)).trans (if_neg (by omega))

theorem setFld_fld {n : Nat} (x : BitVec n) (hi lo : Nat) : setFld x hi lo (fld x hi lo) = x := by
  refine BitVec.eq_of_getLsbD_eq fun i hi' => ?_
  rw [getLsbD_setFld _ _ _ _ _ hi', testBit_fld]
  split
  · next h => rw [decide_eq_true (by omega), Bool.true_and, Nat.add_sub_of_le h.1]
  · rfl

section
variable {s : State} {d : DieId} {tx rx : BitVec 5} (ok : State → State)

/-- The lanes of both directions as a training leaves them. -/
def State.withLanes (s : State) (d t r : Nat) : State := (s.setRf (plinkR d) 21 17 t).setRf (plinkR d) 16 12 r

theorem spareLanes_of_some {t r : Nat} (ht : spareLane (s.rf (plinkR d.val) 21 17) tx = some t)
    (hr : spareLane (s.rf (plinkR d.val) 16 12) rx = some r) : s.spareLanes d.val tx rx ok =
      ok (if (s.withLanes d.val t r).reg (plinkR d.val) = s.reg (plinkR d.val) then s else (s.withLanes d.val t r).notePlink d.val) := by
  unfold State.spareLanes
  rw [ht, hr]
  rfl

theorem spareLanes_none : s.spareLanes d.val 0x1F 0x1F ok = ok s := by
  rw [spareLanes_of_some ok (spareLane_none _) (spareLane_none _), if_pos]
  show (State.setRf _ _ _ _ _).reg _ = _
  rw [State.reg_setRf, State.reg_setRf, State.rf, State.rf, setFld_fld, setFld_fld]

theorem spareLanes_tx (htx : tx.toNat < 16) (h : s.rf (plinkR d.val) 21 17 = 31) :
    s.spareLanes d.val tx 0x1F ok = ok ((s.withLanes d.val tx.toNat (s.rf (plinkR d.val) 16 12)).notePlink d.val) := by
  rw [spareLanes_of_some ok (by rw [h]; exact spareLane_first htx) (spareLane_none _), if_neg]
  intro he
  have hn : (s.withLanes d.val tx.toNat (s.rf (plinkR d.val) 16 12)).rf (plinkR d.val) 21 17 = tx.toNat :=
    (rf_setRf_other_field _ _ _ _ _ (by decide) (.inr (by decide))).trans (rf_setRf_same _ _ (by decide) tx.isLt)
  have : tx.toNat = 31 := hn.symm.trans ((congrArg (fld · 21 17) he).trans h)
  omega

theorem spareLanes_rx (hrx : rx.toNat < 16) (h : s.rf (plinkR d.val) 16 12 = 31) :
    s.spareLanes d.val 0x1F rx ok = ok ((s.withLanes d.val (s.rf (plinkR d.val) 21 17) rx.toNat).notePlink d.val) := by
  rw [spareLanes_of_some ok (spareLane_none _) (by rw [h]; exact spareLane_first hrx), if_neg]
  intro he
  have hn : (s.withLanes d.val (s.rf (plinkR d.val) 21 17) rx.toNat).rf (plinkR d.val) 16 12 = rx.toNat := rf_setRf_same _ _ (by decide) rx.isLt
  have : rx.toNat = 31 := hn.symm.trans ((congrArg (fld · 16 12) he).trans h)
  omega

theorem spareLanes_fail (h : spareLane (s.rf (plinkR d.val) 21 17) tx = none ∨ spareLane (s.rf (plinkR d.val) 16 12) rx = none) :
    s.spareLanes d.val tx rx ok = s.plinkFail d.val := by
  unfold State.spareLanes
  split
  · next ht hr => exact h.elim (fun h => absurd (h.symm.trans ht) (by simp)) (fun h => absurd (h.symm.trans hr) (by simp))
  · rfl

end

/-! ### The rows -/

section
variable {s : State} {d : DieId} {f : Flit}

theorem exec_flitReceive_pkgIo {u : State} (h : s.plinkReceive d.val true f false = u) :
    exec (.flitReceive (.pkgIo d) f) s = .next u.finish := congrArg done h

theorem exec_flitReceive_pkgIo_of_take (hs : s.plinkState d.val = 1 ∨ s.plinkState d.val = 2 ∨ s.plinkState d.val = 3)
    (hf : ¬ (BitVec.ofNat 12 (fld f.ctl 63 52) = (s.plinkEnd d.val false).next ∧ 256 ≤ (s.plinkEnd d.val false).unacked.length))
    {r : Plink × FlitEv} {u : State} (ht : (s.plinkEnd d.val true).take f false = r)
    (hu : s.plinkTaken d.val ((s.plinkEnd d.val false).sent f) r = u) : exec (.flitReceive (.pkgIo d) f) s = .next u.finish :=
  exec_flitReceive_pkgIo (by rw [plinkReceive_open hs hf, ht, hu])

/-- An injector that is off lets every flit to a compute die pass (R370). -/
theorem plinkToDie_of_off (h : s.rf (fiCtlR d.val) 0 0 = 0) : s.plinkToDie d.val f = s.plinkReceive d.val false f false := by
  have hb : bit (s.reg (fiCtlR d.val)) 0 = false := by
    have := (fld_bit (s.reg (fiCtlR d.val)) 0).symm.trans h
    exact Bool.toNat_eq_zero.mp this
  have hi : ∀ cls head, s.inject d.val cls head = (s, none) := fun cls head => if_pos (by simp [hb])
  unfold State.plinkToDie
  split
  · rfl
  · rw [hi]

theorem execPlinkTrainComplete_of_train {tx rx : BitVec 5} {u : State} (h : s.plinkState d.val = 1)
    (hu : s.spareLanes d.val (laneNamed tx) (laneNamed rx) (fun s => (s.setRf (plinkR d.val) 2 0 2).dieOnline d.val) = u) :
    exec (.plinkTrainComplete d tx rx) s = .next u.finish := congrArg done ((if_neg (not_not.mpr h)).trans hu)

theorem execPlinkRetrainComplete_of_retrain {tx rx : Option (BitVec 5)} {u : State} (h : s.plinkState d.val = 4)
    (hu : s.spareLanes d.val (laneNamed (tx.getD 0x1F)) (laneNamed (rx.getD 0x1F)) (fun s => (s.plinkResume d.val).setRf (plinkR d.val) 2 0 2) = u) :
    exec (.plinkRetrainComplete d tx rx) s = .next u.finish := congrArg done ((if_neg (not_not.mpr h)).trans hu)

end

/-- The first part of O51. -/
theorem packageLinkEvents : PackageLinkEvents := by
  intro s d f tx rx
  refine ⟨fun h => ?_, fun h => ?_, fun h hf hg => ?_, fun h hf hg hn => ?_, fun h hf hg hn => ?_, fun h hf hn => ?_, fun h hf hb => ?_,
    fun h hf hb hn => ?_, fun h hf hb hn hi => ?_, mem_told_unacked, rfl, fun h => ?_, fun h => ?_, fun h ht hl => ?_, fun h hr hl hne => ?_,
    fun _ h => ?_, fun h => ?_, fun h h' => ?_, fun h => ⟨?_, ?_⟩, fun h => ?_, fun h => ?_, fun h hr hl => ?_, fun h ht hl hne => ?_, fun h => ?_⟩
  · exact exec_flitReceive_pkgIo (plinkReceive_closed (by omega) true false)
  · exact exec_flitReceive_pkgIo (plinkReceive_of_full h)
  · obtain ⟨hc, hs, hk⟩ := hg
    refine exec_flitReceive_pkgIo_of_take (by omega) hf (take_of_good hc (toNat_of_seq hs) hk) ?_
    exact plinkTaken_of_quiet (by omega)
  · obtain ⟨hc, hs, hk⟩ := hg
    refine exec_flitReceive_pkgIo_of_take (by omega) hf (take_of_good hc (toNat_of_seq hs) hk) ?_
    rw [if_pos hn]
    exact plinkFlit_again_of_replay ((plinkState_plinkMet ..).trans h) (Nat.succ_pos 7) (Nat.succ_pos 7)
  · obtain ⟨hc, hs, hk⟩ := hg
    refine exec_flitReceive_pkgIo_of_take (by omega) hf (take_of_good hc (toNat_of_seq hs) hk) ?_
    rw [if_neg (by rw [hn]; decide)]
    exact plinkFlit_good_of_replay ((plinkState_plinkMet ..).trans h) (Nat.succ_pos 7) (Nat.succ_pos 7)
  · obtain ⟨hc, hs, hk⟩ := hn
    refine exec_flitReceive_pkgIo_of_take (by omega) hf (take_of_nak hc (toNat_of_seq hs) hk) ?_
    exact plinkFlit_nak_of_active ((plinkState_plinkMet ..).trans h)
  · refine exec_flitReceive_pkgIo_of_take (by omega) hf (take_of_bad hb) (plinkFlit_crc.trans ?_)
    exact if_pos ((plinkState_plinkMet ..).trans h)
  · refine exec_flitReceive_pkgIo_of_take (by omega) hf (take_of_bad hb) (plinkFlit_crc.trans ?_)
    rw [plinkState_plinkMet, if_neg (by omega), if_pos h, if_pos (.inl (by show 8 ≤ (s.plinkEnd d.val true).naks + 1; omega))]
    rfl
  · refine exec_flitReceive_pkgIo_of_take (by omega) hf (take_of_bad hb) (plinkFlit_crc.trans ?_)
    rw [plinkState_plinkMet, if_neg (by omega), if_pos h, if_neg]
    · rfl
    · show ¬ (8 ≤ (s.plinkEnd d.val true).naks + 1 ∨ 8 ≤ (s.plinkEnd d.val true).nakIn)
      omega
  · exact congrArg done (plinkToDie_of_off h)
  · exact execPlinkTrainComplete_of_train h (spareLanes_none _)
  · refine execPlinkTrainComplete_of_train h ?_
    rw [laneNamed_of_lt ht]
    exact spareLanes_tx _ ht hl
  · refine execPlinkTrainComplete_of_train h ?_
    rw [laneNamed_of_lt hr]
    exact spareLanes_fail _ (.inr (spareLane_second hr hl hne))
  · exact congrArg done (if_pos h)
  · exact congrArg done (if_pos h)
  · exact congrArg done (if_neg (not_or.mpr ⟨h, h'⟩))
  · exact congrArg done (if_pos h)
  · exact congrArg done (if_pos h)
  · exact congrArg done (if_neg h)
  · exact execPlinkRetrainComplete_of_retrain h (spareLanes_none _)
  · refine execPlinkRetrainComplete_of_retrain h ?_
    rw [Option.getD_some, laneNamed_of_lt hr]
    exact spareLanes_rx _ hr hl
  · refine execPlinkRetrainComplete_of_retrain h ?_
    rw [Option.getD_some, laneNamed_of_lt ht]
    exact spareLanes_fail _ (.inl (spareLane_second ht hl hne))
  · exact congrArg done (if_pos h)

end Sys2Proof.Machine
end

section
/-! SUPPORT. What a message on an external link leaves, and the identification of a partner: the third part of obligation O51
(R361-R363, R370). -/

namespace Sys2Proof.Machine

/-! ### A message that leaves (R360, R370) -/

@[simp] theorem xl_modXl (s : State) (k : Nat) (f : Xl → Xl) : (s.modXl k f).xl k = f (s.xl k) := SMap.get_put_same ..

theorem modXl_congr {s : State} {k : Nat} {f g : Xl → Xl} (h : f (s.xl k) = g (s.xl k)) : s.modXl k f = s.modXl k g := by
  unfold State.modXl
  rw [h]

/-- What an injector leaves: all that neither its two registers nor its count touch. -/
theorem inject_keeps {α : Type} (p : State → α) {i : Nat} (hctl : ∀ u hi lo v, p (State.setRf u (fiCtlR i) hi lo v) = p u)
    (hcnt : ∀ u, p (State.incRf u (fiCntR i) 31 0) = p u)
    (hcount : ∀ (u : State) (m : SMap Nat), p { u with links := { u.links with fiCount := m } } = p u) (s : State) (cls : Nat) (head : Word) :
    p (s.inject i cls head).1 = p s := by
  have hite : ∀ {c : Prop} [Decidable c] {a b : State}, p a = p s → p b = p s → p (if c then a else b) = p s := by
    intro c _ a b ha hb
    split
    · exact ha
    · exact hb
  unfold State.inject
  extract_lets c n x m fires u l w v
  have hw : p w = p s := (hcount u _).trans (hite (hctl ..) rfl)
  have hv : p v = p s := (hcnt w).trans hw
  by_cases hon : (!(bit c 0 && bit c (1 + cls))) = true
  · rw [if_pos hon]
  · rw [if_neg hon]
    by_cases hf : fires = true
    · rw [if_pos hf]
      exact hite hv ((hctl v _ _ _).trans hv)
    · rw [if_neg hf]
      exact hw

theorem xl_inject (s : State) (i cls : Nat) (head : Word) (k : Nat) : (s.inject i cls head).1.xl k = s.xl k :=
  inject_keeps (State.xl · k) (fun _ _ _ _ => rfl) (fun _ => rfl) (fun _ _ => rfl) s cls head

theorem reg_inject {s : State} {i : Nat} {r : RegRef} (hctl : r.off ≠ (fiCtlR i).off) (hcnt : r.off ≠ (fiCntR i).off) (cls : Nat) (head : Word) :
    (s.inject i cls head).1.reg r = s.reg r :=
  inject_keeps (State.reg · r) (fun u hi lo v => State.reg_setRf_other u hi lo v hctl) (fun u => State.reg_incRf_other u 31 0 hcnt)
    (fun _ _ => rfl) s cls head

section
variable (s : State) (k : Nat) (kind : XKind) (data : List Dword)

/-- A message that leaves changes of its link what has been sent and what an injector holds. -/
theorem xl_sendXl : ∃ a b, (s.sendXl k kind data).xl k = { s.xl k with sent := a, held := b } := by
  unfold State.sendXl
  dsimp only
  split
  · exact ⟨_, _, by rw [xl_modXl, xl_inject]⟩
  · split
    · exact ⟨_, _, by rw [xl_modXl, xl_inject]⟩
    · exact ⟨_, _, by rw [xl_modXl, xl_inject]⟩

theorem reg_sendXl {r : RegRef} (hctl : r.off ≠ (fiCtlR (12 + k)).off) (hcnt : r.off ≠ (fiCntR (12 + k)).off) :
    (s.sendXl k kind data).reg r = s.reg r := by
  have hin := reg_inject (s := s) hctl hcnt kind.cls (Config.xlHead kind.num data)
  unfold State.sendXl
  dsimp only
  split
  · exact hin
  · exact reg_ite hin hin

end

/-! ### Identification (R362, R363) -/

section
variable {s : State} {n : Nat} {b : LineData}

/-- A block with the magic word and version, and its CRC. -/
def blockSound (b : LineData) : Prop :=
  blkNum b 0 4 = 0x7A300001 ∧ blkNum b 4 2 = 1 ∧ blkNum b 60 4 = (crc32 ((List.range 60).map (lineByte b))).toNat

theorem refuseCode_of_unsound (h : ¬ blockSound b) : s.refuseCode n b = some 1 :=
  if_pos (by unfold blockSound at h; tauto)

theorem refuseCode_of_sound (h : blockSound b) : s.refuseCode n b =
    if blkNum b 8 8 ≠ (s.reg ⟨.xlSys, 0, 0, 0⟩).toNat then some 2
    else if blkNum b 6 1 % 4 = s.modId then some 3
    else if (s.linkTo (blkNum b 6 1 % 4)).isSome then some 4
    else if (s.xl n).gotRefuse then some 5
    else if blkNum b 32 2 ≠ 0x00D8 then some 6
    else none :=
  if_neg (by obtain ⟨h0, h4, h60⟩ := h; tauto)

theorem refuseCode_eq_none_iff : s.refuseCode n b = none ↔ blockSound b ∧ blkNum b 8 8 = (s.reg ⟨.xlSys, 0, 0, 0⟩).toNat ∧
    blkNum b 6 1 % 4 ≠ s.modId ∧ s.linkTo (blkNum b 6 1 % 4) = none ∧ (s.xl n).gotRefuse = false ∧ blkNum b 32 2 = 0x00D8 := by
  by_cases h : blockSound b
  · rw [refuseCode_of_sound h]
    simp [h, Option.isSome_iff_ne_none]
    grind
  · simp [refuseCode_of_unsound h, h]

end

section
variable {s : State} {k : XLink} {b : LineData}

/-- The state after this module has accepted a block, before ACCEPT has been received. -/
def State.xlAccepting (s : State) (n : Nat) (b : LineData) (mis : Nat) : State :=
  (((s.setRf (xlStatusR n) 31 30 (blkNum b 6 1)).setRf (xlStatusR n) 29 29 mis).modXl n (fun x =>
    { x with partner := b, sentAccept := true })).sendXl n .accept []

theorem xl_xlAccepting (n mis : Nat) : ((s.xlAccepting n b mis).xl n).sentAccept = true ∧
    ((s.xlAccepting n b mis).xl n).gotAccept = (s.xl n).gotAccept := by
  obtain ⟨x, y, h⟩ := xl_sendXl (((s.setRf (xlStatusR n) 31 30 (blkNum b 6 1)).setRf (xlStatusR n) 29 29 mis).modXl n (fun x =>
    { x with partner := b, sentAccept := true })) n .accept []
  unfold State.xlAccepting
  rw [h, xl_modXl]
  exact ⟨rfl, rfl⟩

theorem tickSrc_xlAccepting (mis : Nat) : (s.xlAccepting k.val b mis).tickSrc = s.tickSrc := by
  have := k.isLt
  have hst : ftuCfgR.off ≠ (xlStatusR k.val).off := by
    simp only [RegRef.off, ftuCfgR, xlStatusR, Reg.place, zoneBase]
    omega
  have hctl : ftuCfgR.off ≠ (fiCtlR (12 + k.val)).off := by
    simp only [RegRef.off, ftuCfgR, fiCtlR, Reg.place, zoneBase]
    omega
  have hcnt : ftuCfgR.off ≠ (fiCntR (12 + k.val)).off := by
    simp only [RegRef.off, ftuCfgR, fiCntR, Reg.place, zoneBase]
    omega
  refine congrArg (fld · 35 34) ((reg_sendXl _ _ _ _ hctl hcnt).trans ?_)
  exact (State.reg_setRf_other _ _ _ _ hst).trans (State.reg_setRf_other _ _ _ _ hst)

theorem xlAccepted_of_both (n : Nat) (h : (s.xl n).sentAccept = true ∧ (s.xl n).gotAccept = true) :
    s.xlAccepted n = (s.xlTo n 4).raise (31 * 32 + 4 * n) := by
  unfold State.xlAccepted
  rw [if_pos (by rw [h.1, h.2]; rfl), xlGo_of_le (by decide)]

theorem xlAccepted_of_one (n : Nat) (h : (s.xl n).sentAccept = false ∨ (s.xl n).gotAccept = false) : s.xlAccepted n = s :=
  if_neg (by rcases h with h | h <;> simp [h])

theorem xlRefused_eq (n code : Nat) : s.xlRefused n code =
    ((s.setRf (xlStatusR n) 35 32 code).raise (31 * 32 + 4 * n + 2)).xlTo n 7 := xlGo_of_le (by decide)

/-- A block outside Identify, but for the answer to a partner that has refused. -/
theorem exec_identityBlock_outside (h : s.xlState k.val ≠ 3) (h7 : s.xlState k.val = 7 → (s.xl k.val).gotRefuse = false) :
    exec (.partnerIdentityBlock k b) s = .next s.finish :=
  congrArg done ((if_neg (by rintro ⟨h, hg⟩; rw [h7 h] at hg; cases hg)).trans (if_pos h))

/-- The link `n` has accepted a block whose PERIOD and MF differ where `mis` says so. -/
def State.xlAccept (s : State) (n : Nat) (b : LineData) (mis : Bool) : State :=
  let u := s.xlAccepting n b mis.toNat
  (if mis ∧ u.tickSrc = 3 ∧ u.rf ftuCfgR 39 36 = n then u.sourceLost else u).xlAccepted n

theorem xlAccept_same (n : Nat) : s.xlAccept n b false = (s.xlAccepting n b 0).xlAccepted n :=
  congrArg (State.xlAccepted · n) (if_neg (fun h => absurd h.1 (by decide)))

theorem xlAccept_mismatch (ht : s.tickSrc ≠ 3) : s.xlAccept k.val b true = (s.xlAccepting k.val b 1).xlAccepted k.val :=
  congrArg (State.xlAccepted · k.val) (if_neg (fun h => ht ((tickSrc_xlAccepting (k := k) 1).symm.trans h.2.1)))

theorem execIdentityBlock_inside (h : s.xlState k.val = 3) : execPartnerIdentityBlock k b s = done (
      match s.refuseCode k.val b with
      | some code => ((s.sendXl k.val .refuse [BitVec.ofNat 64 code]).xlRefused k.val code)
      | none => s.xlAccept k.val b (decide (blkNum b 36 4 % 2 ^ 26 ≠ s.rf ftuCfgR 27 8 + s.rf ftuCfgR 33 28 * 2 ^ 20))) :=
  congrArg done ((if_neg (by rw [h]; rintro ⟨h, -⟩; cases h)).trans (if_neg (by simp [h])))

theorem exec_identityBlock_refused (h : s.xlState k.val = 3) {c : Nat} (hc : s.refuseCode k.val b = some c) :
    exec (.partnerIdentityBlock k b) s = .next (((s.sendXl k.val .refuse [BitVec.ofNat 64 c]).xlRefused k.val c)).finish := by
  refine (execIdentityBlock_inside h).trans ?_
  rw [hc]
  rfl

theorem exec_identityBlock_same (h : s.xlState k.val = 3) (hc : s.refuseCode k.val b = none)
    (he : blkNum b 36 4 % 2 ^ 26 = s.rf ftuCfgR 27 8 + s.rf ftuCfgR 33 28 * 2 ^ 20) :
    exec (.partnerIdentityBlock k b) s = .next ((s.xlAccepting k.val b 0).xlAccepted k.val).finish := by
  refine (execIdentityBlock_inside h).trans ?_
  rw [hc, decide_eq_false (not_not.mpr he)]
  exact congrArg done (xlAccept_same k.val)

theorem exec_identityBlock_mismatch (h : s.xlState k.val = 3) (hc : s.refuseCode k.val b = none)
    (he : blkNum b 36 4 % 2 ^ 26 ≠ s.rf ftuCfgR 27 8 + s.rf ftuCfgR 33 28 * 2 ^ 20) (ht : s.tickSrc ≠ 3) :
    exec (.partnerIdentityBlock k b) s = .next ((s.xlAccepting k.val b 1).xlAccepted k.val).finish := by
  refine (execIdentityBlock_inside h).trans ?_
  rw [hc, decide_eq_true he]
  exact congrArg done (xlAccept_mismatch ht)

end

/-! ### Round trips (R361) -/

section
variable {s : State} {k : XLink} {rtt turn : Nat}

/-- The state after one more round trip. -/
def State.xlEchoed (s : State) (n d : Nat) : State := s.modXl n (fun x => { x with echoes := x.echoes + 1, echoSum := x.echoSum + d })

theorem execEcho_inside (h : s.xlState k.val = 3) (he : (s.xl k.val).echoes < 16) : execEcho k rtt turn s = done (
      if (s.xl k.val).echoes + 1 < 16 then (s.xlEchoed k.val (rtt - turn)).sendXl k.val .echo []
      else if ((s.xl k.val).echoSum + (rtt - turn)) / 32 < 4096 then
        (s.xlEchoed k.val (rtt - turn)).setRf (xlStatusR k.val) 47 36 (((s.xl k.val).echoSum + (rtt - turn)) / 32)
      else ({ s.xlEchoed k.val (rtt - turn) with free := (s.xlEchoed k.val (rtt - turn)).free + 1 } : State).setRf (xlStatusR k.val) 47 36
        (Config.freeValue (s.xlEchoed k.val (rtt - turn)).free).toNat) := by
  unfold execEcho
  dsimp only
  rw [if_neg (by omega), xl_modXl]
  rfl

end

/-- The third part of O51. -/
theorem identificationEvents : IdentificationEvents := by
  intro s k b code rtt turn
  refine ⟨refuseCode_of_unsound, fun hm hs => ?_, fun hm hs hi => ?_, refuseCode_eq_none_iff, fun h c hc => ?_, fun h hc he => ⟨fun hg => ?_, fun hg => ?_⟩,
    fun h hc he ht hg => ?_, exec_identityBlock_outside, fun h => ⟨fun ha => ?_, fun ha => ?_⟩, fun h => ?_, fun h h1 h6 => ?_,
    fun h => ?_, fun h he => ?_, fun h he ht => ?_, fun h => ?_⟩
  · exact (refuseCode_of_sound hm).trans (if_pos hs)
  · exact (refuseCode_of_sound hm).trans ((if_neg (not_not.mpr hs)).trans (if_pos hi))
  · rw [exec_identityBlock_refused h hc, xlRefused_eq]
    rfl
  · rw [exec_identityBlock_same h hc he, xlAccepted_of_one k.val (.inr ((xl_xlAccepting k.val 0).2.trans hg))]
    rfl
  · rw [exec_identityBlock_same h hc he, xlAccepted_of_both k.val ⟨(xl_xlAccepting k.val 0).1, (xl_xlAccepting k.val 0).2.trans hg⟩]
    rfl
  · rw [exec_identityBlock_mismatch h hc he ht, xlAccepted_of_one k.val (.inr ((xl_xlAccepting k.val 1).2.trans hg))]
    rfl
  · refine congrArg done ((if_neg (not_not.mpr h)).trans (xlAccepted_of_one k.val (.inl ?_)))
    rw [xl_modXl]
    exact ha
  · refine congrArg done ((if_neg (not_not.mpr h)).trans (xlAccepted_of_both k.val ?_))
    rw [xl_modXl]
    exact ⟨ha, rfl⟩
  · exact congrArg done (if_pos h)
  · have hne : code ≠ 0 := by
      rintro rfl
      exact absurd h1 (by decide)
    refine congrArg done ((if_neg (by rintro (hn | hn | hn); exacts [hn h, hne hn, absurd h6 (by omega)])).trans ?_)
    rw [xlRefused_eq]
    rfl
  · exact congrArg done (if_pos (.inl h))
  · exact (execEcho_inside h (by omega)).trans (congrArg done (if_pos (by omega)))
  · exact (execEcho_inside h (by omega)).trans (congrArg done ((if_neg (by omega)).trans (if_pos ht)))
  · exact congrArg done (if_pos h)

end Sys2Proof.Machine
end

section
/-! SUPPORT. A partner's requests, the answers to this module's own, and mailboxes: the fourth part of obligation O51, and O51 itself
(R365-R367). -/

namespace Sys2Proof.Machine

/-! ### Remote windows (R365) -/

section
variable {s : State} {k : XLink} {tid : Tid} {off : BitVec 34} {size : Fin 4} {v : Dword}

/-- `XL_SEG` of the segment that an offset names. -/
def segR (o : Nat) : RegRef := ⟨.xlSeg, 0, o / 2 ^ 30, 0⟩

/-- The physical address that an offset reaches in its segment. -/
def State.segAddr (s : State) (o : Nat) : Nat := fld (s.reg (segR o)) 45 30 * 2 ^ 30 + o % 2 ^ 30

/-- A segment that is open to a tenant and lies in DRAM. -/
def State.SegOpen (s : State) (tid o : Nat) : Prop :=
  bit (s.reg (segR o)) 63 = true ∧ fld (s.reg (segR o)) 61 57 = tid ∧ s.region (s.segAddr o) = .dram

theorem segPa_of_open {tid o : Nat} {wr : Bool} (h : s.SegOpen tid o) (hw : wr = true → bit (s.reg (segR o)) 62 = true) :
    s.segPa tid o wr = some (s.segAddr o) := by
  obtain ⟨hv, ht, hd⟩ := h
  refine if_pos ?_
  show (bit (s.reg (segR o)) 63 && decide (fld (s.reg (segR o)) 61 57 = tid) && (!wr || bit (s.reg (segR o)) 62) &&
    decide (s.region (s.segAddr o) = .dram)) = true
  rw [hv, ht, hd]
  cases wr <;> simp_all

theorem segPa_of_not {tid o : Nat} {wr : Bool} (h : ¬ s.SegOpen tid o ∨ (wr = true ∧ bit (s.reg (segR o)) 62 = false)) :
    s.segPa tid o wr = none := by
  refine if_neg ?_
  show ¬ (bit (s.reg (segR o)) 63 && decide (fld (s.reg (segR o)) 61 57 = tid) && (!wr || bit (s.reg (segR o)) 62) &&
    decide (s.region (s.segAddr o) = .dram)) = true
  simp only [Bool.and_eq_true, decide_eq_true_eq]
  rintro ⟨⟨⟨hv, ht⟩, hw⟩, hd⟩
  rcases h with h | ⟨rfl, h⟩
  · exact h ⟨hv, ht, hd⟩
  · rw [h] at hw
    exact absurd hw (by decide)

/-- A partner's read of this module's DRAM, or the error. -/
def State.remoteRead (s : State) (n tid size : Nat) : Option Nat → State
  | none => s.sendXl n .completion [0]
  | some pa => match s.engLine (portRq tid) pa with
    | (s, .ok d) => s.sendXl n .readData [1, BitVec.ofNat 64 (ofBytes ((List.range size).map (fun i => lineByte d (pa % 64 + i))))]
    | (s, _) => s.sendXl n .completion [0]

/-- A partner's write of this module's DRAM, or the error. -/
def State.remoteWrite (s : State) (n tid : Nat) (bytes : List Byte) : Option Nat → State
  | none => s.sendXl n .completion [0]
  | some pa => match s.engPut (portRq tid) pa bytes with
    | (s, .ok _) => s.sendXl n .completion [1]
    | (s, _) => s.sendXl n .completion [0]

theorem execRemoteRead_eq : execRemoteRead k tid off size s = done (
    if !s.xlUp k.val then s
    else if off.toNat % 2 ^ size.val ≠ 0 then s.sendXl k.val .completion [0]
    else s.remoteRead k.val tid.val (2 ^ size.val) (s.segPa tid.val off.toNat false)) := by
  unfold execRemoteRead State.remoteRead
  rfl

theorem execRemoteWrite_eq : execRemoteWrite k tid off size v s = done (
    if !s.xlUp k.val then s
    else if off.toNat % 2 ^ size.val ≠ 0 then s.sendXl k.val .completion [0]
    else s.remoteWrite k.val tid.val (toBytes v.toNat (2 ^ size.val)) (s.segPa tid.val off.toNat true)) := by
  unfold execRemoteWrite State.remoteWrite
  rfl

section
variable {tid n pa : Nat} {u : State}

theorem remoteRead_ok {d : LineData} (size : Nat) (h : s.engLine (portRq tid) pa = (u, .ok d)) : s.remoteRead n tid size (some pa) =
    u.sendXl n .readData [1, BitVec.ofNat 64 (ofBytes ((List.range size).map (fun i => lineByte d (pa % 64 + i))))] := by
  unfold State.remoteRead
  dsimp only
  rw [h]

theorem remoteRead_error {e : EngRes LineData} (size : Nat) (h : s.engLine (portRq tid) pa = (u, e)) (he : ∀ d, e ≠ .ok d) :
    s.remoteRead n tid size (some pa) = u.sendXl n .completion [0] := by
  unfold State.remoteRead
  dsimp only
  rw [h]
  cases e with
  | ok d => exact absurd rfl (he d)
  | _ => rfl

theorem remoteWrite_ok {a : Unit} {bytes : List Byte} (h : s.engPut (portRq tid) pa bytes = (u, .ok a)) :
    s.remoteWrite n tid bytes (some pa) = u.sendXl n .completion [1] := by
  unfold State.remoteWrite
  dsimp only
  rw [h]

theorem remoteWrite_error {e : EngRes Unit} {bytes : List Byte} (h : s.engPut (portRq tid) pa bytes = (u, e)) (he : ∀ a, e ≠ .ok a) :
    s.remoteWrite n tid bytes (some pa) = u.sendXl n .completion [0] := by
  unfold State.remoteWrite
  dsimp only
  rw [h]
  cases e with
  | ok a => exact absurd rfl (he a)
  | _ => rfl

end

theorem exec_remote_closed (h : s.xlUp k.val = false) :
    exec (.remoteRead k tid off size) s = .next s.finish ∧ exec (.remoteWrite k tid off size v) s = .next s.finish :=
  ⟨execRemoteRead_eq.trans (congrArg done (if_pos (by simp [h]))), execRemoteWrite_eq.trans (congrArg done (if_pos (by simp [h])))⟩

theorem exec_remote_misaligned (h : s.xlUp k.val = true) (ho : off.toNat % 2 ^ size.val ≠ 0) :
    exec (.remoteRead k tid off size) s = .next (s.sendXl k.val .completion [0]).finish ∧
    exec (.remoteWrite k tid off size v) s = .next (s.sendXl k.val .completion [0]).finish :=
  ⟨execRemoteRead_eq.trans (congrArg done ((if_neg (by simp [h])).trans (if_pos ho))),
    execRemoteWrite_eq.trans (congrArg done ((if_neg (by simp [h])).trans (if_pos ho)))⟩

theorem exec_remoteRead_up (h : s.xlUp k.val = true) (ho : off.toNat % 2 ^ size.val = 0) {p : Option Nat} {u : State}
    (hp : s.segPa tid.val off.toNat false = p) (hu : s.remoteRead k.val tid.val (2 ^ size.val) p = u) :
    exec (.remoteRead k tid off size) s = .next u.finish := by
  refine execRemoteRead_eq.trans (congrArg done ((if_neg (by simp [h])).trans ((if_neg (not_not.mpr ho)).trans ?_)))
  rw [hp, hu]

theorem exec_remoteWrite_up (h : s.xlUp k.val = true) (ho : off.toNat % 2 ^ size.val = 0) {p : Option Nat} {u : State}
    (hp : s.segPa tid.val off.toNat true = p) (hu : s.remoteWrite k.val tid.val (toBytes v.toNat (2 ^ size.val)) p = u) :
    exec (.remoteWrite k tid off size v) s = .next u.finish := by
  refine execRemoteWrite_eq.trans (congrArg done ((if_neg (by simp [h])).trans ((if_neg (not_not.mpr ho)).trans ?_)))
  rw [hp, hu]

end

/-! ### Completions (R366, R367) -/

section
variable {s : State} {k : XLink} {tag : Nat} {ok : Bool} {v : Dword}

theorem waiter_modXl (s : State) (n : Nat) (f : Xl → Xl) (r : Remote) : (s.modXl n f).waiter r = s.waiter r := rfl

theorem remoteDone_load {q : Remote} {c : Nat} (h : s.waiter q = some (.load c)) : s.remoteDone q ok v = s.respond c ok v := by
  unfold State.remoteDone
  rw [h]

theorem exec_remoteCompletion_load {q : Remote} {c : Nat} (hx : (s.xl k.val).remote = [q]) (hq : q.tag = tag) (hw : s.waiter q = some (.load c)) :
    exec (.remoteCompletion k tag ok v) s = .next ((s.modXl k.val (fun y => { y with remote := [] })).respond c ok v).finish := by
  have hrow : execRemoteCompletion k tag ok v s = done ((s.modXl k.val (fun x =>
      { x with remote := x.remote.filter (fun r => decide (r.tag ≠ tag)) })).remoteDone q ok v) := by
    unfold execRemoteCompletion
    dsimp only
    rw [hx, List.find?_cons_of_pos (by simp [hq])]
  have hmod : s.modXl k.val (fun x => { x with remote := x.remote.filter (fun r => decide (r.tag ≠ tag)) }) =
      s.modXl k.val (fun y => { y with remote := [] }) := modXl_congr (by simp [hx, hq])
  refine hrow.trans (congrArg done ?_)
  rw [hmod, remoteDone_load ((waiter_modXl ..).trans hw)]

theorem exec_remoteCompletion_mbox {t : Tid} (hx : (s.xl k.val).remote = []) (hm : (s.xl k.val).mbox = [(tag, t)]) (hv : fld v 1 0 ≠ 0) :
    exec (.remoteCompletion k tag ok v) s =
      .next (((s.modXl k.val (fun y => { y with mbox := [] })).setRf (mbStatR t.val) 1 0 (fld v 1 0)).writeDone (mbGoPa t.val)).finish := by
  have hmod : s.modXl k.val (fun x => { x with mbox := x.mbox.filter (fun m => decide (m.1 ≠ tag)) }) =
      s.modXl k.val (fun y => { y with mbox := [] }) := modXl_congr (by simp [hm])
  have hrow : execRemoteCompletion k tag ok v s = done (((s.modXl k.val (fun x =>
      { x with mbox := x.mbox.filter (fun m => decide (m.1 ≠ tag)) })).setRf (mbStatR t.val) 1 0 (fld v 1 0)).writeDone (mbGoPa t.val)) := by
    unfold execRemoteCompletion
    dsimp only
    rw [hx, List.find?_nil, hm, List.find?_cons_of_pos (by simp)]
    dsimp only
    rw [if_neg hv]
  rw [hmod] at hrow
  exact hrow

theorem exec_remoteCompletion_unknown (hr : ∀ q ∈ (s.xl k.val).remote, q.tag ≠ tag) (hm : ∀ q ∈ (s.xl k.val).mbox, q.1 ≠ tag) :
    exec (.remoteCompletion k tag ok v) s = .next s.finish := by
  have hrow : execRemoteCompletion k tag ok v s = done s := by
    unfold execRemoteCompletion
    dsimp only
    rw [List.find?_eq_none.mpr fun q hq => by simpa using hr q hq]
    dsimp only
    rw [List.find?_eq_none.mpr fun q hq => by simpa using hm q hq]
  exact hrow

end

/-! ### Mailboxes (R367) -/

section
variable {s : State} {k : XLink} {t : Tid} {pay : List Dword}

/-- `XL_MBCFG[t]`. -/
abbrev mbCfgR (t : Nat) : RegRef := ⟨.xlMbcfg, 0, t, 0⟩
/-- `XL_MBIDX[t]`. -/
abbrev mbIdxR (t : Nat) : RegRef := ⟨.xlMbidx, 0, t, 0⟩

/-- The entry of tenant `t`'s receive ring that a message fills. -/
def State.mbFilled (s : State) (n t : Nat) (pay : List Dword) : State :=
  s.unitWrite (portRq t) (fld (s.reg (mbCfgR t)) 45 10 * 16 + s.rf (mbIdxR t) 15 0)
    (lineOfDws (BitVec.ofNat 64 (s.rf (xlStatusR n) 31 30 + (!SMap.get false s.links.mbPh t).toNat * 2 ^ 63) :: pay)) (BitVec.allOnes 64)

/-- The tail of tenant `t`'s receive ring after one more message. -/
def State.mbNext (s : State) (t : Nat) : Nat := (s.rf (mbIdxR t) 15 0 + 1) % 2 ^ fld (s.reg (mbCfgR t)) 4 0

/-- Tenant `t`'s receive ring has no entry left for a message. -/
def State.MbFull (s : State) (t : Nat) : Prop := s.mbNext t = s.rf (mbIdxR t) 47 32 % 2 ^ fld (s.reg (mbCfgR t)) 4 0

/-- The state after a message has filled an entry of tenant `t`'s receive ring, not its last one. -/
def State.mbTaken (s : State) (n t : Nat) (pay : List Dword) : State :=
  ((s.mbFilled n t pay).setRf (mbIdxR t) 15 0 (s.mbNext t)).raise (30 * 32 + t)

theorem exec_mailboxMessage_off (h : s.xlUp k.val = true) (hc : bit (s.reg (mbCfgR t.val)) 8 = false) :
    exec (.mailboxMessage k t pay) s = .next (s.sendXl k.val .completion [3]).finish :=
  congrArg done ((if_neg (by simp [h])).trans (if_pos (by simp [hc])))

section
variable (h : s.xlUp k.val = true) (hc : bit (s.reg (mbCfgR t.val)) 8 = true)
include h hc

theorem exec_mailboxMessage_full (hf : s.MbFull t.val) :
    exec (.mailboxMessage k t pay) s = .next ((s.incRf (mbIdxR t.val) 63 48).sendXl k.val .completion [1]).finish :=
  congrArg done ((if_neg (by simp [h])).trans ((if_neg (by simp [hc])).trans (if_pos hf)))

theorem exec_mailboxMessage_filled (hl : pay.length = 7) (hf : ¬ s.MbFull t.val) (hz : s.mbNext t.val ≠ 0) :
    exec (.mailboxMessage k t pay) s = .next ((s.mbTaken k.val t.val pay).sendXl k.val .completion [0]).finish := by
  have hrow : execMailboxMessage k t pay s = done ((s.mbTaken k.val t.val (pay.take 7)).sendXl k.val .completion [0]) := by
    unfold State.MbFull at hf
    unfold execMailboxMessage State.mbTaken State.mbFilled
    unfold State.mbNext at hf hz ⊢
    dsimp only
    rw [if_neg (by simp [h]), if_neg (by simp [hc]), if_neg hf, if_neg hz]
    rfl
  rw [List.take_of_length_le (Nat.le_of_eq hl)] at hrow
  exact hrow

end

end

/-- The fourth part of O51. -/
theorem remoteAccesses : RemoteAccesses := by
  intro s k tid off size v tag ok pay
  refine ⟨fun ho h => exec_remote_closed h, fun ho h => exec_remote_misaligned h ho, fun ho h hn => ?_, fun ho h hn => ?_, fun ho h hop => ⟨?_, ?_, ?_, ?_⟩,
    fun q c hx hq hw => exec_remoteCompletion_load hx hq hw, fun t hx hm hv => exec_remoteCompletion_mbox hx hm hv,
    fun hr hm => exec_remoteCompletion_unknown hr hm, fun hl h hc => ?_, fun hl h hc hf => ?_, fun hl h hc hf hz => ?_, fun hl h => ?_⟩
  · exact exec_remoteRead_up h ho (segPa_of_not (.inl hn)) rfl
  · exact exec_remoteWrite_up h ho (segPa_of_not (hn.imp_right (⟨rfl, ·⟩))) rfl
  · exact fun u d he => exec_remoteRead_up h ho (segPa_of_open hop (by simp)) (remoteRead_ok _ he)
  · exact fun u e he hne => exec_remoteRead_up h ho (segPa_of_open hop (by simp)) (remoteRead_error _ he hne)
  · exact fun u a hw he => exec_remoteWrite_up h ho (segPa_of_open hop (fun _ => hw)) (remoteWrite_ok he)
  · exact fun u e hw he hne => exec_remoteWrite_up h ho (segPa_of_open hop (fun _ => hw)) (remoteWrite_error he hne)
  · exact exec_mailboxMessage_off h hc
  · exact exec_mailboxMessage_full h hc hf
  · exact exec_mailboxMessage_filled h hc hl hf hz
  · exact congrArg done (if_pos (by simp [h]))

/-- Settles O51: part by part, each row by the branch of the model's definition that its hypotheses choose. -/
theorem linkEvents : Obligations.LinkEvents :=
  ⟨packageLinkEvents, externalLinkStates, identificationEvents, remoteAccesses, votesAndTicks⟩

end Sys2Proof.Machine
end

section
/-! SUPPORT. What an idle step does to the timebase and to the hold-off counters, and obligation O2 (R222, R226, R321, R457). -/

namespace Sys2Proof.Machine

variable {s : State}

theorem step_idle (hp : s.pending = []) (hf : (pass s).firmware = none) : step s = .next (pass s) := by
  simp only [step, hp, idle, hf]

/-! ### The ways in which 10 ns pass (R222, R226) -/

theorem pass_held (h : 0 < s.ftu.hold) : pass s = { s with ftu := { s.ftu with hold := s.ftu.hold - 1 } } := if_pos h

theorem pass_lengthened (h : s.ftu.hold = 0) (hl : s.lengthens = true) :
    pass s = { s with ftu := { s.ftu with slew := s.ftu.slew + 1, corrected := true } } :=
  (if_neg (by omega)).trans (if_pos hl)

theorem pass_advanced (h : s.ftu.hold = 0) (hl : s.lengthens = false) : pass s = { s with timebase := s.timebase + 1 }.countHoldOff :=
  (if_neg (by omega)).trans (if_neg (by simp [hl]))

/-! ### The hold-off counters (R321) -/

/-- `EVG_GCTL` after its hold-off counter has counted a unit. -/
def counted (v : Dword) : Dword := setFld v 31 16 (if 2 ≤ fld v 31 16 then fld v 31 16 - 1 else fld v 31 16)

/-- The state after the hold-off counter of group `g` has counted a unit. -/
def State.countGroup (g : Nat) (s : State) : State :=
  if 2 ≤ s.rf (gctlR g) 31 16 then s.setRf (gctlR g) 31 16 (s.rf (gctlR g) 31 16 - 1) else s

theorem reg_countGroup (g : Nat) (s : State) : (s.countGroup g).reg (gctlR g) = counted (s.reg (gctlR g)) := by
  unfold State.countGroup counted State.rf
  split
  · exact State.reg_setRf ..
  · exact (setFld_fld _ 31 16).symm

theorem reg_countGroup_other {g i : Nat} (h : i ≠ g) (s : State) : (s.countGroup g).reg (gctlR i) = s.reg (gctlR i) := by
  unfold State.countGroup
  split
  · exact State.reg_setRf_other _ _ _ _ (by rw [gctlR_off, gctlR_off]; omega)
  · rfl

theorem reg_forN_countGroup (n g : Nat) (s : State) :
    (forN n State.countGroup s).reg (gctlR g) = if g < n then counted (s.reg (gctlR g)) else s.reg (gctlR g) := by
  induction n with
  | zero => rfl
  | succ n ih =>
    have hn : forN (n + 1) State.countGroup s = (forN n State.countGroup s).countGroup n := by
      simp [forN, List.range_succ]
    rw [hn]
    by_cases hg : g = n
    · subst hg
      rw [reg_countGroup, ih, if_neg (Nat.lt_irrefl g), if_pos (Nat.lt_succ_self g)]
    · rw [reg_countGroup_other hg, ih]
      exact if_congr (by omega) rfl rfl

theorem countHoldOff_between (h : s.timebase.toNat % 10 ≠ 0) : s.countHoldOff = s := if_pos h

theorem countHoldOff_due (h : s.timebase.toNat % 10 = 0) : s.countHoldOff = forN 64 State.countGroup s := if_neg (not_not.mpr h)

/-- The hold-off counters count in registers alone. -/
theorem countHoldOff_only_mcs (s : State) (m : SMap Dword) : { s.countHoldOff with mcs := m } = { s with mcs := m } := by
  by_cases h : s.timebase.toNat % 10 = 0
  · rw [countHoldOff_due h]
    refine forN_keeps (fun x : State => { x with mcs := m }) (fun g x => ?_) 64 s
    unfold State.countGroup
    split <;> rfl
  · rw [countHoldOff_between h]

/-! ### The obligation -/

/-- Settles O2: case by case of `pass`, the counters group by group. -/
theorem idlePassesTime : Obligations.IdlePassesTime := by
  intro s hp hf
  have hstep : step s = .next (pass s) := step_idle hp hf
  refine ⟨fun h => ?held, fun h hl => ?lengthened, fun h hl hc => ?between, fun h hl hc => ?due⟩
  case held => rw [hstep, pass_held h]
  case lengthened => rw [hstep, pass_lengthened h hl]
  case between => rw [hstep, pass_advanced h hl, countHoldOff_between (of_decide_eq_false hc)]
  case due =>
    refine ⟨_, hstep, ?_⟩
    rw [pass_advanced h hl]
    refine ⟨countHoldOff_only_mcs _ s.mcs, fun r hr => (raisesAlike_countHoldOff _).reg r fun g hg => (hr g hg).symm, fun g hg => ?_⟩
    rw [countHoldOff_due (of_decide_eq_true hc), reg_forN_countGroup, if_pos hg]
    rfl

end Sys2Proof.Machine
end

section
/-! SUPPORT. Ticks, the tick source and its measurements: the first part of obligation O55 (R222, R224-R226, R457). -/

namespace Sys2Proof.Machine

variable {s : State}

/-! ### What a record in Sole and a tick leave -/

/-- A record of the system ring or the life log changes registers and Sole alone. -/
theorem soleSys_keeps {α : Type} (p : State → α) (hm : ∀ (u : State) m, p { u with mcs := m } = p u)
    (hs : ∀ (u : State) x, p { u with sole := x } = p u) (s : State) (a : Nat) (r : List Dword) : p (s.soleSys a r) = p s := by
  unfold State.soleSys State.stage
  split
  · exact hm s _
  · dsimp only
    split
    · next e =>
      split at e
      · obtain rfl := Option.some.inj e
        exact hs s _
      · cases e
    · exact (hs _ _).trans (hm s _)

theorem sysEvent_keeps {α : Type} (p : State → α) (hm : ∀ (u : State) m, p { u with mcs := m } = p u)
    (hs : ∀ (u : State) x, p { u with sole := x } = p u) (s : State) (sub : Nat) (l : List Dword) : p (s.sysEvent sub l) = p s := by
  have h := soleSys_keeps p hm hs
  unfold State.sysEvent
  dsimp only
  split
  · split
    · exact h ..
    · exact (h ..).trans (h ..)
  · exact h ..

/-- TICK leaves registers below the fault injectors' as they were. -/
theorem reg_sendTicks {r : RegRef} (h : r.off < 0x34080000) (s : State) (t : Dword) : (s.sendTicks t).reg r = s.reg r := by
  have hctl : ∀ k, r.off ≠ (fiCtlR (12 + k)).off := fun k => by simp only [fiCtlR, RegRef.off, Reg.place, zoneBase] at h ⊢; omega
  have hcnt : ∀ k, r.off ≠ (fiCntR (12 + k)).off := fun k => by simp only [fiCntR, RegRef.off, Reg.place, zoneBase] at h ⊢; omega
  unfold State.sendTicks
  split
  · rfl
  · exact forN_keeps (State.reg · r) (fun k x => reg_ite (reg_sendXl x k .tick _ (hctl k) (hcnt k)) rfl) 3 s

theorem reg_raiseTick {r : RegRef} (h : r.off < 0x34080000) (s : State) (t : Dword) : (s.raiseTick t).reg r = s.reg r := by
  have hne : r.off ≠ ftuStatusR.off := by
    have : ftuStatusR.off = 0x3A000010 := rfl
    omega
  exact (reg_sendTicks h _ t).trans (State.reg_setRf_other s _ _ _ hne)

theorem seasonsOn_of_reg {x : State} (h : x.reg seasonCtlR = s.reg seasonCtlR) : x.seasonsOn = s.seasonsOn := by
  rw [State.seasonsOn, h, State.seasonsOn]

theorem rf_bit_iff (s : State) (r : RegRef) (i : Nat) : s.rf r i i = 1 ↔ bit (s.reg r) i = true := by
  rw [State.rf, fld_bit]
  cases bit (s.reg r) i <;> decide

theorem seasonsOn_iff : s.seasonsOn = true ↔ s.rf seasonCtlR 3 3 = 1 := (rf_bit_iff ..).symm

theorem seasonsOn_eq_false (h : ¬ s.rf seasonCtlR 3 3 = 1) : s.seasonsOn = false := Bool.eq_false_iff.mpr (mt seasonsOn_iff.mp h)

/-! ### A tick is raised (R222, R226) -/

theorem tickDue_iff (t : Nat) : s.tickDue t = true ↔ s.period ≠ 0 ∧ (t + s.period - s.ftu.phase % s.period) % s.period = 0 := by
  simp [State.tickDue]

theorem early_iff : s.early = true ↔
    s.running = true ∧ s.seasonsOn = true ∧ s.ftu.corrected = false ∧ s.tickDue (s.timebase.toNat + 1) = true ∧ 0 < s.ftu.slew := by
  simp [State.early, State.mayCorrect, State.seasonsOn, and_assoc]

theorem early_of_off (h : ¬ s.rf seasonCtlR 3 3 = 1) : s.early = false :=
  Bool.eq_false_iff.mpr fun he => h (seasonsOn_iff.mp (early_iff.mp he).2.1)

theorem early_of_slew (h : s.ftu.slew ≤ 0) : s.early = false := by
  simp [State.early, h]

/-- The state at the end of a frame that is shortened by a unit. -/
def State.shortened (s : State) : State := { s with timebase := s.timebase + 1, ftu := { s.ftu with slew := s.ftu.slew - 1 } }

theorem frameTick_due {x : State} (hx : (if s.early then s.shortened else s) = x) (hd : x.tickDue x.timebase.toNat = true) :
    s.frameTick = if x.seasonsOn then (x.raiseTick x.timebase).slewFrame else x.raiseTick x.timebase := by
  subst hx
  have hon := seasonsOn_of_reg (reg_raiseTick (by decide) (if s.early then s.shortened else s)
    (if s.early then s.shortened else s).timebase)
  rw [← hon]
  exact if_pos hd

theorem frameTick_between (he : s.early = false) (hd : s.tickDue s.timebase.toNat = false) : s.frameTick = s := by
  simp [State.frameTick, he, hd]

section
variable (hr : s.running = true) (hf : s.fresh = true)
include hr hf

theorem exec_frameTick_runs (hc : s.ftu.ticks = s.ftu.ticksB) : exec .frameTick s = .next s.frameTick.finish :=
  congrArg done ((if_neg (by simp [hr, hf])).trans (if_neg (not_not.mpr hc)))

theorem exec_frameTick_apart (hc : s.ftu.ticks ≠ s.ftu.ticksB) : exec .frameTick s = .next (s.safeState 0x1F 0 false).finish :=
  congrArg done ((if_neg (by simp [hr, hf])).trans (if_pos hc))

end

theorem exec_frameTick_idle (h : s.running = false ∨ s.fresh = false) : exec .frameTick s = .next s.finish :=
  congrArg done (if_pos (by rcases h with h | h <;> simp [h]))

/-! ### Transitions of the Frame Tick Unit (R225) -/

/-- The state after a transition of the Frame Tick Unit to a state, recorded. -/
def State.ftuMoved (s : State) (n : Nat) : State :=
  ((({ s with ftu := { s.ftu with good := 0, bad := 0, first := decide (n = 2) } } : State).setRf ftuStatusR 2 0 n).sysEvent 0x10
    [BitVec.ofNat 64 (16 * s.ftuState + n)]).raise 13

theorem setFtu_of_ne {n : Nat} (h : s.ftuState ≠ n) : s.setFtu n = s.ftuMoved n := if_neg h

theorem ftuState_ftuMoved {n : Nat} (h : n < 8) : (s.ftuMoved n).ftuState = n :=
  ((tells_sysEvent _ _ _).rf (r := ftuStatusR) (by decide) (by decide) 2 0).trans (rf_setRf_same _ _ (by decide) h)

theorem first_ftuMoved (n : Nat) : (s.ftuMoved n).ftu.first = decide (n = 2) :=
  sysEvent_keeps (fun x => x.ftu.first) (fun _ _ => rfl) (fun _ _ => rfl) _ 0x10 _

theorem seasonsOn_ftuMoved (n : Nat) : (s.ftuMoved n).seasonsOn = s.seasonsOn :=
  seasonsOn_of_reg (((tells_sysEvent _ _ _).reg seasonCtlR (by decide) (by decide)).trans (State.reg_setRf_other _ _ _ _ (by decide)))

theorem exec_tickSourceLost_internal (h : s.tickSrc = 0) : exec .tickSourceLost s = .next s.finish := congrArg done (if_pos h)

theorem exec_tickSourceLost_acquire (h : s.tickSrc ≠ 0) (h2 : s.ftuState = 2) : exec .tickSourceLost s = .next (s.ftuMoved 1).finish :=
  congrArg done (((if_neg h).trans (if_pos h2)).trans (setFtu_of_ne (by omega)))

theorem exec_tickSourceLost_locked (h : s.tickSrc ≠ 0) (h3 : s.ftuState = 3) :
    exec .tickSourceLost s = .next (s.ftuMoved (if s.rf ftuAlignR 63 48 = 0 then 1 else 4)).finish :=
  congrArg done (((if_neg h).trans ((if_neg (by omega)).trans (if_pos h3))).trans (setFtu_of_ne (by split <;> omega)))

theorem exec_tickSourceLost_other (h2 : s.ftuState ≠ 2) (h3 : s.ftuState ≠ 3) : exec .tickSourceLost s = .next s.finish := by
  have hrow : s.sourceLost = s := (congrArg (ite (s.tickSrc = 0) s) ((if_neg h2).trans (if_neg h3))).trans (ite_self s)
  exact congrArg done hrow

/-! ### Measurements of the phase (R224, R226) -/

variable {err : Int}

/-- The state with a measurement in `FTU_STATUS`. -/
def State.seen (s : State) (err : Int) : State := s.setRf ftuStatusR 63 32 (BitVec.ofInt 32 err).toNat

/-- The state after a measurement that steps no phase: the slew is met anew. -/
def State.slewed (s : State) (err : Int) : State :=
  { s.seen err with ftu := { s.ftu with first := false, slew := if s.rf seasonCtlR 3 3 = 1 then err.tdiv 10 else 0 } }

theorem ftuState_seen : (s.seen err).ftuState = s.ftuState := rf_setRf_other_field s _ _ _ _ (by decide) (by decide)

theorem seasonsOn_seen : (s.seen err).seasonsOn = s.seasonsOn := seasonsOn_of_reg (State.reg_setRf_other s _ _ _ (by decide))

theorem measure_stopped (h : s.ftuState < 2) : s.measure err = s := if_pos h

/-- The first measurement in Acquire steps the phase, while no season runs. -/
theorem measure_first {x : State} (h : ¬ s.ftuState < 2)
    (hx : (if (s.seen err).ftuState = 4 then (s.seen err).setFtu 2 else s.seen err) = x)
    (h2 : x.ftuState = 2) (hf : x.ftu.first = true) (hn : x.seasonsOn = false) :
    s.measure err = if 0 ≤ err.tdiv 10 then ({ x with ftu := { x.ftu with first := false } }).stepForward (err.tdiv 10).toNat
      else { x with ftu := { x.ftu with first := false, hold := x.ftu.hold + (-(err.tdiv 10)).toNat } } := by
  subst hx
  exact (if_neg h).trans (if_pos ⟨h2, hf, (Bool.not_eq_true' _).mpr hn⟩)

theorem measure_first_acquire (h2 : s.ftuState = 2) (hf : s.ftu.first = true) (hn : ¬ s.rf seasonCtlR 3 3 = 1) :
    s.measure err = if 0 ≤ err.tdiv 10 then ({ s.seen err with ftu := { s.ftu with first := false } }).stepForward (err.tdiv 10).toNat
      else { s.seen err with ftu := { s.ftu with first := false, hold := s.ftu.hold + (-(err.tdiv 10)).toNat } } :=
  measure_first (x := s.seen err) (by omega) (if_neg (by rw [ftuState_seen]; omega)) (ftuState_seen.trans h2) hf
    (seasonsOn_seen.trans (seasonsOn_eq_false hn))

theorem measure_first_holdover (h4 : s.ftuState = 4) (hn : ¬ s.rf seasonCtlR 3 3 = 1) (hu : 0 ≤ err.tdiv 10) :
    s.measure err = ({ (s.seen err).ftuMoved 2 with ftu := { ((s.seen err).ftuMoved 2).ftu with first := false } }).stepForward
      (err.tdiv 10).toNat := by
  have hs : (s.seen err).ftuState = 4 := ftuState_seen.trans h4
  exact (measure_first (x := (s.seen err).ftuMoved 2) (by omega) ((if_pos hs).trans (setFtu_of_ne (by omega)))
    (ftuState_ftuMoved (by decide)) (first_ftuMoved 2)
    ((seasonsOn_ftuMoved 2).trans (seasonsOn_seen.trans (seasonsOn_eq_false hn)))).trans (if_pos hu)

/-- The state after a measurement that steps no phase has been counted: in Acquire it is one of those in a row within 40 ns, in Locked one of
those in a row beyond 80 ns. -/
def State.judged (x : State) (err : Int) : State :=
  if x.ftuState = 2 then
    let good := if err.natAbs ≤ 40 then x.ftu.good + 1 else 0
    if 16 ≤ good then x.setFtu 3 else { x with ftu := { x.ftu with good := good } }
  else
    let bad := if 80 < err.natAbs then x.ftu.bad + 1 else 0
    if 4 ≤ bad then x.setFtu 2 else { x with ftu := { x.ftu with bad := bad } }

theorem measure_later {x : State} (h : ¬ s.ftuState < 2)
    (hx : (if (s.seen err).ftuState = 4 then (s.seen err).setFtu 2 else s.seen err) = x) (hn : ¬ (x.ftuState = 2 ∧ x.ftu.first = true)) :
    s.measure err =
      ({ x with ftu := { x.ftu with first := false, slew := if x.seasonsOn then err.tdiv 10 else 0 } } : State).judged err := by
  subst hx
  exact (if_neg h).trans (if_neg fun hall => hn ⟨hall.1, hall.2.1⟩)

theorem measure_slewed (h : ¬ s.ftuState < 2) (h4 : s.ftuState ≠ 4) (hn : ¬ (s.ftuState = 2 ∧ s.ftu.first = true)) :
    s.measure err = (s.slewed err).judged err := by
  rw [measure_later (x := s.seen err) h (if_neg (by rw [ftuState_seen]; exact h4)) (by rw [ftuState_seen]; exact hn)]
  simp only [State.slewed, seasonsOn_seen, seasonsOn_iff]
  rfl

theorem ftuState_slewed : (s.slewed err).ftuState = s.ftuState := ftuState_seen

section
variable (h2 : s.ftuState = 2) (hf : s.ftu.first = false)
include h2 hf

theorem measure_acquire : s.measure err = (s.slewed err).judged err := measure_slewed (by omega) (by omega) (by simp [hf])

theorem measure_acquire_near (hm : err.natAbs ≤ 40) (hg : s.ftu.good < 15) :
    s.measure err = { s.slewed err with ftu := { (s.slewed err).ftu with good := s.ftu.good + 1 } } := by
  have hgood : (s.slewed err).ftu.good = s.ftu.good := rfl
  rw [measure_acquire h2 hf, State.judged, if_pos (ftuState_slewed.trans h2), if_pos hm, hgood, if_neg (by omega)]

theorem measure_acquire_locks (hm : err.natAbs ≤ 40) (hg : 15 ≤ s.ftu.good) : s.measure err = (s.slewed err).ftuMoved 3 := by
  have hgood : (s.slewed err).ftu.good = s.ftu.good := rfl
  rw [measure_acquire h2 hf, State.judged, if_pos (ftuState_slewed.trans h2), if_pos hm, hgood, if_pos (by omega),
    setFtu_of_ne (by rw [ftuState_slewed]; omega)]

theorem measure_acquire_far (hm : 40 < err.natAbs) :
    s.measure err = { s.slewed err with ftu := { (s.slewed err).ftu with good := 0 } } := by
  rw [measure_acquire h2 hf, State.judged, if_pos (ftuState_slewed.trans h2), if_neg (show ¬ err.natAbs ≤ 40 by omega)]
  rfl

end

section
variable (h3 : s.ftuState = 3)
include h3

theorem measure_locked : s.measure err = (s.slewed err).judged err := measure_slewed (by omega) (by omega) (by omega)

theorem measure_locked_far (hm : 80 < err.natAbs) (hb : 3 ≤ s.ftu.bad) : s.measure err = (s.slewed err).ftuMoved 2 := by
  have hbad : (s.slewed err).ftu.bad = s.ftu.bad := rfl
  rw [measure_locked h3, State.judged, if_neg (by rw [ftuState_slewed]; omega), if_pos hm, hbad, if_pos (by omega),
    setFtu_of_ne (by rw [ftuState_slewed]; omega)]

theorem measure_locked_near (hm : err.natAbs ≤ 80) :
    s.measure err = { s.slewed err with ftu := { (s.slewed err).ftu with bad := 0 } } := by
  rw [measure_locked h3, State.judged, if_neg (by rw [ftuState_slewed]; omega), if_neg (show ¬ 80 < err.natAbs by omega)]
  rfl

end

theorem exec_phaseMeasurement_internal (h : s.tickSrc = 0) : exec (.phaseMeasurement err) s = .next s.finish := congrArg done (if_pos h)

theorem exec_phaseMeasurement_external (h : s.tickSrc ≠ 0) {x : State} (hx : s.measure err = x) :
    exec (.phaseMeasurement err) s = .next x.finish := congrArg done ((if_neg h).trans hx)

theorem exec_ftickInEdge_other (h : s.tickSrc ≠ 2) : exec (.ftickInEdge err) s = .next s.finish := congrArg done (if_pos h)

theorem exec_ftickInEdge_far (h : s.tickSrc = 2) (hm : 1000 < err.natAbs) :
    exec (.ftickInEdge err) s = .next ({ s with ftu := { s.ftu with ignored := s.ftu.ignored + 1 } } : State).finish :=
  congrArg done ((if_neg (not_not.mpr h)).trans (if_pos hm))

theorem exec_ftickInEdge_near (h : s.tickSrc = 2) (hm : err.natAbs ≤ 1000) :
    exec (.ftickInEdge err) s = exec (.phaseMeasurement err) s :=
  (congrArg done ((if_neg (not_not.mpr h)).trans (if_neg (by omega)))).trans (exec_phaseMeasurement_external (by omega) rfl).symm

theorem exec_holdoverExpiry_holdover (h : s.ftuState = 4) : exec .holdoverExpiry s = .next (s.ftuMoved 1).finish :=
  congrArg done ((if_pos h).trans (setFtu_of_ne (by omega)))

theorem exec_holdoverExpiry_other (h : s.ftuState ≠ 4) : exec .holdoverExpiry s = .next s.finish := congrArg done (if_neg h)

/-! ### Seconds (R457) -/

/-- The capture of a PPS edge: its time below the valid bit. -/
theorem setBit_top (ns : BitVec 63) : setBit (ns.setWidth 64) 63 true = BitVec.ofNat 64 (2 ^ 63 + ns.toNat) := by
  refine BitVec.eq_of_getLsbD_eq fun i hi => ?_
  rw [setBit, getLsbD_setFld _ _ _ _ _ hi, BitVec.getLsbD_ofNat]
  by_cases h : i = 63
  · subst h
    rw [if_pos (by decide), Nat.testBit_two_pow_add_eq, Nat.testBit_lt_two_pow ns.isLt]
    rfl
  · rw [if_neg (by omega), Nat.testBit_two_pow_add_gt (by omega)]
    simp [hi, BitVec.testBit_toNat]

theorem exec_ppsInEdge (ns : BitVec 63) :
    exec (.ppsInEdge ns) s = .next (s.setReg ppsCapR (BitVec.ofNat 64 (2 ^ 63 + ns.toNat))).finish :=
  congrArg (fun v => done (s.setReg ppsCapR v)) (setBit_top ns)

theorem exec_ppsOutPulse_due (h : s.timebase.toNat % 100000000 = 0) : exec .ppsOutPulse s = .next s.pulse.finish := congrArg done (if_pos h)

theorem exec_ppsOutPulse_between (h : s.timebase.toNat % 100000000 ≠ 0) : exec .ppsOutPulse s = .next s.finish := congrArg done (if_neg h)

/-! ### The first part of the obligation -/

section
variable (hr : s.running = true) (hf : s.fresh = true) (hc : s.ftu.ticks = s.ftu.ticksB)
include hr hf hc

theorem exec_frameTick_between (he : s.early = false)
    (hd : ¬ (s.period ≠ 0 ∧ (s.timebase.toNat + s.period - s.ftu.phase % s.period) % s.period = 0)) :
    exec .frameTick s = .next s.finish := by
  rw [exec_frameTick_runs hr hf hc, frameTick_between he (Bool.eq_false_iff.mpr (mt (tickDue_iff _).mp hd))]

theorem exec_frameTick_off (hn : ¬ s.rf seasonCtlR 3 3 = 1)
    (hd : s.period ≠ 0 ∧ (s.timebase.toNat + s.period - s.ftu.phase % s.period) % s.period = 0) :
    exec .frameTick s = .next (s.raiseTick s.timebase).finish := by
  rw [exec_frameTick_runs hr hf hc, frameTick_due (x := s) (if_neg (by simp [early_of_off hn])) ((tickDue_iff _).mpr hd),
    if_neg (by simp [seasonsOn_eq_false hn])]

theorem exec_frameTick_on (ho : s.rf seasonCtlR 3 3 = 1) (hs : s.ftu.slew ≤ 0)
    (hd : s.period ≠ 0 ∧ (s.timebase.toNat + s.period - s.ftu.phase % s.period) % s.period = 0) :
    exec .frameTick s = .next (s.raiseTick s.timebase).slewFrame.finish := by
  rw [exec_frameTick_runs hr hf hc, frameTick_due (x := s) (if_neg (by simp [early_of_slew hs])) ((tickDue_iff _).mpr hd),
    if_pos (seasonsOn_iff.mpr ho)]

theorem exec_frameTick_early (ho : s.rf seasonCtlR 3 3 = 1) (hs : 0 < s.ftu.slew) (hu : s.ftu.corrected = false)
    (hd : s.tickDue (s.timebase.toNat + 1) = true) (ht : s.timebase.toNat + 1 < 2 ^ 64) :
    exec .frameTick s = .next (s.shortened.raiseTick s.shortened.timebase).slewFrame.finish := by
  have hnow : s.shortened.timebase.toNat = s.timebase.toNat + 1 := by
    have : (1 : Dword).toNat = 1 := rfl
    rw [State.shortened, BitVec.toNat_add, this, Nat.mod_eq_of_lt ht]
  have hdue : s.shortened.tickDue s.shortened.timebase.toNat = true := by
    rw [hnow]
    exact hd
  rw [exec_frameTick_runs hr hf hc,
    frameTick_due (x := s.shortened) (if_pos (early_iff.mpr ⟨hr, seasonsOn_iff.mpr ho, hu, hd, hs⟩)) hdue,
    if_pos (show s.shortened.seasonsOn = true from seasonsOn_iff.mpr ho)]

end

/-- The first part of O55. -/
theorem frameTicks : FrameTicks := by
  intro s err ns
  refine ⟨fun ⟨hr, hf, hc⟩ => exec_frameTick_off hr hf hc, fun ⟨hr, hf, hc⟩ hn => exec_frameTick_between hr hf hc (early_of_off hn),
    fun ⟨hr, hf, hc⟩ => exec_frameTick_on hr hf hc, fun ⟨hr, hf, hc⟩ _ hs => exec_frameTick_between hr hf hc (early_of_slew hs),
    fun ⟨hr, hf, hc⟩ => exec_frameTick_early hr hf hc, exec_frameTick_apart, exec_frameTick_idle,
    fun h => ⟨exec_phaseMeasurement_internal h, exec_tickSourceLost_internal h⟩, exec_ftickInEdge_other, exec_ftickInEdge_far,
    exec_ftickInEdge_near, fun h hs => exec_phaseMeasurement_external h (measure_stopped hs),
    fun h h2 hf hn hu => exec_phaseMeasurement_external h ((measure_first_acquire h2 hf hn).trans (if_pos hu)),
    fun h h2 hf hn hu => exec_phaseMeasurement_external h ((measure_first_acquire h2 hf hn).trans (if_neg (by omega))),
    fun h h2 hf hm hg => exec_phaseMeasurement_external h (measure_acquire_near h2 hf hm hg),
    fun h h2 hf hm hg => exec_phaseMeasurement_external h (measure_acquire_locks h2 hf hm hg),
    fun h h2 hf hm => exec_phaseMeasurement_external h (measure_acquire_far h2 hf hm),
    fun h h3 hm hb => exec_phaseMeasurement_external h (measure_locked_far h3 hm hb),
    fun h h3 hm => exec_phaseMeasurement_external h (measure_locked_near h3 hm), exec_tickSourceLost_acquire, exec_tickSourceLost_locked,
    fun h h4 hn hu => exec_phaseMeasurement_external h (measure_first_holdover h4 hn hu), exec_tickSourceLost_other,
    exec_holdoverExpiry_holdover, exec_holdoverExpiry_other, exec_ppsInEdge ns, exec_ppsOutPulse_due, exec_ppsOutPulse_between⟩

end Sys2Proof.Machine
end

section
/-! SUPPORT. A tick at each unit: the second part of obligation O55 (R228, R229, R240). -/

namespace Sys2Proof.Machine

variable {s : State} {u v : TickUnit} {t : TrioId} {m : Chan}

/-! ### A tick reaches a unit (R228, R229) -/

/-- The state in which a unit has noted the arrival of the last tick. -/
def State.reached (s : State) (u : TickUnit) : State := { s with ftu := { s.ftu with arrived := s.ftu.arrived ++ [u] } }

/-- What the last tick does at a unit that it reaches for the first time. -/
def State.unitTick (s : State) : TickUnit → State
  | .trio t => s.trioTick t.val
  | .mc m => s.mcTick m.val
  | .pcr => s.pcrTick
  | .gce => s.gceTick
  | .svc => s.svcTick

theorem tickUnit_trio (h : t.val ≠ 84) : tickUnit (.trio t) = .trio t := if_neg h

theorem tickUnit_service (h : t.val = 84) : tickUnit (.trio t) = .svc := if_pos h

theorem exec_tickArrival_none (h : s.ftu.ticks = 0) : exec (.tickArrival u) s = .next s.finish := congrArg done (if_pos h)

theorem exec_tickArrival_again (hu : tickUnit u = v) (h : s.ftu.ticks ≠ 0 ∧ s.ftu.arrived.contains v = true) :
    exec (.tickArrival u) s = .next (s.extraTick v).finish := by
  subst hu
  exact congrArg done ((if_neg h.1).trans (if_pos h.2))

theorem exec_tickArrival_first (hu : tickUnit u = v) (h : s.ftu.ticks ≠ 0 ∧ s.ftu.arrived.contains v = false) :
    exec (.tickArrival u) s = .next ((s.reached v).unitTick v).finish := by
  have hrow : execTickArrival u s = done ((s.reached (tickUnit u)).unitTick (tickUnit u)) := by
    subst hu
    refine congrArg done ((if_neg h.1).trans ((if_neg (by rw [h.2]; exact Bool.false_ne_true)).trans ?_))
    cases tickUnit u <;> rfl
  rw [hu] at hrow
  exact hrow

theorem exec_tickArrival_congr (h : tickUnit u = tickUnit v) : exec (.tickArrival u) s = exec (.tickArrival v) s := by
  change execTickArrival u s = execTickArrival v s
  unfold execTickArrival
  rw [h]

theorem trioTick_unpowered {n : Nat} (h : s.dumpable n = false) : s.trioTick n = s := if_pos (by simp [h])

/-! ### The Global Context Engine (R240) -/

/-- The state at the Global Context Engine's tick once what was pending has taken effect (R229, R245, R287). -/
def State.gceCut (s : State) : State :=
  let x := { s with gce := { s.gce with tick := s.ftu.tickAt } }
  ((if x.gce.leanOff then x.leanWithdraw x.ftu.tickAt else x).cutsTakeEffect).spareSteps

/-- The boot has not failed, and the module is not in its safe state. -/
def State.booted (s : State) : Prop := s.rf ⟨.bootStat, 0, 0, 0⟩ 39 32 = 0 ∧ s.safe = false

theorem gceTick_eq : s.gceTick =
    if s.gceCut.rf ⟨.bootStat, 0, 0, 0⟩ 39 32 ≠ 0 ∨ s.gceCut.safe then s.gceCut
    else if s.gceCut.gce.lalt.isSome ∧ s.gceCut.frame = 0 then s.gceCut.leanBoundary
    else if s.gceCut.ftu.ticks = s.gceCut.gce.actTick ∧ s.gceCut.gce.shadowCredits.isSome then
      (s.gceCut.activate s.gceCut.nextSeason).cutsTakeEffect
    else if s.gceCut.changePending ∧ s.gceCut.gce.pendFrames = 0 then
      ({ s.gceCut with gce := { s.gceCut.gce with pendFrames := 1, lalt := none } }).sendShadows s.gceCut.nextSeason
    else s.gceCut := rfl

theorem gceTick_unbooted (h : ¬ s.gceCut.booted) : s.gceTick = s.gceCut := by
  simp only [State.booted, not_and_or, Bool.not_eq_false] at h
  exact gceTick_eq.trans (if_pos h)

section
variable (h : s.gceCut.booted)
include h

theorem gceTick_booted : s.gceTick =
    if s.gceCut.gce.lalt.isSome ∧ s.gceCut.frame = 0 then s.gceCut.leanBoundary
    else if s.gceCut.ftu.ticks = s.gceCut.gce.actTick ∧ s.gceCut.gce.shadowCredits.isSome then
      (s.gceCut.activate s.gceCut.nextSeason).cutsTakeEffect
    else if s.gceCut.changePending ∧ s.gceCut.gce.pendFrames = 0 then
      ({ s.gceCut with gce := { s.gceCut.gce with pendFrames := 1, lalt := none } }).sendShadows s.gceCut.nextSeason
    else s.gceCut :=
  gceTick_eq.trans (if_neg (by simp [h.1, h.2]))

theorem gceTick_lean (hl : s.gceCut.gce.lalt.isSome = true ∧ s.gceCut.frame = 0) : s.gceTick = s.gceCut.leanBoundary :=
  (gceTick_booted h).trans (if_pos hl)

variable (hl : ¬ (s.gceCut.gce.lalt.isSome = true ∧ s.gceCut.frame = 0))
include hl

theorem gceTick_acts (ha : s.gceCut.ftu.ticks = s.gceCut.gce.actTick ∧ s.gceCut.gce.shadowCredits ≠ none) :
    s.gceTick = (s.gceCut.activate s.gceCut.nextSeason).cutsTakeEffect :=
  (gceTick_booted h).trans ((if_neg hl).trans (if_pos ⟨ha.1, Option.isSome_iff_ne_none.mpr ha.2⟩))

variable (ha : ¬ (s.gceCut.ftu.ticks = s.gceCut.gce.actTick ∧ s.gceCut.gce.shadowCredits ≠ none))
include ha

theorem gceTick_pending (hp : s.gceCut.changePending = true) (hn : s.gceCut.gce.pendFrames = 0) :
    s.gceTick = ({ s.gceCut with gce := { s.gceCut.gce with pendFrames := 1, lalt := none } }).sendShadows s.gceCut.nextSeason :=
  (gceTick_booted h).trans ((if_neg hl).trans ((if_neg (by rwa [Option.isSome_iff_ne_none])).trans (if_pos ⟨hp, hn⟩)))

theorem gceTick_quiet (hp : s.gceCut.changePending = false) : s.gceTick = s.gceCut :=
  (gceTick_booted h).trans ((if_neg hl).trans ((if_neg (by rwa [Option.isSome_iff_ne_none])).trans (if_neg (by simp [hp]))))

end

/-! ### A tick that misses (R228) -/

theorem exec_tickMissing_stopped (h : s.running = false) : exec (.tickMissing u) s = .next s.finish :=
  congrArg done (if_pos (by simp [h]))

/-- What a tick that misses at a unit does. -/
def State.tickMissed (s : State) : TickUnit → State
  | .trio t => if s.dumpable t.val then s.blockError t.val else s
  | .svc => s.svcTrioError
  | .mc _ => s.safeState 0x1F 0 false
  | .pcr => s
  | .gce => s

theorem exec_tickMissing_running (u : TickUnit) (h : s.running = true) : exec (.tickMissing u) s = .next (s.tickMissed u).finish := by
  have hrow : execTickMissing u s = done (s.tickMissed u) := by
    cases u <;> exact congrArg done (if_neg (by simp [h]))
  exact hrow

/-- The second part of O55. -/
theorem tickArrivals : TickArrivals := by
  intro s t m
  refine ⟨fun h _ => exec_tickArrival_none h, fun h hn => exec_tickArrival_again (tickUnit_trio hn) h, exec_tickArrival_again rfl,
    exec_tickArrival_again rfl, fun u hu h => ?extra, fun hn => exec_tickArrival_congr (tickUnit_service hn), exec_tickArrival_first rfl,
    fun h hn hd => ?trio, fun h hn hd => ?unpowered, exec_tickArrival_first rfl, exec_tickArrival_first rfl,
    fun h hb => ?unbooted, fun h hb hl => ?lean, fun h hb hl ha => ?acts, fun h hb hl ha hp hn => ?pending, fun h hb hl ha hp => ?quiet,
    fun h _ => exec_tickMissing_stopped h, fun h => ⟨fun hd => ?missed, fun hd => ?absent, exec_tickMissing_running (.mc m) h,
      exec_tickMissing_running .pcr h, exec_tickMissing_running .gce h, exec_tickMissing_running .svc h⟩⟩
  case extra => rcases hu with rfl | rfl <;> exact exec_tickArrival_again rfl h
  case trio =>
    have hx : (s.reached (.trio t)).dumpable t.val = true := hd
    exact (exec_tickArrival_first (tickUnit_trio hn) h).trans (congrArg done (if_neg (by simp [hx])))
  case unpowered => exact (exec_tickArrival_first (tickUnit_trio hn) h).trans (congrArg done (trioTick_unpowered hd))
  case unbooted => exact (exec_tickArrival_first rfl h).trans (congrArg done (gceTick_unbooted hb))
  case lean => exact (exec_tickArrival_first rfl h).trans (congrArg done (gceTick_lean hb hl))
  case acts => exact (exec_tickArrival_first rfl h).trans (congrArg done (gceTick_acts hb hl ha))
  case pending => exact (exec_tickArrival_first rfl h).trans (congrArg done (gceTick_pending hb hl ha hp hn))
  case quiet => exact (exec_tickArrival_first rfl h).trans (congrArg done (gceTick_quiet hb hl ha hp))
  case missed => exact (exec_tickMissing_running (.trio t) h).trans (congrArg done (if_pos hd))
  case absent => exact (exec_tickMissing_running (.trio t) h).trans (congrArg done (if_neg (by simp [hd])))

end Sys2Proof.Machine
end

section
/-! SUPPORT. Windows, deadlines and budgets within a frame: the third part of obligation O55 (R234, R241, R252, R263, R266, R268, R269,
R289). -/

namespace Sys2Proof.Machine

variable {s : State} {n i : Nat} {t : TrioId} {slot : Fin 64}

theorem slot_modSlot (s : State) (n i : Nat) (f : Slot → Slot) : (s.modSlot n i f).slot n i = f (s.slot n i) := by
  simp [State.modSlot, State.setSlot, State.slot]

/-! ### The window in force (R234) -/

/-- The time since the last tick at a trio, in units. -/
def State.sinceTick (s : State) (n : Nat) : Nat := (s.timebase - (s.trio n).tickAt).toNat

/-- A season schedules trio `n`. -/
def State.scheduled (s : State) (n : Nat) : Prop := s.gce.live = true ∧ (s.trio n).rcd.act = true ∧ (s.trio n).parked = false

/-- It is the time of window entry `j` of a trio's record. -/
def State.inEntry (s : State) (n j : Nat) : Prop :=
  let w := (s.trio n).rcd.win.getD j 0
  wV w = true ∧ s.frame % wEvery w = wPhase w ∧ wStart w ≤ s.sinceTick n ∧ s.sinceTick n < wStart w + wLen w

/-- `State.inEntry` as the Trio Dispatcher tests it. -/
def State.testEntry (s : State) (n j : Nat) : Bool :=
  let w := (s.trio n).rcd.win.getD j 0
  wOccurs w s.frame && decide (wStart w ≤ s.sinceTick n ∧ s.sinceTick n < wStart w + wLen w)

theorem testEntry_iff {j : Nat} : s.testEntry n j = true ↔ s.inEntry n j := by
  simp [State.testEntry, State.inEntry, wOccurs, and_assoc]

theorem testEntry_eq_false {j : Nat} (h : ¬ s.inEntry n j) : s.testEntry n j = false := Bool.eq_false_iff.mpr (mt testEntry_iff.mp h)

theorem windowAt_service (hn : n = 84) : s.windowAt n =
    if s.running = true ∧ 0 < s.ftu.ticks ∧ s.sinceTick n < 1000 then .housekeeping else .none :=
  show (if n = svcTrio then _ else _) = _ from if_pos hn

theorem windowAt_unscheduled (hn : n ≠ 84) (h : ¬ s.scheduled n) : s.windowAt n = .none := by
  simp only [State.scheduled, not_and_or, Bool.not_eq_true, Bool.not_eq_false] at h
  exact (if_neg hn).trans (if_pos (by simpa using h))

section
variable (hn : n ≠ 84) (hs : s.scheduled n)
include hn hs

theorem windowAt_scheduled : s.windowAt n =
    if s.sinceTick n < (s.trio n).rcd.hk then .housekeeping
    else match (List.range 16).find? (s.testEntry n) with
      | some j => .entry (Fin.ofNat 16 j)
      | none => .outside :=
  (if_neg hn).trans (if_neg (by simp [hs.1, hs.2.1, hs.2.2]))

theorem windowAt_housekeeping (h : s.sinceTick n < (s.trio n).rcd.hk) : s.windowAt n = .housekeeping :=
  (windowAt_scheduled hn hs).trans (if_pos h)

theorem windowAt_entry (h : (s.trio n).rcd.hk ≤ s.sinceTick n) {j : Fin 16} (hj : s.inEntry n j.val)
    (hb : ∀ k, k < j.val → ¬ s.inEntry n k) : s.windowAt n = .entry j := by
  have hfind : (List.range 16).find? (s.testEntry n) = some j.val :=
    List.find?_range_eq_some.mpr ⟨testEntry_iff.mpr hj, List.mem_range.mpr j.isLt, fun k hk => by simp [testEntry_eq_false (hb k hk)]⟩
  rw [windowAt_scheduled hn hs, if_neg (by omega), hfind]
  simp

theorem windowAt_outside (h : (s.trio n).rcd.hk ≤ s.sinceTick n) (hb : ∀ k, k < 16 → ¬ s.inEntry n k) : s.windowAt n = .outside := by
  have hfind : (List.range 16).find? (s.testEntry n) = none :=
    List.find?_eq_none.mpr fun k hk => by simp [testEntry_eq_false (hb k (List.mem_range.mp hk))]
  rw [windowAt_scheduled hn hs, if_neg (by omega), hfind]

end

/-! ### A boundary (R263, R266, R289) -/

/-- Maintenance that a boundary finds on a core is recorded in registers, Sole and the core alone. -/
theorem trio_noteDelays (s : State) (n m : Nat) : (s.noteDelays n).trio m = s.trio m := by
  refine forN_keeps (State.trio · m) (fun k x => ?_) 3 s
  dsimp only
  split
  · split
    · exact sysEvent_keeps (State.trio · m) (fun _ _ => rfl) (fun _ _ => rfl) _ 0x1E _
    · rfl
  · rfl

theorem noteDelays_idle (h : ∀ j, j < 3 → (s.core (coreNo n j)).maint = none) : s.noteDelays n = s :=
  forN_fixed fun j hj => by simp only [h j hj]

theorem exec_windowBoundary_same (h : (s.trio t.val).window = s.windowAt t.val) :
    exec (.windowBoundary ⟨t, none⟩) s = .next s.finish := by
  have hrow : (if (s.trio t.val).window = s.windowAt t.val then s else s.noteDelays t.val).setWindow t.val (s.windowAt t.val) = s := by
    rw [if_pos h]
    exact if_pos h
  exact congrArg done hrow

theorem exec_windowBoundary_new (h : (s.trio t.val).window ≠ s.windowAt t.val) :
    exec (.windowBoundary ⟨t, none⟩) s = .next ((((s.noteDelays t.val).modTrio t.val (fun q =>
      { q with window := s.windowAt t.val })).windowEvent t.val (s.windowAt t.val)).redispatch t.val).finish := by
  have hrow : execWindowBoundary ⟨t, none⟩ s = done ((s.noteDelays t.val).setWindow t.val (s.windowAt t.val)) :=
    congrArg (fun x : State => done (x.setWindow t.val (s.windowAt t.val))) (if_neg h)
  have hmoves : ((s.noteDelays t.val).trio t.val).window ≠ s.windowAt t.val := by rwa [trio_noteDelays]
  exact hrow.trans (congrArg done (if_neg hmoves))

/-- An error of the context store has its effect before the boundary. -/
theorem exec_windowBoundary_error (e : StoreErr) :
    exec (.windowBoundary ⟨t, some e⟩) s = exec (.windowBoundary ⟨t, none⟩) (s.storeError t.val e) := rfl

theorem slotError_free (h : (s.slot n i).state = .free) : s.slotError n i = s := if_pos h

section
variable (h : (s.slot n i).state ≠ .free)
include h

theorem slotError_waiting (hs : (s.slot n i).stream = none) :
    s.slotError n i = (((s.modSlot n i (fun q => { q with state := .faulted })).coreErrRecord n i 3 3
      ((s.modSlot n i (fun q => { q with state := .faulted })).slot n i).arch.pc).redispatch n) := by
  unfold State.slotError State.coreOf
  rw [if_neg h, hs]
  rfl

theorem slotError_streaming {st : Fin 3} (hs : (s.slot n i).stream = some st) :
    s.slotError n i = (((s.leave n (coreIn (s.streamCore n st.val)) .faulted).coreErrRecord n i 3 st.val
      ((s.leave n (coreIn (s.streamCore n st.val)) .faulted).slot n i).arch.pc).redispatch n) := by
  unfold State.slotError State.coreOf
  rw [if_neg h, hs]
  rfl

end

/-! ### Deadlines and budgets (R241, R252, R268, R269) -/

/-- The deadline of a slot's period passes now without FDONE. -/
def State.missesNow (s : State) (n i : Nat) : Prop :=
  let b := s.slot n i
  b.state ≠ .free ∧ b.dlen = true ∧ b.fdone = false ∧ b.late = false ∧ b.deadline ≠ 0 ∧
    (s.frame + 1) % s.frames % (b.pmul + 1) = b.pphase ∧ s.sinceTick n = b.deadline

theorem frameDeadline_test_iff : ((s.slot n i).misses && decide ((s.slot n i).deadline ≠ 0) &&
    (s.slot n i).releasedAt ((s.frame + 1) % s.frames) && decide (s.sinceTick n = (s.slot n i).deadline)) = true ↔ s.missesNow n i := by
  simp only [Slot.misses, Slot.releasedAt, State.missesNow, Bool.and_eq_true, Bool.not_eq_true', decide_eq_true_eq, and_assoc]

theorem exec_frameDeadline_met (h : ¬ s.missesNow t.val slot.val) : exec (.frameDeadline t slot) s = .next s.finish :=
  congrArg done (if_neg (mt frameDeadline_test_iff.mp h))

theorem exec_frameDeadline_missed (h : s.missesNow t.val slot.val) :
    exec (.frameDeadline t slot) s = .next (s.overrun t.val slot.val s.timebase).finish :=
  congrArg done (if_pos (frameDeadline_test_iff.mpr h))

theorem exec_budgetExhausted_left (h : ¬ ((s.slot t.val slot.val).state = .running ∧ s.remain t.val slot.val = 0)) :
    exec (.budgetExhausted t slot) s = .next s.finish := congrArg done (if_neg h)

theorem exhaust_streaming {st : Fin 3} (hs : (s.slot n i).stream = some st) :
    s.exhaust n i = ((s.leave n (coreIn (s.streamCore n st.val)) .dormant).budgetRecord n i).redispatch n := by
  unfold State.exhaust State.coreOf
  rw [hs]
  rfl

theorem exec_budgetExhausted_spent (h : (s.slot t.val slot.val).state = .running ∧ s.remain t.val slot.val = 0) {st : Fin 3}
    (hs : (s.slot t.val slot.val).stream = some st) : exec (.budgetExhausted t slot) s =
      .next (((s.leave t.val (coreIn (s.streamCore t.val st.val)) .dormant).budgetRecord t.val slot.val).redispatch t.val).finish :=
  congrArg done ((if_pos h).trans (exhaust_streaming hs))

theorem release_other (h : (s.slot n i).releasedAt s.frame = false) : s.release n i = s := if_pos (.inl (by simp [h]))

/-- A Dormant context is released with the whole budget of its descriptor where no cut holds it. -/
theorem release_dormant (h : (s.slot n i).releasedAt s.frame = true) (hd : (s.slot n i).state = .dormant)
    (hc : s.budgetCap (s.slot n i).tid.val (s.slot n i).handle.toNat false = none) :
    let d := (s.slot n i).desc.getD 2 0
    s.release n i = s.modSlot n i (fun b => { b with
      eff := b.eff.set 2 (setFld d 20 0 (fld d 20 0)), remain := fld d 20 0, used := 0, since := s.timebase, fdone := false, late := false
      state := if b.state = .dormant then .ready else b.state
      readyAt := if b.state = .dormant then s.timebase else b.readyAt }) := by
  have hrow : s.release n i = _ := if_neg (by simp [h, hd])
  rw [hrow, hc, Option.getD_none, min_self]

/-- The third part of O55. -/
theorem frameSchedule : FrameSchedule := by
  intro s t slot
  refine ⟨fun hn h => ?unscheduled, windowAt_service, fun ⟨hn, hs⟩ => windowAt_housekeeping hn hs,
    fun ⟨hn, hs⟩ h => ⟨fun _ => windowAt_entry hn hs h, windowAt_outside hn hs h⟩, exec_windowBoundary_same, exec_windowBoundary_new,
    noteDelays_idle, rfl, fun h => ?imageFree, fun h hs => ?imageWaiting, fun st h hs => ?imageStreaming, exec_frameDeadline_met,
    exec_frameDeadline_missed, exec_budgetExhausted_left, fun _ h hs => exec_budgetExhausted_spent h hs, fun h hd hc => ?released, release_other⟩
  case unscheduled => exact windowAt_unscheduled hn fun hs => h ⟨hn, hs⟩
  case imageFree => exact congrArg (exec (.windowBoundary ⟨t, none⟩)) (slotError_free h)
  case imageWaiting => exact congrArg (exec (.windowBoundary ⟨t, none⟩)) (slotError_waiting h hs)
  case imageStreaming => exact congrArg (exec (.windowBoundary ⟨t, none⟩)) (slotError_streaming h hs)
  case released =>
    dsimp only
    rw [release_dormant h hd hc, slot_modSlot]
    exact ⟨if_pos hd, rfl, rfl, rfl, rfl⟩

end Sys2Proof.Machine
end

section
/-! SUPPORT. Events and detached responses at the slots, and the end of a season's load: the last parts of obligation O55, and O55 itself
(R238, R239, R260, R271, R272, R275, R469). -/

namespace Sys2Proof.Machine

variable {s : State} {f : Flight} {n i : Nat}

/-! ### An event arrives (R271, R272, R275) -/

/-- The state with no event on its way. -/
def State.landed (s : State) : State := { s with evg := { s.evg with flight := [] } }

/-- The event is a SIGNAL of another tenant than the context's, issued below PL2. -/
def Flight.strange (f : Flight) (tid : Nat) : Prop :=
  match f.org with
  | .signal q high => q ≠ tid ∧ high = false
  | _ => False

theorem exec_eventSet_none {cid : BitVec 13} {ev : BitVec 5} (h : ∀ x ∈ s.evg.flight, x.cid ≠ cid.toNat ∨ x.ev ≠ ev.toNat) :
    exec (.eventSet cid ev) s = .next s.finish := by
  have hfind : s.evg.flight.find? (fun f => decide (f.cid = cid.toNat) && decide (f.ev = ev.toNat)) = none :=
    List.find?_eq_none.mpr fun x hx => by simpa [imp_iff_not_or] using h x hx
  have hrow : execEventSet cid ev s = done s := by
    unfold execEventSet
    rw [hfind]
  exact hrow

theorem exec_eventSet_only {cid : BitVec 13} {ev : BitVec 5} (h : s.evg.flight = [f] ∧ f.cid = cid.toNat ∧ f.ev = ev.toNat) :
    exec (.eventSet cid ev) s = .next (s.landed.deliverEvent f).finish := by
  obtain ⟨hf, hc, he⟩ := h
  have hfind : s.evg.flight.find? (fun f => decide (f.cid = cid.toNat) && decide (f.ev = ev.toNat)) = some f := by
    simp [hf, hc, he]
  have hrow : execEventSet cid ev s = done (s.landed.deliverEvent f) := by
    unfold execEventSet State.landed
    rw [hfind, hf]
    simp
  exact hrow

theorem deliverEvent_nowhere (h : s.holderOf f.cid = none) : s.deliverEvent f = s.dropEvent f.org false 0 := by
  unfold State.deliverEvent
  rw [h]

section
variable (h : s.holderOf f.cid = some (n, i))
include h

theorem deliverEvent_free (hs : (s.slot n i).state = .free) : s.deliverEvent f = s.dropEvent f.org false 0 := by
  unfold State.deliverEvent
  rw [h]
  exact if_pos hs

variable (hs : (s.slot n i).state ≠ .free)
include hs

theorem deliverEvent_refused (hr : f.strange (s.slot n i).tid.val ∨ (s.slot n i).evmask f.ev = false) :
    s.deliverEvent f = s.dropEvent f.org true (s.slot n i).tid.val := by
  unfold State.deliverEvent
  rw [h]
  refine (if_neg hs).trans (if_pos ?_)
  unfold Flight.strange at hr
  cases ho : f.org <;> simp_all

theorem deliverEvent_taken (hr : ¬ f.strange (s.slot n i).tid.val) (hm : (s.slot n i).evmask f.ev = true) :
    s.deliverEvent f = (s.modSlot n i (fun b => { b with events := setBit b.events f.ev true })).awake n i := by
  unfold State.deliverEvent
  rw [h]
  refine (if_neg hs).trans (if_neg ?_)
  unfold Flight.strange at hr
  cases ho : f.org <;> simp_all

end

theorem awake_not (h : (s.slot n i).state ≠ .waiting ∨ (s.slot n i).events &&& (s.slot n i).waitMask = 0) : s.awake n i = s := if_pos h

theorem awake_hit (hw : (s.slot n i).state = .waiting) (hm : (s.slot n i).events &&& (s.slot n i).waitMask ≠ 0) :
    let b := s.slot n i
    let hit := b.events &&& b.waitMask
    let woken := s.modSlot n i (fun q => { q with
      events := q.events &&& ~~~hit, waitMask := 0, state := .dormant
      arch := { q.arch with pend := q.arch.pend ++
        [⟨b.arch.posn + 2, if b.waitReg = 0 then none else some b.waitReg, hit.zeroExtend 64, 0, 0, none⟩] } })
    s.awake n i = if 0 < woken.remain n i then woken.makeReady n i else woken :=
  if_neg (not_or.mpr ⟨not_not.mpr hw, hm⟩)

/-! ### A detached access ends (R260) -/

/-- A remote access that awaits nothing any more leaves the links' lists alone. -/
theorem dropRemote_keeps {α : Type} (p : State → α) (hl : ∀ (u : State) l, p { u with links := l } = p u) (s : State) (tid : Tid)
    (pa : BitVec 46) (store : Bool) : p (s.dropRemote tid pa store) = p s :=
  forN_keeps p (fun _ x => hl x _) 3 s

/-- A response to a context that nothing has ended, while ticks are raised: the slot takes it, and the trio decides. -/
theorem detachedAnswer_takes (d : DetAcc) (ok : Bool) (v : Dword) (hk : (s.slot n i).killQ.isSome = false)
    (ht : s.resetting (s.slot n i).tid.val = false) (hr : s.running = true) :
    s.detachedAnswer n i d ok v = ((s.dropRemote (s.slot n i).tid d.acc.pa d.acc.store).modSlot n i (fun b =>
      if ok then { b with det := none, arch := detachedDone b.arch d.acc v } else { b with det := some { d with failed := true } })).redispatch n := by
  have hkeep {α : Type} (p : State → α) (hl : ∀ (u : State) l, p { u with links := l } = p u) :=
    dropRemote_keeps p hl s (s.slot n i).tid d.acc.pa d.acc.store
  have hslot := hkeep (State.slot · n i) fun _ _ => rfl
  have hreset := hkeep (State.resetting · (s.slot n i).tid.val) fun _ _ => rfl
  have hrun := hkeep State.running fun _ _ => rfl
  have hkill : ((s.dropRemote (s.slot n i).tid d.acc.pa d.acc.store).slot n i).killQ.isSome = false := by rw [hslot]; exact hk
  have hstays : (s.dropRemote (s.slot n i).tid d.acc.pa d.acc.store).resetting
      ((s.dropRemote (s.slot n i).tid d.acc.pa d.acc.store).slot n i).tid.val = false := by
    rw [hslot, hreset, ht]
  refine (if_neg (by simp only [hkill, hstays]; exact Bool.false_ne_true)).trans ?_
  exact congrArg (State.redispatch · n) (if_pos (hrun.trans hr))

theorem exec_detachedResponse_none {t : TrioId} {slot : Fin 64} {ok : Bool} {v : Dword}
    (h : (s.slot t.val slot.val).det = none ∨ ∃ d, (s.slot t.val slot.val).det = some d ∧ d.failed = true) :
    exec (.detachedResponse t slot ok v) s = .next s.finish := by
  have hrow : execDetachedResponse t slot ok v s = done s := by
    unfold execDetachedResponse
    rcases h with h | ⟨d, h, hd⟩
    · rw [h]
    · rw [h]
      exact congrArg done (if_pos hd)
  exact hrow

theorem exec_detachedResponse_awaited {t : TrioId} {slot : Fin 64} {ok : Bool} {v : Dword} {d : DetAcc}
    (h : (s.slot t.val slot.val).det = some d) (hd : d.failed = false) :
    exec (.detachedResponse t slot ok v) s = .next (s.detachedAnswer t.val slot.val d ok v).finish := by
  have hrow : execDetachedResponse t slot ok v s = done (s.detachedAnswer t.val slot.val d ok v) := by
    unfold execDetachedResponse
    rw [h]
    exact congrArg done (if_neg (by simp [hd]))
  exact hrow

/-- The fourth part of O55. -/
theorem slotEvents : SlotEvents := by
  intro s f t slot v ev cid
  refine ⟨exec_eventSet_none, fun hm hh => ?nowhere, fun ⟨hm, hh⟩ hs => ?free, fun ⟨hm, hh⟩ hs hr => ?refused,
    fun ⟨hm, hh⟩ hs hr he hw => ?taken, fun ⟨hm, hh⟩ hs hr he hw => ?woken, fun h ok => exec_detachedResponse_none h,
    fun d hd hf ⟨hk, ht, hr⟩ => ⟨?done, ?failed⟩⟩
  case nowhere => exact (exec_eventSet_only hm).trans (congrArg done (deliverEvent_nowhere hh))
  case free => exact (exec_eventSet_only hm).trans (congrArg done (deliverEvent_free (s := s.landed) hh hs))
  case refused => exact (exec_eventSet_only hm).trans (congrArg done (deliverEvent_refused (s := s.landed) hh hs hr))
  case taken =>
    refine ((exec_eventSet_only hm).trans (congrArg done (deliverEvent_taken (s := s.landed) hh hs hr he))).trans
      (congrArg done (awake_not ?_))
    rw [slot_modSlot]
    exact hw
  case woken =>
    refine ((exec_eventSet_only hm).trans (congrArg done (deliverEvent_taken (s := s.landed) hh (hs.trans_ne nofun) hr he))).trans
      (congrArg done ((awake_hit ?_ ?_).trans ?_))
    · rw [slot_modSlot]
      exact hs
    · rw [slot_modSlot]
      exact hw
    · simp only [slot_modSlot]
      rfl
  case done => exact (exec_detachedResponse_awaited hd hf).trans (congrArg done (detachedAnswer_takes d true v hk ht hr))
  case failed => exact (exec_detachedResponse_awaited hd hf).trans (congrArg done (detachedAnswer_takes d false v hk ht hr))

/-! ### The end of a season's load (R238, R239, R469) -/

/-- The state after `SEASON_STAT` has taken the end of a load. -/
def State.loadNoted (s : State) (c r w : Nat) : State :=
  (((s.setRf seasonStatR 63 56 c).setRf seasonStatR 55 48 r).setRf seasonStatR 47 43 w).setRf seasonStatR 0 0 0

theorem loadEnd_failed (slot : Nat) (x : Failure) : s.loadEnd slot (some x) =
    ((s.loadNoted x.1 x.2.1 x.2.2).sysEvent 0x11 [BitVec.ofNat 64 slot, (s.loadNoted x.1 x.2.1 x.2.2).reg seasonStatR]).raise 12 := rfl

theorem loadEnd_passed (slot : Nat) : s.loadEnd slot none = (s.loadNoted 0 0 0x1F).raise 12 := rfl

theorem loadCheck_outside {line slot : Nat} (h : ¬ s.rangeInstalled (line * 64) (8 * tableDws) = true) :
    s.loadCheck line slot = s.loadEnd slot (some (0x05, 0, 0x1F)) := if_pos (by simpa using h)

/-- The doublewords of the lines read. -/
def lineDws (ls : List LineData) : List Dword := ls.flatMap (fun d => (List.range 8).map (lineDw d))

/-- The check of the table that some lines hold. -/
def State.checkLines (s : State) (ls : List LineData) (slot : Nat) : Option Failure :=
  s.checkTable (toTable (lineDws ls)) slot (decide (fld (tdw (toTable (lineDws ls)) 0) 63 32 =
    (crc32 (dwBytes ((lineDws ls).set 0 (setFld ((lineDws ls).getD 0 0) 63 32 0)))).toNat))

section
variable {line slot : Nat} (h : s.rangeInstalled (line * 64) (8 * tableDws) = true)
include h

theorem loadCheck_unread {y : State} (hu : s.unitLines (gceRq 0) line (tableDws / 8) = (y, none)) :
    s.loadCheck line slot = y.loadEnd slot (some (0x05, 0, 0x1F)) := by
  unfold State.loadCheck
  rw [if_neg (by simp [h]), hu]

theorem loadCheck_read {y : State} {ls : List LineData} (hu : s.unitLines (gceRq 0) line (tableDws / 8) = (y, some ls)) :
    s.loadCheck line slot = match y.checkLines ls slot with
      | some x => y.loadEnd slot (some x)
      | none => (({ y with gce := { y.gce with store := SMap.put [] y.gce.store slot (toTable (lineDws ls)) } }).setRf seasonCtlR
          (8 + slot) (8 + slot) 1).loadEnd slot none := by
  unfold State.loadCheck
  rw [if_neg (by simp [h]), hu]
  rfl

end

theorem exec_seasonLoadComplete_idle (h : s.gce.load = none) : exec .seasonLoadComplete s = .next s.finish := by
  have hrow : execSeasonLoadComplete s = done s := by
    unfold execSeasonLoadComplete
    rw [h]
  exact hrow

theorem exec_seasonLoadComplete_loading {line slot : Nat} (h : s.gce.load = some (line, slot)) :
    exec .seasonLoadComplete s = .next (({ s with gce := { s.gce with load := none } }).loadCheck line slot).finish := by
  have hrow : execSeasonLoadComplete s = done (({ s with gce := { s.gce with load := none } }).loadCheck line slot) := by
    unfold execSeasonLoadComplete
    rw [h]
  exact hrow

/-- The last part of O55. -/
theorem seasonLoads : SeasonLoads := by
  intro s line slot _
  refine ⟨exec_seasonLoadComplete_idle, fun h => ⟨fun hd => ?outside, fun hd => ?inside⟩⟩
  case outside => exact (exec_seasonLoadComplete_loading h).trans (congrArg done (loadCheck_outside hd))
  case inside =>
    refine (exec_seasonLoadComplete_loading h).trans (congrArg done ?_)
    cases hu : State.unitLines { s with gce := { s.gce with load := none } } (gceRq 0) line (tableDws / 8) with
    | mk y read =>
      cases read with
      | none => exact loadCheck_unread hd hu
      | some ls =>
        rw [loadCheck_read hd hu]
        dsimp only
        change _ = (match y.checkLines ls slot with | some (c, r, w) => _ | none => _)
        cases y.checkLines ls slot with
        | none => rfl
        | some x => rfl

/-- Settles O55: part by part, each row by the branch of the model's definition that its hypotheses choose. -/
theorem timeEvents : Obligations.TimeEvents := ⟨frameTicks, tickArrivals, frameSchedule, slotEvents, seasonLoads⟩

end Sys2Proof.Machine
end
